-- ==== Sys2Proof/Word.lean ====
section
/-!
DEFINITION. The words of the SBX4816/SBX4808 model: bytes, control-space words, cache lines
(R12: 64 B) and sparse maps. Only types stand here; what is computed on them stands in
Sys2Proof/Machine/Map.lean and Sys2Proof/Machine/Bits.lean.
-/

namespace Sys2Proof

/-- One byte. -/
abbrev Byte := BitVec 8

/-- One control-space word (R494: every access is one aligned 32-bit word). -/
abbrev Word := BitVec 32

/-- The 64 bytes of a line (R12); byte k of the line is bits [8k+7:8k]. -/
abbrev LineData := BitVec 512

/-- A byte mask of a line; bit k names byte k. -/
abbrev Mask := BitVec 64

/-- Sparse data by key: pairs in one canonical form, keys strictly rising and no entry equal to
what an unlisted key reads as. The operations and the form stand in Machine/Map.lean. -/
abbrev SMap (V : Type) := List (Nat × V)

end Sys2Proof
end

