-- ==== Sys2Proof/Syntax.lean ====
section
/-!
DEFINITION. The commands of the controller (one constructor of `Instr` per row of the spec's table of
operations and events) and the plain data their operands carry. A command is what the outside
world, a link, a medium, a timer or an engine's own completion does to the block; its operands are
what arrives with it. What a command does stands in Sys2Proof/Machine.
-/

namespace Sys2Proof

/-! ## Modes and names -/

/-- R1, R3: the two fused configurations of the die. -/
inductive Part | sbx4816 | sbx4808
  deriving DecidableEq, Repr

/-- R50: persistence level of a grove. -/
inductive Level | vol | loc | mir
  deriving DecidableEq, Repr

/-- R178: Canopy write policy of a grove region. -/
inductive Policy | wb | wt | wa | na
  deriving DecidableEq, Repr

/-- R75, R127: twin role; `unset` is 0xF, before stage 9 completes. -/
inductive Role | solo | leader | standby | joining | fenced | unset
  deriving DecidableEq, Repr

/-- R493: the paths by which control space is reached. -/
inductive Path
  /-- service processor, source 311 -/
  | sp
  /-- management port, source 312 -/
  | mgmt
  /-- Glade, source 313 -/
  | glade
  /-- CXL mailbox of an LD, source 16 × port + LD, HOST privilege -/
  | mailbox (port ld : Nat)
  deriving DecidableEq, Repr

/-- R204, R218, R219: what a DRAM line read yields. -/
inductive DramRead
  /-- decodes clean -/
  | clean
  /-- an error of one device, corrected in flight -/
  | corrected
  /-- uncorrectable, with the class of R222 (0 multi-device, 2 all-zero or all-one, 3 CA loss) -/
  | uncorr (cls : Nat)
  deriving DecidableEq, Repr

/-- R204, R219: what the channel returns for one line of a grove, met by a copier. -/
structure LineRead where
  grove : Nat
  line  : Nat
  o     : DramRead
  deriving DecidableEq, Repr

/-- R241: where a codeword's ladder ends. -/
inductive Ladder
  | hard | soft1
  /-- read retry, with the number of retry entries read -/
  | retry (entries : Nat)
  | soft2 | uncorr
  deriving DecidableEq, Repr

/-- R195, R196: what the arrays of Canopy report on an access. -/
inductive ArrayCheck
  | ok
  /-- PARITY mode: parity error in the data -/
  | parity
  /-- SECDED mode: single bit corrected -/
  | secded1
  /-- SECDED mode: uncorrectable -/
  | secded2
  /-- TP fails, SP good -/
  | tag
  /-- SP fails -/
  | state
  deriving DecidableEq, Repr

/-! ## Grove bytes -/

/-- A run of one line of a write: line index within the grove, data and enabled bytes. -/
structure Piece where
  line : Nat
  data : LineData
  mask : Mask
  deriving DecidableEq, Repr

/-- R367: one write-policy region of a grove. -/
structure Region where
  first  : Nat
  policy : Policy
  deriving DecidableEq, Repr

/-- R367: grove record (image, template, or run-time change by `op`: 0 image, 1 create, 2 resize,
3 delete, 4 template). -/
structure GroveRec where
  grove      : Nat
  op         : Nat
  level      : Level
  keySlot    : Nat
  wayClass   : Nat
  qos        : Nat
  extents    : Nat
  maxExtents : Nat
  tmpl       : Nat
  regions    : List Region
  sealers    : List Nat
  deriving DecidableEq, Repr

/-- R43: one grove map entry. -/
structure MapEntry where
  valid    : Bool
  rd       : Bool
  wr       : Bool
  dyn      : Bool
  dcRegion : Nat
  grove    : Nat
  extent   : Nat
  deriving DecidableEq, Repr

/-- R47, R313: one window of a space key. -/
structure Window where
  base   : Nat
  len    : Nat
  grove  : Nat
  off    : Nat
  rd     : Bool
  wr     : Bool
  atomic : Bool
  deriving DecidableEq, Repr

/-- R313: key record; a revocation carries only `key`. -/
structure KeyRec where
  key       : BitVec 64
  windows   : List Window
  any       : Bool
  peerClass : Nat
  deriving DecidableEq, Repr

/-- R147: one entry of a tile schedule. -/
structure SchedEntry where
  deadline  : Nat
  firstTile : Nat
  grove     : Nat
  count     : Nat
  deriving DecidableEq, Repr

/-- R147: schedule command body; `cmd` 0 POST, 1 APPEND, 2 CANCEL. -/
structure SchedCmd where
  cmd       : Nat
  id        : Nat
  target    : Bool
  late      : Bool
  origin    : Nat
  lateBound : Nat
  hold      : Nat
  entries   : List SchedEntry
  deriving DecidableEq, Repr

/-! ## UTL frames and records -/

/-- R121: the header of a received UTL or network-path frame. `ok` says that the frame passed FEC
and its GCM tag (R117, R118); `net` is the NET flag. -/
structure FrameHdr where
  ok      : Bool
  /-- R451: what reading its receive buffer finds: 0 clean, 1 corrected, 2 uncorrectable -/
  mem     : Nat
  net     : Bool
  /-- FLAGS bit 0: the frame is a replay (R117) -/
  retry   : Bool
  ver     : Nat
  linkSeq : Nat
  linkAck : Nat
  epoch   : Nat
  deriving DecidableEq, Repr

/-- R122: what a STAMPED_INPUT record carries, by OP. Records joined by CONT are one record here,
with all their pieces. -/
inductive RecOp
  | write (grove : Nat) (pieces : List Piece)
  /-- PARAM 0 FADD, 1 CAS succeeded, 2 CAS failed, 3 line poisoned; `wrote` is the 8 bytes written -/
  | atomic (grove off : Nat) (param : Nat) (wrote : Option (BitVec 64))
  | flush (qpn : Nat) (level : Level)
  | sealOp (grove first count : Nat)
  | unsealOp (grove first count : Nat)
  | sched (c : SchedCmd)
  | grove (r : GroveRec)
  | mapOp (ld dpaExtent : Nat) (e : MapEntry)
  | keyReg (k : KeyRec)
  | keyRevoke (key : BitVec 64)
  /-- R266: Set LSA is a stamped management input, sent as a WRITE of grove 1,023's label area (log 85) -/
  | lsa (ld off : Nat) (data : List Byte)
  | reserved (op : Nat)
  deriving DecidableEq, Repr

/-- R122: one record with its original stamp. -/
structure StampRec where
  gtc : Nat
  src : Nat
  op  : RecOp
  deriving DecidableEq, Repr

/-- R124: content of a RESYNC_DATA chunk, by KIND. -/
inductive ChunkBody
  | data (lines : List LineData)
  | zero
  /-- KIND 2: a record with its 24-byte header (R122) -/
  | metaRec (r : StampRec)
  /-- KIND 3; `none` is LEN 0, the peer cannot supply it -/
  | repair (lines : Option (List LineData))
  | poisoned (lines : List LineData) (mask : BitVec 128)
  | sealStamp (gtc src : Nat)
  deriving DecidableEq, Repr

/-- R124: RESYNC_DATA chunk header and body. -/
structure Chunk where
  grove : Nat
  tile  : Nat
  chunk : Nat
  asOf  : Nat
  body  : ChunkBody
  deriving DecidableEq, Repr

/-- R125: NEGOTIATE body. -/
structure NegRec where
  maxVer   : Nat
  minVer   : Nat
  nodeB    : Bool
  lastRole : Role
  features : Nat
  epoch    : Nat
  lastSeq  : Nat
  incomplete : Bool
  t1Survived : Bool
  policy   : Nat
  thb      : Nat
  fence    : Nat
  layoutId : BitVec 64
  rand     : BitVec 256
  gtc      : Nat
  /-- the sender is in stage 9 (R79 acts on it) -/
  stage9   : Bool
  deriving DecidableEq, Repr

/-! ## CXL and VRMP operands -/

/-- R265, R269: a CXL.mem request of an LD, by host physical address. -/
structure CxlReq where
  port : Nat
  ld   : Nat
  tag  : Nat
  hpa  : Nat
  deriving DecidableEq, Repr

/-- R265: one HDM decoder as a host programs it. -/
structure Decoder where
  hpaBase : Nat
  size    : Nat
  ways    : Nat
  gran    : Nat
  pos     : Nat
  dpaBase : Nat
  lock    : Bool
  deriving DecidableEq, Repr

/-- R267: one Dynamic Capacity extent: first DPA extent, blocks, and the Tag's grove and extent. -/
structure DcExtent where
  dpaExtent   : Nat
  blocks      : Nat
  grove       : Nat
  groveExtent : Nat
  deriving DecidableEq, Repr

/-- R296, R297: a received VRMP packet's header. `srcIp` is the IPv6 or IPv4-mapped source address;
`wireOk` says FCS, IP and UDP checks passed, `tagOk` that its GCM tag verified, `hdrOk` that the fields this structure
does not list are in range, `size` is the packet's bytes (R308). -/
structure Pkt where
  port   : Nat
  /-- R451: what reading its arrival buffer finds: 0 clean, 1 corrected, 2 uncorrectable -/
  mem    : Nat
  srcIp  : BitVec 128
  wireOk : Bool
  tagOk  : Bool
  hdrOk  : Bool
  /-- VER, and EXT: the extension words that follow the header (R296, R298) -/
  ver    : Nat
  ext    : Nat
  size   : Nat
  qpn    : Nat
  psn    : Nat
  key    : BitVec 64
  addr   : Nat
  length : Nat
  credit : Nat
  solicit : Bool
  deriving DecidableEq, Repr

/-- R301: HELLO body. -/
structure HelloBody where
  peerFlag   : Bool
  maxVer     : Nat
  minVer     : Nat
  maxPayload : Nat
  features   : Nat
  cookie     : Nat
  rand       : BitVec 256
  initPsn    : Nat
  deriving DecidableEq, Repr

/-- R299: what a request packet of a queue pair asks for. -/
inductive ReqBody
  | write (data : List Byte)
  | read
  | flush (level : Nat)
  | fadd (addend : BitVec 64)
  | cas (compare swap : BitVec 64)
  | notify (target value : Nat)
  | close (reason : Nat)
  /-- reserved or C-only opcode -/
  | badOpcode (code : Nat)
  deriving DecidableEq, Repr

/-- R354, R355, R359, R474, R475: what the checks of stage 5 that lie outside the image's own fields
find for a bank: its firmware and its sectors are readable, the firmware signature verifies, the
SHA-384 of PUBKEY equals the fused hash, the image signature verifies. -/
structure BankVerdict where
  fwReadable : Bool
  fwSigOk    : Bool
  hashOk     : Bool
  sigOk      : Bool
  deriving DecidableEq, Repr

/-- R201, R202: what the SPD and the training of a DRAM channel give in stage 7 or on RETURN. -/
structure DramTrain where
  /-- serial numbers of the DIMMs in the channel's slots -/
  serials      : List Nat
  matchesImage : Bool
  trained      : Bool
  quickOk      : Bool
  msTaken      : Nat
  deriving DecidableEq, Repr

/-- R234: what stage 7 finds on a NAND channel: trained, quick values good, and the dies that
answer and match the image. -/
structure NandTrain where
  /-- serial numbers of the parts -/
  serials : List Nat
  trained : Bool
  quickOk : Bool
  dies    : List Nat
  deriving DecidableEq, Repr

/-- R391, R71: where a lost rail cuts a vault in progress. -/
inductive VaultCut
  | beforeLm
  /-- after LM_DONE, with this many sector records written -/
  | afterLm (sectors : Nat)
  deriving DecidableEq, Repr

/-- R152, R154: what a repair of an uncorrectable T2 sector yields. -/
inductive RepairResult
  | parity (lines : List LineData)
  | peer (lines : List LineData)
  | failed
  deriving DecidableEq, Repr

/-- R474, R465: what stage 1 finds: crystal, strap votes, and whether the sectors read good. -/
structure Stage1In where
  crystalOk  : Bool
  nodeB      : Bool
  boot       : Nat
  i3cAddr    : Nat
  unstable   : Bool
  deriving DecidableEq, Repr

/-! ## The commands, in the order of the table -/

/-- The commands of the controller; each constructor is one row of the table of operations and
events, and its docstring gives the row's mnemonic, its rule and its summary. -/
inductive Instr
  /-- MEM_RD (R269): A CXL.mem MemRd or MemRdData request is decoded, checked and answered by the
    read path, from Canopy, Windfall, the tracker or T1, or it waits for a fill or promotion. -/
  | memRd (r : CxlReq) (chk : ArrayCheck)
  /-- MEM_SPEC_RD (R269): A MemSpecRd hint starts the Canopy and tile-table lookups and sends no
    response. -/
  | memSpecRd (r : CxlReq)
  /-- MEM_INV (R269): A MemInv or MemInvNT changes no state and is answered with Cmp. -/
  | memInv (r : CxlReq)
  /-- MEM_WR (R18): A full-line CXL write is decoded, checked at cycle 2, stamped and placed in
    its landing bank's pending file, or it is held at the entry point for credit. -/
  | memWr (r : CxlReq) (data : LineData) (poison : Bool)
  /-- MEM_WR_PTL (R269): A partial CXL write of the enabled bytes is stamped as one logical input,
    or it is completed at once when no byte is enabled. -/
  | memWrPtl (r : CxlReq) (data : LineData) (mask : Mask) (poison : Bool)
  /-- UNSUPPORTED_M2S_OPCODE (R270): An unsupported M2S opcode is refused with reason 8, as a
    poisoned read on Req or as a discarded write on RwD. -/
  | unsupportedM2sOpcode (r : CxlReq) (rwd : Bool)
  /-- READ_WATCHDOG (R273): A read still unanswered after HOST_RSP_WD is completed with poison and
    raises event +3 with WATCHDOG. -/
  | readWatchdog (id : Nat)
  /-- GPF_PHASE1 (R56): GPF Phase 1 is completed at once. -/
  | gpfPhase1 (port : Nat)
  /-- GPF_PHASE2 (R56): A GPF Phase 2 request is stamped and waits for every earlier-stamped write
    to reach its landing entry or Canopy. -/
  | gpfPhase2 (port : Nat)
  /-- GPF_PHASE2_COMPLETE (R57): GPF Phase 2 completes once the last covered write is placed. -/
  | gpfPhase2Complete (port : Nat)
  /-- GPF_PHASE2_OVERTIME (R57): GPF Phase 2 not complete within 2 µs raises the port's GPF event. -/
  | gpfPhase2Overtime (port : Nat)
  /-- SOURCE_HEARTBEAT (R33): A source silent for 16 ns sends a heartbeat carrying its local GTC
    copy to the sequencer. -/
  | sourceHeartbeat (src lag : Nat)
  /-- SEQUENCER_EMIT (R34): The watermark merge emits the eligible inputs in stamp order, numbers
    logical ones, runs emission checks and applies them. -/
  | sequencerEmit (errs : List (Nat × Nat × ArrayCheck))
  /-- MERGE_STALL (R36): A merge-set source whose watermark has not advanced for 64 ns raises the
    merge-stall event. -/
  | mergeStall (src : Nat)
  /-- HELD_WRITE_RELEASE (R20): A write held at its entry point is admitted once a landing entry,
    credit or hold frees it. -/
  | heldWriteRelease
  /-- LANDING_DRAIN (R20): A committed landing entry is drained toward its T1 frame, unless the
    ceiling or a promotion holds it. -/
  | landingDrain (grove line : Nat)
  /-- LANDING_DRAIN_DONE (R54): A drained entry is released when its data is in T1, or drains
    again if a write merged during the drain. -/
  | landingDrainDone (grove line : Nat) (o : DramRead)
  /-- CANOPY_FILL (R184): A T1 or T2 fill arrives at the slice critical half first, answers the
    miss-file joiners and installs the line. -/
  | canopyFill (grove line : Nat) (o : DramRead) (chk : ArrayCheck)
  /-- EVICTION_WRITTEN (R186): The DRAM channel reports a tracker entry written and the entry is
    freed. -/
  | evictionWritten (grove line : Nat) (chk : ArrayCheck) (o : DramRead)
  /-- PROMOTION_LINE_ARRIVAL (R137): The touched line of a promotion reaches the home slice and
    waiting accesses are served. -/
  | promotionLineArrival (grove tile : Nat)
  /-- PROMOTION_COMPLETE (R137): All 16 sectors are written into the frame, T1V is set and held
    drains are released. -/
  | promotionComplete (grove tile : Nat)
  /-- LATE_BOUND_EXPIRY (R151): A stalled late touch whose LATE_BOUND passes takes the DIRECT path
    and raises the late-bound event. -/
  | lateBoundExpiry (id : Nat)
  /-- DEMOTION (R141): Demotion frees a frame when free frames fall below the low watermark. -/
  | demotion (errs : List LineRead)
  /-- AGE_SWEEP (R136): Each age period AGE is incremented in every T1-resident tile entry. -/
  | ageSweep
  /-- TRICKLE (R158): The trickle writes the dirtiest LOCAL or MIRROR tile to T2 as a new copy. -/
  | trickle (errs : List LineRead)
  /-- METADATA_TRICKLE (R156): The metadata trickle writes dirty sectors of grove 1,023 to NAND. -/
  | metadataTrickle
  /-- WEAR_GOVERNOR_TICK (R161): Every 1 ms the wear governor computes the next millisecond's
    program quota. -/
  | wearGovernorTick
  /-- SEAL (R144): A SEAL command is stamped by a migration engine and checked at emission against
    the grove and sealing rights. -/
  | seal (p : Path) (tag grove first count : Nat)
  /-- UNSEAL (R146): An UNSEAL clears SEALED and SCHED at emission, or ends a sealing in progress. -/
  | unseal (p : Path) (tag grove first count : Nat)
  /-- SEAL_COPY (R145): For each sealing tile the controller drains landing entries and writes the
    sealed T2 copy. -/
  | sealCopy (grove tile : Nat) (errs : List LineRead)
  /-- POST (R147): A SCHEDULE POST replaces any schedule with the same ID and enters its entries
    in the deadline queue. -/
  | post (p : Path) (tag : Nat) (v1 : Bool) (c : SchedCmd)
  /-- APPEND (R147): A SCHEDULE APPEND adds entries to an existing schedule. -/
  | append (p : Path) (tag : Nat) (v1 : Bool) (c : SchedCmd)
  /-- CANCEL (R150): A SCHEDULE CANCEL retires the schedule's entries. -/
  | cancel (p : Path) (tag : Nat) (v1 : Bool) (c : SchedCmd)
  /-- SCHEDULE_STAGE (R148): A migration engine stages the next tile of the earliest-deadline
    entry, promoting and pinning it. -/
  | scheduleStage
  /-- SCHEDULE_ENTRY_RETIRE (R150): An entry retires at DEADLINE + HOLD and its tiles lose SCHED
    and PINNED. -/
  | scheduleEntryRetire (entry : Nat)
  /-- T2_REPAIR_DONE (R153): A repair supplies the data as the read result and a new copy, or the
    lines are poisoned. -/
  | t2RepairDone (grove tile : Nat) (r : RepairResult)
  /-- POISON_CLEAR (R172): POISON_CLEAR empties the tier poison log. -/
  | poisonClear (p : Path)
  /-- CELLAR_DRAIN (R167): After READY the Cellar drain writes each tile with CELLAR set to T2 as
    a whole tile. -/
  | cellarDrain (errs : List LineRead)
  /-- VAULT_COMPLETE (R165): FOOTER is written, DIMMs enter self-refresh and the supervisor is
    told to power down. -/
  | vaultComplete (fails : List Nat)
  /-- CLEAN (R189): CANOPY_MAINT_CMD CLEAN writes back the D lines of a grove range. -/
  | clean (p : Path) (grove : Nat) (errs : List (Nat × Nat × ArrayCheck))
  /-- INVALIDATE (R189): CANOPY_MAINT_CMD INVALIDATE invalidates C and L lines of a range and
    counts D and pinned lines left. -/
  | invalidate (p : Path) (grove : Nat) (errs : List (Nat × Nat × ArrayCheck))
  /-- CLEAN_INVALIDATE (R189): CANOPY_MAINT_CMD CLEAN_INVALIDATE writes back and invalidates the
    lines of a range. -/
  | cleanInvalidate (p : Path) (grove : Nat) (errs : List (Nat × Nat × ArrayCheck))
  /-- ZERO (R191): CANOPY_MAINT_CMD ZERO issues 4 KiB pieces of zeros as logical writes under
    source 311. -/
  | zeroRange (p : Path) (grove : Nat)
  /-- MAINT_COMPLETE (R190): The maintenance walk ends, BUSY clears, RESULT is set and event 448
    is raised. -/
  | maintComplete
  /-- CANOPY_DISABLE (R193): Writing 0 to CANOPY_CTL.ENABLE starts a disable: NA service, Windfall
    emptied and a clean-invalidate set walk. -/
  | canopyDisable (p : Path) (errs : List (Nat × Nat × ArrayCheck))
  /-- CANOPY_ENABLE (R194): Writing 1 to CANOPY_CTL.ENABLE turns Canopy on with every tag invalid. -/
  | canopyEnable (p : Path)
  /-- DISABLE_COMPLETE (R193): After the last write-back of a disable, ENABLE, DISABLING and BUSY
    clear and event 451 is raised. -/
  | disableComplete
  /-- ZQ_CALIBRATION (R208): Every 128 ms an ONLINE channel runs ZQ calibration. -/
  | zqCalibration (ch : Nat)
  /-- DQS_DRIFT_COMPENSATION (R208): Every 1 ms an ONLINE channel runs DQS drift compensation. -/
  | dqsDriftCompensation (ch : Nat)
  /-- REFRESH_DUE (R214): A rank's refresh falls due and is issued, postponed or forced under the
    refresh mode and real-time bursts. -/
  | refreshDue (ch rank : Nat)
  /-- MR4_POLL (R214): Every 32 ms MR4 of every device is read and rank intervals halve above 85
    °C. -/
  | mr4Poll (ch : Nat) (hotRanks : List Nat)
  /-- SELF_REFRESH_ENTRY (R217): A channel idle for DRAM_SR_IDLE enters self-refresh. -/
  | selfRefreshEntry (ch : Nat)
  /-- CA_PARITY_ALERT (R221): An RCD CA parity alert replays the command, and on a second failure
    runs CA recovery or fails the channel. -/
  | caParityAlert (ch sub : Nat) (replayOk : Bool)
  /-- PATROL_READ (R224): Patrol scrub reads the next line of its lap and repairs or poisons
    uncorrectable lines. -/
  | patrolRead (ch : Nat) (o : DramRead) (peerData : Option LineData)
  /-- EVACUATE (R226): DRAM_EVAC_CMD EVACUATE starts moving a set's frames into its degraded sets,
    or is refused. -/
  | evacuate (p : Path) (set : Nat)
  /-- FRAME_MOVE (R227): A tile's frame is copied into a free frame of a degraded set. -/
  | frameMove (errs : List LineRead)
  /-- FRAME_MOVE_COMPLETE (R227): The tile-table entry names the new frame and held drains are
    released. -/
  | frameMoveComplete (grove tile : Nat) (errs : List LineRead)
  /-- RETURN (R228): DRAM_EVAC_CMD RETURN trains an OFFLINE set and brings it ONLINE if it passes. -/
  | returnSet (p : Path) (set : Nat)
  /-- ABORT (R228): DRAM_EVAC_CMD ABORT stops a running evacuation and returns the set to ONLINE. -/
  | abortEvac (p : Path) (set : Nat)
  /-- UE_CLEAR (R231): DRAM_CH_CMD UE_CLEAR empties the channel's UE log. -/
  | ueClear (p : Path) (ch : Nat)
  /-- NAND_READ_COMPLETE (R241): A NAND codeword read decodes at some step of the LDPC ladder or
    is declared uncorrectable. -/
  | nandReadComplete (grove tile sector : Nat) (o : Ladder)
  /-- NAND_PROGRAM_DONE (R243): A wordline program reports; on success the tile-table entry is
    updated and the source released, on failure the slots are rewritten and the block retired. -/
  | nandProgramDone (id : Nat) (ok : Bool)
  /-- NAND_ERASE_DONE (R250): An erase reports and its ERASE_PENDING record clears after a blank
    check, or the block is retired. -/
  | nandEraseDone (ch die block : Nat) (ok : Bool)
  /-- RECLAIM (R244): Reclaim copies live slots out of a superblock to keep free superblocks above
    LOW. -/
  | reclaim
  /-- RELOCATION (R245): A live slot is copied to a new slot and T2_TILE updated. -/
  | relocation (t2 : Nat) (reads : List (Nat × Ladder))
  /-- STATIC_WEAR_LEVEL (R246): A die whose erase spread exceeds NAND_WL_DELTA relocates its
    least-worn superblock. -/
  | staticWearLevel (ch die : Nat)
  /-- READ_DISTURB_LIMIT (R247): A block reaching its read limit has its live slots relocated. -/
  | readDisturbLimit (ch die block : Nat)
  /-- STRIPE_PARITY_TIMEOUT (R238): 10 ms after a stripe's first slot, its parity is programmed
    with unwritten members as pad. -/
  | stripeParityTimeout (grp die vblock slot : Nat)
  /-- DIE_DEAD (R253): A die that fails to report ready or fails repeatedly becomes DEAD and
    raises event +2. -/
  | dieDead (ch die : Nat)
  /-- DIE_REBUILD (R254): A DEAD die's live slots are reconstructed from stripe parity into new
    slots. -/
  | dieRebuild (reads : List (Nat × Ladder))
  /-- BACKGROUND_SCAN (R255): The background scan reads the next live slot, Cellar record or
    anchor record. -/
  | backgroundScan (t2 sector : Nat) (o : Ladder)
  /-- CELLAR_BLOCK_ERASE (R251): After READY, Cellar blocks holding no live record are erased, and
    live records are compacted when space runs low. -/
  | cellarBlockErase
  /-- HOST_LANE_FAILURE (R262): A failed lane or high error rate retrains a host port narrower or
    slower and raises event +2. -/
  | hostLaneFailure (port width rate : Nat)
  /-- HOST_LINK_DOWN (R280): A host port going DOWN answers nothing further and resets its LD
    configuration spaces. -/
  | hostLinkDown (port : Nat)
  /-- HOT_RESET (R280): A hot reset returns the port's LD configuration spaces to reset values. -/
  | hotReset (port : Nat)
  /-- PME_TURN_OFF (R259): PME_Turn_Off is accepted and the port enters L2/L3 Ready. -/
  | pmeTurnOff (port : Nat)
  /-- DECODER_COMMIT (R265): An HDM decoder commit succeeds, or fails with Error Not Committed on
    overlap. -/
  | decoderCommit (port ld idx : Nat) (d : Decoder)
  /-- INITIATE_DYNAMIC_CAPACITY_ADD (R267): The fabric manager's add is checked and an Add
    Capacity event record is posted. -/
  | initiateDynamicCapacityAdd (tag port ld region : Nat) (es : List DcExtent)
  /-- ADD_DYNAMIC_CAPACITY_RESPONSE (R267): The host's response stamps one MAP input per accepted
    entry and completes when they are emitted. -/
  | addDynamicCapacityResponse (tag port ld : Nat) (es : List DcExtent)
  /-- RELEASE_DYNAMIC_CAPACITY (R267): A host release is stamped and completes when its inputs are
    emitted. -/
  | releaseDynamicCapacity (tag port ld : Nat) (es : List DcExtent)
  /-- FORCED_DYNAMIC_CAPACITY_RELEASE (R267): A forced release by the fabric manager is stamped at
    once and a Release Capacity record is posted. -/
  | forcedDynamicCapacityRelease (tag port ld : Nat) (es : List DcExtent)
  /-- IDENTIFY_MEMORY_DEVICE (R266): Identify Memory Device reports each LD's persistent capacity
    and label storage area. -/
  | identifyMemoryDevice (tag port ld : Nat)
  /-- SET_PARTITION_INFO (R266): Set Partition Info is refused. -/
  | setPartitionInfo (tag port ld : Nat)
  /-- SET_LSA (R266): Set LSA writes the label storage area in grove 1,023 as a stamped management
    input. -/
  | setLsa (tag port ld off : Nat) (data : List Byte)
  /-- GET_POISON_LIST (R276): Get Poison List returns the poisoned DPAs of the LD's range. -/
  | getPoisonList (tag port ld dpa len : Nat)
  /-- CLEAR_POISON (R276): Clear Poison is executed as a full-line write stamped under source 311. -/
  | clearPoison (tag port ld dpa : Nat) (data : LineData)
  /-- INJECT_POISON (R259): Inject Poison is refused with Unsupported. -/
  | injectPoison (tag port ld dpa : Nat)
  /-- IDE_KM_KEY_PROG (R274): IDE_KM key programming inside SPDM loads a port's IDE key slot. -/
  | ideKmKeyProg (port : Nat) (tx : Bool) (key : BitVec 256)
  /-- KEY_GO (R274): IDE_KM Key Go puts IDE in force from the next flit. -/
  | keyGo (port : Nat) (containment : Bool)
  /-- IDE_FAIL (R275): A MAC failure or out-of-sequence IDE flit sets Insecure, zeroises the
    slots, raises event +3 and takes the link down. -/
  | ideFail (port : Nat)
  /-- ISOLATE (R278): HOST_PORT_CMD ISOLATE makes every CXL.mem request on the port refused with
    reason 6. -/
  | isolate (p : Path) (port : Nat)
  /-- HOST_PORT_RELEASE (R278): HOST_PORT_CMD RELEASE lifts a port's isolation. -/
  | hostPortRelease (p : Path) (port : Nat)
  /-- RETRAIN (R262): HOST_PORT_CMD RETRAIN retrains the port up to its maximum rate and width. -/
  | retrain (p : Path) (port width rate : Nat)
  /-- LOG_CLEAR (R284): HOST_PORT_CMD LOG_CLEAR empties the port's access log. -/
  | logClear (p : Path) (port : Nat)
  /-- HELLO (R301): A peer or QP-open HELLO is checked and answered with a HELLO carrying its
    COOKIE and STATUS. -/
  | hello (h : Pkt) (b : HelloBody)
  /-- WRITE (R315): A VRMP WRITE is checked, translated, stamped and placed in the pending file,
    freeing its credit. -/
  | write (h : Pkt) (data : List Byte)
  /-- READ_REQ (R316): A VRMP READ_REQ is translated and read without stamping. -/
  | readReq (h : Pkt)
  /-- FLUSH (R58): A VRMP FLUSH is stamped as a logical input covering its QP's earlier writes. -/
  | flush (h : Pkt) (level : Nat)
  /-- FLUSH_ACK (R59): FLUSH_ACK is sent once the FLUSH is emitted and every covered write is
    placed, reporting the lowest level reached. -/
  | flushAck (qpn psn : Nat)
  /-- ATOMIC_FADD (R317): An ATOMIC_FADD is checked and stamped for execution at the line's home
    slice. -/
  | atomicFadd (h : Pkt) (addend : BitVec 64)
  /-- ATOMIC_CAS (R317): An ATOMIC_CAS is checked and stamped for execution at the line's home
    slice. -/
  | atomicCas (h : Pkt) (compare swap : BitVec 64)
  /-- ACK (R305): A host ACK is taken, acknowledging a NOTIFY delivery when NTF is set. -/
  | ack (h : Pkt) (ntf : Bool)
  /-- CREDIT (R308): A host CREDIT packet carries its QP limit for notify deliveries. -/
  | credit (h : Pkt)
  /-- NOTIFY (R318): A NOTIFY naming a target QP and value is checked and accepted. -/
  | notify (h : Pkt) (target value : Nat)
  /-- NOTIFY_DELIVERY (R318): After the sender's earlier writes are emitted, the NOTIFY is
    delivered to the target QP. -/
  | notifyDelivery (id : Nat)
  /-- NOTIFY_RETRANSMIT (R307): An unacknowledged NOTIFY delivery is resent every TIMEOUT and the
    target QP is closed after RETRIES. -/
  | notifyRetransmit (qpn : Nat)
  /-- NOTIFY_UNDELIVERED (R318): A NOTIFY the target cannot take within 1 ms is answered with NAK
    NOTIFY_UNDELIVERED. -/
  | notifyUndelivered (id : Nat)
  /-- CLOSE (R303): A host CLOSE on a QP waits for every earlier request to be answered. -/
  | close (h : Pkt) (reason : Nat)
  /-- PEER_CLOSE (R303): A peer-level CLOSE closes every QP of the peer. -/
  | peerClose (h : Pkt)
  /-- CLOSE_COMPLETE (R303): Once all earlier requests are answered, the controller answers CLOSE
    with reason 0 and frees the context. -/
  | closeComplete (qpn : Nat)
  /-- RESERVED_OPCODE (R299): A host packet with a reserved or C-only opcode is answered with NAK
    UNSUPPORTED. -/
  | reservedOpcode (h : Pkt) (code : Nat)
  /-- ACK_DELAY_EXPIRY (R305): NET_ACK_CFG.DELAY after the first unacknowledged request the
    controller sends an ACK. -/
  | ackDelayExpiry (qpn : Nat)
  /-- QP_CONTEXT_FETCH (R293): A QP context or key fetched after a cache miss is ready and the
    queued packets proceed. -/
  | qpContextFetch (qpn : Nat)
  /-- PEER_IDLE_TIMEOUT (R290): A peer context with no open QP for 60 s is freed. -/
  | peerIdleTimeout (peer : Nat)
  /-- KEY_REGISTER (R312): KEY_REGISTER draws a check value and stamps the registration under
    source 311. -/
  | keyRegister (p : Path) (tag : Nat) (ws : List Window) (any : Bool) (cls : Nat)
  /-- KEY_REVOKE (R319): KEY_REVOKE stamps a revocation under source 311. -/
  | keyRevoke (p : Path) (tag : Nat) (key : BitVec 64)
  /-- REVOCATION_COMPLETE (R319): A revocation completes, frees the key index, closes bound QPs
    and raises event 398. -/
  | revocationComplete (key : BitVec 64)
  /-- CLOSE_QP (R325): NET_CMD CLOSE_QP closes the QP named in NET_CMD_ARG. -/
  | closeQp (p : Path) (qpn : Nat)
  /-- CLOSE_PEER (R325): NET_CMD CLOSE_PEER closes the peer named in NET_CMD_ARG. -/
  | closePeer (p : Path) (peer : Nat)
  /-- ARP_REQUEST (R287): An ARP request for the engine's own address is answered. -/
  | arpRequest (port : Nat) (ip : BitVec 128)
  /-- NEIGHBOR_SOLICITATION (R287): An IPv6 neighbour solicitation for the engine's own address is
    answered. -/
  | neighborSolicitation (port : Nat) (ip : BitVec 128)
  /-- ICMP_ECHO (R287): An ICMP or ICMPv6 echo request is answered. -/
  | icmpEcho (port : Nat) (ip : BitVec 128) (v6 : Bool)
  /-- PAUSE_FRAME (R287): A PAUSE or PFC frame is counted, sets PAUSE_RX and is otherwise ignored. -/
  | pauseFrame (port : Nat)
  /-- PTP_EVENT_MESSAGE (R288): A received or sent IEEE 1588 event message is timestamped into the
    port's PTP FIFO. -/
  | ptpEventMessage (port : Nat) (tx : Bool) (mtype seqId : Nat)
  /-- PTP_TIMESTAMP_POP (R324): A read of NET_PTP_TS_ID pops the oldest PTP FIFO entry. -/
  | ptpTimestampPop (p : Path) (port : Nat)
  /-- NET_LINK_CHANGE (R323): A network port's link changes state and raises its link event. -/
  | netLinkChange (port : Nat) (up : Bool)
  /-- STAMPED_INPUT (R88): A STAMPED_INPUT frame's records are committed, LANDING_ACK returned and
    the inputs queued for replay. -/
  | stampedInput (h : FrameHdr) (first : Nat) (recs : List StampRec)
  /-- LANDING_ACK (R90): A LANDING_ACK advances credit and sequence reports, acknowledging MIRROR
    writes and releasing retained-log entries. -/
  | landingAck (h : FrameHdr) (credit ackSeq applied : Nat)
  /-- HEARTBEAT (R123): A HEARTBEAT updates the peer role, credit and sequence positions and can
    move SOLO to LEADER. -/
  | heartbeat (h : FrameHdr) (role : Role) (credit ackSeq applied : Nat)
  /-- TIME (R92): A TIME frame is answered by the master, or used by the non-serving node to
    correct its GTC. -/
  | timeFrame (h : FrameHdr) (t1 t2 t3 : Nat)
  /-- DIGEST (R86): A DIGEST is compared with the leader's own, and a mismatch makes the leader
    SOLO. -/
  | digest (h : FrameHdr) (first : Nat) (value : BitVec 128)
  /-- RESYNC_DATA (R110): A RESYNC_DATA chunk is queued for installation, compared as a seal stamp
    or taken as repair data. -/
  | resyncData (h : FrameHdr) (c : Chunk)
  /-- EPOCH (R104): An EPOCH frame with a higher epoch fences a serving node, turns its retained
    log above END_SEQ into divergence records and makes it JOINING. -/
  | epochFrame (h : FrameHdr) (endSeq : Nat) (role : Role)
  /-- RESERVED_FRAME_TYPE (R121): A UTL frame with a reserved TYPE is discarded and raises the
    frame-type event. -/
  | reservedFrameType (h : FrameHdr) (type : Nat)
  /-- NEGOTIATE (R79): A NEGOTIATE brings the link UP and runs the election or the outcome for a
    peer outside stage 9, or takes it DOWN on mismatch. -/
  | negotiate (h : FrameHdr) (n : NegRec) (rtt : Nat)
  /-- RETRY_REQ (R117): A RETRY_REQ makes the sender replay from the expected LINK_SEQ. -/
  | retryReq (h : FrameHdr) (expected : Nat)
  /-- LANE_CHANGE (R116): A LANE_CHANGE propose or confirm narrows the UTL to the surviving lane
    group. -/
  | laneChange (h : FrameHdr) (mask : BitVec 16) (confirm : Bool)
  /-- LEAVING (R99): LEAVING makes a LEADER SOLO, or promotes a FENCED node. -/
  | leaving (h : FrameHdr) (lastSeq : Nat)
  /-- RELEASE (R97): A STANDBY that has not promoted answers RELEASE with RELEASE_ACK and enters
    JOINING. -/
  | release (h : FrameHdr)
  /-- RELEASE_ACK (R97): RELEASE_ACK makes the leader SOLO. -/
  | releaseAck (h : FrameHdr)
  /-- RESYNC_START (R108): RESYNC_START begins a bitmap or bulk resync at the joiner. -/
  | resyncStart (h : FrameHdr) (bulk : Bool) (start : Nat)
  /-- RESYNC_DONE (R113): RESYNC_DONE gives the joiner the last AS_OF_SEQ it must pass. -/
  | resyncDone (h : FrameHdr) (last : Nat)
  /-- REPAIR_REQ (R154): A REPAIR_REQ is answered with repair chunks from the peer's own content. -/
  | repairReq (h : FrameHdr) (grove tile : Nat) (mask : BitVec 16)
  /-- REKEY (R118): A REKEY exchange derives new session keys without interrupting traffic. -/
  | rekey (h : FrameHdr) (rand : BitVec 256)
  /-- HANDOVER_FRAME (R114): A STANDBY receiving HANDOVER promotes to LEADER at epoch + 1 and
    sends HANDOVER_ACK first. -/
  | handoverFrame (h : FrameHdr) (lastSeq : Nat)
  /-- HANDOVER_ACK (R78): HANDOVER_ACK makes the old leader take the new epoch and enter STANDBY,
    answering held writes. -/
  | handoverAck (h : FrameHdr) (epoch : Nat)
  /-- RECOPY (R109): RECOPY frames mark listed tiles in the leader's bitmap, and LAST lets it send
    RESYNC_START. -/
  | recopy (h : FrameHdr) (last : Bool) (tiles : List (Nat × Nat))
  /-- HEARTBEAT_TIMER (R94): Every 1 µs a node sends HEARTBEAT on the UTL and, when agreed, on the
    network path. -/
  | heartbeatTimer
  /-- TIME_TIMER (R92): Every 10 µs the non-serving node sends TIME. -/
  | timeTimer
  /-- NEGOTIATE_TIMER (R120): In NEGOTIATE the link sends NEGOTIATE every 10 µs. -/
  | negotiateTimer
  /-- THB_EXPIRY (R96): A STANDBY whose UTL has been silent for T_hb promotes under its policy. -/
  | thbExpiry
  /-- LEADER_UTL_SILENCE (R97): A LEADER whose UTL has been silent for T_hb with the network alive
    sends RELEASE. -/
  | leaderUtlSilence
  /-- FENCE_EXPIRY (R100): A LEADER with no peer frame for T_fence becomes FENCED. -/
  | fenceExpiry
  /-- TJOIN_EXPIRY (R80): A stage-9 node hearing no peer within T_join promotes or waits by its
    last role. -/
  | tjoinExpiry
  /-- LAG_HOLD_START (R89): The oldest unreported input passing 2 µs makes the leader hold new
    logical inputs and set LAG_HOLD. -/
  | lagHoldStart
  /-- LAG_HOLD_LONG (R126): A lag hold active for more than 10 µs raises event 422. -/
  | lagHoldLong
  /-- HANDOVER_SEND (R114): When APPLIED_SEQ reaches the last emitted number, the leader sends
    HANDOVER. -/
  | handoverSend
  /-- RESYNC_CHUNK_READ (R110): The leader reads the next tile chunk as a local input and sends it
    with its AS_OF_SEQ. -/
  | resyncChunkRead (errs : List LineRead)
  /-- RESYNC_CHUNK_INSTALL (R110): The joiner installs a chunk when its applied position equals
    the chunk's AS_OF_SEQ. -/
  | resyncChunkInstall
  /-- RESYNC_COMPLETE (R113): The joiner with every chunk installed and past the last AS_OF_SEQ
    enters STANDBY. -/
  | resyncComplete
  /-- UTL_TRAIN_LOCK (R120): Lock on a lane group moves the link to NEGOTIATE. -/
  | utlTrainLock (mask : BitVec 16)
  /-- UTL_TRAIN_TIMEOUT (R120): No lock within 10 ms takes the link DOWN with a retry after 100
    ms. -/
  | utlTrainTimeout
  /-- UTL_NEGOTIATE_TIMEOUT (R120): 1 ms without a valid NEGOTIATE takes the link DOWN with a
    retry after 1 s. -/
  | utlNegotiateTimeout
  /-- UTL_RETRY_TIMER (R120): A link retry timer expires and the link trains again. -/
  | utlRetryTimer
  /-- UTL_LANE_FAULT (R116): A lane fault or a frame failing 16 retries starts a LANE_CHANGE. -/
  | utlLaneFault (healthy : BitVec 16)
  /-- LANE_CHANGE_TIMEOUT (R120): No usable narrower group within 3 µs takes the link DOWN. -/
  | laneChangeTimeout
  /-- REKEY_COUNT (R118): A frame counter reaching 2^48 starts a REKEY exchange. -/
  | rekeyCount
  /-- HANDOVER (R114): TWIN_CMD HANDOVER holds new inputs at a converged leader, or is refused. -/
  | handover (p : Path)
  /-- RESUME (R102): TWIN_CMD RESUME promotes a FENCED node to SOLO, or is refused. -/
  | resume (p : Path)
  /-- FORCE_LEAD (R107): TWIN_CMD FORCE_LEAD promotes a stage-9 or JOINING node, setting
    INCOMPLETE. -/
  | forceLead (p : Path)
  /-- WITNESS_GRANT (R97): TWIN_CMD WITNESS_GRANT promotes a silent STANDBY or a FENCED node whose
    epoch matches, or is refused. -/
  | witnessGrant (p : Path)
  /-- DIV_CLEAR (R106): TWIN_CMD DIV_CLEAR empties the divergence list. -/
  | divClear (p : Path)
  /-- REWIDEN (R116): TWIN_CMD REWIDEN widens the UTL again. -/
  | rewiden (p : Path)
  /-- ZEROISE (R333): CIPHER_CMD ZEROISE empties a slot, or is refused for a live grove's slot. -/
  | zeroise (p : Path) (slot : Nat)
  /-- ROLL (R340): CIPHER_CMD ROLL generates a second generation and starts the roll. -/
  | roll (p : Path) (slot : Nat)
  /-- ROLL_WALK (R341): The roll re-encrypts the next T1-resident tile and advances ROLL_TILE. -/
  | rollWalk (slot : Nat) (errs : List LineRead)
  /-- ROLL_COMPLETE (R341): After the walk and relocations the old generation is zeroised and
    event 477 raised. -/
  | rollComplete (slot : Nat)
  /-- KEY_GENERATE (R335): KEY_GENERATE draws a key from the DRBG into an EMPTY slot and programs
    its wrapped record. -/
  | keyGenerate (p : Path) (tag : Nat) (v1 : Bool) (slot : Nat)
  /-- KEY_IMPORT (R335): KEY_IMPORT unwraps an ECDH-wrapped key into an EMPTY slot and rewraps it,
    or is refused. -/
  | keyImport (p : Path) (tag : Nat) (v1 : Bool) (slot : Nat) (unwrapOk : Bool) (key : BitVec 512)
  /-- RQ_TAIL_WRITE (R345): Advancing CIPHER_RQ_TAIL makes the engine process descriptors, or
    stops the ring if beyond its size. -/
  | rqTailWrite (p : Path) (tail : Nat)
  /-- DESCRIPTOR_XTS (R347): An XTS descriptor is processed and its completion fields written. -/
  | descriptorXts
  /-- DESCRIPTOR_GCM (R347): A GCM descriptor is processed and its completion fields written. -/
  | descriptorGcm
  /-- DESCRIPTOR_CMAC (R347): A CMAC descriptor is processed and its completion fields written. -/
  | descriptorCmac
  /-- DESCRIPTOR_KWP (R347): A KWP descriptor is processed and its completion fields written. -/
  | descriptorKwp
  /-- RING_RESTART (R352): Writing 1 to CIPHER_RQ_STATUS.STOPPED restarts the ring at HEAD. -/
  | ringRestart (p : Path)
  /-- LANE_SELF_TEST (R349): Each second a lane repeats its known-answer test and is disabled on
    failure. -/
  | laneSelfTest (lane : Nat) (ok : Bool)
  /-- CIPHER_SATURATION (R344): A class waiting more than 10 µs sets SAT and raises event 478. -/
  | cipherSaturation (cls us : Nat)
  /-- VERIFY (R381): CFG_IMAGE_CMD VERIFY runs the stage 5 and 6 checks on a bank without applying
    it. -/
  | verifyBank (p : Path) (bank : Nat) (v : BankVerdict)
  /-- SELECT (R381): CFG_IMAGE_CMD SELECT checks a bank and marks it active. -/
  | selectBank (p : Path) (bank : Nat) (v : BankVerdict)
  /-- GROVE_CREATE (R375): GROVE_CREATE makes a grove from a template with the lowest free ID and
    spare slot, stamped under 311. -/
  | groveCreate (p : Path) (tag tmpl extents : Nat)
  /-- GROVE_RESIZE (R375): GROVE_RESIZE grows or shrinks a grove within its bound. -/
  | groveResize (p : Path) (tag grove extents : Nat)
  /-- GROVE_DELETE (R48): GROVE_DELETE deletes an unmapped grove, zeroising its slot, or is
    refused. -/
  | groveDelete (p : Path) (tag grove : Nat)
  /-- GROVE_STATUS (R73): GROVE_STATUS returns grove status. -/
  | groveStatus (p : Path) (tag grove : Nat)
  /-- GET_VERSION (R485): GET_VERSION returns version information. -/
  | getVersion (p : Path) (tag : Nat)
  /-- REG_READ (R495): REG_READ reads COUNT words in ascending order, refusing words outside the
    path's reach. -/
  | regRead (p : Path) (tag addr count : Nat)
  /-- REG_WRITE (R495): REG_WRITE writes COUNT words in ascending order, each handled by its
    register's rule. -/
  | regWrite (p : Path) (tag addr : Nat) (words : List Word)
  /-- STORE_WRITE (R485): STORE_WRITE programs up to 1 KiB of the store under the flash rules. -/
  | storeWrite (p : Path) (tag : Nat) (v1 : Bool) (addr : Nat) (words : List Word)
  /-- STORE_ERASE (R485): STORE_ERASE erases store sectors under the flash rules. -/
  | storeErase (p : Path) (tag : Nat) (v1 : Bool) (addr : Nat)
  /-- PROVISION (R482): PROVISION over the UART sets the provisioning mark. -/
  | provision (tag : Nat)
  /-- POWER_ON (R414): POWER_ON starts a new power-up from HOLD or GAVE_UP. -/
  | powerOn (p : Path) (tag : Nat)
  /-- POWER_OFF (R391): POWER_OFF powers the node down, with a Cellar action when it can vault. -/
  | powerOff (p : Path) (tag : Nat)
  /-- POWER_STATUS (R403): POWER_STATUS returns the power supervisor's status. -/
  | powerStatus (p : Path) (tag : Nat)
  /-- POWER_LOG_READ (R485): POWER_LOG_READ returns the AON buffer outside READY or the selected
    record. -/
  | powerLogRead (p : Path) (tag : Nat)
  /-- CLEAR (R414): PWR_CMD CLEAR triggers a Clearing at READY. -/
  | clear (p : Path)
  /-- CLEARING (R409): A Clearing trigger closes entry points, takes ports down and starts
    Clearing entry, or powers down beyond the limit. -/
  | clearing (event : Nat)
  /-- CLEARING_ENTRY_DONE (R409): DRAM in self-refresh and slots zeroised, the warm bring-up
    starts at stage 3. -/
  | clearingEntryDone
  /-- VDD_AON_VALID (R382): VDD_AON becoming valid starts the AON time count and cold bring-up. -/
  | vddAonValid
  /-- STAGE_1 (R385): Stage 1 starts the crystal, samples the straps and reads the power table. -/
  | stage1 (i : Stage1In)
  /-- PG_GOOD (R387): A step's PG rising in stage 2 starts its settle time. -/
  | pgGood (n : Nat)
  /-- PG_TIMEOUT (R388): A step whose PG does not rise in time fails, the rails go down and a
    retry or GAVE_UP follows. -/
  | pgTimeout (n : Nat)
  /-- SETTLE_EXPIRY (R387): A step's settle time ends and the next step begins. -/
  | settleExpiry
  /-- RAIL_RETRY_EXPIRY (R388): 100 ms after a failed sequence the rails are started again from
    the first step. -/
  | railRetryExpiry
  /-- RSTO_STRETCH_EXPIRY (R389): RSTO_N[i] goes high once its rails are good and its stretch has
    passed. -/
  | rstoStretchExpiry (i : Nat)
  /-- STAGE_3 (R420): Stage 3 applies fuses and repairs, runs BIST and self-tests, and raises
    deferred events. -/
  | stage3 (fuseOk bistOk : Bool) (badLanes : List Nat)
  /-- STAGE_4 (R401): Stage 4 locks PLLs and loads the GTC at a cold bring-up. -/
  | stage4 (locked : Bool)
  /-- STAGE_5 (R354): Stage 5 reads and checks the image bank. -/
  | stage5 (va vb : BankVerdict) (fwVersion : Word)
  /-- STAGE_6 (R354): Stage 6 checks and applies every section and loads key slots, or falls back. -/
  | stage6
  /-- STAGE_7 (R401): Stage 7 locks MCLK and trains DRAM, NAND and SerDes. -/
  | stage7 (dram : List DramTrain) (nand : List NandTrain)
  /-- STAGE_8 (R166): Stage 8 replays the vault, session record or warm recount and initialises
    tables. -/
  | stage8 (anchorReadable : Bool) (badMeta badData : List (Nat × Nat)) (badErase : List Nat)
  /-- STAGE_9 (R79): Stage 9 joins the twin link and elects the roles. -/
  | stage9
  /-- READY (R401): READY asserts, credits are granted and a session record is programmed. -/
  | ready
  /-- INFAIL_N_ASSERT (R393): A filtered INFAIL_N acts on the node's state: Cellar action, power-
    down or nothing. -/
  | infailNAssert
  /-- INFAIL_N_DEASSERT (R395): INFAIL_N deasserting logs supply return and can let a restart
    proceed. -/
  | infailNDeassert
  /-- ESTORE_OK_ASSERT (R392): ESTORE_OK asserting can restore CAN_VAULT and allow AUTO restart. -/
  | estoreOkAssert
  /-- ESTORE_OK_DEASSERT (R394): ESTORE_OK deasserting clears CAN_VAULT and raises event 7. -/
  | estoreOkDeassert
  /-- PG_LOSS (R391): A rail's PG falling while enabled starts a power-down without a vault. -/
  | pgLoss (n : Nat) (cut : VaultCut)
  /-- PG_FALL (R390): A rail's PG falling in power-down moves to the next rail. -/
  | pgFall (n : Nat)
  /-- PG_LOW_TIMEOUT (R390): A rail whose PG stays high past its timeout is recorded and event 3
    raised. -/
  | pgLowTimeout (n : Nat)
  /-- LOG_FLUSH_DONE (R390): In CHECKED mode the core and I/O rails are released once the log
    buffer is programmed. -/
  | logFlushDone
  /-- MIN_OFF_TIME_EXPIRY (R392): After 100 ms off the restart policy decides whether to start
    stage 1. -/
  | minOffTimeExpiry
  /-- POWER_LOG_PROGRAM (R399): Buffered power-log records are programmed into the ring. -/
  | powerLogProgram (torn : Bool)
  /-- THERMAL_SAMPLE (R527): Each 1 ms the sensors are read and validated. -/
  | thermalSample (temps : List Int)
  /-- DUTY_UPDATE (R528): Every 100 ms each quadrant's duty changes by the thermal and spread
    rules. -/
  | dutyUpdate
  /-- THERMAL_TRIP (R529): A sensor or comparator at 120 °C drives THERMTRIP_N low and powers down
    without a vault. -/
  | thermalTrip (sensor : Nat) (analog : Bool) (temp : Int)
  /-- PPS_EDGE (R524): A filtered PPS_IN edge captures the GTC for discipline. -/
  | ppsEdge
  /-- PPS_MISSING (R396): No PPS pulse for 2 s under 1PPS raises event 627. -/
  | ppsMissing
  /-- GTC_CORRECTION (R507): A write of GTC_CORR_HI applies a correction by slew or step, or is
    refused. -/
  | gtcCorrection (p : Path) (hi : Word)
  /-- PLL_LOCK_LOSS (R429): A PLL losing lock after stage 4 sets CLK_LOST and raises event 55. -/
  | pllLockLoss (domain : Nat)
  /-- REFCLK_LOSS (R523): A stopped reference clock sets CLK_LOST and raises event 56. -/
  | refclkLoss (domain : Nat)
  /-- CROSSING_FAULT (R26): A FIFO pointer parity error or flag mismatch raises its crossing
    event. -/
  | crossingFault (event : Nat)
  /-- LEAK_TICK (R432): At each multiple of W / N a non-severe source's count loses 1. -/
  | leakTick (event : Nat)
  /-- GRACE_EXPIRY (R435): An unacknowledged source's grace timer expires and it moves up one
    level. -/
  | graceExpiry (event : Nat)
  /-- SEVERE_ACKNOWLEDGE (R433): Writing 1 to a FLT_SEVERE bit clears SEVERE, the count and the
    grace timer. -/
  | severeAcknowledge (p : Path) (k : Nat) (bits : Word)
  /-- ACK_ALL (R441): FLT_CMD ACK_ALL acknowledges every severe source. -/
  | ackAll (p : Path)
  /-- RELEASE_GROVE (R436): FLT_CMD RELEASE_GROVE lifts a grove's READ_ONLY containment. -/
  | releaseGrove (p : Path) (grove : Nat)
  /-- RELEASE_PORT (R436): FLT_CMD RELEASE_PORT takes a network port's PCS out of reset. -/
  | releasePort (p : Path) (port : Nat)
  /-- SCRUB_READ (R424): The scrubber reads the next word of an idle macro, correcting or
    reporting it. -/
  | scrubRead (id : Nat) (err stuck : BitVec 80)
  /-- FLIP_ARM (R426): Writing INTEG_FLIP_SEL with ARM corrupts the next qualifying write with the
    mask. -/
  | flipArm (p : Path) (v : Word)
  /-- ALLOCATION_GRANT (R444): A waiting Coppice allocation takes a buffer when one frees. -/
  | allocationGrant (pool : Nat)
  /-- PERF_START (R455): PERF_GLOBAL START sets ENABLE on every global unit. -/
  | perfStart (p : Path)
  /-- PERF_STOP (R455): PERF_GLOBAL STOP clears ENABLE on every global unit. -/
  | perfStop (p : Path)
  /-- PERF_GLOBAL_CLEAR (R455): PERF_GLOBAL CLEAR zeroes counters and OVF bits of every global
    unit. -/
  | perfGlobalClear (p : Path)
  /-- PERF_UNIT_CLEAR (R463): PERF_CTL.CLEAR zeroes one unit's counters and OVF bits. -/
  | perfUnitClear (p : Path) (unit : Nat)
  /-- EPOCH_BOUNDARY (R457): At an epoch boundary the recorder writes or repeats one record per
    enabled path. -/
  | epochBoundary
  /-- FREEZE (R460): REC_CMD FREEZE stops writing records once any record in progress completes. -/
  | freeze (p : Path)
  /-- THAW (R460): REC_CMD THAW resumes writing with one MERGED record per path. -/
  | thaw (p : Path)
  /-- REC_CLEAR (R460): REC_CMD CLEAR empties the frozen store, or is ignored when not frozen. -/
  | recClear (p : Path)
  /-- FLASH_UNLOCK (R468): Writes of the two keys to CFG_FLASH_KEY open an unlock sequence. -/
  | flashUnlock (p : Path) (k1 k2 : Word)
  /-- PROGRAM (R468): A PROGRAM command programs the word at ADDR and advances ADDR. -/
  | flashProgram (p : Path) (data : Word)
  /-- ERASE (R473): An ERASE command erases a sector with its header markers. -/
  | flashErase (p : Path)
  /-- BLANK_CHECK (R468): A BLANK_CHECK command checks a sector is erased. -/
  | blankCheck (p : Path)
  /-- FLASH_COMMAND_DONE (R468): A store command completes and RESULT is set. -/
  | flashCommandDone (verifyOk : Bool)
  /-- FLASH_DATA_READ (R468): A read of CFG_FLASH_DATA returns the word at ADDR and advances ADDR. -/
  | flashDataRead (p : Path)
  /-- RDP_RAISE (R477): A keyed CFG_RDP write raises the read-out protection level. -/
  | rdpRaise (p : Path) (v : Word)
  /-- RDP_LOWER (R478): An authorised lowering to level 0 zeroises slots, halts the processor and
    erases both banks. -/
  | rdpLower (p : Path) (v : Word)
  /-- RDP_LOWER_ERASE_DONE (R478): Once both banks are erased, level 0 is programmed and the node
    stops at stage 5. -/
  | rdpLowerEraseDone
  /-- IDCODE (R479): JTAG IDCODE returns GLB_ID. -/
  | idcode
  /-- BYPASS (R479): JTAG BYPASS selects the bypass register. -/
  | bypass
  /-- SAMPLE_PRELOAD (R479): JTAG SAMPLE/PRELOAD samples the pins without disturbing the node. -/
  | samplePreload
  /-- EXTEST (R479): JTAG EXTEST takes the pins and triggers a held Clearing. -/
  | extest
  /-- CLAMP (R479): JTAG CLAMP takes the pins and triggers a held Clearing. -/
  | clamp
  /-- HIGHZ (R479): JTAG HIGHZ takes the pins and triggers a held Clearing. -/
  | highz
  /-- GLADE_AUTH (R480): JTAG GLADE_AUTH reaches the authorization engine. -/
  | gladeAuth (purpose : Nat)
  /-- GLADE_ACCESS (R481): JTAG GLADE_ACCESS reads and writes control space while Glade is OPEN. -/
  | gladeAccess (wr : Bool) (addr : Nat) (data : Word)
  /-- CHALLENGE (R480): CHALLENGE for OPEN or RDP_LOWER returns 32 random bytes, or is refused. -/
  | challenge (p : Path) (purpose : Nat)
  /-- SUBMIT (R480): SUBMIT verifies the signed challenge and accepts, or counts a failure. -/
  | submit (p : Path) (accepted : Bool)
  /-- GLADE_OPEN_ERASE_DONE (R481): After the key areas are erased the device-unique key is
    blocked and Glade is OPEN. -/
  | gladeOpenEraseDone
  /-- ENTDAA (R484): ENTDAA assigns the I3C target a dynamic address. -/
  | entdaa (addr : Nat)
  /-- SETDASA (R484): SETDASA assigns the I3C target a dynamic address from its static one. -/
  | setdasa (addr : Nat)
  /-- GET_LD_INFO (R484): FM-API Get LD Info returns LD information. -/
  | getLdInfo (tag : Nat)
  /-- GET_LD_ALLOCATIONS (R484): FM-API Get LD Allocations returns allocations. -/
  | getLdAllocations (tag port : Nat)
  /-- GET_MULTI_HEADED_INFO (R484): FM-API Get Multi-Headed Info returns head information. -/
  | getMultiHeadedInfo (tag : Nat)
  /-- BIND_LD (R264): FM-API bind attaches an LD to a host and stores the binding. -/
  | bindLd (tag port ld : Nat)
  /-- UNBIND_LD (R264): FM-API unbind releases an LD's binding. -/
  | unbindLd (tag port ld : Nat)
  /-- SET_LD_ALLOCATIONS (R484): FM-API Set LD Allocations is refused with Unsupported. -/
  | setLdAllocations (tag port : Nat)
  /-- PLDM_FIRMWARE_UPDATE (R487): A PLDM Type 5 update writes firmware and image into the
    inactive bank. -/
  | pldmFirmwareUpdate (bank off : Nat) (words : List Word) (image : Bool)
  /-- PLDM_ACTIVATE (R487): PLDM activation runs SELECT on the updated bank. -/
  | pldmActivate (v : BankVerdict)
  /-- LO_READ_LATCH (R496): A read of a _LO register latches its _HI for that path. -/
  | loReadLatch (p : Path) (addr : Nat)
  /-- RC_READ (R7): A read of an RC field returns its value and clears it. -/
  | rcRead (p : Path) (addr : Nat)
  /-- REGISTER_WRITE (R7): A write to a register with no row of its own acts by each field's
    access code, or raises the access event. -/
  | registerWrite (p : Path) (addr : Nat) (v : Word)
  /-- CA_RECOVERY_COMPLETE (R221): CA recovery ends: the retrained subchannel replays its
    unconfirmed commands and resumes, or the channel enters FAILED, raises event +5 and starts
    an evacuation. -/
  | caRecoveryComplete (ch sub : Nat) (ok : Bool)
  /-- RETURN_TRAINING_COMPLETE (R228): Training of a returning set ends, and the set becomes
    ONLINE with every frame free or stays OFFLINE with result 4. -/
  | returnTrainingComplete (set : Nat) (dram : List DramTrain)
  /-- HOST_LINK_UP (R261): A host port that was DOWN trains again at the host's direction and
    returns to UP. -/
  | hostLinkUp (port width rate : Nat)
  /-- CONFIGURATION_REQUEST (R279): A CXL.io configuration request is answered with CRS in stages
    7 to 9 and served from READY on, in every role. -/
  | configurationRequest (port ld addr : Nat)
  /-- SPDM_MESSAGE (R274): An SPDM message over DOE or MCTP authenticates the requester and opens
    the session in which IDE_KM is accepted. -/
  | spdmMessage (port : Nat) (authOk : Bool)
  /-- VDD_AON_LOSS (R388): Loss of VDD_AON ends GAVE_UP or a stopped bring-up and loses the
    supervisor, the power-log buffer and the AON registers. -/
  | vddAonLoss
  deriving DecidableEq, Repr

end Sys2Proof
end

