-- ==== Sys2Proof/Decode.lean ====
section
/-!
DEFINITION. The table of operations and events gives no row any bits: the controller takes its commands from
links, registers, timers and media, not from an instruction memory. So no word spells a command.
-/

namespace Sys2Proof

/-- The command a word spells by the table's bits: none, because no row has bits. -/
def decodeTableWord (_nbits _w : Nat) : Option Instr := none

end Sys2Proof
end

