-- ==== Sys2Proof/Machine/Bits.lean ====
section
/-!
DEFINITION. Bit fields, byte order (R356: little-endian) and the byte view of lines.
-/

namespace Sys2Proof

/-- Bits [hi:lo] of a number. -/
def bitsOf (v hi lo : Nat) : Nat := v / 2 ^ lo % 2 ^ (hi + 1 - lo)

/-- One bit of a number. -/
def bitOf (v n : Nat) : Bool := decide (v / 2 ^ n % 2 = 1)

/-- `v` with bits [hi:lo] replaced. -/
def putBits (v hi lo x : Nat) : Nat :=
  v % 2 ^ lo + (x % 2 ^ (hi + 1 - lo)) * 2 ^ lo + v / 2 ^ (hi + 1) * 2 ^ (hi + 1)

/-- 1 for true. -/
def b2n (b : Bool) : Nat := if b then 1 else 0

/-- The low 32 bits as a word. -/
def lo32 (n : Nat) : Word := BitVec.ofNat 32 n

/-- Bits [63:32] as a word. -/
def hi32 (n : Nat) : Word := BitVec.ofNat 32 (n / 2 ^ 32)

/-- Number of bits set. -/
def popCount {w : Nat} (x : BitVec w) : Nat :=
  ((List.range w).filter (fun i => x.getLsbD i)).length

/-- The indexes of the bits set, ascending. -/
def bitsSet {w : Nat} (x : BitVec w) : List Nat :=
  (List.range w).filter (fun i => x.getLsbD i)

/-- A vector with the listed bits set. -/
def ofBits (w : Nat) (is : List Nat) : BitVec w :=
  is.foldl (fun acc i => acc ||| BitVec.ofNat w (2 ^ i)) 0

/-- A signed value in `w` bits, two's complement. -/
def twos (w : Nat) (x : Int) : Nat := (x % (2 ^ w : Int)).toNat

/-- The signed value of `w` bits. -/
def signed (w v : Nat) : Int := if v % 2 ^ w < 2 ^ (w - 1) then (v % 2 ^ w : Nat) else (v % 2 ^ w : Int) - 2 ^ w

/-- A little-endian number from bytes (R356). -/
def leNat : List Byte → Nat
  | [] => 0
  | b :: rest => b.toNat + 256 * leNat rest

/-- The `n` little-endian bytes of a number. -/
def leBytes (n v : Nat) : List Byte :=
  match n with
  | 0 => []
  | k + 1 => BitVec.ofNat 8 v :: leBytes k (v / 256)

/-- A big-endian number from bytes. -/
def beNat (bs : List Byte) : Nat := leNat bs.reverse

/-- `n` bytes of a list from `off`; short where the list ends. -/
def slice {α : Type} (l : List α) (off n : Nat) : List α := (l.drop off).take n

/-- A little-endian field of `n` bytes at `off`. -/
def leAt (l : List Byte) (off n : Nat) : Nat := leNat (slice l off n)

/-- Byte `k` of a line. -/
def lineByte (d : LineData) (k : Nat) : Byte := d.extractLsb' (8 * k) 8

/-- The 64 bytes of a line, byte 0 first. -/
def lineBytes (d : LineData) : List Byte := (List.range 64).map (lineByte d)

/-- A line from bytes, byte 0 first. -/
def lineOf (bs : List Byte) : LineData := BitVec.ofNat 512 (leNat (bs.take 64))

/-- The bit mask that a byte mask selects. -/
def spread (m : Mask) : LineData :=
  (bitsSet m).foldl (fun acc k => acc ||| (BitVec.ofNat 512 255 <<< (8 * k))) 0

/-- `old` with the bytes of `new` that the mask names (R18, R54). -/
def mergeLine (old new : LineData) (m : Mask) : LineData :=
  (old &&& ~~~ (spread m)) ||| (new &&& spread m)

/-- Every byte. -/
def fullMask : Mask := BitVec.allOnes 64

/-- A mask of `n` bytes from byte `off` of a line. -/
def maskRun (off n : Nat) : Mask :=
  BitVec.ofNat 64 ((2 ^ n - 1) * 2 ^ off)

/-- The 8 bytes at byte `off` of a line as a number. -/
def word64 (d : LineData) (off : Nat) : BitVec 64 := d.extractLsb' (8 * off) 64

/-- A line whose 8 bytes at `off` are the given number and whose other bytes are 0. -/
def at64 (off : Nat) (v : BitVec 64) : LineData := (v.setWidth 512) <<< (8 * off)

/-- Saturating sum (R7, RC). -/
def satAdd (w a b : Nat) : Nat := min (2 ^ w - 1) (a + b)

/-- Ceiling division. -/
def ceilDiv (a b : Nat) : Nat := (a + b - 1) / b

/-- Insertion into a list kept ascending without repeats. -/
def insertNat (x : Nat) : List Nat → List Nat
  | [] => [x]
  | y :: ys => if x < y then x :: y :: ys else if x = y then y :: ys else y :: insertNat x ys

/-- The first index of 0..n-1 that satisfies `p`. -/
def firstIdx (n : Nat) (p : Nat → Bool) : Option Nat := (List.range n).find? p

/-- Replaces the elements that satisfy `p`. -/
def mapIf {α : Type} (p : α → Bool) (f : α → α) (l : List α) : List α :=
  l.map (fun x => if p x then f x else x)

/-- Runs a state change over a list, first element first. -/
def forEach {σ α : Type} (l : List α) (f : α → σ → σ) (s : σ) : σ := l.foldl (fun t x => f x t) s

end Sys2Proof
end

