-- ==== Sys2Proof/Config.lean ====
section
/-!
DEFINITION. What an implementation fixes and the spec leaves open: constants with no body, so that
no proof can see a value of them. Functions of the free counter give a fresh value at each use (log 3).
-/

namespace Sys2Proof

/-- R335, R480: what the DRBG draws; argument the free counter. -/
opaque Config.drbg : Nat → BitVec 512

/-- R536: which free frame a new T1 residence takes: the free counter and the number of free frames. -/
opaque Config.freeFrame : Nat → Nat → Nat

/-- R239, R243: which free T2 slot a program takes. -/
opaque Config.freeT2 : Nat → Nat → Nat

/-- R174, R175: pseudo-LRU bits after a touch of a way. -/
opaque Config.plruTouch : BitVec 15 → Nat → BitVec 15

/-- R175: the way the pseudo-LRU names for allocation, of those the mask admits. -/
opaque Config.plruPick : BitVec 15 → BitVec 16 → Nat

/-- R301: the controller's initial PSN for a queue pair; argument the free counter. -/
opaque Config.initPsn : Nat → Nat

/-- R118: the SP 800-108 counter-mode KDF with AES-256-CMAC: the pair key, the label (which names the use and
the direction) and the context. -/
opaque Config.kdf : BitVec 512 → Nat → List Byte → BitVec 256

/-- SHA-384 of bytes, the digest read as one big-endian number (R125, R359, R480). -/
opaque Config.sha384 : List Byte → BitVec 384

/-- R85: the hash subkey of the pair's digest key; the argument is the pair key. -/
opaque Config.digestKey : BitVec 512 → BitVec 128

/-- R266, R533: where label storage begins in grove 1,023, in bytes. -/
opaque Config.labelBase : Nat

/-- R162: the Cellar index as bytes, 8 for each dirty tile; the argument is the list of its sectors. -/
opaque Config.cellarIndex : List Nat → List Byte

/-- R57: the configuration-space address of the GPF DVSEC's Phase 2 duration. -/
opaque Config.gpfDvsec : Nat

/-- R417: the words of the protected arrays, as array × 2,048 + word, that hold an item of a class. -/
opaque Config.protWords : Nat → Nat → List Nat

/-- R347: AES operations of the request ring: operation, key, parameters, input; output bytes. -/
opaque Config.aes : Nat → BitVec 512 → List Byte → List Byte → List Byte

/-- R347: the tag or check value of a GCM, CMAC or KWP operation. -/
opaque Config.tag : Nat → BitVec 512 → List Byte → List Byte → List Byte

/-- R154, R225: what the peer answers for one line of a sector it is asked for: free counter and line key; `none` when
it cannot give it. -/
opaque Config.peerLine : Nat → Nat → Option LineData

/-- R134, R223: the grove and the first of the four tiles whose entries lie on a line (second argument) of a tile (first
argument) of grove 1,023. -/
opaque Config.metaEntry : Nat → Nat → Nat × Nat

/-- A tie or a choice the spec leaves to the controller: the free counter and the number of choices. -/
opaque Config.choose : Nat → Nat → Nat

/-- A byte the spec leaves open; argument the free counter. -/
opaque Config.anyWord : Nat → BitVec 32

end Sys2Proof
end

