-- ==== Sys2Proof/Machine/Map.lean ====
section
/-!
DEFINITION. Sparse maps: pairs of a key and a value in one canonical form, with the value an unlisted
key reads as given by the caller (`d`). Every memory, table and register file of the model is one of
these, so that equal contents are equal data. The laws stand in Sys2Proof/Laws/Map.lean.
-/

namespace Sys2Proof

variable {V : Type}

/-- The value of a key; `d` where the key is not listed. -/
def SMap.get (m : SMap V) (d : V) (k : Nat) : V :=
  match m with
  | [] => d
  | (a, v) :: rest => if k < a then d else if k = a then v else SMap.get rest d k

/-- Removes a key. -/
def SMap.del (m : SMap V) (k : Nat) : SMap V :=
  match m with
  | [] => []
  | (a, v) :: rest =>
    if k < a then (a, v) :: rest else if k = a then rest else (a, v) :: SMap.del rest k

/-- Puts a key in its place. -/
def SMap.put (m : SMap V) (k : Nat) (x : V) : SMap V :=
  match m with
  | [] => [(k, x)]
  | (a, v) :: rest =>
    if k < a then (k, x) :: (a, v) :: rest
    else if k = a then (k, x) :: rest
    else (a, v) :: SMap.put rest k x

/-- Writes a key: a value equal to what an unlisted key reads as removes the entry. -/
def SMap.set [DecidableEq V] (m : SMap V) (d : V) (k : Nat) (x : V) : SMap V :=
  if x = d then SMap.del m k else SMap.put m k x

/-- Keys strictly rising, all at or above `lo`. -/
def SMap.rising (lo : Nat) : SMap V → Bool
  | [] => true
  | (a, _) :: rest => decide (lo ≤ a) && SMap.rising (a + 1) rest

/-- The canonical form: keys strictly rising and no entry equal to `d`. -/
def SMap.wf [DecidableEq V] (d : V) (m : SMap V) : Bool :=
  SMap.rising 0 m && m.all (fun p => decide (p.2 ≠ d))

/-- The keys listed. -/
def SMap.keys (m : SMap V) : List Nat := m.map (·.1)

/-- Changes the value of one key. -/
def SMap.upd [DecidableEq V] (m : SMap V) (d : V) (k : Nat) (f : V → V) : SMap V :=
  SMap.set m d k (f (SMap.get m d k))

/-- Changes every listed value; one that becomes what an unlisted key reads as leaves the map. -/
def SMap.mapVals [DecidableEq V] (m : SMap V) (d : V) (f : V → V) : SMap V :=
  m.filterMap (fun p => if f p.2 = d then none else some (p.1, f p.2))

/-- Removes every key outside `keep`. -/
def SMap.filterKeys (m : SMap V) (keep : Nat → Bool) : SMap V :=
  m.filter (fun p => keep p.1)

/-- Maps of options: the entry of a key that is present. -/
abbrev SMap.find (m : SMap (Option V)) (k : Nat) : Option V := SMap.get m none k

/-- The entries present in a map of options. -/
def SMap.present (m : SMap (Option V)) : List (Nat × V) :=
  m.filterMap (fun p => p.2.map (fun v => (p.1, v)))

/-- A run of `n` keys from `base`. -/
def SMap.readRun (m : SMap V) (d : V) (base n : Nat) : List V :=
  (List.range n).map (fun i => SMap.get m d (base + i))

/-- Writes a list of values from `base` up. -/
def SMap.writeRun [DecidableEq V] (m : SMap V) (d : V) (base : Nat) (xs : List V) : SMap V :=
  match xs with
  | [] => m
  | x :: rest => SMap.writeRun (SMap.set m d base x) d (base + 1) rest

end Sys2Proof
end

