-- ==== Sys2Proof/Machine/RegTable.lean ====
section
/-!
DEFINITION. The register map (R491, R508): every register of the control space with its address, its
instances, its stored fields with access code, reset value and accepted range (R7), what a Clearing
does to it (R501), and whether only management access writes it. Fields that only hardware sets
(RO) are not listed here: Machine/RegRead.lean computes them. A register marked `cmd` has a write rule
of its own in Machine/Control.lean.
-/

namespace Sys2Proof.Machine

open Sys2Proof

/-- R7: access codes of stored fields; a stored `ro` field is a record that hardware writes. -/
inductive Acc | ro | rw | rw1c | rws | rwl | wo | rc
  deriving DecidableEq, Repr

/-- R501: what a Clearing does to a register: back to reset (RWS kept), kept with RC at 0, kept in
the AON domain, kept until a cold power-up. -/
inductive ClearCls | reset | keep | aon | cold
  deriving DecidableEq, Repr

/-- A stored field: bits [hi:lo], access, reset value, and the range a write must meet. -/
structure Field where
  hi    : Nat
  lo    : Nat
  acc   : Acc
  reset : Nat
  least : Nat
  most  : Nat
  deriving DecidableEq, Repr

/-- R508: the registers. -/
inductive RegId
  /-- GLB_ID -/
  | glbId
  /-- GLB_CAPS -/
  | glbCaps
  /-- GLB_FW_VERSION -/
  | glbFwVersion
  /-- GLB_STATUS -/
  | glbStatus
  /-- GLB_STRAPS -/
  | glbStraps
  /-- GLB_SERIAL -/
  | glbSerial
  /-- GLB_SCRATCH -/
  | glbScratch
  /-- GLB_ACC_ERR0 -/
  | glbAccErr0
  /-- GLB_ACC_ERR1 -/
  | glbAccErr1
  /-- GLB_ACC_COUNT -/
  | glbAccCount
  /-- GLB_THERM_TEMP -/
  | thermTemp
  /-- GLB_THERM_QUAD -/
  | thermQuad
  /-- GLB_THERM_CFG -/
  | thermCfg
  /-- GLB_THERM_TRIP -/
  | thermTrip
  /-- PWR_SEQ_STATUS -/
  | pwrSeqStatus
  /-- PWR_RAILS -/
  | pwrRails
  /-- PWR_LOG_MODE -/
  | pwrLogMode
  /-- PWR_CMD -/
  | pwrCmd
  /-- PWR_LAST_START -/
  | pwrLastStart
  /-- PWR_CLEAR_COUNT -/
  | pwrClearCount
  /-- PWR_LOG_INDEX -/
  | pwrLogIndex
  /-- PWR_LOG_DATA -/
  | pwrLogData
  /-- PWR_LOG_COUNT -/
  | pwrLogCount
  /-- PWR_LOG_TORN -/
  | pwrLogTorn
  /-- PWR_CHATTER -/
  | pwrChatter
  /-- CLK_RUNNING -/
  | clkRunning
  /-- CLK_LOST -/
  | clkLost
  /-- CLK_MCLK_MHZ -/
  | clkMclk
  /-- GTC_NOW_LO -/
  | gtcNowLo
  /-- GTC_NOW_HI -/
  | gtcNowHi
  /-- GTC_STATUS -/
  | gtcStatus
  /-- GTC_ADJ_COUNT -/
  | gtcAdjCount
  /-- GTC_CORR_LO -/
  | gtcCorrLo
  /-- GTC_CORR_HI -/
  | gtcCorrHi
  /-- GTC_CORR_LEFT -/
  | gtcCorrLeft
  /-- CANOPY_CTL -/
  | canCtl
  /-- CANOPY_MAINT_CMD -/
  | canMaintCmd
  /-- CANOPY_MAINT_START_LO -/
  | canStartLo
  /-- CANOPY_MAINT_START_HI -/
  | canStartHi
  /-- CANOPY_MAINT_LEN_LO -/
  | canLenLo
  /-- CANOPY_MAINT_LEN_HI -/
  | canLenHi
  /-- CANOPY_MAINT_STATUS -/
  | canMaintStatus
  /-- CANOPY_MAINT_SKIPPED -/
  | canMaintSkipped
  /-- CANOPY_MAINT_LEFT -/
  | canMaintLeft
  /-- CANOPY_ERR_LOG0 -/
  | canErrLog0
  /-- CANOPY_ERR_LOG1 -/
  | canErrLog1
  /-- CANOPY_ERR_COUNT -/
  | canErrCount
  /-- CANOPY_PIN_LINES -/
  | canPinLines
  /-- CANOPY_WAYMASK -/
  | canWaymask
  /-- CANOPY_WAYMASK31 -/
  | canWaymask31
  /-- TIER_CELLAR_MODE -/
  | tierCellarMode
  /-- TIER_CEILING -/
  | tierCeiling
  /-- TIER_DIRTY -/
  | tierDirty
  /-- TIER_META_DIRTY -/
  | tierMetaDirty
  /-- TIER_VAULT_TIME -/
  | tierVaultTime
  /-- TIER_VAULT_LAST -/
  | tierVaultLast
  /-- TIER_WEAR_CFG -/
  | tierWearCfg
  /-- TIER_WEAR_ALLOW -/
  | tierWearAllow
  /-- TIER_WEAR_USED_LO -/
  | tierWearUsedLo
  /-- TIER_WEAR_USED_HI -/
  | tierWearUsedHi
  /-- TIER_FREE_FRAMES -/
  | tierFreeFrames
  /-- TIER_FREE_LOW -/
  | tierFreeLow
  /-- TIER_SCHED_COUNT -/
  | tierSchedCount
  /-- TIER_SCHED_ENTRIES -/
  | tierSchedEntries
  /-- TIER_POISON_INDEX -/
  | tierPoisonIndex
  /-- TIER_POISON_DATA -/
  | tierPoisonData
  /-- TIER_POISON_COUNT -/
  | tierPoisonCount
  /-- TIER_POISON_LOST -/
  | tierPoisonLost
  /-- TIER_GROVE_STATUS -/
  | groveStatus
  /-- DRAM_CH_STATUS -/
  | dramChStatus
  /-- DRAM_CH_CMD -/
  | dramChCmd
  /-- DRAM_CE_COUNT -/
  | dramCeCount
  /-- DRAM_CA_COUNT -/
  | dramCaCount
  /-- DRAM_UE_INDEX -/
  | dramUeIndex
  /-- DRAM_UE_DATA -/
  | dramUeData
  /-- DRAM_UE_COUNT -/
  | dramUeCount
  /-- DRAM_UE_LOST -/
  | dramUeLost
  /-- DRAM_PATROL_LAP -/
  | dramPatrolLap
  /-- DRAM_PATROL_POS -/
  | dramPatrolPos
  /-- DRAM_RT_SPLITS -/
  | dramRtSplits
  /-- DRAM_TRAIN_TIME -/
  | dramTrainTime
  /-- DRAM_NODE_CFG -/
  | dramNodeCfg
  /-- DRAM_SR_IDLE -/
  | dramSrIdle
  /-- DRAM_PATROL_CFG -/
  | dramPatrolCfg
  /-- DRAM_EVAC_CMD -/
  | dramEvacCmd
  /-- DRAM_EVAC_STATUS -/
  | dramEvacStatus
  /-- DRAM_EVAC_LEFT -/
  | dramEvacLeft
  /-- DRAM_REG_CFG -/
  | dramRegCfg
  /-- DRAM_REG_RATE -/
  | dramRegRate
  /-- DRAM_SET_LO -/
  | dramSetLo
  /-- DRAM_SET_HI -/
  | dramSetHi
  /-- NAND_CH_STATUS -/
  | nandChStatus
  /-- NAND_CH_CAUSE -/
  | nandChCause
  /-- NAND_LADDER_COUNT -/
  | nandLadder
  /-- NAND_UE_COUNT -/
  | nandUeCount
  /-- NAND_BAD_BLOCKS -/
  | nandBadBlocks
  /-- NAND_DIE -/
  | nandDie
  /-- NAND_NODE_CFG -/
  | nandNodeCfg
  /-- NAND_RD_LIMIT -/
  | nandRdLimit
  /-- NAND_WL_DELTA -/
  | nandWlDelta
  /-- NAND_SCAN_CFG -/
  | nandScanCfg
  /-- NAND_SCAN_LAP -/
  | nandScanLap
  /-- NAND_RECLAIM_CFG -/
  | nandReclaimCfg
  /-- NAND_FREE_TILES -/
  | nandFreeTiles
  /-- NAND_USED_TILES -/
  | nandUsedTiles
  /-- NAND_REBUILD_CFG -/
  | nandRebuildCfg
  /-- NAND_REBUILD_STATUS -/
  | nandRebuildStatus
  /-- NAND_REBUILD_LEFT -/
  | nandRebuildLeft
  /-- NAND_FTL_CAUSE -/
  | nandFtlCause
  /-- NAND_UNPROTECTED -/
  | nandUnprotected
  /-- NAND_CELLAR_FREE -/
  | nandCellarFree
  /-- NAND_ERASE_PENDING -/
  | nandErasePending
  /-- HOST_PORT_STATUS -/
  | hostStatus
  /-- HOST_PORT_CMD -/
  | hostCmd
  /-- HOST_PORT_CAUSE -/
  | hostCause
  /-- HOST_HOLD -/
  | hostHold
  /-- HOST_ACCESS_INDEX -/
  | hostAccIndex
  /-- HOST_ACCESS_DATA -/
  | hostAccData
  /-- HOST_ACCESS_COUNT -/
  | hostAccCount
  /-- HOST_ACCESS_LOST -/
  | hostAccLost
  /-- HOST_LD_STATUS -/
  | hostLdStatus
  /-- HOST_GROUP_CFG -/
  | hostGroupCfg
  /-- HOST_RSP_WD -/
  | hostRspWd
  /-- NET_PORT_STATUS -/
  | netStatus
  /-- NET_PORT_CAUSE -/
  | netCause
  /-- NET_FEC_CORR -/
  | netFecCorr
  /-- NET_FEC_UNCORR -/
  | netFecUncorr
  /-- NET_RX_DROP -/
  | netRxDrop
  /-- NET_PTP_COUNT -/
  | netPtpCount
  /-- NET_PTP_TS_LO -/
  | netPtpTsLo
  /-- NET_PTP_TS_HI -/
  | netPtpTsHi
  /-- NET_PTP_TS_ID -/
  | netPtpTsId
  /-- NET_PTP_LOST -/
  | netPtpLost
  /-- NET_CFG -/
  | netCfg
  /-- NET_QP_CREDIT -/
  | netQpCredit
  /-- NET_ARRIVAL_RESERVE -/
  | netReserve
  /-- NET_ACK_CFG -/
  | netAckCfg
  /-- NET_RTO -/
  | netRto
  /-- NET_QP_OPEN -/
  | netQpOpen
  /-- NET_PEERS -/
  | netPeers
  /-- NET_KEYS -/
  | netKeys
  /-- NET_REVOKE_PENDING -/
  | netRevokePending
  /-- NET_CREDIT_OUT -/
  | netCreditOut
  /-- NET_CTX_MISS -/
  | netCtxMiss
  /-- NET_KEY_MISS -/
  | netKeyMiss
  /-- NET_NAK_SENT -/
  | netNakSent
  /-- NET_CMD -/
  | netCmd
  /-- NET_CMD_ARG -/
  | netCmdArg
  /-- TWIN_ROLE -/
  | twinRole
  /-- TWIN_EPOCH -/
  | twinEpoch
  /-- TWIN_TIMERS -/
  | twinTimers
  /-- TWIN_LINK_STATUS -/
  | twinLink
  /-- TWIN_FEATURES -/
  | twinFeatures
  /-- TWIN_LAG -/
  | twinLag
  /-- TWIN_SEQ_LO -/
  | twinSeqLo
  /-- TWIN_SEQ_HI -/
  | twinSeqHi
  /-- TWIN_RESYNC_LEFT_LO -/
  | twinLeftLo
  /-- TWIN_RESYNC_LEFT_HI -/
  | twinLeftHi
  /-- TWIN_DIV_COUNT -/
  | twinDivCount
  /-- TWIN_DIV_LOST -/
  | twinDivLost
  /-- TWIN_DIV_INDEX -/
  | twinDivIndex
  /-- TWIN_DIV_DATA -/
  | twinDivData
  /-- TWIN_DIV_DATA3 on a read, TWIN_CMD on a write -/
  | twinDivData3
  /-- TWIN_CMD_ARG -/
  | twinCmdArg
  /-- TWIN_CMD_STATUS -/
  | twinCmdStatus
  /-- CIPHER_STATUS -/
  | ciphStatus
  /-- CIPHER_CTL -/
  | ciphCtl
  /-- CIPHER_SLOT_INDEX -/
  | ciphSlotIndex
  /-- CIPHER_SLOT_INFO -/
  | ciphSlotInfo
  /-- CIPHER_SLOT_CTR_LO -/
  | ciphCtrLo
  /-- CIPHER_SLOT_CTR_HI -/
  | ciphCtrHi
  /-- CIPHER_SLOT_ROLL -/
  | ciphSlotRoll
  /-- CIPHER_CMD -/
  | ciphCmd
  /-- CIPHER_CMD_STATUS -/
  | ciphCmdStatus
  /-- CIPHER_CLASS_CFG -/
  | ciphClassCfg
  /-- CIPHER_CLASS_CFG5 to 8 -/
  | ciphClassCfg5
  /-- CIPHER_CLASS_WAIT -/
  | ciphClassWait
  /-- CIPHER_RQ_BASE_LO -/
  | ciphRqBaseLo
  /-- CIPHER_RQ_BASE_HI -/
  | ciphRqBaseHi
  /-- CIPHER_RQ_SIZE -/
  | ciphRqSize
  /-- CIPHER_RQ_TAIL -/
  | ciphRqTail
  /-- CIPHER_RQ_HEAD -/
  | ciphRqHead
  /-- CIPHER_RQ_STATUS -/
  | ciphRqStatus
  /-- INTEG_STATUS -/
  | intStatus
  /-- INTEG_SCRUB_CFG -/
  | intScrubCfg
  /-- INTEG_SCRUB_LAP -/
  | intScrubLap
  /-- INTEG_FLIPMASK0 -/
  | intFlipMask0
  /-- INTEG_FLIPMASK1 -/
  | intFlipMask1
  /-- INTEG_FLIPMASK2 -/
  | intFlipMask2
  /-- INTEG_FLIP_SEL -/
  | intFlipSel
  /-- INTEG_CE_COUNT -/
  | intCeCount
  /-- INTEG_ERR_LOG0 -/
  | intErrLog0
  /-- INTEG_ERR_LOG1 -/
  | intErrLog1
  /-- INTEG_CE_LOG -/
  | intCeLog
  /-- INTEG_REPAIR_INDEX -/
  | intRepairIndex
  /-- INTEG_REPAIR_DATA -/
  | intRepairData
  /-- INTEG_MACRO_INDEX -/
  | intMacIndex
  /-- INTEG_MACRO_INFO -/
  | intMacInfo
  /-- FLT_STATUS -/
  | fltStatus
  /-- FLT_SRC_STICKY -/
  | fltSticky
  /-- FLT_SEVERE -/
  | fltSevere
  /-- FLT_GRACE -/
  | fltGrace
  /-- FLT_SRC_INDEX -/
  | fltSrcIndex
  /-- FLT_SRC_CFG -/
  | fltSrcCfg
  /-- FLT_SRC_WIN -/
  | fltSrcWin
  /-- FLT_SRC_STATE -/
  | fltSrcState
  /-- FLT_FIRST -/
  | fltFirst
  /-- FLT_FIRST_GTC_LO -/
  | fltFirstLo
  /-- FLT_FIRST_GTC_HI -/
  | fltFirstHi
  /-- FLT_CMD -/
  | fltCmd
  /-- COP_STATUS -/
  | copStatus
  /-- COP_THRESH -/
  | copThresh
  /-- COP_THRESH3 -/
  | copThresh3
  /-- COP_FREE -/
  | copFree
  /-- COP_BLOCKS -/
  | copBlocks
  /-- COP_UNCLAIMED -/
  | copUnclaimed
  /-- COP_LOW -/
  | copLow
  /-- COP_BADFREE -/
  | copBadFree
  /-- COP_BADFREE_LAST -/
  | copBadLast
  /-- COP_BADFREE_WHO -/
  | copBadWho
  /-- COP_ECC -/
  | copEcc
  /-- PERF_CTL -/
  | perfCtl
  /-- PERF_FILT -/
  | perfFilt
  /-- PERF_MASTER -/
  | perfSource
  /-- PERF_GROVE -/
  | perfGrove
  /-- PERF_START_LO -/
  | perfStartLo
  /-- PERF_START_HI -/
  | perfStartHi
  /-- PERF_END_LO -/
  | perfEndLo
  /-- PERF_END_HI -/
  | perfEndHi
  /-- PERF_SEL -/
  | perfSel
  /-- PERF_THRESH -/
  | perfThresh
  /-- PERF_CYCLE_LO -/
  | perfCycleLo
  /-- PERF_CYCLE_HI -/
  | perfCycleHi
  /-- PERF_CNT_LO -/
  | perfCntLo
  /-- PERF_CNT_HI -/
  | perfCntHi
  /-- PERF_GLOBAL -/
  | perfGlobal
  /-- REC_STATUS -/
  | recStatus
  /-- REC_EPOCH -/
  | recEpoch
  /-- REC_PATHS -/
  | recPaths
  /-- REC_CMD -/
  | recCmd
  /-- REC_INDEX -/
  | recIndex
  /-- REC_LOST -/
  | recLost
  /-- REC_DATA -/
  | recData
  /-- CFG_FLASH_KEY -/
  | flashKey
  /-- CFG_FLASH_CMD -/
  | flashCmd
  /-- CFG_FLASH_ADDR -/
  | flashAddr
  /-- CFG_FLASH_DATA -/
  | flashData
  /-- CFG_FLASH_CTL -/
  | flashCtl
  /-- CFG_FLASH_STATUS -/
  | flashStatus
  /-- CFG_FLASH_ERASES -/
  | flashErases
  /-- CFG_RDP -/
  | cfgRdp
  /-- CFG_IMAGE_STATUS -/
  | imgStatus
  /-- CFG_IMAGE_DETAIL -/
  | imgDetail
  /-- CFG_IMAGE_VERSION -/
  | imgVersion
  /-- CFG_IMAGE_LAYOUT_LO -/
  | imgLayoutLo
  /-- CFG_IMAGE_LAYOUT_HI -/
  | imgLayoutHi
  /-- CFG_IMAGE_CMD -/
  | imgCmd
  /-- CFG_IMAGE_CMD_STATUS -/
  | imgCmdStatus
  /-- DBG_STATUS -/
  | dbgStatus
  /-- DBG_AUTH_CMD -/
  | dbgCmd
  /-- DBG_CHALLENGE -/
  | dbgChallenge
  /-- DBG_RESP -/
  | dbgResp
  deriving DecidableEq, Repr

/-- One register with its instances: address base + s1 × i + s2 × j. -/
structure RegSpec where
  id     : RegId
  name   : String
  base   : Nat
  n1     : Nat := 1
  s1     : Nat := 4
  n2     : Nat := 1
  s2     : Nat := 4
  clear  : ClearCls
  /-- only management access writes it -/
  mgmt   : Bool := false
  cmd    : Bool := false
  fields : List Field := []
  deriving DecidableEq, Repr

/-- The GLB block (R502 to R504, R531). -/
def regsGlb : List RegSpec :=
  [
    { id := .glbId, name := "GLB_ID", base := 0x00000000, clear := .reset, mgmt := true },
    { id := .glbCaps, name := "GLB_CAPS", base := 0x00000008, clear := .reset, mgmt := true },
    { id := .glbFwVersion, name := "GLB_FW_VERSION", base := 0x0000000C, clear := .reset, mgmt := true },
    { id := .glbStatus, name := "GLB_STATUS", base := 0x00000010, clear := .reset, mgmt := true },
    { id := .glbStraps, name := "GLB_STRAPS", base := 0x00000014, clear := .reset, mgmt := true },
    { id := .glbSerial, name := "GLB_SERIAL", base := 0x00000020, n1 := 4, s1 := 4, clear := .reset, mgmt := true },
    { id := .glbScratch, name := "GLB_SCRATCH", base := 0x00000040, n1 := 4, s1 := 4, clear := .reset, fields := [⟨31, 0, .rws, 0, 0, 0xffffffff⟩] },
    { id := .glbAccErr0, name := "GLB_ACC_ERR0", base := 0x00000050, clear := .reset, fields := [⟨31, 31, .rw1c, 0, 0, 0x1⟩, ⟨30, 30, .ro, 0, 0, 0x1⟩, ⟨29, 27, .ro, 0, 0, 0x7⟩, ⟨11, 0, .ro, 0, 0, 0xfff⟩] },
    { id := .glbAccErr1, name := "GLB_ACC_ERR1", base := 0x00000054, clear := .reset, fields := [⟨31, 0, .ro, 0, 0, 0xffffffff⟩] },
    { id := .glbAccCount, name := "GLB_ACC_COUNT", base := 0x00000058, clear := .reset, fields := [⟨31, 0, .rc, 0, 0, 0xffffffff⟩] },
    { id := .thermTemp, name := "GLB_THERM_TEMP", base := 0x00000400, n1 := 16, s1 := 4, clear := .reset, mgmt := true },
    { id := .thermQuad, name := "GLB_THERM_QUAD", base := 0x00000440, n1 := 4, s1 := 4, clear := .reset, mgmt := true, fields := [⟨15, 8, .rc, 0, 0, 0xff⟩] },
    { id := .thermCfg, name := "GLB_THERM_CFG", base := 0x00000480, clear := .reset, mgmt := true, fields := [⟨20, 16, .rw, 4, 4, 16⟩, ⟨11, 8, .rw, 3, 1, 10⟩, ⟨7, 0, .rwl, 100, 85, 104⟩] },
    { id := .thermTrip, name := "GLB_THERM_TRIP", base := 0x00000484, clear := .aon, mgmt := true, fields := [⟨31, 31, .rw1c, 0, 0, 0x1⟩] } ]

/-- The PWR block (R413, R414). -/
def regsPwr : List RegSpec :=
  [
    { id := .pwrSeqStatus, name := "PWR_SEQ_STATUS", base := 0x01000000, clear := .aon, mgmt := true },
    { id := .pwrRails, name := "PWR_RAILS", base := 0x01000004, clear := .aon, mgmt := true, fields := [⟨11, 0, .rw1c, 0, 0, 0xfff⟩] },
    { id := .pwrLogMode, name := "PWR_LOG_MODE", base := 0x01000008, clear := .aon, mgmt := true },
    { id := .pwrCmd, name := "PWR_CMD", base := 0x0100000C, clear := .aon, mgmt := true, cmd := true },
    { id := .pwrLastStart, name := "PWR_LAST_START", base := 0x01000010, clear := .aon, mgmt := true },
    { id := .pwrClearCount, name := "PWR_CLEAR_COUNT", base := 0x01000014, clear := .aon, mgmt := true },
    { id := .pwrLogIndex, name := "PWR_LOG_INDEX", base := 0x01000020, clear := .aon, mgmt := true, fields := [⟨10, 0, .rw, 0, 0, 0x7ff⟩] },
    { id := .pwrLogData, name := "PWR_LOG_DATA", base := 0x01000024, n1 := 16, s1 := 4, clear := .aon, mgmt := true },
    { id := .pwrLogCount, name := "PWR_LOG_COUNT", base := 0x01000064, clear := .aon, mgmt := true },
    { id := .pwrLogTorn, name := "PWR_LOG_TORN", base := 0x01000068, clear := .aon, mgmt := true, fields := [⟨15, 0, .rc, 0, 0, 0xffff⟩] },
    { id := .pwrChatter, name := "PWR_CHATTER", base := 0x0100006C, clear := .aon, mgmt := true, fields := [⟨31, 24, .rc, 0, 0, 0xff⟩, ⟨23, 16, .rc, 0, 0, 0xff⟩, ⟨15, 8, .rc, 0, 0, 0xff⟩, ⟨7, 0, .rc, 0, 0, 0xff⟩] } ]

/-- The CLK block (R505, R506). -/
def regsClk : List RegSpec :=
  [
    { id := .clkRunning, name := "CLK_RUNNING", base := 0x02000000, clear := .reset },
    { id := .clkLost, name := "CLK_LOST", base := 0x02000004, clear := .keep, fields := [⟨27, 0, .rw1c, 0, 0, 0xfffffff⟩] },
    { id := .clkMclk, name := "CLK_MCLK_MHZ", base := 0x02000008, clear := .reset },
    { id := .gtcNowLo, name := "GTC_NOW_LO", base := 0x03000000, clear := .reset },
    { id := .gtcNowHi, name := "GTC_NOW_HI", base := 0x03000004, clear := .reset },
    { id := .gtcStatus, name := "GTC_STATUS", base := 0x03000008, clear := .reset },
    { id := .gtcAdjCount, name := "GTC_ADJ_COUNT", base := 0x0300000C, clear := .reset, fields := [⟨31, 0, .rc, 0, 0, 0xffffffff⟩] },
    { id := .gtcCorrLo, name := "GTC_CORR_LO", base := 0x03000010, clear := .reset, cmd := true, fields := [⟨31, 0, .wo, 0, 0, 0xffffffff⟩] },
    { id := .gtcCorrHi, name := "GTC_CORR_HI", base := 0x03000014, clear := .reset, cmd := true },
    { id := .gtcCorrLeft, name := "GTC_CORR_LEFT", base := 0x03000018, clear := .reset } ]

/-- The CANOPY block (R199, R200). -/
def regsCanopy : List RegSpec :=
  [
    { id := .canCtl, name := "CANOPY_CTL", base := 0x04000000, clear := .reset, mgmt := true, cmd := true, fields := [⟨2, 2, .rwl, 1, 0, 0x1⟩, ⟨1, 1, .rwl, 0, 0, 0x1⟩] },
    { id := .canMaintCmd, name := "CANOPY_MAINT_CMD", base := 0x04000010, clear := .reset, mgmt := true, cmd := true, fields := [⟨25, 16, .rw, 0, 0, 0x3ff⟩, ⟨3, 0, .rw, 0, 0, 0xf⟩] },
    { id := .canStartLo, name := "CANOPY_MAINT_START_LO", base := 0x04000014, clear := .reset, mgmt := true, fields := [⟨31, 0, .rw, 0, 0, 0xffffffff⟩] },
    { id := .canStartHi, name := "CANOPY_MAINT_START_HI", base := 0x04000018, clear := .reset, mgmt := true, fields := [⟨15, 0, .rw, 0, 0, 0xffff⟩] },
    { id := .canLenLo, name := "CANOPY_MAINT_LEN_LO", base := 0x0400001C, clear := .reset, mgmt := true, fields := [⟨31, 0, .rw, 0, 0, 0xffffffff⟩] },
    { id := .canLenHi, name := "CANOPY_MAINT_LEN_HI", base := 0x04000020, clear := .reset, mgmt := true, fields := [⟨15, 0, .rw, 0, 0, 0xffff⟩] },
    { id := .canMaintStatus, name := "CANOPY_MAINT_STATUS", base := 0x04000024, clear := .reset, mgmt := true },
    { id := .canMaintSkipped, name := "CANOPY_MAINT_SKIPPED", base := 0x04000028, clear := .reset, mgmt := true },
    { id := .canMaintLeft, name := "CANOPY_MAINT_LEFT", base := 0x0400002C, clear := .reset, mgmt := true },
    { id := .canErrLog0, name := "CANOPY_ERR_LOG0", base := 0x04000030, clear := .reset, fields := [⟨31, 31, .rws, 0, 0, 0x1⟩, ⟨30, 27, .rws, 0, 0, 0xf⟩, ⟨26, 23, .rws, 0, 0, 0xf⟩, ⟨17, 14, .rws, 0, 0, 0xf⟩, ⟨13, 0, .rws, 0, 0, 0x3fff⟩] },
    { id := .canErrLog1, name := "CANOPY_ERR_LOG1", base := 0x04000034, clear := .reset, fields := [⟨9, 0, .rws, 0, 0, 0x3ff⟩] },
    { id := .canErrCount, name := "CANOPY_ERR_COUNT", base := 0x04000038, clear := .reset, fields := [⟨31, 16, .rc, 0, 0, 0xffff⟩, ⟨15, 0, .rc, 0, 0, 0xffff⟩] },
    { id := .canPinLines, name := "CANOPY_PIN_LINES", base := 0x04000040, clear := .reset },
    { id := .canWaymask, name := "CANOPY_WAYMASK", base := 0x04000100, n1 := 31, s1 := 4, clear := .reset, fields := [⟨15, 0, .rwl, 0xFFFF, 0, 0xffff⟩] },
    { id := .canWaymask31, name := "CANOPY_WAYMASK31", base := 0x0400017C, clear := .reset, fields := [⟨15, 0, .rwl, 0, 0, 0xffff⟩] } ]

/-- The TIER block (R73, R170, R171). -/
def regsTier : List RegSpec :=
  [
    { id := .tierCellarMode, name := "TIER_CELLAR_MODE", base := 0x05000000, clear := .reset, fields := [⟨1, 0, .rwl, 1, 0, 0x3⟩] },
    { id := .tierCeiling, name := "TIER_CEILING", base := 0x05000004, clear := .reset, fields := [⟨10, 0, .rwl, 24, 1, 1024⟩] },
    { id := .tierDirty, name := "TIER_DIRTY", base := 0x05000008, clear := .reset },
    { id := .tierMetaDirty, name := "TIER_META_DIRTY", base := 0x0500000C, clear := .reset },
    { id := .tierVaultTime, name := "TIER_VAULT_TIME", base := 0x05000010, clear := .reset },
    { id := .tierVaultLast, name := "TIER_VAULT_LAST", base := 0x05000014, clear := .reset },
    { id := .tierWearCfg, name := "TIER_WEAR_CFG", base := 0x05000018, clear := .reset, fields := [⟨31, 16, .rwl, 100, 10, 10000⟩, ⟨7, 0, .rwl, 7, 1, 20⟩] },
    { id := .tierWearAllow, name := "TIER_WEAR_ALLOW", base := 0x0500001C, clear := .reset },
    { id := .tierWearUsedLo, name := "TIER_WEAR_USED_LO", base := 0x05000020, clear := .reset },
    { id := .tierWearUsedHi, name := "TIER_WEAR_USED_HI", base := 0x05000024, clear := .reset },
    { id := .tierFreeFrames, name := "TIER_FREE_FRAMES", base := 0x05000028, clear := .reset },
    { id := .tierFreeLow, name := "TIER_FREE_LOW", base := 0x0500002C, clear := .reset, fields := [⟨26, 0, .rwl, 0, 0, 0x7ffffff⟩] },
    { id := .tierSchedCount, name := "TIER_SCHED_COUNT", base := 0x05000030, clear := .reset },
    { id := .tierSchedEntries, name := "TIER_SCHED_ENTRIES", base := 0x05000034, clear := .reset },
    { id := .tierPoisonIndex, name := "TIER_POISON_INDEX", base := 0x05000038, clear := .reset, fields := [⟨5, 0, .rw, 0, 0, 0x3f⟩] },
    { id := .tierPoisonData, name := "TIER_POISON_DATA", base := 0x0500003C, n1 := 6, s1 := 4, clear := .reset },
    { id := .tierPoisonCount, name := "TIER_POISON_COUNT", base := 0x05000054, clear := .reset },
    { id := .tierPoisonLost, name := "TIER_POISON_LOST", base := 0x05000058, clear := .reset, fields := [⟨31, 0, .rc, 0, 0, 0xffffffff⟩] },
    { id := .groveStatus, name := "TIER_GROVE_STATUS", base := 0x05100000, n1 := 1023, s1 := 4, clear := .reset, fields := [⟨11, 11, .rw1c, 0, 0, 0x1⟩, ⟨10, 10, .rw1c, 0, 0, 0x1⟩] } ]

/-- The DRAM block (R231, R232). -/
def regsDram : List RegSpec :=
  [
    { id := .dramChStatus, name := "DRAM_CH_STATUS", base := 0x06000000, n1 := 16, s1 := 65536, clear := .keep, mgmt := true },
    { id := .dramChCmd, name := "DRAM_CH_CMD", base := 0x06000004, n1 := 16, s1 := 65536, clear := .keep, mgmt := true, cmd := true },
    { id := .dramCeCount, name := "DRAM_CE_COUNT", base := 0x06000008, n1 := 16, s1 := 65536, clear := .keep, mgmt := true, fields := [⟨31, 0, .rc, 0, 0, 0xffffffff⟩] },
    { id := .dramCaCount, name := "DRAM_CA_COUNT", base := 0x0600000C, n1 := 16, s1 := 65536, clear := .keep, mgmt := true, fields := [⟨31, 16, .rc, 0, 0, 0xffff⟩, ⟨15, 0, .rc, 0, 0, 0xffff⟩] },
    { id := .dramUeIndex, name := "DRAM_UE_INDEX", base := 0x06000010, n1 := 16, s1 := 65536, clear := .keep, mgmt := true, fields := [⟨4, 0, .rw, 0, 0, 0x1f⟩] },
    { id := .dramUeData, name := "DRAM_UE_DATA", base := 0x06000014, n1 := 16, s1 := 65536, n2 := 4, s2 := 4, clear := .keep, mgmt := true },
    { id := .dramUeCount, name := "DRAM_UE_COUNT", base := 0x06000024, n1 := 16, s1 := 65536, clear := .keep, mgmt := true },
    { id := .dramUeLost, name := "DRAM_UE_LOST", base := 0x06000028, n1 := 16, s1 := 65536, clear := .keep, mgmt := true, fields := [⟨31, 0, .rc, 0, 0, 0xffffffff⟩] },
    { id := .dramPatrolLap, name := "DRAM_PATROL_LAP", base := 0x0600002C, n1 := 16, s1 := 65536, clear := .keep, mgmt := true },
    { id := .dramPatrolPos, name := "DRAM_PATROL_POS", base := 0x06000030, n1 := 16, s1 := 65536, clear := .keep, mgmt := true },
    { id := .dramRtSplits, name := "DRAM_RT_SPLITS", base := 0x06000034, n1 := 16, s1 := 65536, clear := .keep, mgmt := true, fields := [⟨31, 0, .rc, 0, 0, 0xffffffff⟩] },
    { id := .dramTrainTime, name := "DRAM_TRAIN_TIME", base := 0x06000038, n1 := 16, s1 := 65536, clear := .keep, mgmt := true },
    { id := .dramNodeCfg, name := "DRAM_NODE_CFG", base := 0x06100000, clear := .keep, mgmt := true, fields := [⟨23, 16, .rwl, 80, 0, 0xff⟩, ⟨1, 0, .rwl, 0, 0, 0x3⟩] },
    { id := .dramSrIdle, name := "DRAM_SR_IDLE", base := 0x06100004, clear := .keep, mgmt := true, fields := [⟨19, 0, .rw, 1000, 0, 0xfffff⟩] },
    { id := .dramPatrolCfg, name := "DRAM_PATROL_CFG", base := 0x06100008, clear := .keep, mgmt := true, fields := [⟨15, 8, .rw, 48, 1, 255⟩, ⟨7, 0, .rw, 24, 1, 168⟩] },
    { id := .dramEvacCmd, name := "DRAM_EVAC_CMD", base := 0x06100010, clear := .keep, mgmt := true, cmd := true },
    { id := .dramEvacStatus, name := "DRAM_EVAC_STATUS", base := 0x06100014, clear := .keep, mgmt := true },
    { id := .dramEvacLeft, name := "DRAM_EVAC_LEFT", base := 0x06100018, clear := .keep, mgmt := true },
    { id := .dramRegCfg, name := "DRAM_REG_CFG", base := 0x06100100, n1 := 48, s1 := 8, clear := .keep, mgmt := true, fields := [⟨31, 31, .rwl, 0, 0, 0x1⟩, ⟨30, 29, .rwl, 0, 0, 0x3⟩, ⟨27, 16, .rwl, 0, 0, 0xfff⟩, ⟨15, 0, .rw, 0, 0, 0xffff⟩] },
    { id := .dramRegRate, name := "DRAM_REG_RATE", base := 0x06100104, n1 := 48, s1 := 8, clear := .keep, mgmt := true, fields := [⟨13, 0, .rw, 0, 0, 0x3fff⟩] },
    { id := .dramSetLo, name := "DRAM_SET_LO", base := 0x06100400, n1 := 16, s1 := 8, clear := .keep, mgmt := true },
    { id := .dramSetHi, name := "DRAM_SET_HI", base := 0x06100404, n1 := 16, s1 := 8, clear := .keep, mgmt := true } ]

/-- The NAND block (R257, R258). -/
def regsNand : List RegSpec :=
  [
    { id := .nandChStatus, name := "NAND_CH_STATUS", base := 0x07000000, n1 := 32, s1 := 65536, clear := .keep, mgmt := true },
    { id := .nandChCause, name := "NAND_CH_CAUSE", base := 0x07000004, n1 := 32, s1 := 65536, clear := .keep, mgmt := true, fields := [⟨3, 0, .rw1c, 0, 0, 0xf⟩] },
    { id := .nandLadder, name := "NAND_LADDER_COUNT", base := 0x07000008, n1 := 32, s1 := 65536, clear := .keep, mgmt := true, fields := [⟨31, 16, .rc, 0, 0, 0xffff⟩, ⟨15, 0, .rc, 0, 0, 0xffff⟩] },
    { id := .nandUeCount, name := "NAND_UE_COUNT", base := 0x0700000C, n1 := 32, s1 := 65536, clear := .keep, mgmt := true, fields := [⟨31, 0, .rc, 0, 0, 0xffffffff⟩] },
    { id := .nandBadBlocks, name := "NAND_BAD_BLOCKS", base := 0x07000010, n1 := 32, s1 := 65536, clear := .keep, mgmt := true },
    { id := .nandDie, name := "NAND_DIE", base := 0x07000100, n1 := 32, s1 := 65536, n2 := 32, s2 := 4, clear := .keep, mgmt := true },
    { id := .nandNodeCfg, name := "NAND_NODE_CFG", base := 0x07200000, clear := .keep, mgmt := true, fields := [⟨31, 24, .rwl, 36, 0, 0xff⟩, ⟨21, 16, .rwl, 10, 0, 0x3f⟩, ⟨15, 11, .rwl, 8, 0, 0x1f⟩, ⟨7, 4, .rwl, 2, 0, 0xf⟩, ⟨2, 2, .rwl, 0, 0, 0x1⟩, ⟨1, 0, .rwl, 1, 0, 0x3⟩] },
    { id := .nandRdLimit, name := "NAND_RD_LIMIT", base := 0x07200004, clear := .keep, mgmt := true, fields := [⟨13, 0, .rwl, 500, 10, 10000⟩] },
    { id := .nandWlDelta, name := "NAND_WL_DELTA", base := 0x07200008, clear := .keep, mgmt := true, fields := [⟨15, 0, .rwl, 300, 50, 5000⟩] },
    { id := .nandScanCfg, name := "NAND_SCAN_CFG", base := 0x0720000C, clear := .keep, mgmt := true, fields := [⟨15, 8, .rw, 30, 1, 255⟩, ⟨7, 0, .rw, 14, 1, 90⟩] },
    { id := .nandScanLap, name := "NAND_SCAN_LAP", base := 0x07200010, clear := .keep, mgmt := true },
    { id := .nandReclaimCfg, name := "NAND_RECLAIM_CFG", base := 0x07200014, clear := .keep, mgmt := true, fields := [⟨23, 16, .rwl, 5, 0, 0xff⟩, ⟨7, 0, .rwl, 20, 0, 0xff⟩] },
    { id := .nandFreeTiles, name := "NAND_FREE_TILES", base := 0x07200018, clear := .keep, mgmt := true },
    { id := .nandUsedTiles, name := "NAND_USED_TILES", base := 0x0720001C, clear := .keep, mgmt := true },
    { id := .nandRebuildCfg, name := "NAND_REBUILD_CFG", base := 0x07200020, clear := .keep, mgmt := true, fields := [⟨15, 0, .rw, 40, 1, 1000⟩] },
    { id := .nandRebuildStatus, name := "NAND_REBUILD_STATUS", base := 0x07200024, clear := .keep, mgmt := true },
    { id := .nandRebuildLeft, name := "NAND_REBUILD_LEFT", base := 0x07200028, clear := .keep, mgmt := true },
    { id := .nandFtlCause, name := "NAND_FTL_CAUSE", base := 0x0720002C, clear := .keep, mgmt := true, fields := [⟨5, 0, .rw1c, 0, 0, 0x3f⟩] },
    { id := .nandUnprotected, name := "NAND_UNPROTECTED", base := 0x07200030, clear := .keep, mgmt := true },
    { id := .nandCellarFree, name := "NAND_CELLAR_FREE", base := 0x07200034, clear := .keep, mgmt := true },
    { id := .nandErasePending, name := "NAND_ERASE_PENDING", base := 0x07200038, clear := .keep, mgmt := true } ]

/-- The HOST block (R283 to R285). -/
def regsHost : List RegSpec :=
  [
    { id := .hostStatus, name := "HOST_PORT_STATUS", base := 0x08000000, n1 := 16, s1 := 65536, clear := .reset, mgmt := true },
    { id := .hostCmd, name := "HOST_PORT_CMD", base := 0x08000004, n1 := 16, s1 := 65536, clear := .reset, mgmt := true, cmd := true },
    { id := .hostCause, name := "HOST_PORT_CAUSE", base := 0x08000008, n1 := 16, s1 := 65536, clear := .reset, mgmt := true, fields := [⟨6, 0, .rw1c, 0, 0, 0x7f⟩] },
    { id := .hostHold, name := "HOST_HOLD", base := 0x0800000C, n1 := 16, s1 := 65536, clear := .reset, mgmt := true, fields := [⟨31, 16, .rc, 0, 0, 0xffff⟩] },
    { id := .hostAccIndex, name := "HOST_ACCESS_INDEX", base := 0x08000010, n1 := 16, s1 := 65536, clear := .reset, mgmt := true, fields := [⟨4, 0, .rw, 0, 0, 0x1f⟩] },
    { id := .hostAccData, name := "HOST_ACCESS_DATA", base := 0x08000014, n1 := 16, s1 := 65536, n2 := 4, s2 := 4, clear := .reset, mgmt := true },
    { id := .hostAccCount, name := "HOST_ACCESS_COUNT", base := 0x08000024, n1 := 16, s1 := 65536, clear := .reset, mgmt := true },
    { id := .hostAccLost, name := "HOST_ACCESS_LOST", base := 0x08000028, n1 := 16, s1 := 65536, clear := .reset, mgmt := true, fields := [⟨31, 0, .rc, 0, 0, 0xffffffff⟩] },
    { id := .hostLdStatus, name := "HOST_LD_STATUS", base := 0x08000100, n1 := 16, s1 := 65536, n2 := 16, s2 := 4, clear := .reset, mgmt := true },
    { id := .hostGroupCfg, name := "HOST_GROUP_CFG", base := 0x08100000, n1 := 4, s1 := 4, clear := .reset, mgmt := true, fields := [⟨7, 4, .rwl, 6, 0, 0xf⟩, ⟨1, 0, .rwl, 0, 0, 0x3⟩] },
    { id := .hostRspWd, name := "HOST_RSP_WD", base := 0x08100010, clear := .reset, mgmt := true, fields := [⟨15, 0, .rw, 16, 1, 65535⟩] } ]

/-- The NET block (R323 to R325). -/
def regsNet : List RegSpec :=
  [
    { id := .netStatus, name := "NET_PORT_STATUS", base := 0x09000000, n1 := 8, s1 := 65536, clear := .keep, mgmt := true },
    { id := .netCause, name := "NET_PORT_CAUSE", base := 0x09000004, n1 := 8, s1 := 65536, clear := .keep, mgmt := true, fields := [⟨2, 0, .rw1c, 0, 0, 0x7⟩] },
    { id := .netFecCorr, name := "NET_FEC_CORR", base := 0x09000008, n1 := 8, s1 := 65536, clear := .keep, mgmt := true, fields := [⟨31, 0, .rc, 0, 0, 0xffffffff⟩] },
    { id := .netFecUncorr, name := "NET_FEC_UNCORR", base := 0x0900000C, n1 := 8, s1 := 65536, clear := .keep, mgmt := true, fields := [⟨31, 0, .rc, 0, 0, 0xffffffff⟩] },
    { id := .netRxDrop, name := "NET_RX_DROP", base := 0x09000010, n1 := 8, s1 := 65536, clear := .keep, mgmt := true, fields := [⟨31, 0, .rc, 0, 0, 0xffffffff⟩] },
    { id := .netPtpCount, name := "NET_PTP_COUNT", base := 0x09000014, n1 := 8, s1 := 65536, clear := .keep, mgmt := true },
    { id := .netPtpTsLo, name := "NET_PTP_TS_LO", base := 0x09000018, n1 := 8, s1 := 65536, clear := .keep, mgmt := true },
    { id := .netPtpTsHi, name := "NET_PTP_TS_HI", base := 0x0900001C, n1 := 8, s1 := 65536, clear := .keep, mgmt := true },
    { id := .netPtpTsId, name := "NET_PTP_TS_ID", base := 0x09000020, n1 := 8, s1 := 65536, clear := .keep, mgmt := true },
    { id := .netPtpLost, name := "NET_PTP_LOST", base := 0x09000024, n1 := 8, s1 := 65536, clear := .keep, mgmt := true, fields := [⟨31, 0, .rc, 0, 0, 0xffffffff⟩] },
    { id := .netCfg, name := "NET_CFG", base := 0x09100000, clear := .keep, mgmt := true, fields := [⟨31, 16, .rwl, 7140, 1024, 65535⟩, ⟨15, 12, .rwl, 1, 0, 2⟩, ⟨11, 8, .rwl, 2, 1, 2⟩] },
    { id := .netQpCredit, name := "NET_QP_CREDIT", base := 0x09100004, clear := .keep, mgmt := true, fields := [⟨15, 0, .rw, 64, 1, 32767⟩] },
    { id := .netReserve, name := "NET_ARRIVAL_RESERVE", base := 0x09100008, clear := .keep, mgmt := true, fields := [⟨5, 0, .rwl, 32, 1, 40⟩] },
    { id := .netAckCfg, name := "NET_ACK_CFG", base := 0x0910000C, clear := .keep, mgmt := true, fields := [⟨15, 8, .rw, 16, 1, 255⟩, ⟨7, 0, .rw, 10, 1, 255⟩] },
    { id := .netRto, name := "NET_RTO", base := 0x09100010, clear := .keep, mgmt := true, fields := [⟨19, 16, .rw, 8, 1, 15⟩, ⟨15, 0, .rw, 100, 10, 65535⟩] },
    { id := .netQpOpen, name := "NET_QP_OPEN", base := 0x09100020, clear := .keep, mgmt := true },
    { id := .netPeers, name := "NET_PEERS", base := 0x09100024, clear := .keep, mgmt := true },
    { id := .netKeys, name := "NET_KEYS", base := 0x09100028, clear := .keep, mgmt := true },
    { id := .netRevokePending, name := "NET_REVOKE_PENDING", base := 0x0910002C, clear := .keep, mgmt := true },
    { id := .netCreditOut, name := "NET_CREDIT_OUT", base := 0x09100030, clear := .keep, mgmt := true },
    { id := .netCtxMiss, name := "NET_CTX_MISS", base := 0x09100034, clear := .keep, mgmt := true, fields := [⟨31, 0, .rc, 0, 0, 0xffffffff⟩] },
    { id := .netKeyMiss, name := "NET_KEY_MISS", base := 0x09100038, clear := .keep, mgmt := true, fields := [⟨31, 0, .rc, 0, 0, 0xffffffff⟩] },
    { id := .netNakSent, name := "NET_NAK_SENT", base := 0x0910003C, clear := .keep, mgmt := true, fields := [⟨31, 0, .rc, 0, 0, 0xffffffff⟩] },
    { id := .netCmd, name := "NET_CMD", base := 0x09100040, clear := .keep, mgmt := true, cmd := true },
    { id := .netCmdArg, name := "NET_CMD_ARG", base := 0x09100044, clear := .keep, mgmt := true, fields := [⟨31, 0, .wo, 0, 0, 0xffffffff⟩] } ]

/-- The TWIN block (R127 to R129, R509). -/
def regsTwin : List RegSpec :=
  [
    { id := .twinRole, name := "TWIN_ROLE", base := 0x0A000000, clear := .reset },
    { id := .twinEpoch, name := "TWIN_EPOCH", base := 0x0A000004, clear := .reset },
    { id := .twinTimers, name := "TWIN_TIMERS", base := 0x0A000008, clear := .reset, fields := [⟨31, 22, .rwl, 10, 0, 600⟩, ⟨21, 21, .rwl, 0, 0, 0x1⟩, ⟨15, 10, .rwl, 5, 5, 48⟩, ⟨9, 0, .rwl, 20, 5, 1000⟩] },
    { id := .twinLink, name := "TWIN_LINK_STATUS", base := 0x0A00000C, clear := .reset },
    { id := .twinFeatures, name := "TWIN_FEATURES", base := 0x0A000010, clear := .reset },
    { id := .twinLag, name := "TWIN_LAG", base := 0x0A000014, clear := .reset, fields := [⟨31, 16, .rc, 0, 0, 0xffff⟩] },
    { id := .twinSeqLo, name := "TWIN_SEQ_LO", base := 0x0A000018, clear := .reset },
    { id := .twinSeqHi, name := "TWIN_SEQ_HI", base := 0x0A00001C, clear := .reset },
    { id := .twinLeftLo, name := "TWIN_RESYNC_LEFT_LO", base := 0x0A000020, clear := .reset },
    { id := .twinLeftHi, name := "TWIN_RESYNC_LEFT_HI", base := 0x0A000024, clear := .reset },
    { id := .twinDivCount, name := "TWIN_DIV_COUNT", base := 0x0A000028, clear := .reset },
    { id := .twinDivLost, name := "TWIN_DIV_LOST", base := 0x0A00002C, clear := .reset },
    { id := .twinDivIndex, name := "TWIN_DIV_INDEX", base := 0x0A000030, clear := .reset, fields := [⟨19, 0, .rw, 0, 0, 0xfffff⟩] },
    { id := .twinDivData, name := "TWIN_DIV_DATA", base := 0x0A000034, n1 := 3, s1 := 4, clear := .reset },
    { id := .twinDivData3, name := "TWIN_DIV_DATA3 on a read, TWIN_CMD on a write", base := 0x0A000040, clear := .reset, mgmt := true, cmd := true },
    { id := .twinCmdArg, name := "TWIN_CMD_ARG", base := 0x0A000044, clear := .reset, fields := [⟨31, 0, .wo, 0, 0, 0xffffffff⟩] },
    { id := .twinCmdStatus, name := "TWIN_CMD_STATUS", base := 0x0A000048, clear := .reset } ]

/-- The CIPHER block (R351, R352). -/
def regsCipher : List RegSpec :=
  [
    { id := .ciphStatus, name := "CIPHER_STATUS", base := 0x0B000000, clear := .reset, mgmt := true },
    { id := .ciphCtl, name := "CIPHER_CTL", base := 0x0B000004, clear := .reset, mgmt := true, fields := [⟨0, 0, .rwl, 1, 0, 0x1⟩] },
    { id := .ciphSlotIndex, name := "CIPHER_SLOT_INDEX", base := 0x0B000010, clear := .reset, mgmt := true, fields := [⟨11, 0, .rw, 0, 0, 0xfff⟩] },
    { id := .ciphSlotInfo, name := "CIPHER_SLOT_INFO", base := 0x0B000014, clear := .reset, mgmt := true },
    { id := .ciphCtrLo, name := "CIPHER_SLOT_CTR_LO", base := 0x0B000018, clear := .reset, mgmt := true },
    { id := .ciphCtrHi, name := "CIPHER_SLOT_CTR_HI", base := 0x0B00001C, clear := .reset, mgmt := true },
    { id := .ciphSlotRoll, name := "CIPHER_SLOT_ROLL", base := 0x0B000020, clear := .reset, mgmt := true },
    { id := .ciphCmd, name := "CIPHER_CMD", base := 0x0B000030, clear := .reset, mgmt := true, cmd := true },
    { id := .ciphCmdStatus, name := "CIPHER_CMD_STATUS", base := 0x0B000034, clear := .reset, mgmt := true },
    { id := .ciphClassCfg, name := "CIPHER_CLASS_CFG0-4", base := 0x0B000100, n1 := 5, s1 := 4, clear := .reset, mgmt := true, fields := [⟨6, 0, .rw, 0, 0, 64⟩] },
    { id := .ciphClassCfg5, name := "CIPHER_CLASS_CFG5-8", base := 0x0B000114, n1 := 4, s1 := 4, clear := .reset, mgmt := true, fields := [⟨6, 0, .rw, 2, 0, 64⟩] },
    { id := .ciphClassWait, name := "CIPHER_CLASS_WAIT", base := 0x0B000140, n1 := 9, s1 := 4, clear := .reset, mgmt := true, fields := [⟨31, 0, .rc, 0, 0, 0xffffffff⟩] },
    { id := .ciphRqBaseLo, name := "CIPHER_RQ_BASE_LO", base := 0x0B000200, clear := .reset, mgmt := true, fields := [⟨31, 0, .rw, 0, 0, 0xffffffff⟩] },
    { id := .ciphRqBaseHi, name := "CIPHER_RQ_BASE_HI", base := 0x0B000204, clear := .reset, mgmt := true, fields := [⟨31, 0, .rw, 0, 0, 0xffffffff⟩] },
    { id := .ciphRqSize, name := "CIPHER_RQ_SIZE", base := 0x0B000208, clear := .reset, mgmt := true, fields := [⟨3, 0, .rw, 4, 4, 12⟩] },
    { id := .ciphRqTail, name := "CIPHER_RQ_TAIL", base := 0x0B00020C, clear := .reset, mgmt := true, cmd := true, fields := [⟨11, 0, .rw, 0, 0, 0xfff⟩] },
    { id := .ciphRqHead, name := "CIPHER_RQ_HEAD", base := 0x0B000210, clear := .reset, mgmt := true },
    { id := .ciphRqStatus, name := "CIPHER_RQ_STATUS", base := 0x0B000214, clear := .reset, mgmt := true, cmd := true, fields := [⟨31, 31, .rw1c, 0, 0, 0x1⟩, ⟨15, 0, .rc, 0, 0, 0xffff⟩] } ]

/-- The INTEG block (R438, R439). -/
def regsInteg : List RegSpec :=
  [
    { id := .intStatus, name := "INTEG_STATUS", base := 0x0C000000, clear := .reset, mgmt := true },
    { id := .intScrubCfg, name := "INTEG_SCRUB_CFG", base := 0x0C000004, clear := .reset, mgmt := true, fields := [⟨31, 16, .rw, 1000, 1, 65535⟩, ⟨7, 0, .rw, 16, 1, 255⟩] },
    { id := .intScrubLap, name := "INTEG_SCRUB_LAP", base := 0x0C000008, clear := .reset, mgmt := true },
    { id := .intFlipMask0, name := "INTEG_FLIPMASK0", base := 0x0C000010, clear := .reset, mgmt := true, fields := [⟨31, 0, .rw, 0, 0, 0xffffffff⟩] },
    { id := .intFlipMask1, name := "INTEG_FLIPMASK1", base := 0x0C000014, clear := .reset, mgmt := true, fields := [⟨31, 0, .rw, 0, 0, 0xffffffff⟩] },
    { id := .intFlipMask2, name := "INTEG_FLIPMASK2", base := 0x0C000018, clear := .reset, mgmt := true, fields := [⟨15, 0, .rw, 0, 0, 0xffff⟩] },
    { id := .intFlipSel, name := "INTEG_FLIP_SEL", base := 0x0C00001C, clear := .reset, mgmt := true, cmd := true, fields := [⟨31, 31, .rw, 0, 0, 0x1⟩, ⟨30, 30, .rw, 0, 0, 0x1⟩, ⟨23, 11, .rw, 0, 0, 0x1fff⟩, ⟨10, 0, .rw, 0, 0, 0x7ff⟩] },
    { id := .intCeCount, name := "INTEG_CE_COUNT", base := 0x0C000040, n1 := 7, s1 := 4, clear := .reset, mgmt := true, fields := [⟨31, 0, .rc, 0, 0, 0xffffffff⟩] },
    { id := .intErrLog0, name := "INTEG_ERR_LOG0", base := 0x0C000060, clear := .cold, mgmt := true, fields := [⟨31, 31, .rws, 0, 0, 0x1⟩, ⟨30, 28, .rws, 0, 0, 0x7⟩, ⟨27, 27, .rws, 0, 0, 0x1⟩, ⟨23, 11, .rws, 0, 0, 0x1fff⟩, ⟨10, 0, .rws, 0, 0, 0x7ff⟩] },
    { id := .intErrLog1, name := "INTEG_ERR_LOG1", base := 0x0C000064, clear := .cold, mgmt := true, fields := [⟨15, 8, .rws, 0, 0, 0xff⟩, ⟨7, 0, .rws, 0, 0, 0xff⟩] },
    { id := .intCeLog, name := "INTEG_CE_LOG", base := 0x0C000068, clear := .reset, mgmt := true },
    { id := .intRepairIndex, name := "INTEG_REPAIR_INDEX", base := 0x0C000070, clear := .reset, mgmt := true, fields := [⟨9, 0, .rw, 0, 0, 0x3ff⟩] },
    { id := .intRepairData, name := "INTEG_REPAIR_DATA", base := 0x0C000074, n1 := 4, s1 := 4, clear := .reset, mgmt := true },
    { id := .intMacIndex, name := "INTEG_MACRO_INDEX", base := 0x0C000090, clear := .reset, mgmt := true, fields := [⟨12, 0, .rw, 0, 0, 0x1fff⟩] },
    { id := .intMacInfo, name := "INTEG_MACRO_INFO", base := 0x0C000094, clear := .reset, mgmt := true } ]

/-- The FLT block (R440, R441). -/
def regsFlt : List RegSpec :=
  [
    { id := .fltStatus, name := "FLT_STATUS", base := 0x0D000000, clear := .reset, mgmt := true, fields := [⟨27, 27, .rw1c, 0, 0, 0x1⟩] },
    { id := .fltSticky, name := "FLT_SRC_STICKY", base := 0x0D000010, n1 := 20, s1 := 4, clear := .cold, mgmt := true, fields := [⟨31, 0, .rw1c, 0, 0, 0xffffffff⟩] },
    { id := .fltSevere, name := "FLT_SEVERE", base := 0x0D000060, n1 := 20, s1 := 4, clear := .reset, mgmt := true, cmd := true },
    { id := .fltGrace, name := "FLT_GRACE", base := 0x0D0000B0, clear := .reset, mgmt := true },
    { id := .fltSrcIndex, name := "FLT_SRC_INDEX", base := 0x0D0000C0, clear := .reset, mgmt := true, fields := [⟨9, 0, .rw, 0, 0, 639⟩] },
    { id := .fltSrcCfg, name := "FLT_SRC_CFG", base := 0x0D0000C4, clear := .reset, mgmt := true, cmd := true },
    { id := .fltSrcWin, name := "FLT_SRC_WIN", base := 0x0D0000C8, clear := .reset, mgmt := true, cmd := true },
    { id := .fltSrcState, name := "FLT_SRC_STATE", base := 0x0D0000CC, clear := .reset, mgmt := true },
    { id := .fltFirst, name := "FLT_FIRST", base := 0x0D0000D0, clear := .reset, mgmt := true, fields := [⟨31, 31, .rws, 0, 0, 0x1⟩, ⟨9, 0, .rws, 0, 0, 0x3ff⟩] },
    { id := .fltFirstLo, name := "FLT_FIRST_GTC_LO", base := 0x0D0000D4, clear := .reset, mgmt := true, fields := [⟨31, 0, .rws, 0, 0, 0xffffffff⟩] },
    { id := .fltFirstHi, name := "FLT_FIRST_GTC_HI", base := 0x0D0000D8, clear := .reset, mgmt := true, fields := [⟨31, 0, .rws, 0, 0, 0xffffffff⟩] },
    { id := .fltCmd, name := "FLT_CMD", base := 0x0D0000E0, clear := .reset, mgmt := true, cmd := true } ]

/-- The COP block (R462). -/
def regsCop : List RegSpec :=
  [
    { id := .copStatus, name := "COP_STATUS", base := 0x0E000000, clear := .reset, mgmt := true },
    { id := .copThresh, name := "COP_THRESH", base := 0x0E000010, n1 := 3, s1 := 4, clear := .reset, mgmt := true, fields := [⟨29, 20, .rw, 128, 0, 0x3ff⟩, ⟨19, 10, .rw, 64, 0, 0x3ff⟩, ⟨9, 0, .rw, 16, 0, 0x3ff⟩] },
    { id := .copThresh3, name := "COP_THRESH3", base := 0x0E00001C, clear := .reset, mgmt := true, fields := [⟨29, 20, .rw, 256, 0, 0x3ff⟩, ⟨19, 10, .rw, 128, 0, 0x3ff⟩, ⟨9, 0, .rw, 32, 0, 0x3ff⟩] },
    { id := .copFree, name := "COP_FREE", base := 0x0E000020, n1 := 4, s1 := 4, clear := .reset, mgmt := true },
    { id := .copBlocks, name := "COP_BLOCKS", base := 0x0E000030, n1 := 3, s1 := 4, clear := .reset, mgmt := true },
    { id := .copUnclaimed, name := "COP_UNCLAIMED", base := 0x0E000040, clear := .reset, mgmt := true },
    { id := .copLow, name := "COP_LOW", base := 0x0E000050, n1 := 4, s1 := 4, clear := .reset, mgmt := true, fields := [⟨31, 0, .rc, 0, 0, 0xffffffff⟩] },
    { id := .copBadFree, name := "COP_BADFREE", base := 0x0E000060, clear := .reset, mgmt := true, fields := [⟨31, 16, .rc, 0, 0, 0xffff⟩, ⟨15, 0, .rc, 0, 0, 0xffff⟩] },
    { id := .copBadLast, name := "COP_BADFREE_LAST", base := 0x0E000064, clear := .reset, mgmt := true },
    { id := .copBadWho, name := "COP_BADFREE_WHO", base := 0x0E000068, clear := .reset, mgmt := true },
    { id := .copEcc, name := "COP_ECC", base := 0x0E00006C, clear := .reset, mgmt := true, fields := [⟨31, 16, .rc, 0, 0, 0xffff⟩, ⟨15, 0, .rc, 0, 0, 0xffff⟩] } ]

/-- The PERF block (R463). -/
def regsPerf : List RegSpec :=
  [
    { id := .perfCtl, name := "PERF_CTL", base := 0x0F000000, n1 := 24, s1 := 256, clear := .reset, mgmt := true, cmd := true, fields := [⟨31, 31, .rw, 0, 0, 0x1⟩, ⟨30, 30, .rw, 0, 0, 0x1⟩, ⟨7, 0, .rw1c, 0, 0, 0xff⟩] },
    { id := .perfFilt, name := "PERF_FILT", base := 0x0F000004, n1 := 24, s1 := 256, clear := .reset, mgmt := true, fields := [⟨13, 8, .rw, 0x3F, 0, 0x3f⟩, ⟨2, 0, .rw, 7, 0, 0x7⟩] },
    { id := .perfSource, name := "PERF_MASTER", base := 0x0F000008, n1 := 24, s1 := 256, clear := .reset, mgmt := true, fields := [⟨27, 16, .rw, 0xFFF, 0, 0xfff⟩, ⟨11, 0, .rw, 0, 0, 0xfff⟩] },
    { id := .perfGrove, name := "PERF_GROVE", base := 0x0F00000C, n1 := 24, s1 := 256, clear := .reset, mgmt := true, fields := [⟨31, 31, .rw, 0, 0, 0x1⟩, ⟨9, 0, .rw, 0, 0, 0x3ff⟩] },
    { id := .perfStartLo, name := "PERF_START_LO", base := 0x0F000010, n1 := 24, s1 := 256, clear := .reset, mgmt := true, fields := [⟨31, 0, .rw, 0, 0, 0xffffffff⟩] },
    { id := .perfStartHi, name := "PERF_START_HI", base := 0x0F000014, n1 := 24, s1 := 256, clear := .reset, mgmt := true, fields := [⟨15, 0, .rw, 0, 0, 0xffff⟩] },
    { id := .perfEndLo, name := "PERF_END_LO", base := 0x0F000018, n1 := 24, s1 := 256, clear := .reset, mgmt := true, fields := [⟨31, 0, .rw, 0, 0, 0xffffffff⟩] },
    { id := .perfEndHi, name := "PERF_END_HI", base := 0x0F00001C, n1 := 24, s1 := 256, clear := .reset, mgmt := true, fields := [⟨15, 0, .rw, 0, 0, 0xffff⟩] },
    { id := .perfSel, name := "PERF_SEL", base := 0x0F000020, n1 := 24, s1 := 256, n2 := 8, s2 := 4, clear := .reset, mgmt := true, fields := [⟨31, 31, .rw, 0, 0, 0x1⟩, ⟨7, 0, .rw, 0, 0, 0xff⟩] },
    { id := .perfThresh, name := "PERF_THRESH", base := 0x0F000040, n1 := 24, s1 := 256, clear := .reset, mgmt := true, fields := [⟨31, 0, .rw, 0, 0, 0xffffffff⟩] },
    { id := .perfCycleLo, name := "PERF_CYCLE_LO", base := 0x0F000048, n1 := 24, s1 := 256, clear := .reset, mgmt := true },
    { id := .perfCycleHi, name := "PERF_CYCLE_HI", base := 0x0F00004C, n1 := 24, s1 := 256, clear := .reset, mgmt := true },
    { id := .perfCntLo, name := "PERF_CNT_LO", base := 0x0F000050, n1 := 24, s1 := 256, n2 := 8, s2 := 8, clear := .reset, mgmt := true },
    { id := .perfCntHi, name := "PERF_CNT_HI", base := 0x0F000054, n1 := 24, s1 := 256, n2 := 8, s2 := 8, clear := .reset, mgmt := true },
    { id := .perfGlobal, name := "PERF_GLOBAL", base := 0x0F001800, clear := .reset, mgmt := true, cmd := true } ]

/-- The REC block (R464). -/
def regsRec : List RegSpec :=
  [
    { id := .recStatus, name := "REC_STATUS", base := 0x10000000, clear := .keep, mgmt := true },
    { id := .recEpoch, name := "REC_EPOCH", base := 0x10000004, clear := .reset, mgmt := true, fields := [⟨13, 0, .rwl, 1000, 1, 10000⟩] },
    { id := .recPaths, name := "REC_PATHS", base := 0x10000008, clear := .reset, mgmt := true, fields := [⟨15, 0, .rwl, 0, 0, 0xffff⟩] },
    { id := .recCmd, name := "REC_CMD", base := 0x1000000C, clear := .reset, mgmt := true, cmd := true },
    { id := .recIndex, name := "REC_INDEX", base := 0x10000010, clear := .reset, mgmt := true, fields := [⟨11, 0, .rw, 0, 0, 0xfff⟩] },
    { id := .recLost, name := "REC_LOST", base := 0x10000014, clear := .cold, mgmt := true, fields := [⟨31, 0, .rc, 0, 0, 0xffffffff⟩] },
    { id := .recData, name := "REC_DATA", base := 0x10000100, n1 := 40, s1 := 4, clear := .reset, mgmt := true } ]

/-- The CFG block (R380, R381, R489, R490). -/
def regsCfg : List RegSpec :=
  [
    { id := .flashKey, name := "CFG_FLASH_KEY", base := 0x11000000, clear := .reset, mgmt := true, cmd := true },
    { id := .flashCmd, name := "CFG_FLASH_CMD", base := 0x11000004, clear := .reset, mgmt := true, cmd := true },
    { id := .flashAddr, name := "CFG_FLASH_ADDR", base := 0x11000008, clear := .reset, mgmt := true, cmd := true, fields := [⟨26, 0, .rw, 0, 0, 0x7ffffff⟩] },
    { id := .flashData, name := "CFG_FLASH_DATA", base := 0x1100000C, clear := .reset, mgmt := true, cmd := true },
    { id := .flashCtl, name := "CFG_FLASH_CTL", base := 0x11000010, clear := .reset, mgmt := true, cmd := true, fields := [⟨0, 0, .rw, 0, 0, 0x1⟩] },
    { id := .flashStatus, name := "CFG_FLASH_STATUS", base := 0x11000014, clear := .reset, mgmt := true },
    { id := .flashErases, name := "CFG_FLASH_ERASES", base := 0x11000018, clear := .reset, mgmt := true },
    { id := .cfgRdp, name := "CFG_RDP", base := 0x11000020, clear := .keep, mgmt := true, cmd := true },
    { id := .imgStatus, name := "CFG_IMAGE_STATUS", base := 0x11010000, clear := .reset, mgmt := true },
    { id := .imgDetail, name := "CFG_IMAGE_DETAIL", base := 0x11010004, clear := .reset, mgmt := true },
    { id := .imgVersion, name := "CFG_IMAGE_VERSION", base := 0x11010008, clear := .reset, mgmt := true },
    { id := .imgLayoutLo, name := "CFG_IMAGE_LAYOUT_LO", base := 0x11010010, clear := .reset, mgmt := true },
    { id := .imgLayoutHi, name := "CFG_IMAGE_LAYOUT_HI", base := 0x11010014, clear := .reset, mgmt := true },
    { id := .imgCmd, name := "CFG_IMAGE_CMD", base := 0x11010020, clear := .reset, mgmt := true, cmd := true },
    { id := .imgCmdStatus, name := "CFG_IMAGE_CMD_STATUS", base := 0x11010024, clear := .reset, mgmt := true } ]

/-- The DBG block (R489, R490). -/
def regsDbg : List RegSpec :=
  [
    { id := .dbgStatus, name := "DBG_STATUS", base := 0x12000000, clear := .reset, mgmt := true },
    { id := .dbgCmd, name := "DBG_AUTH_CMD", base := 0x12000004, clear := .reset, mgmt := true, cmd := true },
    { id := .dbgChallenge, name := "DBG_CHALLENGE", base := 0x12000010, n1 := 8, s1 := 4, clear := .reset, mgmt := true },
    { id := .dbgResp, name := "DBG_RESP", base := 0x12000100, n1 := 48, s1 := 4, clear := .reset, mgmt := true, fields := [⟨31, 0, .wo, 0, 0, 0xffffffff⟩] } ]

/-- R508: every register of the controller. -/
def regTable : List RegSpec :=
  regsGlb ++ regsPwr ++ regsClk ++ regsCanopy ++ regsTier ++ regsDram ++ regsNand ++ regsHost ++ regsNet ++ regsTwin ++ regsCipher ++ regsInteg ++ regsFlt ++ regsCop ++ regsPerf ++ regsRec ++ regsCfg ++ regsDbg

/-- The instance of a register that an address names, if it is one of its addresses. -/
def RegSpec.hit (r : RegSpec) (addr : Nat) : Option (Nat × Nat) :=
  if addr < r.base then none
  else
    let off := addr - r.base
    let i := if r.n1 = 1 then 0 else off / r.s1
    let rest := if r.n1 = 1 then off else off % r.s1
    let j := if r.n2 = 1 then 0 else rest / r.s2
    let last := if r.n2 = 1 then rest else rest % r.s2
    if i < r.n1 ∧ j < r.n2 ∧ last = 0 then some (i, j) else none

/-- The register at an address with its instance numbers; `none` is an unassigned address (R492). -/
def regAt (addr : Nat) : Option (RegSpec × Nat × Nat) :=
  regTable.findSome? (fun r => (r.hit addr).map (fun p => (r, p.1, p.2)))

/-- The register of a name. -/
def regOf (id : RegId) : Option RegSpec := regTable.find? (fun r => r.id == id)

/-- The address of an instance of a register. -/
def regAddr (id : RegId) (i : Nat := 0) (j : Nat := 0) : Nat :=
  match regOf id with
  | some r => r.base + r.s1 * i + r.s2 * j
  | none => 0

/-- The stored fields' reset value as a word. -/
def RegSpec.resetWord (r : RegSpec) : Nat :=
  r.fields.foldl (fun v f => putBits v f.hi f.lo f.reset) 0

/-- R501: the value a Clearing leaves. -/
def RegSpec.cleared (r : RegSpec) (v : Nat) : Nat :=
  match r.clear with
  | .aon => v
  | .cold => v
  | .keep => r.fields.foldl (fun w f => if f.acc = .rc then putBits w f.hi f.lo 0 else w) v
  | .reset => r.fields.foldl (fun w f => if f.acc = .rws then w else putBits w f.hi f.lo f.reset) v

end Sys2Proof.Machine
end

