-- ==== Sys2Proof/Machine/State.lean ====
section
/-!
DEFINITION. The state of the controller as plain data: everything the spec gives the block, by block,
the queue of waiting commands, the outcome types, and the state right after reset (no supply: cold
power-up has not begun, R382, R501). Each field's docstring names the rule that gives it and its reset
value; where the spec gives none, the log entry that names the value. Register fields that software
writes stand in `regs`, with the reset values of the register tables in Machine/RegTable.lean; fields
that only hardware sets are typed fields here and are assembled on a read in Machine/RegRead.lean.
-/

namespace Sys2Proof.Machine

open Sys2Proof

/-- Reasons a command stops the model. No command of this model stops. -/
inductive Fault
  /-- The name of a stop on a unit that the part lacks. Raised by no command: such an event has no effect
  (R2, R10, log 7). Safe. -/
  | noSuchUnit
  deriving DecidableEq, Repr

/-- Reasons a command has no meaning in the model. -/
inductive Refusal
  /-- A command whose meaning is not written yet, by the table's name. Safe. -/
  | notModelled (mnemonic : String)
  deriving DecidableEq, Repr

/-! ## What is sent, and to whom an answer goes -/

/-- Who is answered when an input takes effect. -/
inductive AckTo
  | none
  /-- a CXL.mem requester -/
  | cxl (port ld tag grove : Nat)
  /-- a VRMP request of a queue pair -/
  | vrmp (qpn psn : Nat)
  /-- a Belvor command, by its path and TAG, with its code -/
  | cmd (p : Path) (tag code : Nat)
  /-- a 4 KiB piece of a Canopy ZERO (R191) -/
  | zeroPiece
  /-- one input of a Dynamic Capacity response or release (R267) -/
  | dcd (tag port ld : Nat)
  deriving DecidableEq, Repr

/-- UTL and network-path frames the node sends (R121 to R125). -/
inductive Frame
  | stampedInput (first : Nat) (recs : List StampRec)
  | landingAck (credit ackSeq applied : Nat)
  | heartbeat (role : Role) (lagHold resync : Bool) (credit ackSeq applied : Nat)
  | time (t1 t2 t3 : Nat)
  | digest (first : Nat) (value : BitVec 128)
  | resyncData (c : Chunk)
  | epoch (endSeq : Nat) (role : Role)
  | negotiate (n : NegRec)
  | retryReq (expected : Nat)
  | laneChange (mask : BitVec 16) (confirm : Bool)
  | leaving (lastSeq : Nat)
  | release | releaseAck
  | resyncStart (bulk : Bool) (start : Nat)
  | resyncDone (last : Nat)
  | repairReq (grove tile : Nat) (mask : BitVec 16)
  | rekey (rand : BitVec 256)
  | handover (lastSeq : Nat)
  | handoverAck (epoch : Nat)
  | recopy (last : Bool) (tiles : List (Nat × Nat))
  deriving DecidableEq, Repr

/-- R94, R118, R121: what stands around the payload of a frame the node sends: the header's fields, the nonce
(R118), and on the network path the peer address and UDP port it goes to. -/
structure TxHdr where
  net     : Bool
  retry   : Bool
  ver     : Nat
  linkSeq : Nat
  linkAck : Nat
  epoch   : Nat
  nonce   : BitVec 96
  /-- the key the frame is protected under -/
  key     : BitVec 256
  dest    : Option (BitVec 128 × Nat)
  deriving DecidableEq, Repr

/-- Everything the node sends out of itself, at any interface. -/
inductive Out
  /-- S2M DRS: MemData (R269), with poison and DevLoad (R272: 0 light, 1 optimal, 2 moderate, 3 severe) -/
  | memData (port ld tag : Nat) (data : LineData) (poison : Bool) (devLoad : Nat)
  /-- S2M NDR: Cmp -/
  | cmp (port ld tag : Nat) (devLoad : Nat)
  /-- completion of GPF Phase 1 or 2 (R56) -/
  | gpfDone (port phase : Nat)
  /-- HELLO answer (R301) -/
  | hello (ip : BitVec 128) (qpn cookie status ver payload features limit initPsn : Nat) (rand : BitVec 256)
  | readResp (qpn psn addr : Nat) (data : List Byte) (last : Bool)
  /-- NAK (R304); `hint` says a HINT is carried -/
  | nak (ip : BitVec 128) (qpn psn code addr : Nat) (hint : Bool)
  /-- ACK with the QP limit and the peer limit (R309) -/
  | ack (qpn psn qpLimit peerLimit : Nat)
  | creditPkt (qpn qpLimit peerLimit : Nat)
  /-- FLUSH_ACK with the lowest level reached (R59): 0 VOLATILE, 1 LOCAL, 2 MIRROR -/
  | flushAck (qpn psn level : Nat)
  | atomicResp (qpn psn : Nat) (orig : BitVec 64)
  | notifyDeliver (qpn seq sender value : Nat)
  | close (qpn reason : Nat)
  | peerClose (ip : BitVec 128) (reason : Nat)
  /-- a VRMP packet under GCM: the session key, the nonce, and the packet (R322) -/
  | secured (key : BitVec 256) (nonce : BitVec 96) (pkt : Out)
  | arpReply (port : Nat) (ip : BitVec 128)
  | ndReply (port : Nat) (ip : BitVec 128)
  | echoReply (port : Nat) (ip : BitVec 128) (v6 : Bool)
  /-- a UTL frame or a network-path frame (R94, R121) -/
  | frame (h : TxHdr) (f : Frame)
  /-- completion of a Belvor command (R485) -/
  | done (p : Path) (tag code result : Nat) (body : List Nat)
  /-- completion of a CXL mailbox or FM-API command: 0 success, 1 invalid input,
  2 resources exhausted, 3 unsupported -/
  | fmDone (tag result : Nat) (body : List Nat)
  | msix (port ld vector : Nat)
  /-- an event record in an LD's log (R270, R277): log 0 info, 1 warning, 2 failure, 3 fatal, 4 dynamic
  capacity; `kind` 0 General Media, 1 Belvor vendor record, 2 Add Capacity, 3 Release Capacity -/
  | eventRec (port ld log kind : Nat) (detail : List Nat)
  /-- MCTP event message of L1 (R435) -/
  | mctpEvent (event gtc : Nat)
  /-- answer of a CXL.io configuration request: `crs` is Request Retry Status (R279) -/
  | cfgCpl (port ld : Nat) (crs : Bool) (value : Nat)
  /-- the word a control-space read returns (R497) -/
  | readVal (p : Path) (addr value : Nat)
  /-- what JTAG shifts out (R479) -/
  | jtag (instr : Nat) (value : Nat)
  /-- interrupt to the service processor (R346) -/
  | spIrq (descriptor : Nat)
  /-- I3C in-band interrupt (R484) -/
  | ibi
  | ideTerminated (port : Nat)
  deriving DecidableEq, Repr

/-! ## Sequencer and datapath -/

/-- What a stamped input does when it is emitted: a logical record (R122), an atomic to execute
(R317), or a local input (R32). -/
inductive InOp
  | log (op : RecOp)
  | fadd (grove off : Nat) (addend : BitVec 64)
  | cas (grove off : Nat) (compare swap : BitVec 64)
  /-- L2 containment of a poisoned tile's grove, a local input of source 311 (R436) -/
  | readOnly (grove : Nat)
  /-- a local input that only takes its place in the node's order: its physical work is its command's effect
  (R32, log 84) -/
  | local_
  deriving DecidableEq, Repr

/-- A stamped input waiting for the merge; for a write, also its place in the pending file (R18). -/
structure Input where
  /-- source number of the stamp (R31) -/
  src    : Nat
  /-- GTC value of the stamp (R30) -/
  gtc    : Nat
  /-- the merge-set source that carries it: its own, or a replay engine 272 to 287 (R88) -/
  lane   : Nat
  op     : InOp
  ack    : AckTo
  /-- poster of a seal or schedule command (R144) -/
  origin : Nat
  /-- space key a VRMP request bears (R319); 0 for none -/
  key    : BitVec 64
  /-- remote address of a VRMP request, or DPA of a CXL write, for a refusal at emission (R270, R304) -/
  raddr  : Nat
  /-- logical sequence number of a replayed record; 0 for an input of the node's own -/
  seq    : Nat
  deriving DecidableEq, Repr

/-- An emitted write or atomic that has not been placed yet (R52, R59). -/
structure Placing where
  id     : Nat
  /-- logical sequence number -/
  seq    : Nat
  /-- source (R31) -/
  src    : Nat
  /-- stamp (R30) -/
  gtc    : Nat
  /-- line pieces still to be accepted -/
  left   : Nat
  /-- sequence number whose LANDING_ACK is awaited, for a MIRROR write (R90) -/
  mirror : Option Nat
  /-- effective level at emission (R59) -/
  level  : Level
  /-- who is answered when it is placed (R52) -/
  ack    : AckTo
  /-- space key of a VRMP input (R319) -/
  key    : BitVec 64
  deriving DecidableEq, Repr

/-- What waits for a line. -/
inductive Waiter
  /-- an outstanding CXL read, by its id -/
  | cxlRead (id : Nat)
  /-- a line of an outstanding VRMP read job -/
  | vrmpRead (job : Nat)
  /-- a VOLATILE write piece waiting for its line (R139), with its placing record -/
  | vwrite (placing : Nat) (p : Piece)
  /-- an atomic with its placing record (R317) -/
  | atomic (placing seq : Nat) (i : Input)
  deriving DecidableEq, Repr

/-- A write not admitted at its entry point (R20), with its credit kept. -/
inductive HeldReq
  | cxl (r : CxlReq) (grove : Nat) (p : Piece) (gtc : Nat)
  | vrmp (qpn psn : Nat) (op : InOp) (key : BitVec 64) (gtc raddr size : Nat)
  | mgmt (i : Input)
  deriving DecidableEq, Repr

/-- R54, R534: a committed landing entry. -/
structure LandEntry where
  data     : LineData
  mask     : Mask
  poison   : Bool
  /-- the entry is being drained to T1 -/
  draining : Bool
  /-- a write merged during the drain (R54) -/
  remerged : Bool
  /-- stamps of the inputs merged into it (for R104) -/
  seqs     : List Nat
  /-- source of the input merged last (R221) -/
  src      : Nat
  deriving DecidableEq, Repr

/-- R177: state of a valid line. -/
inductive LineState | clean | landed | dirty
  deriving DecidableEq, Repr

/-- R174: one way of a set. `have_` is the byte mask of the bytes present (R178); `fill` is FILL. -/
structure Way where
  grove : Nat
  line  : Nat
  st    : LineState
  pin   : Bool
  fill  : Bool
  data  : LineData
  have_ : Mask
  deriving DecidableEq, Repr

/-- R173, R174: one set: its valid ways by number, and the 15 pseudo-LRU bits. -/
structure CanSet where
  ways : List (Nat × Way) := []
  plru : BitVec 15 := 0
  deriving DecidableEq, Repr

/-- R185: a Windfall entry; the list of a slice is oldest first. -/
structure WfLine where
  grove : Nat
  line  : Nat
  st    : LineState
  data  : LineData
  deriving DecidableEq, Repr

/-- R186: an eviction-tracker entry. -/
structure TrkEntry where
  grove  : Nat
  line   : Nat
  data   : LineData
  mask   : Mask
  /-- it has been passed to its DRAM channel; until then it is held (R186) -/
  issued : Bool
  /-- a maintenance walk wrote it back (R190) -/
  walk   : Bool
  /-- source of the write, where it is one and no write-back (R221) -/
  src    : Option Nat
  deriving DecidableEq, Repr

/-- R183: a miss-file entry: the joiners in arrival order. -/
structure Miss where
  grove   : Nat
  line    : Nat
  joiners : List Waiter
  /-- GTC at which the fill was asked for (R456, path 15) -/
  gtc     : Nat
  /-- regulator of the requester (R212) -/
  reg     : Nat
  /-- the read has been passed to its DRAM channel (R213) -/
  sent    : Bool
  /-- later accesses that can still join (R183) -/
  left    : Nat
  deriving DecidableEq, Repr

/-- R196: where an array of Canopy holds an error: a way of a set, valid or not, a Windfall entry, or the oldest tracker
entry of a line. -/
inductive ErrPlace
  | way (set way : Nat)
  | wf (grove line : Nat)
  | trk (grove line : Nat)
  deriving DecidableEq, Repr

/-- R196: an error that an array holds until the array is read there or written anew. -/
structure ArrErr where
  place : ErrPlace
  chk   : ArrayCheck
  deriving DecidableEq, Repr

/-- R189: what a walk does to a line. -/
inductive MaintOp | clean | invalidate | cleanInvalidate
  deriving DecidableEq, Repr

/-- R190, R193: a walk that is not over. -/
structure Walk where
  op    : MaintOp
  /-- `none` walks all groves: a disable (R193) -/
  grove : Option Nat
  first : Nat
  last  : Nat
  /-- set walk, else line walk (R190) -/
  sets  : Bool
  /-- slices where a write-back waits for the tracker (R186), with the set or line at which the walk stands -/
  at_   : SMap (Option Nat)
  deriving DecidableEq, Repr

/-- A CXL read not yet answered (R273). -/
structure PendRead where
  id    : Nat
  req   : CxlReq
  grove : Nat
  line  : Nat
  gtc   : Nat
  deriving DecidableEq, Repr

/-- A VRMP READ_REQ in progress (R316): lines gathered so far; `none` is a poisoned line. -/
structure ReadJob where
  id    : Nat
  qpn   : Nat
  psn   : Nat
  grove : Nat
  off   : Nat
  addr  : Nat
  len   : Nat
  key   : BitVec 64
  got   : List (Nat × Option LineData)
  gtc   : Nat
  deriving DecidableEq, Repr

/-- An access that waits in a slice input queue: for a miss-file entry, tracker room or a free frame
(R142, R183, R186). -/
inductive QAcc
  | read (grove line : Nat) (w : Waiter)
  | write (placing grove : Nat) (p : Piece)
  deriving DecidableEq, Repr

/-- The sequencer, its inputs and the entry points. -/
structure Seqr where
  /-- stamped inputs not emitted, in arrival order: pending file and merge queue (R18, R34). Reset: empty -/
  inputs    : List Input := []
  /-- latest watermark of each source (R33). Reset: 0 -/
  marks     : SMap Nat := []
  /-- GTC at which each source's watermark last advanced (R36). Reset: 0 -/
  markAt    : SMap Nat := []
  /-- the merge set (R34). Reset: empty -/
  mergeSet  : List Nat := []
  /-- next_logical_seq (R34). Reset: 1, DESIGN CHOICE (log 4) -/
  nextSeq   : Nat := 1
  /-- emitted and not yet placed writes and atomics (R52, R59). Reset: empty -/
  placing   : List Placing := []
  /-- numbered records in order that wait behind an atomic not yet executed; `none` awaits its result
  (R83, R87). Reset: empty -/
  unsent    : List (Nat × Option StampRec) := []
  /-- writes held at their entry points (R20), oldest first. Reset: empty -/
  held      : List HeldReq := []
  /-- CXL reads outstanding (R273). Reset: empty -/
  reads     : List PendRead := []
  /-- VRMP reads outstanding (R316). Reset: empty -/
  jobs      : List ReadJob := []
  /-- sources whose watermark has stood for 64 ns (R36). Reset: none -/
  stalled   : List Nat := []
  /-- GPF Phase 2 requests waiting: port, stamp GTC, source (R56). Reset: empty -/
  gpf       : List (Nat × Nat × Nat) := []
  /-- greatest replayed stamp applied (R93). Reset: 0 -/
  topReplay : Nat := 0
  deriving DecidableEq, Repr

/-- Canopy, Windfall, tracker, miss file and landing banks. -/
structure Canopy where
  /-- sets by slice × 16,384 + set (R173). Reset: every tag invalid -/
  sets    : SMap CanSet := []
  /-- Windfall by slice (R185). Reset: empty -/
  wf      : SMap (List WfLine) := []
  /-- eviction tracker by slice (R186). Reset: empty -/
  trk     : SMap (List TrkEntry) := []
  /-- hits of each slice since its last access sample (R136). Reset: 0, DESIGN CHOICE (log 4) -/
  hits    : SMap Nat := []
  /-- miss file by slice (R183). Reset: empty -/
  miss    : SMap (List Miss) := []
  /-- slice input queues, in arrival order (R183, R186). Reset: empty -/
  queue   : List QAcc := []
  /-- CANOPY_CTL.ENABLE as it reads (R199). Reset: 0 -/
  enabled   : Bool := false
  /-- CANOPY_CTL.DISABLING (R193). Reset: 0 -/
  disabling : Bool := false
  /-- CANOPY_MAINT_STATUS.BUSY (R190). Reset: 0 -/
  busy    : Bool := false
  /-- CANOPY_MAINT_STATUS.WALK (R190). Reset: 0 -/
  setWalk : Bool := false
  /-- CANOPY_MAINT_STATUS.RESULT (R199). Reset: 0 -/
  result  : Nat := 0
  /-- CANOPY_MAINT_SKIPPED (R200). Reset: 0 -/
  skipped : Nat := 0
  /-- ZERO pieces not yet acknowledged or refused (R191). Reset: 0 -/
  zeroLeft : Nat := 0
  /-- the walk of CANOPY_MAINT_CMD or of a disable while it stands (R190, R193). Reset: none -/
  walk    : Option Walk := none
  /-- errors in the arrays, not read yet (R196). Reset: none -/
  errs    : List ArrErr := []
  /-- committed landing entries by line key (R54). Reset: none -/
  land    : SMap (Option LandEntry) := []
  deriving DecidableEq, Repr

/-! ## Tiers -/

/-- R133: a tile-table entry, with the seal in progress (R145) and seal stamp (R111). -/
structure Tile where
  frame   : Option Nat := none
  t2      : Option Nat := none
  sealed_ : Bool := false
  sealing : Bool := false
  sealGtc : Nat := 0
  sealSrc : Nat := 0
  pinned  : Bool := false
  poison  : Option Nat := none
  sched   : Option Nat := none
  cellar  : Bool := false
  age     : Nat := 0
  sdirty  : BitVec 16 := 0
  /-- GTC since when the tile is dirty (R158) -/
  dirtyAt : Nat := 0
  deriving DecidableEq, Repr

/-- R145: one record of the seal journal. -/
structure SealRec where
  id     : Nat
  grove  : Nat
  first  : Nat
  count  : Nat
  gtc    : Nat
  src    : Nat
  ack    : AckTo
  /-- subranges that an UNSEAL has ended since (R146): first tile and count -/
  cuts   : List (Nat × Nat)
  deriving DecidableEq, Repr

/-- R147, R148: an unretired entry of a schedule in the deadline queue. -/
structure QEntry where
  id        : Nat
  sched     : Nat
  target    : Bool
  late      : Bool
  lateBound : Nat
  hold      : Nat
  e         : SchedEntry
  missed    : Bool
  overflow  : Bool
  deriving DecidableEq, Repr

/-- R368: a DC region of an LD. -/
structure DcRegion where
  ld     : Nat
  region : Nat
  base   : Nat
  len    : Nat
  deriving DecidableEq, Repr

/-- R103: a retained-log entry. -/
structure Retained where
  seq   : Nat
  grove : Nat
  line  : Nat
  gtc   : Nat
  src   : Nat
  deriving DecidableEq, Repr

/-- R105: a divergence record. -/
structure DivRec where
  gtc   : Nat
  src   : Nat
  grove : Nat
  line  : Nat
  deriving DecidableEq, Repr

/-- The metadata that lives in grove 1,023 (R13, R533): what the metadata trickle keeps on NAND and a
vault carries in META. -/
structure Meta where
  /-- groves that exist, by ID (R49). Reset: none -/
  groves  : SMap (Option GroveRec) := []
  /-- grove templates, by index (R367). Reset: none -/
  tmpls   : SMap (Option GroveRec) := []
  /-- MAX_GROVES (R366). Reset: 0 -/
  maxGroves : Nat := 0
  /-- ALLOW_DELETE (R366). Reset: 0 -/
  allowDelete : Bool := false
  /-- grove map by LD × 2^22 + DPA extent (R42, R43). Reset: none valid -/
  map     : SMap (Option MapEntry) := []
  /-- DC regions (R368). Reset: none -/
  regions : List DcRegion := []
  /-- tile table by grove × 2^32 + tile (R133). Reset: every tile never written -/
  tiles   : SMap Tile := []
  /-- poison maps by index (R135), one bit per line. Reset: none -/
  pmaps   : SMap (BitVec 1024) := []
  /-- seal journal (R145). Reset: empty -/
  journal : List SealRec := []
  /-- deadline queue (R148). Reset: empty -/
  queue   : List QEntry := []
  /-- registered space keys by index (R312). Reset: none -/
  keys    : SMap (Option KeyRec) := []
  /-- label storage by LD × 2^17 + byte (R266). Reset: 0, DESIGN CHOICE (log 4) -/
  labels  : SMap Byte := []
  /-- FTL erase-pending records: die key × 2^12 + physical block (R250). Reset: none -/
  erasePending : List Nat := []
  /-- LAYOUT_ID stored with the metadata (R377). Reset: 0, DESIGN CHOICE (log 4) -/
  layoutId : BitVec 64 := 0
  /-- divergence list (R106). Reset: empty -/
  divs    : List DivRec := []
  /-- groves that a node led by FORCE_LEAD held only in part, each with its tiles at that time, and the tiles of them
  it had installed: another tile of such a grove that was never written here reads as poison (R107, R113). Reset: none -/
  partGroves : List (Nat × Nat) := []
  partHave  : List (Nat × Nat) := []
  deriving DecidableEq, Repr

/-- R137: a promotion in flight. `kind` 0 demand, 1 staging, 2 drain. -/
structure Promo where
  grove   : Nat
  tile    : Nat
  frame   : Nat
  kind    : Nat
  line    : Nat
  pin     : Bool
  arrived : BitVec 16
  waiters : List (Nat × Waiter)
  gtc     : Nat
  /-- codewords of the T2 copy that have been read (R240) -/
  read    : BitVec 16 := 0
  deriving DecidableEq, Repr

/-- R151: a late touch waiting under STALL. -/
structure LateTouch where
  id     : Nat
  slice  : Nat
  grove  : Nat
  line   : Nat
  waiter : Waiter
  gtc    : Nat
  bound  : Nat
  /-- it takes the DIRECT path: by its schedule's policy, or since its bound expired -/
  direct : Bool
  deriving DecidableEq, Repr

/-- Why a T2 write is made. -/
inductive ProgKind
  | trickle | demotion | sealCopy | drain | repair | relocation | evacDemotion
  deriving DecidableEq, Repr

/-- A whole-tile T2 write in flight (R131, R243): target slot, the content it programs and the
sectors written meanwhile (R158). -/
structure Prog where
  id      : Nat
  kind    : ProgKind
  grove   : Nat
  tile    : Nat
  t2      : Nat
  lines   : List LineData
  written : BitVec 16
  /-- priority of R143 -/
  prio    : Nat := 11
  /-- the source is held in a staging buffer of Coppice's pool 3 (R243) -/
  buf     : Bool := false
  deriving DecidableEq, Repr

/-- R152, R153: a repair of a T2 tile's sectors in flight. -/
structure Repair where
  grove   : Nat
  tile    : Nat
  sectors : BitVec 16
  waiters : List (Nat × Waiter)
  origin  : Nat
  /-- the peer has been asked (R152) -/
  asked   : Bool := false
  /-- repair chunks the peer has sent (R154): chunk, and its lines if it could supply them -/
  got     : List (Nat × Option (List LineData)) := []
  deriving DecidableEq, Repr

/-- R226, R227: a frame move in flight. -/
structure Move where
  grove : Nat
  tile  : Nat
  src   : Nat
  dst   : Nat
  deriving DecidableEq, Repr

/-- R172: a poison-log record. -/
structure PoisonRec where
  gtc     : Nat
  reads   : Nat
  grove   : Nat
  tile    : Nat
  sectors : BitVec 16
  origin  : Nat
  deriving DecidableEq, Repr

/-- R162: a vault in the Cellar. `cut` 0 no LM_DONE, 1 LM_DONE, 2 VAULT_DONE. -/
structure Vault where
  num     : Nat
  epoch   : Nat
  seq     : Nat
  gtc     : Nat
  mode    : Nat
  layout  : BitVec 64
  land    : SMap (Option LandEntry)
  meta_   : Meta
  /-- Cellar index: sector keys (grove × 2^36 + tile-sector) -/
  index   : List Nat
  /-- sectors with a record -/
  done    : List Nat
  /-- FOOTER: sector count and CRC-32C of the index; 0 until it is written -/
  count   : Nat
  crc     : BitVec 32
  cut     : Nat
  ms      : Nat
  /-- the retained log as the vault began (R72, R103) -/
  retained : List Retained
  deriving DecidableEq, Repr

/-- Tier manager, Cellar and media content. -/
structure Tier where
  /-- metadata in force (R13, R533). Reset: empty -/
  md      : Meta := {}
  /-- metadata as last programmed by the metadata trickle (R156, R166). -/
  snap    : Meta := {}
  /-- dirty sectors of grove 1,023, by grove × 2^32 + extent of the table (R156). Reset: none -/
  metaDirty : List Nat := []
  /-- T1 content by frame × 1,024 + line (R130). Reset: 0, DESIGN CHOICE (log 4) -/
  t1      : SMap LineData := []
  /-- DRAM poison markers, by frame × 1,024 + line (R204). Reset: none -/
  t1poison : List Nat := []
  /-- lines of frames in which a channel has met a device error that nothing has rewritten yet (R204, R218, R219).
  Reset: none -/
  t1bad : SMap DramRead := []
  /-- owner of each occupied frame: grove × 2^32 + tile (R209). Reset: all free -/
  owner   : SMap (Option Nat) := []
  /-- T2 content by T2 tile number × 1,024 + line (R130). Reset: 0, DESIGN CHOICE (log 4) -/
  t2      : SMap LineData := []
  /-- Cellar record content by (grove × 2^32 + tile) × 1,024 + line (R132). Reset: 0, DESIGN CHOICE (log 4) -/
  cel     : SMap LineData := []
  /-- sectors that have a Cellar record, by grove × 2^36 + tile-sector (R165). Reset: none -/
  celRecs : List Nat := []
  /-- promotions in flight (R137). Reset: none -/
  promos  : List Promo := []
  /-- T2 programs in flight (R131, R243). Reset: none -/
  progs   : List Prog := []
  /-- repairs in flight (R152). Reset: none -/
  repairs : List Repair := []
  /-- frame moves in flight (R226). Reset: none -/
  moves   : List Move := []
  /-- late touches that wait (R151). Reset: none -/
  lates   : List LateTouch := []
  /-- poison log (R172). Reset: empty -/
  plog    : List PoisonRec := []
  /-- poison-log-full event raised (R172). Reset: no -/
  plogFull : Bool := false
  /-- program quota of the running millisecond in bytes (R161). Reset: 0 -/
  wearQuota : Nat := 0
  /-- TIER_WEAR_ALLOW in MB/s (R171). Reset: 0 -/
  wearAllow : Nat := 0
  /-- WEAR_LIMIT (R170). Reset: 0 -/
  wearLimit : Bool := false
  /-- T2-region NAND programs in bytes (R161); TIER_WEAR_USED is a stored value (R171). Reset: 0, DESIGN CHOICE (log 4) -/
  nandBytes : Nat := 0
  /-- ungoverned programs of the current millisecond in bytes (R161). Reset: 0 -/
  ungoverned : Nat := 0
  /-- GTC of the first READY with this NAND set (R161). Reset: none -/
  lifeStart : Option Nat := none
  /-- THROTTLE (R159). Reset: 0 -/
  throttle : Bool := false
  /-- DRAINING (R167). Reset: 0 -/
  draining : Bool := false
  /-- latest vault in the Cellar (R166). Reset: none, DESIGN CHOICE (log 4) -/
  vault   : Option Vault := none
  /-- a session record newer than the vault stands in the Cellar log (R166). Reset: no -/
  session : Bool := false
  /-- the anchor blocks have been programmed (R252). Reset: blank, DESIGN CHOICE (log 4) -/
  anchored : Bool := false
  /-- NAND fingerprint in the anchor (R364). Reset: none -/
  fingerprint : Option (BitVec 64) := none
  /-- TIER_VAULT_LAST (R171), as stage 8 finds it: kind and ms. Reset: 0 -/
  vaultLast : Nat × Nat := (0, 0)
  /-- TIER_VAULT_TIME in ms (R163, R171). Reset: 0 -/
  vaultTime : Nat := 0
  /-- tiles pinned by staging (R149). Reset: 0 -/
  pinCount : Nat := 0
  /-- Cellar blocks per die the running Cellar region holds, and those R165 sizes (R376). Reset: 0 -/
  celBlocks : Nat := 0
  /-- Cellar blocks per die that R165 sizes (R376). Reset: 0 -/
  celNeed   : Nat := 0
  /-- groves made read-only by L2 containment (R73, R436). Reset: none -/
  readOnly  : List Nat := []
  /-- node condition last looked at: cannot vault, SOLO (R74). Reset: cannot vault -/
  lastCond  : Bool × Bool := (true, false)
  /-- grove 1,023 stands at its metadata bound (R160). Reset: no -/
  metaFull  : Bool := false
  /-- entries in the tile-table cache, by grove × 2^32 + tile (R134). Reset: none -/
  ttCache  : List Nat := []
  /-- ROLL_TILE of a rolling slot, by slot (R340), kept in grove 1,023. Reset: 0 -/
  rollTile : SMap Nat := []
  /-- unprotected stripes, by stripe key (R238). Reset: none -/
  unprotected : List Nat := []
  deriving DecidableEq, Repr

/-! ## DRAM and NAND -/

/-- R231: STATE of a DRAM channel. -/
inductive ChState | absent | training | online | selfRefresh | evacuating | offline | failed
  deriving DecidableEq, Repr

/-- R222: a UE log record. -/
structure UeRec where
  gtc    : Nat
  src    : Nat
  cls    : Nat
  action : Nat
  /-- frame × 1,024 + line, whose coordinates the map gives (R210) -/
  addr   : Nat
  deriving DecidableEq, Repr

/-- R214, R215: refresh state of a rank. -/
structure Rank where
  postponed : Nat := 0
  /-- the running real-time burst has been reported over its declaration (R216) -/
  overSaid  : Bool := false
  /-- GTC at which the running real-time burst began (R215). Reset: none -/
  since     : Option Nat := none
  /-- greatest declared burst of its requesters, in 100 ns (R216) -/
  most      : Nat := 0
  hot       : Bool := false
  issued    : Nat := 0
  deriving DecidableEq, Repr

/-- R206: what trained values are keyed by: the DIMM serial numbers, the data rate and the slot. -/
structure TrainKey where
  serials : List Nat
  rate    : Nat
  slot    : Nat
  deriving DecidableEq, Repr

/-- R211, R219: what a queued line request is for. -/
inductive ReqKind | fill | evict | drain
  deriving DecidableEq, Repr

/-- R211: one line request in a subchannel. -/
structure DramReq where
  kind   : ReqKind
  grove  : Nat
  line   : Nat
  /-- frame × 1,024 + line of the tile -/
  addr   : Nat
  reg    : Nat
  /-- it held tokens of a GUARANTEE regulator when it was passed (R213) -/
  tok    : Bool
  /-- GTC at which the channel took it -/
  gtc    : Nat
  /-- the scheduler has issued its command -/
  issued : Bool
  deriving DecidableEq, Repr

/-- R211: a subchannel: its requests in order of arrival, read and write queue together. -/
structure DramSub where
  reqs  : List DramReq := []
  /-- a write burst runs -/
  burst : Bool := false
  /-- row last opened, by rank, bank group and bank -/
  rows  : SMap (Option Nat) := []
  deriving DecidableEq, Repr

/-- R223: tiles of grove 1,023 from `tile` on, and the frames of their two copies. -/
structure MetaRun where
  tile    : Nat
  count   : Nat
  frame   : Nat
  partner : Nat
  deriving DecidableEq, Repr

/-- One DRAM channel (R231). -/
structure DramCh where
  state   : ChState := .absent
  set     : Nat := 0
  capGib  : Nat := 0
  lranks  : Nat := 0
  density : Nat := 0
  trained : Nat := 0
  trainMs : Nat := 0
  ueLog   : List UeRec := []
  ueFull  : Bool := false
  lap     : Nat := 0
  lapStart : Nat := 0
  /-- patrol position: lines of the lap read (R224) -/
  patrol  : Nat := 0
  lateLap : Bool := false
  ranks   : SMap Rank := []
  /-- subchannels stopped by CA recovery (R221) -/
  caRec   : List Nat := []
  /-- PHY retention: the parts and the rate of the trained values (R206). Reset: none -/
  phy     : Option TrainKey := none
  /-- R228: the channel's clocks run -/
  clkOn   : Bool := false
  /-- R228: level of RESET_N -/
  resetN  : Bool := false
  /-- R228: every other pin is in high impedance -/
  hiZ     : Bool := false
  zqRuns  : Nat := 0
  dqsRuns : Nat := 0
  deriving DecidableEq, Repr

/-- R209, R232: an interleave set. `state` 0 ONLINE, 1 EVACUATING, 2 OFFLINE, 3 returning. -/
structure DramSet where
  valid    : Bool := false
  state    : Nat := 0
  base     : Nat := 0
  frames   : Nat := 0
  log2     : Nat := 0
  first    : Nat := 0
  map      : Nat := 0
  gran     : Bool := false
  degraded : BitVec 16 := 0
  deriving DecidableEq, Repr

/-- DDR5 channels, sets, regulators, evacuation. -/
structure Dram where
  chs    : SMap DramCh := []
  sets   : SMap DramSet := []
  /-- token level of each regulator in bytes (R212). Reset: 0 -/
  tokens : SMap Nat := []
  /-- subchannels by channel × 2 + subchannel (R211). Reset: empty -/
  subs   : SMap DramSub := []
  /-- frames of grove 1,023 (R134, R223). Reset: none -/
  metaRuns : List MetaRun := []
  /-- DRAM_EVAC_STATUS (R232). Reset: 0 -/
  evBusy : Bool := false
  /-- sets OFFLINE that can lose power (R228, R232). Reset: none -/
  evSafe : List Nat := []
  evSet  : Nat := 0
  evResult : Nat := 0
  deriving DecidableEq, Repr

/-- R257: state of a die. -/
inductive DieState | absent | online | retiring | retired | dead | rebuilding
  deriving DecidableEq, Repr

/-- R242: work of a die: the read of a tile slot for a promotion, the program of a wordline, the erase of a block. -/
inductive DieJob
  | read (grove tile n : Nat)
  | wordline (w : Nat)
  | erase (b : Nat)
  deriving DecidableEq, Repr

/-- R242: queued work of a die with its priority of R143. -/
structure DieOp where
  prio : Nat
  job  : DieJob
  deriving DecidableEq, Repr

/-- One NAND die. -/
structure Die where
  /-- NAND_DIE state (R248, R257). Reset: ABSENT -/
  state  : DieState := .absent
  /-- work that waits, oldest first (R242). Reset: none -/
  queue  : List DieOp := []
  /-- the read that runs, and the program or erase that runs or is suspended (R242). Reset: none -/
  rd     : Option DieOp := none
  /-- the program or erase that runs or is suspended (R242). Reset: none -/
  cur    : Option DieOp := none
  /-- suspensions of the program or erase so far, and whether it is suspended now (R242). Reset: 0 -/
  susp   : Nat := 0
  /-- the program or erase is suspended (R242). Reset: no -/
  held   : Bool := false
  /-- block remap: the physical block behind a virtual one that a spare replaces (R236). Reset: none -/
  remap  : SMap (Option Nat) := []
  /-- spare blocks used (R248) -/
  used   : Nat := 0
  /-- programs or erases failed, by GTC, for R253 -/
  fails  : List Nat := []
  deriving DecidableEq, Repr

/-- R237: owner record of a programmed slot. -/
structure Owner where
  wseq  : Nat
  grove : Nat
  tile  : Nat
  kind  : Nat
  /-- CRC of each of the 16 codewords -/
  crcs  : List (BitVec 32)
  deriving DecidableEq, Repr

/-- R238: an open stripe and its buffer: data slots written, GTC of the first, whether its 10 ms are over, and the XOR of
the codewords' ciphertext and of their owner records. -/
structure Stripe where
  count : Nat := 0
  since : Nat := 0
  due   : Bool := false
  words : List LineData := []
  owns  : List (BitVec 128) := []
  deriving DecidableEq, Repr

/-- R251: a section of the Cellar log. -/
inductive CelSect | header | landing | metaData | lmDone | sectors | footer
  deriving DecidableEq, Repr

/-- R251: a programmed Cellar block: its header page (vault, section, place in the log), and the records written so far,
each a sector key where it is a sector's. -/
structure CelBlock where
  vault : Nat
  sect  : CelSect
  place : Nat
  recs  : List (Option Nat)
  deriving DecidableEq, Repr

/-- R252: an anchor record: where grove 1,023's root table lies, a session, or the NAND section's fingerprint. -/
inductive AnchorRec
  | root (loc : Nat)
  | session (gtc : Nat)
  | fingerprint (f : BitVec 64)
  deriving DecidableEq, Repr

/-- One NAND channel (R257). `state` 0 ABSENT, 1 TRAINING, 2 ONLINE, 3 DEGRADED, 4 FAILED. -/
structure NandCh where
  failed  : Bool := false
  present : Bool := false
  training : Bool := false
  trained : Nat := 0
  bad     : Nat := 0
  deriving DecidableEq, Repr

/-- NAND controllers and FTL. -/
structure Nand where
  /-- channels (R257). Reset: none -/
  chs    : SMap NandCh := []
  /-- dies by channel × 32 + die (R257). Reset: none -/
  dies   : SMap Die := []
  /-- owner records by T2 tile number (R237) -/
  owners : SMap (Option Owner) := []
  /-- FTL program sequence number (R237). Reset: 0, DESIGN CHOICE (log 4) -/
  wseq   : Nat := 0
  /-- read counts by die key × 2^12 + physical block (R247). Reset: 0, DESIGN CHOICE (log 4) -/
  reads  : SMap Nat := []
  /-- erase counts by die key × 2^12 + physical block (R246). Reset: 0, DESIGN CHOICE (log 4) -/
  erases : SMap Nat := []
  /-- virtual blocks that no spare replaces (R248). Reset: none -/
  retired : List Nat := []
  /-- T2 tiles queued for relocation at priority 11 (R241, R247, R244) -/
  relocs : List Nat := []
  /-- virtual blocks being erased (R250). Reset: none -/
  erasing : List Nat := []
  /-- NAND_REBUILD_STATUS (R258) -/
  rbBusy : Bool := false
  /-- NAND_REBUILD_STATUS: the die (R258). Reset: 0 -/
  rbDie  : Nat := 0
  /-- NAND_REBUILD_STATUS: the result (R258). Reset: 0 -/
  rbResult : Nat := 0
  /-- slots of the die left to rebuild (R254). Reset: none -/
  rbLeft : List Nat := []
  /-- NAND_SCAN_LAP (R258). Reset: 0 -/
  scanLap : Nat := 0
  /-- next page of the background scan (R255). Reset: 0 -/
  scanPos : Nat := 0
  /-- GTC at which the scan's lap began (R255, R258). Reset: 0 -/
  scanStart : Nat := 0
  /-- NAND_ERASE_PENDING (R258). Reset: 0 -/
  erasedAtUp : Nat := 0
  /-- free superblocks below LOW: T2 is full (R244) -/
  t2Full : Bool := false
  /-- open superblocks: virtual block, by group × 32 + DIE (R236). Reset: none -/
  opens  : SMap (Option Nat) := []
  /-- virtual blocks in which a program failed and whose live slots move (R243). Reset: none -/
  failing : List Nat := []
  /-- physical blocks that an erase left half-done, so a blank check fails on them (R250). Reset: none -/
  half   : List Nat := []
  /-- open stripes waiting for parity, by stripe key (R238). Reset: none -/
  stripes : SMap (Option Stripe) := []
  /-- the XOR of the owner records that a parity slot's codewords carry, by T2 tile number (R238). Reset: none -/
  parityOwn : SMap (List (BitVec 128)) := []
  /-- programmed blocks of the Cellar region, by die key × 2^12 + virtual block (R251). Reset: none, DESIGN CHOICE (log 4) -/
  cellar : SMap (Option CelBlock) := []
  /-- the Cellar log's next place and the die its last record went to (R251). Reset: 0 -/
  celPlace : Nat := 0
  /-- die of the Cellar log's last record (R251). Reset: 0 -/
  celDie : Nat := 0
  /-- records of the anchor blocks, oldest first: two on channel 0's die 0, two on channel 8's (R252). Reset: blank,
  DESIGN CHOICE (log 4) -/
  anchors : SMap (List AnchorRec) := []
  /-- the pair of anchor blocks that takes the next record (R252). Reset: 0 -/
  anchorAt : Nat := 0
  /-- GTC at which the rebuild that runs began, and slots rebuilt since (R254). Reset: 0 -/
  rbStart : Nat := 0
  /-- event 226 has told of spares below CRIT (R256). Reset: no -/
  crit   : Bool := false
  /-- event 226 has told of a late scan (R256). Reset: no -/
  scanLate : Bool := false
  /-- event 226 has told of a low Cellar (R256). Reset: no -/
  celLow : Bool := false
  /-- slots rebuilt since the rebuild began (R254, R258). Reset: 0 -/
  rbDone  : Nat := 0
  /-- usable T2 tiles as stage 6 computed them, less those of dies RETIRED since (R239, R248). Reset: 0 -/
  t2Tiles : Nat := 0
  deriving DecidableEq, Repr

/-! ## Host ports -/

/-- R284: an access-log record. -/
structure AccRec where
  gtc    : Nat
  ld     : Nat
  reason : Nat
  write  : Bool
  dpa    : Nat
  deriving DecidableEq, Repr

/-- R283: LINK of a host port. -/
inductive HLink | down | training | up | l23
  deriving DecidableEq, Repr

/-- One host port. -/
structure HostPort where
  /-- the image forms the port (R259, R260). Reset: no -/
  formed   : Bool := false
  /-- LINK (R283). Reset: DOWN -/
  link     : HLink := .down
  /-- RATE (R283). Reset: 0 -/
  rate     : Nat := 0
  /-- WIDTH (R283). Reset: 0 -/
  width    : Nat := 0
  /-- width the image forms (R259). Reset: 0 -/
  maxWidth : Nat := 0
  /-- widest and fastest the port has trained since stage 7: the trained maximum (R262) -/
  topWidth : Nat := 0
  /-- fastest rate the port has trained since stage 7 (R262). Reset: 0 -/
  topRate  : Nat := 0
  /-- FLIT (R283). Reset: 0 -/
  flit     : Nat := 0
  /-- DEGRADED (R262, R283). Reset: 0 -/
  degraded : Bool := false
  /-- isolated by L2 containment (R436). Reset: no -/
  isolated : Bool := false
  /-- IDE: 0 off, 1 skid, 2 containment, 3 insecure (R283) -/
  ide      : Nat := 0
  /-- IDE receive stream keyed (R274). Reset: no -/
  ideRx    : Bool := false
  /-- IDE transmit stream keyed (R274). Reset: no -/
  ideTx    : Bool := false
  /-- an authenticated SPDM session is open (R274) -/
  spdm     : Bool := false
  /-- AER: an uncorrectable internal error (R277) -/
  aerUnc   : Bool := false
  /-- the matching bit of the CXL RAS capability (R277) -/
  rasUnc   : Bool := false
  /-- the CXL IDE receive error bit (R277) -/
  ideErr   : Bool := false
  /-- access log, oldest first (R284). Reset: empty -/
  log      : List AccRec := []
  deriving DecidableEq, Repr

/-- One logical device (R264), by port × 16 + LD. -/
structure Ld where
  present  : Bool := false
  entries  : Nat := 0
  bound    : Bool := false
  decs     : SMap (Option Decoder) := []
  /-- decoders that report Error Not Committed (R265) -/
  decErr   : List Nat := []
  /-- extents offered by an Add Capacity record (R267) -/
  offered  : List (Nat × DcExtent) := []
  /-- Dynamic Capacity extents listed (R267) -/
  extents  : List DcExtent := []
  /-- inputs of a Dynamic Capacity response not yet emitted, by tag -/
  dcdLeft  : List (Nat × Nat) := []
  deriving DecidableEq, Repr

/-- CXL host ports. -/
structure HostBlk where
  /-- host ports by number (R259). Reset: none formed -/
  ports : SMap HostPort := []
  /-- logical devices by port × 16 + LD (R264). Reset: none -/
  lds   : SMap Ld := []
  deriving DecidableEq, Repr

/-! ## Network -/

/-- R289: a peer class. -/
structure PeerClass where
  pfx    : BitVec 128
  pfxLen : Nat
  keySlot : Option Nat
  gcm    : Bool
  peerCredit : Nat
  qpCreditMax : Nat
  maxQps : Nat
  dscp   : Nat
  deriving DecidableEq, Repr

/-- R290: a peer context. -/
structure Peer where
  /-- the peer's address (R289) -/
  ip      : BitVec 128
  cls     : Nat
  ver     : Nat
  feats   : Nat
  payload : Nat
  /-- bytes charged, granted, granted when last told, and freed (R308, R309); the limit a packet carries is
  granted / 4096 -/
  used    : Nat
  /-- bytes granted: PEER_CREDIT limit × 4,096 (R308, R309) -/
  limit   : Nat
  /-- bytes granted when last told (R309) -/
  lastLimit : Nat
  /-- bytes freed (R308) -/
  freed   : Nat
  /-- session keys and salts of a peer that agreed GCM, to it and from it (R322, R338) -/
  txKey   : BitVec 256
  /-- session key from the peer (R322, R338) -/
  rxKey   : BitVec 256
  /-- salt to the peer (R322) -/
  txSalt  : BitVec 32
  /-- salt from the peer (R322) -/
  rxSalt  : BitVec 32
  /-- the next NONCE_CTR of each engine, without its top 4 bits (R322) -/
  nonces  : SMap Nat
  /-- last COOKIEs with the answer and the GTC (R301) -/
  cookies : List (Nat × Nat × Out)
  /-- a peer-level CLOSE is under way (R303) -/
  closing : Bool
  deriving DecidableEq, Repr

/-- A FLUSH pending on a QP (R58, R318). -/
structure FlushP where
  psn     : Nat
  level   : Level
  gtc     : Nat
  emitted : Bool
  acked   : Bool
  /-- lowest level reached so far by the writes it covers (R59): 3 none yet -/
  low     : Nat
  deriving DecidableEq, Repr

/-- A notify delivery not acknowledged (R307). -/
structure NotDel where
  seq    : Nat
  sender : Nat
  value  : Nat
  tries  : Nat
  at_    : Nat
  deriving DecidableEq, Repr

/-- R291, R292: a queue-pair context. -/
structure Qp where
  /-- peer handle (R291) -/
  peer    : Nat
  /-- space key (R291, R319) -/
  key     : BitVec 64
  /-- expected PSN (R291, R300) -/
  expPsn  : Nat
  /-- PSN of the last NAK SEQUENCE, while it stands (R304) -/
  nakAt   : Option Nat
  /-- in-order requests since the last ACK, and GTC of the first -/
  unacked : Nat
  /-- GTC of the first in-order request since the last ACK (R305) -/
  unackedAt : Nat
  /-- pending FLUSHes (R318) -/
  flushes : List FlushP
  /-- PSNs of atomics in progress (R317) -/
  atomics : List Nat
  /-- answers of recent atomics by PSN (R317) -/
  cache   : List (Nat × BitVec 64)
  /-- lowest level reached by any write since the QP was opened (R59): 3 none yet -/
  lowest  : Nat
  /-- bytes charged, granted, granted when last told, and freed (R308, R309) -/
  used    : Nat
  /-- bytes granted (R308, R309) -/
  limit   : Nat
  /-- bytes granted when last told (R309) -/
  lastLimit : Nat
  /-- bytes freed (R308) -/
  freed   : Nat
  /-- GTCs of recent credit violations (R311) -/
  viols   : List Nat
  /-- next sequence number of a notify delivery (R307) -/
  notSeq  : Nat
  /-- notify deliveries not acknowledged (R307) -/
  notifs  : List NotDel
  /-- limit the peer grants this node (R308) -/
  hostLimit : Nat
  /-- bytes used of it (R308) -/
  hostUsed  : Nat
  /-- the QP closes (R303) -/
  closing : Bool
  /-- writes received and not emitted yet (R318) -/
  unplaced : Nat
  deriving DecidableEq, Repr

/-- A NOTIFY accepted and not delivered (R318). -/
structure Note where
  id     : Nat
  qpn    : Nat
  psn    : Nat
  target : Nat
  value  : Nat
  src    : Nat
  gtc    : Nat
  key    : BitVec 64
  deriving DecidableEq, Repr

/-- R324: a PTP FIFO entry. -/
structure PtpTs where
  ts    : Nat
  tx    : Bool
  mtype : Nat
  seqId : Nat
  deriving DecidableEq, Repr

/-- One network port. -/
structure NetPort where
  /-- the image forms the port (R286). Reset: no -/
  formed : Bool := false
  /-- link up (R324). Reset: no -/
  up     : Bool := false
  /-- PCS held in reset (R320, R436) -/
  held   : Bool := true
  /-- SPEED (R324). Reset: 0 -/
  speed  : Nat := 0
  /-- lanes in use (R286, R324). Reset: 0 -/
  lanes  : Nat := 0
  /-- PTP time-stamp FIFO, oldest first (R324). Reset: empty -/
  ptp    : List PtpTs := []
  /-- addresses of the port (R287). Reset: none -/
  addrs  : List (BitVec 128) := []
  deriving DecidableEq, Repr

/-- A revocation emitted and not complete (R319). -/
structure Revoke where
  key : BitVec 64
  gtc : Nat
  ack : AckTo
  deriving DecidableEq, Repr

/-- Network engine. -/
structure Net where
  /-- network ports by number (R286). Reset: none formed -/
  ports   : SMap NetPort := []
  /-- peer classes of the image (R289). Reset: none -/
  classes : List PeerClass := []
  /-- peer contexts by handle (R290). Reset: none -/
  peers   : SMap (Option Peer) := []
  /-- queue-pair contexts by QPN (R291). Reset: none -/
  qps     : SMap (Option Qp) := []
  /-- cached QP contexts, least recently used first (R293) -/
  cached  : List Nat := []
  /-- packets waiting for a context fetch with the GTC of their arrival, in arrival order (R293) -/
  waiting : List (Nat × Pkt × ReqBody) := []
  /-- NOTIFYs accepted and not delivered (R318). Reset: none -/
  notes   : List Note := []
  /-- revocations that wait for the merge (R319). Reset: none -/
  revokes : List Revoke := []
  /-- keys dropped from every engine's cache (R319) -/
  dropped : List (BitVec 64) := []
  /-- the key cache (R293) -/
  keyCache : List (BitVec 64) := []
  /-- reserved arrival bytes outstanding (R310, NET_CREDIT_OUT). Reset: 0 -/
  creditOut : Nat := 0
  deriving DecidableEq, Repr

/-! ## Twin -/

/-- R120: state of the UTL. -/
inductive Link | down | train | negotiate | up | degrade
  deriving DecidableEq, Repr

/-- Twin replication and the UTL. -/
structure Twin where
  /-- TWIN_ROLE.ROLE (R127). Reset: 0xF -/
  role      : Role := .unset
  /-- TWIN_ROLE.PEER_ROLE (R127). Reset: 0xF -/
  peerRole  : Role := .unset
  /-- TWIN_EPOCH (R77, R129): a stored value. Reset: 0, DESIGN CHOICE (log 4) -/
  epoch     : Nat := 0
  /-- LINK_STATE (R128). Reset: DOWN -/
  link      : Link := .down
  /-- active lanes as a mask (R116). Reset: none -/
  lanes     : BitVec 16 := 0
  /-- agreed version and features (R119). Reset: 0 -/
  version   : Nat := 0
  /-- agreed features (R119). Reset: 0 -/
  features  : Nat := 0
  /-- measured round trip in ns (R128). Reset: 0 -/
  rtt       : Nat := 0
  /-- link stays down until management acts (R120, round trip) -/
  noRetry   : Bool := false
  /-- 64-bit frame counters of the UTL, next to send and next expected; LINK_SEQ is the low 32 bits (R117, R118).
  Reset: 0 -/
  txSeq     : Nat := 0
  /-- 64-bit frame counter next expected on the UTL (R117, R118). Reset: 0 -/
  rxSeq     : Nat := 0
  /-- frame counter of the network path, and the last LINK_SEQ received on it (R118, R121). Reset: 0 -/
  netTx     : Nat := 0
  /-- last LINK_SEQ received on the network path (R118, R121). Reset: 0 -/
  netRx     : Nat := 0
  /-- frames sent and not acknowledged, as they were sent, oldest first (R117, R118) -/
  retryBuf  : List (TxHdr × Frame) := []
  /-- frames built and waiting unsent (R117) -/
  txQueue   : List Frame := []
  /-- CREDIT limit the peer granted, and units used (R123) -/
  credLimit : Nat := 0
  /-- units of CREDIT used (R123). Reset: 0 -/
  credUsed  : Nat := 0
  /-- CREDIT limit this node advertises (R123). Reset: 0 -/
  credGrant : Nat := 0
  /-- GTC of the last frame heard on the UTL and on the network path (R94) -/
  heardUtl  : Nat := 0
  /-- GTC of the last frame heard on the network path (R94). Reset: 0 -/
  heardNet  : Nat := 0
  /-- a session has begun in this bring-up, so the peer has been heard (R118, R126). Reset: no -/
  negotiated : Bool := false
  /-- loss of the UTL and of the network path reported since they were last heard (R126). Reset: no -/
  utlLost   : Bool := false
  /-- loss of the network path reported since it was last heard (R126). Reset: no -/
  netLost   : Bool := false
  /-- every input up to this is committed here / applied here (R123) -/
  ackSeq    : Nat := 0
  /-- APPLIED_SEQ: every input up to this is applied here (R123). Reset: 0 -/
  applied   : Nat := 0
  /-- the peer's reports (R90, R89) -/
  peerAck   : Nat := 0
  /-- APPLIED_SEQ the peer last reported (R89, R90). Reset: 0 -/
  peerApplied : Nat := 0
  /-- retained log (R103), oldest first -/
  retained  : List Retained := []
  /-- emitted inputs the peer has not reported as applied, with the GTC of their emission (R89) -/
  unrep     : List (Nat × Nat) := []
  /-- LAG_HOLD (R89) -/
  lagHold   : Bool := false
  /-- current lag in ns (R129) -/
  lag       : Nat := 0
  /-- TWIN_DIV_LOST (R129) -/
  divLost   : Nat := 0
  /-- divergence list full reported (R105). Reset: no -/
  divFull   : Bool := false
  /-- resync bitmap opened, its start and marked tiles (R109) -/
  bmOpen    : Bool := false
  /-- sequence number at which the resync bitmap was opened (R109). Reset: 0 -/
  bmStart   : Nat := 0
  /-- tiles the bitmap marks (R109). Reset: none -/
  bmTiles   : List (Nat × Nat) := []
  /-- 0 none, 1 bitmap, 2 bulk; a resync in progress (R108) -/
  resync    : Nat := 0
  /-- leader: chunks left to send: grove, tile, chunk (R110) -/
  toSend    : List (Nat × Nat × Nat) := []
  /-- metadata records left to copy first (R108) -/
  metaSend  : List StampRec := []
  /-- AS_OF_SEQ of the running resync (R110, R113). Reset: 0 -/
  lastAsOf  : Nat := 0
  /-- serving node: RECOPY with LAST has come and the resync has not started; tiles listed (R109) -/
  recopyGot : Bool := false
  /-- tiles listed by RECOPY before the resync starts (R109). Reset: none -/
  recopyReq : List (Nat × Nat) := []
  /-- serving node: the peer's T1 is intact as of its applied position (R108) -/
  peerT1    : Bool := false
  /-- joiner: tiles whose old content a bulk copy dropped (R107) -/
  dropped   : List (Nat × Nat) := []
  /-- joiner: tiles of which a chunk has been installed (R110) -/
  begun     : List (Nat × Nat) := []
  /-- joiner: seal stamps of tiles asked for again, to be sealed once copied: grove, tile, GTC, source (R111) -/
  sealWait  : List (Nat × Nat × Nat × Nat) := []
  /-- joiner: groves and sealed tiles held before the resync that no metadata chunk has named yet (R108) -/
  oldGroves : List Nat := []
  /-- joiner: sealed tiles held before the resync that no metadata chunk has named yet (R108). Reset: none -/
  oldSeals  : List (Nat × Nat) := []
  /-- frames of the stream in Coppice, not yet applied whole: last sequence number, payload bytes (R88, R123) -/
  rxHeld    : List (Nat × Nat) := []
  /-- joiner: chunks queued for installation (R110) -/
  chunks    : List Chunk := []
  /-- joiner: AS_OF_SEQ of the latest RESYNC_DONE (R113) -/
  doneSeq   : Option Nat := none
  /-- joiner: tiles named in RECOPY and not copied yet (R113) -/
  recopyOut : List (Nat × Nat) := []
  /-- joiner: content lost, so bulk resync is needed (R108, R113) -/
  needBulk  : Bool := false
  /-- joiner: tiles installed so far (R107) -/
  installed : List (Nat × Nat) := []
  /-- T1 content intact since the last applied position (R108) -/
  t1Intact  : Bool := false
  /-- planned handover: 0 none, 1 holding, 2 HANDOVER sent (R114) -/
  handover  : Nat := 0
  /-- last sequence number received from the old leader, END_SEQ (R98) -/
  endSeq    : Nat := 0
  /-- stage 9: a NEGOTIATE with the node's own NODE value arrived (R79) -/
  sameNode  : Bool := false
  /-- last bring-up set LOST or INCOMPLETE on a LOCAL or MIRROR grove (R79) -/
  lostAtUp  : Bool := false
  /-- digest window start, running value and the leader's finished window (R85) -/
  digFirst  : Nat := 0
  /-- running digest of the window (R85). Reset: 0 -/
  digAcc    : BitVec 128 := 0
  /-- the leader's finished window (R85). Reset: none -/
  digDone   : Option (Nat × BitVec 128) := none
  /-- the window spans a change of role, so it is not compared (R85). Reset: no -/
  digSpan   : Bool := false
  /-- REKEY in progress, and negotiation count (R118) -/
  rekeying  : Bool := false
  /-- negotiation count of the nonce (R118). Reset: 0 -/
  negCount  : Nat := 0
  /-- own random value of the session (R118). Reset: 0 -/
  sessionRand : BitVec 256 := 0
  /-- the peer's random value of the running session (R118). Reset: 0, DESIGN CHOICE (log 4) -/
  peerRand  : BitVec 256 := 0
  /-- keys of the running session, to send and to receive, on the UTL and on the network path (R118). Reset: 0,
  DESIGN CHOICE (log 4) -/
  txKey     : BitVec 256 := 0
  /-- key to receive on the UTL (R118). Reset: 0 -/
  rxKey     : BitVec 256 := 0
  /-- key to send on the network path (R118). Reset: 0 -/
  netTxKey  : BitVec 256 := 0
  /-- key to receive on the network path (R118). Reset: 0 -/
  netRxKey  : BitVec 256 := 0
  /-- TWIN_CMD_STATUS (R129). Reset: 0 -/
  cmdBusy   : Bool := false
  /-- TWIN_CMD_STATUS.RESULT (R129). Reset: 0 -/
  cmdResult : Nat := 0
  /-- last TIME exchange complete and offset within 4 ns (R92) -/
  timeLocked : Bool := false
  /-- a TIME exchange has been completed on this link (R92) -/
  timeDone  : Bool := false
  /-- the one backward step of the GTC has been taken in this bring-up (R92). Reset: no -/
  backStep  : Bool := false
  /-- LANE_CHANGE proposed, with the lanes it names (R116) -/
  proposed  : Option (BitVec 16) := none
  deriving DecidableEq, Repr

/-! ## Cipher -/

/-- R333: state of a key slot. -/
inductive SlotState | empty | loaded | rolling | exhausted
  deriving DecidableEq, Repr

/-- R331, R332: a key slot. `bind` 0 NONE, 1 GROVE, 2 IDE, 3 LINK, 4 CLASS, 5 QUEUE. -/
structure Slot where
  state    : SlotState := .empty
  bind     : Nat := 0
  pair     : Bool := false
  hardened : Bool := false
  target   : Nat := 0
  key      : BitVec 512 := 0
  oldKey   : BitVec 512 := 0
  ctr      : Nat := 0
  oldCtr   : Nat := 0
  warn     : Bool := false
  rollWseq : Nat := 0
  usedEmpty : Bool := false
  /-- floor last programmed (R337) -/
  floor    : Nat := 0
  deriving DecidableEq, Repr

/-- R334: a wrapped record of the configuration store. -/
structure Wrapped where
  pair  : Bool
  gen   : Bool
  rollWseq : Nat
  floor : Nat
  key   : BitVec 512
  deriving DecidableEq, Repr

/-- Cipher engine. -/
structure Cipher where
  /-- key slots by number (R333). Reset: EMPTY -/
  slots   : SMap Slot := []
  /-- wrapped records by slot × 2 + generation (R334, R467). Reset: none, DESIGN CHOICE (log 4) -/
  wrapped : SMap (Option Wrapped) := []
  /-- records appended to the log of each bank (R467). Reset: 0 -/
  logUsed : SMap Nat := []
  /-- lanes disabled by self-test (R349). Reset: none; LANES_OK reads 0 before stage 3 (R351) -/
  badLanes : List Nat := []
  /-- lanes have been tested in stage 3 (R349, R351). Reset: no -/
  lanesUp : Bool := false
  /-- DUK_BLOCKED (R351). Reset: 0 -/
  dukBlocked : Bool := false
  /-- classes that have waited more than 10 µs (R344): SAT is 1 while there is one (R351). Reset: none -/
  sat     : List Nat := []
  /-- CIPHER_CMD_STATUS.RESULT (R352). Reset: 0 -/
  cmdResult : Nat := 0
  /-- CIPHER_RQ_HEAD (R352). Reset: 0 -/
  head    : Nat := 0
  /-- the service processor's data memory (R345): size and bytes. Size reset: DESIGN CHOICE (log 5) -/
  spSize  : Nat := 0x100000
  /-- bytes of the service processor's data memory (R345). Reset: 0 -/
  spMem   : SMap Byte := []
  deriving DecidableEq, Repr

/-! ## Faults, integrity, Coppice, monitors, recorder -/

/-- R431, R432, R435: a fault source. Settings default to the profile of R431. -/
structure FltSrc where
  n      : Nat
  level  : Nat
  grace  : Nat
  wUnit  : Nat
  wVal   : Nat
  count  : Nat
  severe : Bool
  lvl    : Nat
  /-- GTC at which the grace timer expires -/
  timer  : Option Nat
  tgt    : Nat
  deriving DecidableEq, Repr

/-- R437: an occurrence not yet taken by the collector. `force` 0 by level, 3 an unconditional Clearing,
4 an unconditional power-off (R197, R339, R422); `event` 0x3FF is the CLEAR command (R414). -/
structure Raised where
  event : Nat
  tgt   : Nat
  force : Nat
  /-- the stamp of a deferred event (R393); otherwise the time it is taken -/
  stamp : Option Nat
  deriving DecidableEq, Repr

/-- Fault collector. -/
structure Flt where
  /-- per-source state (R431, R432, R435). Reset: count 0, not severe, profile of R431 -/
  src     : SMap (Option FltSrc) := []
  /-- ALERT_N driven low (R435, R440). Reset: released -/
  alert   : Bool := false
  /-- events that wait for the next stage 3, with their stamps (R393). Reset: none -/
  deferred : List (Nat × Nat) := []
  /-- occurrences of the running command (R437); empty between commands. Reset: none -/
  raised  : List Raised := []
  deriving DecidableEq, Repr

/-- R421: a pending-repair record. -/
structure RepairRec where
  gtc   : Nat
  mac   : Nat
  row   : Nat
  col   : Nat
  isCol : Bool
  applied : Bool
  deriving DecidableEq, Repr

/-- Integrity unit. -/
structure Integ where
  /-- the scrubber runs (R424). Reset: no -/
  scrubbing : Bool := false
  /-- scrub word pointer of each protected array (R424). Reset: 0 -/
  ptr     : SMap Nat := []
  /-- GTC at which each array's lap began (R425). Reset: 0 -/
  lapStart : SMap Nat := []
  /-- GTC at which the scrubber resumed (R424). Reset: 0 -/
  scrubAt  : Nat := 0
  /-- longest array lap of the running node lap in ns (R425). Reset: 0 -/
  lapMax  : Nat := 0
  /-- arrays that have completed a lap of the running node lap (R425). Reset: none -/
  lapsDone : List Nat := []
  /-- INTEG_SCRUB_LAP in ms (R439). Reset: 0 -/
  lap     : Nat := 0
  /-- event 513 raised for this node lap (R425, R430). Reset: no -/
  lapLate : Bool := false
  /-- wrong bits of each word, by array × 2,048 + word (R415). Reset: none -/
  bad     : SMap (BitVec 80) := []
  /-- pending-repair list (R421). Reset: empty, DESIGN CHOICE (log 4) -/
  pending : List RepairRec := []
  /-- spares used by each array: rows, columns (R420). Reset: 0 -/
  spares  : SMap (Nat × Nat) := []
  /-- arrays that raised event 511 (R438). Reset: none -/
  noSpare : List Nat := []
  /-- INTEG_CE_LOG (R439): valid, bit, array, word. Reset: 0 -/
  ceLog   : Option (Nat × Nat × Nat) := none
  /-- pending-repair list full reported (R421). Reset: no -/
  listFull : Bool := false
  deriving DecidableEq, Repr

/-- R444: an assigned packet-memory block: its pool and owner tags by buffer. -/
structure CopBlock where
  pool   : Nat
  owners : List (Nat × Nat)
  deriving DecidableEq, Repr

/-- Coppice. -/
structure Cop where
  /-- assigned blocks by number (R442). Reset: all free -/
  blocks : SMap (Option CopBlock) := []
  /-- pool 3 buffers in use, with owner (R442). Reset: none -/
  pool3  : List (Nat × Nat) := []
  /-- state of each pool (R449): 0 to 3. Reset: NORMAL -/
  st     : SMap Nat := []
  /-- waiting allocations: pool, bytes, owner, under a grant, in arrival order (R444). Reset: none -/
  waiting : List (Nat × Nat × Nat × Bool) := []
  /-- pools whose COP_LOW holds a value since it was last read (R462). Reset: none -/
  lowKnown : List Nat := []
  /-- COP_BADFREE_LAST: transfer or free, pool, buffer (R446, R449). Reset: none -/
  badLast : Option (Bool × Nat × Nat) := none
  /-- COP_BADFREE_WHO: owner and caller (R446, R449). Reset: 0 -/
  badWho  : Nat × Nat := (0, 0)
  /-- bytes of arrival buffers held (R447). Reset: 0 -/
  arrival : Nat := 0
  deriving DecidableEq, Repr

/-- R452: the counters of a monitor unit. -/
structure Perf where
  cycle : Nat := 0
  cnt   : SMap Nat := []
  deriving DecidableEq, Repr

/-- R458: a recorder record. -/
structure Rec where
  gtc    : Nat
  path   : Nat
  sat    : Bool
  merged : Bool
  rep    : Nat
  min    : Nat
  max    : Nat
  count  : Nat
  bins   : SMap Nat
  deriving DecidableEq, Repr

/-- R456: what a path has collected in the running span. -/
structure RecAcc where
  min   : Nat := 0
  max   : Nat := 0
  count : Nat := 0
  sat   : Bool := false
  bins  : SMap Nat := []
  deriving DecidableEq, Repr

/-- Event recorder. -/
structure Recorder where
  /-- record store, oldest first (R458, R459). Reset: empty -/
  store  : List Rec := []
  /-- accumulators of the running span by path (R456). Reset: empty -/
  acc    : SMap RecAcc := []
  /-- FROZEN (R460). Reset: no -/
  frozen : Bool := false
  /-- THAW issued: the next records are MERGED (R460) -/
  thawed : Bool := false
  /-- the store is full (R459, R464). Reset: no -/
  full   : Bool := false
  /-- first boundary after READY has passed (R457) -/
  started : Bool := false
  /-- start of the span being collected (R457). Reset: 0 -/
  spanAt : Nat := 0
  deriving DecidableEq, Repr

/-! ## Image, configuration store, management -/

/-- R361: CLOCKS. `refclk` by host group: 0 common, 1 SRNS, 2 SRIS. -/
structure ImgClocks where
  timeSrc  : Nat := 0
  ptpPort  : Nat := 0
  ppsEdge  : Nat := 0
  refclk   : List Nat := [0, 0, 0, 0]
  deriving DecidableEq, Repr

/-- R362: LANES. `groups` MAX_RATE and BIF of each host group; `lds` port, LD, MAP_ENTRIES. -/
structure ImgLanes where
  groups   : List (Nat × Nat) := []
  form     : Nat := 1
  rspWd    : Nat := 16
  lds      : List (Nat × Nat × Nat) := []
  deriving DecidableEq, Repr

/-- R363: a channel record. -/
structure ImgChan where
  dimms   : Nat
  density : Nat
  ranks   : Nat
  stack   : Nat
  deriving DecidableEq, Repr

/-- R363: an interleave-set record. -/
structure ImgSet where
  first    : Nat
  log2     : Nat
  map      : Nat
  gran     : Nat
  base     : Nat
  degraded : BitVec 16
  deriving DecidableEq, Repr

/-- R363: DRAM. -/
structure ImgDram where
  rate      : Nat := 80
  srIdle    : Nat := 1000
  patTarget : Nat := 24
  patMax    : Nat := 48
  chans     : List ImgChan := []
  sets      : List ImgSet := []
  deriving DecidableEq, Repr

/-- R364: NAND. `geometry` is bytes 0 to 63. -/
structure ImgNand where
  nch      : Nat := 0
  ndies    : Nat := 0
  luns     : Nat := 0
  cell     : Nat := 1
  blocks   : Nat := 0
  pages    : Nat := 0
  pageKib  : Nat := 16
  spareBytes : Nat := 2048
  parity   : Bool := false
  sparePct : Nat := 2
  geometry : List Byte := []
  rate     : Nat := 36
  retryMax : Nat := 8
  op       : Nat := 10
  reformat : Bool := false
  peRating : Nat := 0
  slcPe    : Nat := 0
  rdLimit  : Nat := 500
  wlDelta  : Nat := 300
  scanTarget : Nat := 14
  scanMax  : Nat := 30
  recLow   : Nat := 20
  recCrit  : Nat := 5
  rebuild  : Nat := 40
  deriving DecidableEq, Repr

/-- R365: TIERS. -/
structure ImgTiers where
  metaExtents : Nat := 0
  ceiling  : Nat := 24
  lifeYears : Nat := 7
  pinLimit : Nat := 25
  floor    : Nat := 100
  agePeriod : Nat := 100
  freeLow  : Nat := 0
  metaSlot : Nat := 0
  deriving DecidableEq, Repr

/-- R368: a map record. -/
structure ImgMap where
  ld    : Nat
  rd    : Bool
  wr    : Bool
  dpa   : Nat
  count : Nat
  grove : Nat
  gext  : Nat
  deriving DecidableEq, Repr

/-- R366 to R368: GROVES. `bytes` is the section in format 4 form, over which LAYOUT_ID is taken. -/
structure ImgGroves where
  maxGroves : Nat := 0
  allowDelete : Bool := false
  groves   : List GroveRec := []
  tmpls    : List GroveRec := []
  maps     : List ImgMap := []
  regions  : List DcRegion := []
  bytes    : List Byte := []
  deriving DecidableEq, Repr

/-- R369: a regulator record. -/
structure ImgReg where
  rt      : Bool
  kind    : Nat
  rtBurst : Nat
  burst   : Nat
  rate    : Nat
  deriving DecidableEq, Repr

/-- R369: CANOPY and QOS. -/
structure ImgCanopy where
  windfall : Bool := true
  enable   : Bool := true
  waymasks : List Nat := (List.replicate 31 0xFFFF) ++ [0]
  regs     : List ImgReg := []
  binding  : List Nat := [42, 43, 44, 45, 46, 47]
  deriving DecidableEq, Repr

/-- R370: a slot record. -/
structure ImgSlot where
  slot     : Nat
  bind     : Nat
  hardened : Bool
  pair     : Bool
  target   : Nat
  deriving DecidableEq, Repr

/-- R370: CIPHER. -/
structure ImgCipher where
  autoRoll : Bool := true
  floors   : List Nat := []
  slots    : List ImgSlot := []
  deriving DecidableEq, Repr

/-- R371: a NET port record. -/
structure ImgNetPort where
  port : Nat
  vlan : Nat
  mac  : Nat
  gw4  : BitVec 128
  gw6  : BitVec 128
  deriving DecidableEq, Repr

/-- R371: NET. `addrs` port, prefix length, address. -/
structure ImgNet where
  udpPort  : Nat := 7140
  maxVer   : Nat := 2
  qpCredit : Nat := 64
  reserve  : Nat := 32
  ackCount : Nat := 16
  ackDelay : Nat := 10
  rtoRetries : Nat := 8
  rtoTimeout : Nat := 100
  ports    : List ImgNetPort := []
  addrs    : List (Nat × Nat × BitVec 128) := []
  classes  : List PeerClass := []
  deriving DecidableEq, Repr

/-- R371: TWIN. -/
structure ImgTwin where
  thb      : Nat := 20
  fence    : Nat := 5
  netHb    : Bool := false
  tjoin    : Nat := 10
  linkSlot : Nat := 0
  hbPort   : Nat := 0
  hbUdp    : Nat := 7141
  peerAddr : BitVec 128 := 0
  deriving DecidableEq, Repr

/-- R372: a FAULT record. `wUnit` 0 µs, 1 ms, 2 s; grace in ms. -/
structure ImgFault where
  event : Nat
  n     : Nat
  level : Nat
  wUnit : Nat
  wVal  : Nat
  grace : Nat
  deriving DecidableEq, Repr

/-- R373, R386: a step of the power table: EN index, PG timeout, PG-low timeout, settle, in ms. -/
structure PStep where
  en     : Nat
  pgMs   : Nat
  lowMs  : Nat
  settle : Nat
  deriving DecidableEq, Repr

/-- R373, R385: the power-table sector, or the silicon default. -/
structure PTable where
  steps    : List PStep
  retries  : Nat
  stretch  : List Nat
  depends  : List (BitVec 12)
  throttle : Nat
  restartHold : Bool
  checked  : Bool
  estoreReq : Bool
  deriving DecidableEq, Repr

/-- R39, R374: MODES. -/
structure ImgModes where
  cellar   : Nat := 1
  path     : Nat := 0
  prot     : Nat := 0
  refresh  : Nat := 0
  log      : Nat := 1
  policy   : Nat := 0
  restart  : Nat := 0
  debugGate : Bool := false
  deriving DecidableEq, Repr

/-- R356 to R374: the Gemain image in format 4 form. -/
structure Image where
  version  : Nat := 0
  /-- the bank holds a format 3 image (R360) -/
  format3  : Bool := false
  clocks   : ImgClocks := {}
  lanes    : ImgLanes := {}
  dram     : ImgDram := {}
  nand     : ImgNand := {}
  tiers    : ImgTiers := {}
  groves   : ImgGroves := {}
  canopy   : ImgCanopy := {}
  cipher   : ImgCipher := {}
  net      : Option ImgNet := none
  twin     : Option ImgTwin := none
  /-- RECORDER: EPOCH in ms and PATHS (R371) -/
  recEpoch : Nat := 1000
  recPaths : Nat := 0
  faults   : List ImgFault := []
  power    : Option PTable := none
  modes    : ImgModes := {}
  deriving DecidableEq, Repr

/-- R473: a sector's header. -/
structure SectorHdr where
  started : Bool := true
  done    : Bool := true
  erases  : Nat := 0
  bad     : Bool := false
  /-- event 598 raised for the sector (R472) -/
  worn    : Bool := false
  deriving DecidableEq, Repr

/-- R465, R466: the node record. -/
structure NodeRec where
  active   : Nat := 0
  epoch    : Nat := 0
  lastRole : Role := .unset
  binds    : List Nat := []
  provMark : Bool := true
  deriving DecidableEq, Repr

/-- R466: one copy of a duplicated item: its sequence number, whether its CRC holds, and the item as it was when the copy
was written. -/
structure CopySt where
  seq  : Nat := 0
  ok   : Bool := true
  tbl  : Option PTable := none
  fix  : List RepairRec := []
  node : NodeRec := {}
  deriving DecidableEq, Repr

/-- R468: the store's command engine. `unlock` 0 closed, 1 first key, 2 both keys, 3 command
written, 4 address written (words may follow). -/
structure FlashEng where
  unlock : Nat := 0
  who    : Nat := 0
  cmd    : Nat := 0
  words  : Nat := 0
  page   : Nat := 0
  busy   : Bool := false
  /-- the running command and its address -/
  run    : Nat := 0
  /-- address of the running command (R469). Reset: 0 -/
  runAt  : Nat := 0
  /-- bank of the running command (R470). Reset: 0 -/
  bank   : Nat := 0
  /-- CFG_FLASH_STATUS.RESULT (R489). Reset: 0 -/
  result : Nat := 0
  /-- completion owed for STORE_WRITE or STORE_ERASE (R485): path, tag, words or none -/
  owed   : Option (Path × Nat) := none
  todo   : List Word := []
  deriving DecidableEq, Repr

/-- R489: STATE of Glade. -/
inductive DbgState | closed | challenged | opening | opened
  deriving DecidableEq, Repr

/-- Configuration store, image registers, Glade and management. -/
structure Cfg where
  /-- the store's bytes by store address (R465); an erased byte reads 0xFF. Reset: erased, DESIGN CHOICE (log 4) -/
  flash   : SMap Byte := []
  /-- sector headers by sector number (R473). Reset: whole, DESIGN CHOICE (log 4) -/
  hdrs    : SMap SectorHdr := []
  /-- the node record (R465). Reset: provisioning mark set (R483), rest DESIGN CHOICE (log 4) -/
  node    : NodeRec := {}
  /-- the copies of the duplicated items (R466), item × 2 + bank: 0 power table, 1 pending-repair list, 2 node record.
  Reset: sequence number 0, valid, DESIGN CHOICE (log 4) -/
  copies  : SMap CopySt := []
  /-- items one copy of which is to be rewritten after READY (R466). Reset: none -/
  toRewrite : List Nat := []
  /-- training values saved for each DRAM channel (R206). Reset: none -/
  savedDram : SMap (Option TrainKey) := []
  /-- training values saved for each NAND channel (R234). Reset: none -/
  savedNand : SMap (Option TrainKey) := []
  /-- the store's command engine (R468). Reset: locked and idle -/
  eng     : FlashEng := {}
  /-- CFG_RDP (R489): LEVEL, LOWERING. Parts are shipped at level 1 (R476) -/
  rdp     : Nat := 1
  /-- LOWERING (R478, R489). Reset: 0 -/
  lowering : Bool := false
  /-- image registers (R380): running 0 none, 1 A, 2 B -/
  running : Nat := 0
  /-- FALLBACK (R353, R380). Reset: 0 -/
  fallback : Bool := false
  /-- RELAYOUT (R377, R380). Reset: 0 -/
  relayout : Bool := false
  /-- REFORMAT (R364, R380). Reset: 0 -/
  reformat : Bool := false
  /-- stage at which bank A failed (R380). Reset: 0 -/
  stageA  : Nat := 0
  /-- reason for which bank A failed (R380). Reset: 0 -/
  reasonA : Nat := 0
  /-- stage at which bank B failed (R380). Reset: 0 -/
  stageB  : Nat := 0
  /-- reason for which bank B failed (R380). Reset: 0 -/
  reasonB : Nat := 0
  /-- CFG_IMAGE_DETAIL of banks A and B (R380). Reset: 0 -/
  detail  : Nat × Nat := (0, 0)
  /-- LAYOUT_ID of the running image (R377, R380). Reset: 0 -/
  layoutId : BitVec 64 := 0
  /-- the image read in stage 5 (R353). Reset: none -/
  cand    : Option Image := none
  /-- banks still to try (R353) -/
  toTry   : List Nat := []
  /-- the image in force since stage 6 (R353). Reset: none -/
  img     : Option Image := none
  /-- stage reported by the last VERIFY (R380, R381). Reset: 0 -/
  cmdStage : Nat := 0
  /-- reason reported by the last VERIFY (R380, R381). Reset: 0 -/
  cmdReason : Nat := 0
  /-- what the boot code finds of bank A (R359, R406). Reset: good -/
  verdictA : BankVerdict := ⟨true, true, true, true⟩
  /-- what the boot code finds of bank B (R359, R406). Reset: good -/
  verdictB : BankVerdict := ⟨true, true, true, true⟩
  /-- GLB_FW_VERSION (R504). Reset: 0 -/
  fwVersion : Word := 0
  /-- DBG (R489) -/
  dbg     : DbgState := .closed
  /-- DEBUG_GATE of the image (R374, R489). Reset: 0 -/
  gate    : Bool := false
  /-- LOCKED (R480, R489). Reset: 0 -/
  locked  : Bool := false
  /-- purpose of the challenge (R480). Reset: 0 -/
  purpose : Nat := 0
  /-- purpose asked for and not yet drawn (R480). Reset: 0 -/
  pendPurpose : Nat := 0
  /-- GTCs of failed responses (R480). Reset: none -/
  fails   : List Nat := []
  /-- the challenge (R480). Reset: 0 -/
  challenge : BitVec 256 := 0
  /-- GTC of the challenge (R480). Reset: 0 -/
  challengeAt : Nat := 0
  /-- a lowering is authorised (R478, R480). Reset: no -/
  lowerAuth : Bool := false
  /-- I3C dynamic address (R484). Reset: none -/
  i3c     : Option Nat := none
  /-- JTAG instruction loaded (R479). Reset: 0xFF, BYPASS, PRESUMED (log 6) -/
  jtagIr  : Nat := 0xFF
  /-- service processor running (R478, R493). Reset: no -/
  spRun   : Bool := false
  /-- bank that a PLDM update has written (R381, R487). Reset: none -/
  pldmBank : Nat := 0
  deriving DecidableEq, Repr

/-! ## Power, time, thermal -/

/-- R413: STATE of the power supervisor. -/
inductive PwrState | standby | powerUp | on | cellar | powerDown | offWait | hold | gaveUp
  deriving DecidableEq, Repr

/-- R398: a power-log record. -/
structure PwrRec where
  gtc     : Nat
  src     : Nat
  reason  : Nat
  step    : Nat
  attempt : Nat
  en      : BitVec 12
  pg      : BitVec 12
  infail  : Bool
  estore  : Bool
  trip    : Bool
  stage   : Nat
  tj      : Int
  seq     : Nat
  ups     : Nat
  /-- ELAPSED of each rail in 10 µs -/
  elapsed : SMap Nat
  torn    : Bool
  deriving DecidableEq, Repr

/-- Power supervisor, pins and bring-up (AON domain, R382). -/
structure Pwr where
  /-- VDD_AON valid (R382). Reset: not yet -/
  aon      : Bool := false
  /-- PWR_SEQ_STATUS.STATE (R413). Reset: STANDBY -/
  state    : PwrState := .standby
  /-- STAGE[3:0] (R405). Reset: 0x0 -/
  stage    : Nat := 0
  /-- sub-step of stage 2: 0 waiting for PG, 1 settling, 2 waiting for a retry (R387, R388). Reset: 0 -/
  sub      : Nat := 0
  /-- STEP (R413). Reset: 0 -/
  step     : Nat := 0
  /-- ATTEMPT (R388, R413). Reset: 0 -/
  attempt  : Nat := 0
  /-- the sector's table as stored (R385); `none` is blank. Reset: blank, DESIGN CHOICE (log 4) -/
  sector   : Option PTable := none
  /-- the table in use (R386). Reset: none -/
  table    : Option PTable := none
  /-- DEFAULT (R386, R413). Reset: 0 -/
  dflt     : Bool := false
  /-- EN pins (R387). Reset: low -/
  en       : BitVec 12 := 0
  /-- filtered PG (R413). Reset: 0 -/
  pg       : BitVec 12 := 0
  /-- RSTO_N pins released (R389). Reset: driven low -/
  rsto     : BitVec 4 := 0
  /-- AON time of the last EN edge of each rail, and ELAPSED of R398. Reset: 0 -/
  enAt     : SMap (Option Nat) := []
  /-- ELAPSED of each rail in 10 µs (R398). Reset: 0 -/
  elapsed  : SMap Nat := []
  /-- filtered INFAIL_N asserted (R393, R413). Reset: 0 -/
  infail   : Bool := false
  /-- filtered ESTORE_OK asserted (R395, R413). Reset: 0 -/
  estore   : Bool := false
  /-- the thermal trip is asserted (R391, R529). Reset: no -/
  trip     : Bool := false
  /-- READY pin (R405). Reset: low -/
  ready    : Bool := false
  /-- READY has come since the registers were last reset: RWL fields are locked (R7). Reset: no -/
  wasReady : Bool := false
  /-- FAULT_N driven low (R404, R405). Reset: no -/
  faultN   : Bool := false
  /-- a stop (R404) -/
  stopped  : Bool := false
  /-- the bring-up is warm (R409). Reset: no -/
  warm     : Bool := false
  /-- straps latched in stage 1 (R406) -/
  nodeB    : Bool := false
  /-- STRAP_BOOT latched (R406). Reset: 0 -/
  boot     : Nat := 0
  /-- I3C address straps latched (R406). Reset: 0 -/
  i3cAddr  : Nat := 0
  /-- a strap did not hold still (R406). Reset: no -/
  unstable : Bool := false
  /-- PWR_LAST_START: kind (R414). Reset: 0 -/
  startKind : Nat := 0
  /-- PWR_LAST_START: event (R414). Reset: 0 -/
  startEvt : Nat := 0
  /-- AON time count in ns (R382). Reset: 0 -/
  aonTime  : Nat := 0
  /-- PWR_CLEAR_COUNT (R410). Reset: 0 -/
  clears   : Nat := 0
  /-- GTCs of recent Clearings (R410). Reset: none -/
  clearAt  : List Nat := []
  /-- AON buffer, oldest first (R399). Reset: empty -/
  buf      : List PwrRec := []
  /-- records of the ring in the store, oldest first (R399, R466). Reset: empty -/
  ring     : List PwrRec := []
  /-- records programmed into the ring since it was made (R399). Reset: 0 -/
  ringAt   : Nat := 0
  /-- sequence number of the next record (R398). Reset: 0 -/
  recSeq   : Nat := 0
  /-- power-up count of the records (R398). Reset: 0 -/
  ups      : Nat := 0
  /-- after the off time: false restart policy, true HOLD (R391) -/
  toHold   : Bool := false
  /-- a rail failed in stage 2, so the rails go down for a retry (R388) -/
  retrying : Bool := false
  /-- stage 1 abandoned until INFAIL_N deasserts (R393) -/
  waitSupply : Bool := false
  /-- the minimum off time has passed and AUTO waits for the supply (R392) -/
  offPast  : Bool := false
  /-- rails still to be deasserted, in order; the first one's EN is low and its PG is awaited (R390) -/
  downSteps : List Nat := []
  /-- the store's rails are held for the log buffer (R390) -/
  flushWait : Bool := false
  /-- EXTEST, CLAMP or HIGHZ holds the warm bring-up at stage 3 (R479) -/
  jtagHold : Bool := false
  /-- bring-up start, for BRINGUP_MS (R503) -/
  upAt     : Nat := 0
  /-- BRINGUP_MS (R503). Reset: 0 -/
  upMs     : Nat := 0
  /-- power-ups abandoned for INFAIL_N in a row (R393). Reset: 0 -/
  infailUps : Nat := 0
  deriving DecidableEq, Repr

/-- Time base and clocks. -/
structure Clk where
  /-- GTC (R27). Reset: 0 -/
  gtc      : Nat := 0
  /-- GTC_CORR_LEFT in ns (R506). Reset: 0 -/
  corr     : Int := 0
  /-- GCLK cycles since the last adjusted cycle (R28). Reset: 0 -/
  sinceAdj : Nat := 0
  /-- GTC_STATUS.DISC (R506). Reset: 0 -/
  disc     : Nat := 0
  /-- GTC_STATUS.LOCKED (R506). Reset: 0 -/
  locked   : Bool := false
  /-- GTC_STATUS.STEPPED (R506). Reset: 0 -/
  stepped  : Bool := false
  /-- GTC_STATUS.OFFSET (R506). Reset: 0 -/
  offset   : Int := 0
  /-- CLK_RUNNING (R505). Reset: 0 -/
  running  : BitVec 28 := 0
  /-- MCLK PLLs locked (R505) -/
  mclk     : Bool := false
  /-- last PPS capture (R524) -/
  pps      : Option Nat := none
  deriving DecidableEq, Repr

/-- R527: a thermal sensor, temperature in 0.25 °C. -/
structure Sensor where
  valid : Bool := false
  temp  : Int := 0
  /-- it has been read since its supply came up -/
  seen  : Bool := false
  /-- consecutive valid samples at 120 °C or more (R529) -/
  hotFor : Nat := 0
  deriving DecidableEq, Repr

/-- R528: a quadrant. -/
structure Quad where
  duty   : Nat := 16
  spread : Bool := false
  /-- hottest valid reading of the period, quarter degrees -/
  hot    : Option Int := none
  minSince : Option Nat := none
  raised609 : Bool := false
  deriving DecidableEq, Repr

/-- Thermal unit. -/
structure Therm where
  /-- sensors by number (R527). Reset: none sampled -/
  sensors : SMap Sensor := []
  /-- quadrants by number (R528). Reset: full duty -/
  quads   : SMap Quad := []
  /-- sampling has begun (R527). Reset: no -/
  began   : Bool := false
  /-- GLB_THERM_TRIP fields that only hardware sets (R531) -/
  tripAnalog : Bool := false
  /-- GLB_THERM_TRIP: the sensor (R531). Reset: 0 -/
  tripSensor : Nat := 0
  /-- GLB_THERM_TRIP: the reading (R531). Reset: 0 -/
  tripTemp : Int := 0
  deriving DecidableEq, Repr

/-- Fuses and the calibration row: fixed for the part's life (R475, R479, R504). -/
structure Fuse where
  part     : Part := .sbx4816
  /-- the -C6 bin (R4) -/
  c6       : Bool := false
  /-- the device-unique key (R334) -/
  duk      : BitVec 256 := 0
  /-- hash of the image signing key (R359) -/
  keyHash  : BitVec 384 := 0
  /-- hash of the Glade key (R480) -/
  dbgHash  : BitVec 384 := 0
  /-- calibration row: 1,024 bytes at 0x400_0000 (R475) -/
  cal      : SMap Byte := []
  calOk    : Bool := true
  /-- the fuse map's spare repairs: array, and whether a column (R420) -/
  repairs  : List (Nat × Bool) := []
  deriving DecidableEq, Repr

/-! ## The whole -/

/-- The controller. -/
structure State where
  /-- commands waiting, first in first out: the block's input queue. Reset: empty -/
  pending : List Instr := []
  /-- fuses and calibration (R1, R475) -/
  fuse    : Fuse := {}
  /-- power supervisor, pins, bring-up (R382) -/
  pwr     : Pwr := {}
  /-- time base and clocks (R22, R27) -/
  clk     : Clk := {}
  /-- thermal unit (R527) -/
  therm   : Therm := {}
  /-- sequencer and merge (R30, R33) -/
  seqr    : Seqr := {}
  /-- Canopy cache (R173) -/
  can     : Canopy := {}
  /-- tier manager and media (R130) -/
  tier    : Tier := {}
  /-- DRAM controllers (R201) -/
  dram    : Dram := {}
  /-- NAND controllers (R233) -/
  nand    : Nand := {}
  /-- CXL host ports (R259) -/
  host    : HostBlk := {}
  /-- network engine (R286) -/
  net     : Net := {}
  /-- twin replication (R75) -/
  twin    : Twin := {}
  /-- cipher engine (R330) -/
  cipher  : Cipher := {}
  /-- fault collector (R428) -/
  flt     : Flt := {}
  /-- integrity unit (R415) -/
  integ   : Integ := {}
  /-- Coppice (R442) -/
  cop     : Cop := {}
  /-- monitors (R452) -/
  perf    : SMap Perf := []
  /-- event recorder (R456) -/
  recd    : Recorder := {}
  /-- configuration store and access (R465) -/
  cfg     : Cfg := {}
  /-- stored register fields by control-space address; an unlisted register reads its reset value (R491, R494). Reset: nothing listed -/
  regs    : SMap Word := []
  /-- latched _HI halves (R496), by path source × 2^32 + address. Reset: none -/
  latch   : SMap (Option Word) := []
  /-- everything sent, newest first (log 2). Reset: nothing -/
  out     : List Out := []
  /-- next identifier for engine work (reads, jobs, programs, entries). The model's own. Reset: 0 -/
  ids     : Nat := 0
  /-- next free value: argument of the opaque choices of Config. The model's own. Reset: 0, DESIGN CHOICE (log 3) -/
  free    : Nat := 0
  deriving DecidableEq, Repr

/-- The controller right after reset: before VDD_AON is valid, with nothing commanded. -/
def State.reset : State := {}

end Sys2Proof.Machine
end

