-- ==== Sys2Proof/Machine/Ops.lean ====
section
/-!
DEFINITION. The operations every family shares: the part's figures, sending, fresh identifiers and free
values, stored register fields, time, events, the access event, and the power log.
-/

namespace Sys2Proof.Machine

open Sys2Proof

/-! ## The part (R1, R3, R10, R504) -/

/-- The smaller part. -/
def isSmall (s : State) : Bool := s.fuse.part == .sbx4808

/-- Canopy slices with their landing banks, and DRAM channels (R10, R11). -/
def nSlices (s : State) : Nat := if isSmall s then 8 else 16

/-- NAND channels (R10). -/
def nNand (s : State) : Nat := if isSmall s then 16 else 32

/-- Host ports at x4 (R10). -/
def nHost (s : State) : Nat := if isSmall s then 8 else 16

/-- Quadrants (R10). -/
def nQuads (s : State) : Nat := if isSmall s then 2 else 4

/-- Network lane groups (R10, R504). -/
def nNetGroups (s : State) : Nat := nQuads s

/-- Cipher lanes (R504). -/
def nLanes (s : State) : Nat := if isSmall s then 48 else 96

/-- Network ports at a FORM: 0 800GbE on two groups, 1 400GbE, 2 200GbE on half a group (R286). -/
def nNet (s : State) (form : Nat) : Nat :=
  if form = 0 then nNetGroups s / 2 else if form = 1 then nNetGroups s else nNetGroups s * 2

/-! ## Sending, identifiers, free values -/

/-- Sends one message (log 2). -/
def send (o : Out) (s : State) : State := { s with out := o :: s.out }

/-- Sends messages in order. -/
def sendAll (os : List Out) (s : State) : State := { s with out := os.reverse ++ s.out }

/-- The next identifier for engine work is used up. -/
def bumpId (s : State) : State := { s with ids := s.ids + 1 }

/-- The next free value is used up (log 3). -/
def useFree (s : State) : State := { s with free := s.free + 1 }

/-! ## Stored register fields -/

/-- What an unlisted register reads as (R501). -/
def regDflt (id : RegId) : Word :=
  match regOf id with
  | some r => lo32 r.resetWord
  | none => 0

/-- The stored word of a register. -/
def regWord (s : State) (id : RegId) (i : Nat := 0) (j : Nat := 0) : Nat :=
  (SMap.get s.regs (regDflt id) (regAddr id i j)).toNat

/-- Stores a register's word. -/
def setRegWord (id : RegId) (i j : Nat) (v : Nat) (s : State) : State :=
  { s with regs := SMap.set s.regs (regDflt id) (regAddr id i j) (lo32 v) }

/-- A stored field [hi:lo]. -/
def fld (s : State) (id : RegId) (hi lo : Nat) (i : Nat := 0) (j : Nat := 0) : Nat :=
  bitsOf (regWord s id i j) hi lo

/-- Writes a stored field. -/
def setFld (id : RegId) (i hi lo x : Nat) (s : State) : State :=
  setRegWord id i 0 (putBits (regWord s id i) hi lo x) s

/-- Hardware increment of an RC counter, saturating (R7, R498). -/
def bumpRc (id : RegId) (i hi lo n : Nat) (s : State) : State :=
  setFld id i hi lo (satAdd (hi + 1 - lo) (fld s id hi lo i) n) s

/-- An RC field that keeps the greatest value since it was read. -/
def maxRc (id : RegId) (i hi lo n : Nat) (s : State) : State :=
  setFld id i hi lo (max (fld s id hi lo i) (min n (2 ^ (hi + 1 - lo) - 1))) s

/-- Hardware sets a bit (RW1C, R7). -/
def setBit (id : RegId) (i n : Nat) (s : State) : State := setFld id i n n 1 s

/-! ## Time -/

/-- GCLK runs: the GTC counts (R27, R505 bit 21). -/
def gtcRuns (s : State) : Bool := s.clk.running.getLsbD 21

/-- The GTC, or the AON time count while the GTC is not running (R398). -/
def now (s : State) : Nat := if gtcRuns s then s.clk.gtc else s.pwr.aonTime

/-! ## Bring-up state -/

/-- READY is high (R405): stage 10. -/
def isReady (s : State) : Bool := s.pwr.stage == 10 && !s.pwr.stopped

/-- R428: the events that a group lists, of units that the part has; no other is ever set. -/
def eventListed (s : State) (e : Nat) : Bool :=
  let within (a b : Nat) : Bool := decide (a ≤ e) && decide (e ≤ b)
  (within 0 13 || within 32 57 || within 64 398 || within 416 431 || within 440 452 || within 472 483 || within 496 516
      || within 544 581 || within 584 598 || within 600 604 || within 608 612 || within 616 618 || within 624 629)
    && !(isSmall s && (([34, 35, 38, 39, 43, 44, 47, 48] : List Nat).contains e || within 144 223 || within 272 319
      || within 352 383 || within 388 391))

/-- R7: RWL fields are locked from READY until the registers are reset. -/
def rwlLocked (s : State) : Bool := isReady s || s.pwr.wasReady

/-- The fault collector takes occurrences: from stage 3, outside Clearing entry and power-down
(R393, R437). -/
def collecting (s : State) : Bool := decide (3 ≤ s.pwr.stage) && decide (s.pwr.stage ≤ 11)

/-- The node serves as SOLO or LEADER (R75, R76). -/
def serving (s : State) : Bool := s.twin.role == .solo || s.twin.role == .leader

/-- The image in force. -/
def img (s : State) : Image := s.cfg.img.getD {}

/-! ## Paths (R493) -/

/-- Source number of a path. -/
def srcOf : Path → Nat
  | .sp => 311
  | .mgmt => 312
  | .glade => 313
  | .mailbox p l => 16 * p + l

/-- MGMT privilege. -/
def isMgmt : Path → Bool
  | .mailbox _ _ => false
  | _ => true

/-! ## Events (R428 to R437)

`raise` notes an occurrence; the collector takes every occurrence of a command at its end, as those of
one cycle (R437, Machine/React.lean). -/

/-- An occurrence of an event, with the target of an L2 reaction. -/
def raiseAt (e tgt : Nat) (s : State) : State :=
  { s with flt := { s.flt with raised := s.flt.raised ++ [⟨e, tgt, 0, none⟩] } }

/-- An occurrence of an event without a target. -/
def raise (e : Nat) (s : State) : State := raiseAt e 0 s

/-- An occurrence whose Clearing is unconditional (R197, R422); 0x3FF is the CLEAR command. -/
def raiseClearing (e : Nat) (s : State) : State :=
  { s with flt := { s.flt with raised := s.flt.raised ++ [⟨e, 0, 3, none⟩] } }

/-- An occurrence whose power-off is unconditional (R339). -/
def raiseOff (e : Nat) (s : State) : State :=
  { s with flt := { s.flt with raised := s.flt.raised ++ [⟨e, 0, 4, none⟩] } }

/-- A condition, then a state change. -/
def onlyIf (b : Bool) (f : State → State) (s : State) : State := if b then f s else s

/-- R500: the access event, 604, with its record. CAUSE: 0 unassigned, 1 privilege, 2 RWL after READY,
3 range or order, 4 state. Before stage 3 the GLB block is not there. -/
def accessEvent (write : Bool) (cause : Nat) (p : Path) (addr : Nat) (s : State) : State :=
  if s.pwr.stage < 3 then s else
  let s1 :=
    if fld s .glbAccErr0 31 31 = 1 then s
    else
      setRegWord .glbAccErr1 0 0 addr
        (setRegWord .glbAccErr0 0 0
          (2 ^ 31 + b2n write * 2 ^ 30 + cause * 2 ^ 27 + srcOf p) s)
  raise 604 (bumpRc .glbAccCount 0 31 0 1 s1)

/-! ## Completions -/

/-- R278: vectors of a mailbox completion: 0, and 6 for seal, schedule and grove commands. -/
def mailboxIrq (p : Path) (code : Nat) (s : State) : State :=
  match p with
  | .mailbox q l =>
    let s1 := send (.msix q l 0) s
    if [0x10, 0x11, 0x12, 0x20, 0x21, 0x22, 0x23].contains code then send (.msix q l 6) s1 else s1
  | _ => s

/-- Completes a Belvor command (R485). -/
def complete (p : Path) (tag code result : Nat) (body : List Nat) (s : State) : State :=
  mailboxIrq p code (send (.done p tag code result body) s)

/-- Completes a CXL mailbox command of an LD: 0 success, 1 invalid input, 2 resources exhausted,
3 unsupported; MSI-X 0 follows (R278). -/
def mboxDone (port ld tag result : Nat) (body : List Nat) (s : State) : State :=
  send (.msix port ld 0) (send (.fmDone tag result body) s)

/-- A Belvor command that needs MGMT, sent with HOST privilege: 0x81 and event 602 (R485). -/
def mgmtOnly (p : Path) (tag code : Nat) (f : State → State) (s : State) : State :=
  if isMgmt p then f s else raise 602 (complete p tag code 0x81 [] s)

/-- A write of a register that only management writes: ignored with an access event (R500). -/
def mgmtWrite (p : Path) (addr : Nat) (f : State → State) (s : State) : State :=
  if isMgmt p then f s else accessEvent true 1 p addr s

/-! ## Events that happen while the collector may be down -/

/-- A supervisor event: taken at once by a running collector, otherwise kept with its stamp and
raised at the next stage 3 (R393). -/
def raisePwr (e : Nat) (s : State) : State :=
  if collecting s then raise e s
  else { s with flt := { s.flt with deferred := s.flt.deferred ++ [(now s, e)] } }

/-! ## The power log (R398, R399) -/

/-- Hottest valid sensor reading in °C (R398, TJ). -/
def hottest (s : State) : Int :=
  match (s.therm.sensors.filter (fun p => p.2.valid)).map (fun p => p.2.temp / 4) with
  | [] => 0
  | t :: l => l.foldl max t

/-- The record the supervisor would write now. -/
def pwrRec (reason src : Nat) (s : State) : PwrRec :=
  { gtc := now s, src := src, reason := reason, step := s.pwr.step, attempt := s.pwr.attempt,
    en := s.pwr.en, pg := s.pwr.pg, infail := s.pwr.infail, estore := s.pwr.estore,
    trip := s.pwr.trip, stage := s.pwr.stage, tj := hottest s, seq := s.pwr.recSeq,
    ups := s.pwr.ups, elapsed := s.pwr.elapsed, torn := false }

/-- Writes a power-log record into the AON buffer; a full buffer overwrites its oldest record and
counts it, with event 11 (R399, R412). -/
def logPwr (reason src : Nat) (s : State) : State :=
  let r := pwrRec reason src s
  if s.pwr.buf.length < 8 then
    { s with pwr := { s.pwr with buf := s.pwr.buf ++ [r], recSeq := s.pwr.recSeq + 1 } }
  else
    raisePwr 11 (bumpRc .pwrLogTorn 0 15 0 1
      { s with pwr := { s.pwr with buf := s.pwr.buf.drop 1 ++ [r], recSeq := s.pwr.recSeq + 1 } })

/-- CRC-32C of bytes, bit-serial (R358, R398). -/
def crc32c (bs : List Byte) : BitVec 32 :=
  let step (c : BitVec 32) : BitVec 32 :=
    if c.getLsbD 0 then (c >>> 1) ^^^ 0x82F63B78#32 else c >>> 1
  ~~~ (bs.foldl (fun c b =>
    (List.range 8).foldl (fun c _ => step c) (c ^^^ b.setWidth 32)) (BitVec.allOnes 32))

/-- The 64 bytes of a power-log record (R398). A torn record reads 0xFF from byte 44 on (R399). -/
def PwrRec.bytes (checked : Bool) (r : PwrRec) : List Byte :=
  let head :=
    leBytes 8 r.gtc ++ leBytes 2 r.src ++ leBytes 1 r.reason ++ leBytes 1 (r.step % 16 + r.attempt * 16)
      ++ leBytes 2 r.en.toNat ++ leBytes 2 r.pg.toNat
      ++ leBytes 1 (b2n r.infail + 2 * b2n r.estore + 4 * b2n r.trip) ++ leBytes 1 r.stage
      ++ ((List.range 12).map (fun n => leBytes 2 (SMap.get r.elapsed 0 n))).flatten
      ++ leBytes 1 (twos 8 r.tj) ++ leBytes 1 0
  let rest := leBytes 4 r.seq ++ leBytes 4 r.ups ++ List.replicate 8 0
  let all := head ++ rest
  if r.torn then head ++ List.replicate 20 0xFF
  else all ++ (if checked then leBytes 4 (crc32c all).toNat else List.replicate 4 0xFF)

/-! ## Sectors and copies of the configuration store (R466, R473) -/

/-- A sector is whole (R473). -/
def sectorWhole (h : SectorHdr) : Bool := h.started && h.done

/-- Bytes of a store range read erased. -/
def eraseRange (lo n : Nat) (m : SMap Byte) : SMap Byte :=
  SMap.filterKeys m (fun a => decide (a < lo) || decide (lo + n ≤ a))

/-- R472, R473: an erase of a sector by the controller: blank, its header whole, its count risen; 598 once past
9,000. -/
def eraseSector (n : Nat) (s : State) : State :=
  let h := SMap.get s.cfg.hdrs {} n
  let s1 := { s with cfg := { s.cfg with
      flash := eraseRange (n * 65536) 65536 s.cfg.flash
      hdrs := SMap.set s.cfg.hdrs {} n
        { h with started := true, done := true, erases := h.erases + 1, worn := h.worn || decide (9000 < h.erases + 1) } } }
  onlyIf (decide (9000 < h.erases + 1) && !h.worn) (raise 598) s1

/-- R465: the sector of a copy of an item: 0 power table, 1 pending-repair list, 2 node record. -/
def copySector (item bank : Nat) : Nat := bank * 512 + 0x100 + (if item = 0 then 0 else item + 1)

/-- A copy of an item. -/
def copyOf (s : State) (item bank : Nat) : CopySt := SMap.get s.cfg.copies {} (2 * item + bank)

/-- Changes a copy of an item. -/
def updCopy (item bank : Nat) (f : CopySt → CopySt) (s : State) : State :=
  { s with cfg := { s.cfg with copies := SMap.upd s.cfg.copies {} (2 * item + bank) f } }

/-- R466: the copy that a writer rewrites: an invalid one, else the one with the lower sequence number. -/
def staleCopy (s : State) (item : Nat) : Nat :=
  let a := copyOf s item 0
  let b := copyOf s item 1
  if !a.ok then 0 else if !b.ok then 1 else if a.seq ≤ b.seq then 0 else 1

/-- R466: the item as it stands is written into a copy, with the higher sequence number plus 1. -/
def writeCopy (item : Nat) (s : State) : State :=
  let k := staleCopy s item
  let n := max (copyOf s item 0).seq (copyOf s item 1).seq + 1
  updCopy item k (fun _ => { seq := n, ok := true, tbl := s.pwr.sector, fix := s.integ.pending, node := s.cfg.node })
    (eraseSector (copySector item k) s)

/-- Changes the node record, which is stored where it changes (R465, R466). -/
def putNode (f : NodeRec → NodeRec) (s : State) : State :=
  let n := f s.cfg.node
  if n = s.cfg.node then s else writeCopy 2 { s with cfg := { s.cfg with node := n } }

/-- Changes the pending-repair list, which is stored (R421, R466). -/
def putRepairs (l : List RepairRec) (s : State) : State :=
  if l = s.integ.pending then s else writeCopy 1 { s with integ := { s.integ with pending := l } }

/-- An item of the store as a copy gives it; a blank one where neither copy is valid. -/
def takeCopy (item : Nat) (c : Option CopySt) (s : State) : State :=
  match item with
  | 0 => { s with pwr := { s.pwr with sector := c.bind (·.tbl) } }
  | 1 => { s with integ := { s.integ with pending := (c.map (·.fix)).getD [] } }
  | _ => { s with cfg := { s.cfg with node := (c.map (·.node)).getD { provMark := false } } }

/-- R466, R474: a copy in a half-erased sector is invalid. -/
def markCopies (item : Nat) (s : State) : State :=
  forEach [0, 1] (fun b t =>
    if sectorWhole (SMap.get t.cfg.hdrs {} (copySector item b)) then t else updCopy item b (fun c => { c with ok := false }) t) s

/-- R466: a reader uses the valid copy with the higher sequence number; with one copy invalid, event 596, and it is
rewritten after READY. -/
def readCopies (item : Nat) (s : State) : State :=
  let a := copyOf s item 0
  let b := copyOf s item 1
  let later (t : State) : State := raisePwr 596 { t with cfg := { t.cfg with toRewrite := insertNat item t.cfg.toRewrite } }
  if a.ok && b.ok then s
  else if a.ok then later (takeCopy item (some a) s)
  else if b.ok then later (takeCopy item (some b) s)
  else takeCopy item none s

end Sys2Proof.Machine
end

