-- ==== Sys2Proof/Machine/Frames.lean ====
section
/-!
DEFINITION. The bytes of what the twins exchange: the records of logical inputs (R43, R122, R147, R313, R367), the
digest record and its GHASH (R85), the payloads of frames (R122 to R125), their header (R121) and nonce (R118).
-/

namespace Sys2Proof.Machine

open Sys2Proof

/-! ## Encodings of names -/

/-- Encoding of a role (R127). -/
def roleCode : Role → Nat
  | .solo => 0
  | .leader => 1
  | .standby => 2
  | .joining => 3
  | .fenced => 4
  | .unset => 15

/-- R367: encoding of a level in a grove record. -/
def levelNum : Level → Nat
  | .vol => 1
  | .loc => 2
  | .mir => 3

/-- R367: encoding of a write policy. -/
def policyNum : Policy → Nat
  | .wb => 0
  | .wt => 1
  | .wa => 2
  | .na => 3

/-! ## Bodies of records -/

/-- A list of bytes with zeros up to `n` bytes. -/
def padTo (n : Nat) (bs : List Byte) : List Byte := bs ++ List.replicate (n - bs.length) 0

/-- A list of bytes with zeros up to a multiple of 8 (R122). -/
def pad8 (bs : List Byte) : List Byte := padTo (ceilDiv bs.length 8 * 8) bs

/-- R43: a grove map entry as its 64-bit word. -/
def mapWord (e : MapEntry) : Nat :=
  b2n e.valid * 2 ^ 63 + b2n e.rd * 2 ^ 62 + b2n e.wr * 2 ^ 61 + b2n e.dyn * 2 ^ 60 + e.dcRegion % 8 * 2 ^ 57
    + e.grove % 2 ^ 10 * 2 ^ 24 + e.extent % 2 ^ 24

/-- R147: an entry of a SCHEDULE record. -/
def schedEntryBytes (e : SchedEntry) : List Byte :=
  leBytes 8 e.deadline ++ leBytes 4 e.firstTile ++ leBytes 4 (e.grove % 2 ^ 10 * 2 ^ 22 + e.count % 2 ^ 22)

/-- R147: the body of a SCHEDULE command. -/
def schedCmdBytes (c : SchedCmd) : List Byte :=
  leBytes 2 (c.cmd * 2 ^ 12 + c.id % 2 ^ 12) ++ leBytes 2 (b2n c.late + 2 * b2n c.target) ++ leBytes 2 (c.origin % 2 ^ 12)
    ++ leBytes 2 c.entries.length ++ leBytes 4 c.lateBound ++ leBytes 4 c.hold ++ c.entries.flatMap schedEntryBytes

/-- R367: a grove record's 128 bytes. -/
def groveRecBytes (r : GroveRec) : List Byte :=
  padTo 128 (padTo 88 (padTo 24 (leBytes 2 r.grove ++ leBytes 1 r.op ++ leBytes 1 (levelNum r.level) ++ leBytes 2 r.keySlot
      ++ leBytes 1 r.wayClass ++ leBytes 1 r.qos ++ leBytes 4 r.extents ++ leBytes 4 r.maxExtents ++ leBytes 2 r.tmpl
      ++ leBytes 1 r.regions.length ++ leBytes 1 r.sealers.length)
    ++ r.regions.flatMap (fun x => leBytes 4 x.first ++ leBytes 4 (policyNum x.policy)))
    ++ r.sealers.flatMap (fun x => leBytes 2 x))

/-- R313: a window of a KEY record. -/
def windowBytes (w : Window) : List Byte :=
  leBytes 8 w.base ++ leBytes 8 w.len ++ leBytes 8 w.off
    ++ leBytes 2 (b2n w.rd * 2 ^ 15 + b2n w.wr * 2 ^ 14 + b2n w.atomic * 2 ^ 13 + w.grove % 2 ^ 10) ++ leBytes 6 0

/-- R313: a KEY record of a registration. -/
def keyRecBytes (k : KeyRec) : List Byte :=
  leBytes 8 k.key.toNat ++ leBytes 1 k.windows.length ++ leBytes 1 (if k.any then 128 else k.peerClass) ++ leBytes 6 0
    ++ k.windows.flatMap windowBytes

/-! ## Records of inputs (R122) -/

/-- One record before its stamp: OP, grove, offset, data and PARAM. -/
structure RecPart where
  op    : Nat
  grove : Nat
  off   : Nat
  data  : List Byte
  param : Nat

/-- The enabled bytes of a piece with their offsets. -/
def pieceBytes (p : Piece) : List (Nat × Byte) := (bitsSet p.mask).map (fun k => (p.line * 64 + k, lineByte p.data k))

/-- Runs of consecutive bytes, in order: offset and bytes. -/
def runsOf : List (Nat × Byte) → List (Nat × List Byte)
  | [] => []
  | (o, b) :: rest =>
    match runsOf rest with
    | (o2, bs) :: more => if o + 1 = o2 then (o, b :: bs) :: more else (o, [b]) :: (o2, bs) :: more
    | [] => [(o, [b])]

/-- A run in records of at most 4,096 bytes. -/
def splitRun (fuel off : Nat) (bs : List Byte) : List (Nat × List Byte) :=
  match fuel with
  | 0 => []
  | n + 1 => if bs.length ≤ 4096 then [(off, bs)] else (off, bs.take 4096) :: splitRun n (off + 4096) (bs.drop 4096)

/-- The WRITE records of runs of bytes: CONT in all but the first. -/
def writeParts (g : Nat) (runs : List (Nat × List Byte)) : List RecPart :=
  ((runs.flatMap (fun x => splitRun (x.2.length / 4096 + 1) x.1 x.2)).zipIdx).map (fun x =>
    ⟨0, g, x.1.1, x.1.2, if x.2 = 0 then 0 else 1⟩)

/-- R122: the records of an input. Set LSA writes the label area of grove 1,023 (R266). -/
def recParts : RecOp → List RecPart
  | .write g ps => writeParts g (runsOf (ps.flatMap pieceBytes))
  | .atomic g o k w => [⟨1, g, o, (w.map (fun x => leBytes 8 x.toNat)).getD [], k⟩]
  | .flush q l => [⟨2, 0, 0, [], q % 2 ^ 24 + (if l = .mir then 2 ^ 24 else 0)⟩]
  | .sealOp g f n => [⟨3, g, f * 65536, [], n⟩]
  | .unsealOp g f n => [⟨4, g, f * 65536, [], n⟩]
  | .sched c => [⟨5, 0, 0, schedCmdBytes c, 0⟩]
  | .grove r => [⟨6, r.grove, 0, groveRecBytes r, 0⟩]
  | .mapOp l d e => [⟨7, e.grove, 0, leBytes 8 (mapWord e), l * 2 ^ 24 + d % 2 ^ 22⟩]
  | .keyReg k => [⟨8, 0, 0, keyRecBytes k, 0⟩]
  | .keyRevoke k => [⟨8, 0, 0, leBytes 8 k.toNat, 1⟩]
  | .lsa l o d => writeParts 1023 [(Config.labelBase + l * 2 ^ 17 + o, d)]
  | .reserved n => [⟨n, 0, 0, [], 0⟩]

/-- R122: the 24-byte header of a record. -/
def recHead (gtc src : Nat) (p : RecPart) : List Byte :=
  leBytes 8 gtc ++ leBytes 2 (src % 2 ^ 12 * 16 + p.op % 16) ++ leBytes 2 (p.grove % 2 ^ 10 * 64) ++ leBytes 6 p.off
    ++ leBytes 2 p.data.length ++ leBytes 4 p.param

/-- R122: the bytes of an input's records. -/
def stampBytes (r : StampRec) : List Byte := (recParts r.op).flatMap (fun p => recHead r.gtc r.src p ++ pad8 p.data)

/-! ## The digest (R85) -/

/-- R85: the 32-byte digest record: the input's record header (of its first record where CONT joins several), the
low 32 bits of its number, and the CRC-32C of its data. -/
def digestRecord (r : StampRec) (seq : Nat) : List Byte :=
  let ps := recParts r.op
  let data := ps.flatMap (·.data)
  (match ps with
    | p :: _ => recHead r.gtc r.src p
    | [] => List.replicate 24 0)
  ++ leBytes 4 seq ++ leBytes 4 (if data.isEmpty then 0 else (crc32c data).toNat)

/-- Product in GF(2^128) as GHASH takes it: bit 127 is the coefficient of x^0. -/
def gfMul (x h : BitVec 128) : BitVec 128 :=
  ((List.range 128).foldl (fun (a : BitVec 128 × BitVec 128) k =>
    let z := if x.getLsbD (127 - k) then a.1 ^^^ a.2 else a.1
    let v := if a.2.getLsbD 0 then (a.2 >>> 1) ^^^ 0xE1000000000000000000000000000000#128 else a.2 >>> 1
    (z, v)) (0, h)).1

/-- R85: one digest record folded into the running GHASH under the digest key of the pair key `k`. -/
def digestFold (k : BitVec 512) (acc : BitVec 128) (r : StampRec) (seq : Nat) : BitVec 128 :=
  let h := Config.digestKey k
  let bs := digestRecord r seq
  let block (i : Nat) : BitVec 128 := BitVec.ofNat 128 (beNat (slice bs i 16))
  gfMul (gfMul (acc ^^^ block 0) h ^^^ block 16) h

/-! ## Payloads (R122 to R125) -/

/-- R124: KIND and data bytes of a chunk. -/
def chunkKind : ChunkBody → Nat × List Byte
  | .data l => (0, l.flatMap lineBytes)
  | .zero => (1, [])
  | .metaRec r => (2, stampBytes r)
  | .repair l => (3, match l with
    | some x => x.flatMap lineBytes
    | none => [])
  | .poisoned l m => (4, l.flatMap lineBytes ++ leBytes 16 m.toNat)
  | .sealStamp g s => (5, leBytes 8 g ++ leBytes 2 (s % 2 ^ 12) ++ leBytes 6 0)

/-- R124: a RESYNC_DATA payload. -/
def chunkBytes (c : Chunk) : List Byte :=
  let k := chunkKind c.body
  padTo 32 (leBytes 4 (c.grove % 2 ^ 10 * 64 + c.chunk % 8 * 8 + k.1) ++ leBytes 4 c.tile ++ leBytes 8 c.asOf
    ++ leBytes 4 k.2.length) ++ k.2

/-- R125: a CONTROL payload: its subtype and body. -/
def control (sub : Nat) (body : List Byte) : List Byte := leBytes 8 sub ++ body

/-- R125: a NEGOTIATE body. That a sender is in stage 9 has no field of its own (log 86). -/
def negBytes (n : NegRec) : List Byte :=
  leBytes 1 n.maxVer ++ leBytes 1 n.minVer ++ leBytes 1 (b2n n.nodeB) ++ leBytes 1 (roleCode n.lastRole) ++ leBytes 4 n.features
    ++ leBytes 4 n.epoch ++ leBytes 8 n.lastSeq ++ leBytes 1 (b2n n.incomplete + 2 * b2n n.t1Survived) ++ leBytes 1 n.policy
    ++ leBytes 2 n.thb ++ leBytes 1 n.fence ++ leBytes 7 0 ++ leBytes 8 n.layoutId.toNat ++ leBytes 32 n.rand.toNat
    ++ leBytes 8 n.gtc

/-- R123: the payload of LANDING_ACK and HEARTBEAT. -/
def reportBytes (role flags credit ack applied : Nat) : List Byte :=
  leBytes 1 role ++ leBytes 3 flags ++ leBytes 4 credit ++ leBytes 8 ack ++ leBytes 8 applied

/-- R122 to R125: the payload of a frame. -/
def Frame.payload : Frame → List Byte
  | .stampedInput n rs => leBytes 8 n ++ rs.flatMap stampBytes
  | .landingAck c a p => reportBytes 0 0 c a p
  | .heartbeat r l y c a p => reportBytes (roleCode r) (b2n l + 2 * b2n y) c a p
  | .time a b c => leBytes 8 a ++ leBytes 8 b ++ leBytes 8 c
  | .digest n v => leBytes 16 n ++ leBytes 16 v.toNat
  | .resyncData c => chunkBytes c
  | .epoch n r => leBytes 8 n ++ leBytes 1 (roleCode r)
  | .negotiate n => control 1 (negBytes n)
  | .retryReq e => control 2 (leBytes 4 e)
  | .laneChange m c => control 3 (leBytes 2 m.toNat ++ leBytes 1 (b2n c))
  | .leaving n => control 4 (leBytes 8 n)
  | .release => control 5 []
  | .releaseAck => control 6 []
  | .resyncStart b n => control 7 (leBytes 1 (b2n b) ++ leBytes 8 n)
  | .resyncDone n => control 8 (leBytes 8 n)
  | .repairReq g t m => control 9 (leBytes 2 g ++ leBytes 4 t ++ leBytes 2 m.toNat)
  | .rekey r => control 10 (leBytes 32 r.toNat)
  | .handover n => control 11 (leBytes 8 n)
  | .handoverAck e => control 12 (leBytes 4 e)
  | .recopy l ts => control 13 (leBytes 2 (b2n l) ++ leBytes 2 ts.length ++ ts.flatMap (fun x => leBytes 4 x.1 ++ leBytes 4 x.2))

/-- R121: TYPE. -/
def Frame.type : Frame → Nat
  | .stampedInput _ _ => 1
  | .landingAck _ _ _ => 2
  | .heartbeat _ _ _ _ _ _ => 3
  | .time _ _ _ => 4
  | .digest _ _ => 5
  | .resyncData _ => 6
  | .epoch _ _ => 8
  | _ => 7

/-- R121: the 16 bytes of a frame's header. -/
def headerBytes (h : TxHdr) (f : Frame) : List Byte :=
  leBytes 1 f.type ++ leBytes 1 (h.ver % 16 * 16 + b2n h.retry + 2 * b2n h.net) ++ leBytes 2 f.payload.length
    ++ leBytes 4 h.linkSeq ++ leBytes 4 h.linkAck ++ leBytes 4 h.epoch

/-- R118: the nonce of a frame: the direction bit and the negotiation count, then the frame counter (log 86). -/
def frameNonce (dir : Bool) (count ctr : Nat) : BitVec 96 :=
  BitVec.ofNat 96 ((b2n dir * 2 ^ 31 + count % 2 ^ 31) * 2 ^ 64 + ctr % 2 ^ 64)

end Sys2Proof.Machine
end

