-- ==== Sys2Proof/Machine/Prot.lean ====
section
/-!
DEFINITION. The product code of the protected arrays (R415, R416), reads with correction, hard faults and spare
repair (R418 to R422), writes under the flip mask (R426), and the words of the items that the arrays hold (R417).
-/

namespace Sys2Proof.Machine

open Sys2Proof

/-- R417: class of an array ID; `none` for an ID that no part has. -/
def macClass (m : Nat) : Option Nat :=
  if m < 2048 then some 0 else if m < 2560 then some 1 else if m < 3584 then some 2
  else if m < 4096 then some 3 else if m < 6144 then some 4 else if m < 6656 then some 5
  else if m < 6912 then some 6 else none

/-- R417: first ID and number of arrays of a class on this part. -/
def macRange (s : State) (c : Nat) : Nat × Nat :=
  let sm := isSmall s
  match c with
  | 0 => (0, if sm then 1024 else 2048)
  | 1 => (2048, if sm then 256 else 512)
  | 2 => (2560, if sm then 256 else 1024)
  | 3 => (3584, if sm then 256 else 512)
  | 4 => (4096, if sm then 1024 else 2048)
  | 5 => (6144, if sm then 256 else 512)
  | _ => (6656, if sm then 128 else 256)

/-- The part has the array. -/
def macPresent (s : State) (m : Nat) : Bool :=
  match macClass m with
  | some c => decide (m < (macRange s c).1 + (macRange s c).2)
  | none => false

/-- Column skew of a row (R415). -/
def skew (r : Nat) : Nat := 1 + r % 3

/-- Parity of a list of bits. -/
def parityOf (l : List Bool) : Bool := l.foldl (fun a b => a != b) false

/-- R416: the row syndrome of the wrong bits of a word. -/
def synRow (e : BitVec 80) : BitVec 8 :=
  ofBits 8 ((List.range 8).filter (fun r =>
    parityOf (e.getLsbD (64 + r) :: (List.range 8).map (fun c => e.getLsbD (8 * r + c)))))

/-- R416: the column syndrome of the wrong bits of a word. -/
def synCol (e : BitVec 80) : BitVec 8 :=
  ofBits 8 ((List.range 8).filter (fun c =>
    parityOf (e.getLsbD (72 + c) :: (List.range 8).flatMap (fun r =>
      [e.getLsbD (8 * r + c), e.getLsbD (8 * r + (c + 8 - skew r) % 8)]))))

/-- R416: what a word decodes as: clean, one bit corrected, or uncorrectable (80). -/
def decodeWord (e : BitVec 80) : Option Nat :=
  let sp := synRow e
  let sq := synCol e
  if sp = 0 && sq = 0 then none
  else
    let rows := bitsSet sp
    let cols := bitsSet sq
    match rows, cols with
    | [r], [] => some (64 + r)
    | [], [c] => some (72 + c)
    | [r], [a, b] =>
      if (a + skew r) % 8 = b then some (8 * r + a)
      else if (b + skew r) % 8 = a then some (8 * r + b) else some 80
    | _, _ => some 80

/-- Key of a word of an array. -/
def macKey (m w : Nat) : Nat := m * 2048 + w

/-- Wrong bits of a stored word. -/
def badOf (s : State) (m w : Nat) : BitVec 80 := SMap.get s.integ.bad 0 (macKey m w)

/-- Stores which bits of a word are wrong. -/
def setBad (m w : Nat) (e : BitVec 80) (s : State) : State :=
  { s with integ := { s.integ with bad := SMap.set s.integ.bad 0 (macKey m w) e } }

/-- R426: a write of a word: its wrong bits go, or become the flip mask when the write qualifies. -/
def protWrite (m w : Nat) (s : State) : State :=
  let sel := regWord s .intFlipSel
  let hit := bitOf sel 31 && decide (bitsOf sel 23 11 = m) && (bitOf sel 30 || decide (bitsOf sel 10 0 = w))
  if hit then
    let e := BitVec.ofNat 80 (regWord s .intFlipMask0 + regWord s .intFlipMask1 * 2 ^ 32 + regWord s .intFlipMask2 * 2 ^ 64)
    raise 514 (setFld .intFlipSel 0 31 31 0 (setRegWord .intFlipMask0 0 0 0
      (setRegWord .intFlipMask1 0 0 0 (setRegWord .intFlipMask2 0 0 0 (setBad m w e s)))))
  else setBad m w 0 s

/-- R419, R421: a hard fault at bit `b` of word `w`: a spare row when the row has a fault already, else a
spare column when the column has one, else a row while one is left, then a column. -/
def hardFault (m w b : Nat) (s : State) : State :=
  let row := w / 4
  let col := 4 * b + w % 4
  let mine := s.integ.pending.filter (fun r => decide (r.mac = m) && !r.applied)
  if mine.any (fun r => (!r.isCol && decide (r.row = row)) || (r.isCol && decide (r.col = col))) then s
  else
    let rowsUsed := (SMap.get s.integ.spares (0, 0) m).1 + (mine.filter (fun r => !r.isCol)).length
    let colsUsed := (SMap.get s.integ.spares (0, 0) m).2 + (mine.filter (fun r => r.isCol)).length
    let kind : Option Bool :=
      if mine.any (fun r => r.row = row) then (if rowsUsed < 4 then some false else none)
      else if mine.any (fun r => r.col = col) then (if colsUsed < 2 then some true else none)
      else if rowsUsed < 4 then some false else if colsUsed < 2 then some true else none
    match kind with
    | none => raise 511 { s with integ := { s.integ with noSpare := insertNat m s.integ.noSpare } }
    | some k =>
      if s.integ.pending.length < 1024 then
        raise 510 (putRepairs (s.integ.pending ++
          [{ gtc := now s, mac := m, row := row, col := col, isCol := k, applied := false }]) s)
      else if s.integ.listFull then s
      else raise 512 { s with integ := { s.integ with listFull := true } }

/-- R422: an uncorrectable word: the first is recorded, and a Clearing is triggered at once, but not
during a Cellar action or Clearing entry (R423). -/
def uncorrectable (m w : Nat) (scrub : Bool) (s : State) : State :=
  let e := badOf s m w
  let c := (macClass m).getD 0
  let s1 :=
    if fld s .intErrLog0 31 31 = 1 then s
    else
      setRegWord .intErrLog1 0 0 ((synCol e).toNat * 256 + (synRow e).toNat)
        (setRegWord .intErrLog0 0 0 (2 ^ 31 + c * 2 ^ 28 + b2n scrub * 2 ^ 27 + m * 2 ^ 11 + w) s)
  if s.pwr.state = .cellar || 0xC ≤ s.pwr.stage then raise (503 + c) s1 else raiseClearing (503 + c) s1

/-- R416, R418: reads a word, correcting it in place; `stuck` names cells that stay wrong after the
write-back (R419). Answers whether the word could be read. -/
def protRead (m w : Nat) (scrub : Bool) (stuck : BitVec 80) (s : State) : State × Bool :=
  let e := badOf s m w
  match decodeWord e with
  | none => (s, true)
  | some b =>
    if b = 80 then (uncorrectable m w scrub s, false)
    else
      let c := (macClass m).getD 0
      let s1 := raise (496 + c) (bumpRc .intCeCount c 31 0 1
        { s with integ := { s.integ with ceLog := some (b, m, w) } })
      let s2 := protWrite m w s1
      let left := (e ^^^ BitVec.ofNat 80 (2 ^ b)) ||| stuck ||| badOf s2 m w
      let s3 := setBad m w left s2
      (onlyIf (stuck.getLsbD b) (hardFault m w b) s3, true)

/-! ## What the arrays hold (R417) -/

/-- R417: the words, as array × 2,048 + word, that hold an item of a class: a tile-table line, a QP context, a landing
entry's metadata or data, an owner entry of the translation layer, a key slot. Which they are is free (log 99). -/
def itemWords (s : State) (c key : Nat) : List Nat :=
  (Config.protWords c key).filter (fun w => macClass (w / 2048) == some c && macPresent s (w / 2048))

/-- Some stored word is wrong. -/
def anyBad (s : State) : Bool := !s.integ.bad.isEmpty

/-- The flip mask is armed (R426). -/
def flipArmed (s : State) : Bool := bitOf (regWord s .intFlipSel) 31

/-- Every word of an item can be read (R416). -/
def protOk (s : State) (c key : Nat) : Bool :=
  !anyBad s || (itemWords s c key).all (fun w => decodeWord (badOf s (w / 2048) (w % 2048)) != some 80)

/-- R418, R422: an item is read: its words are checked, corrected and logged. -/
def protGet (c key : Nat) (s : State) : State :=
  if anyBad s then forEach (itemWords s c key) (fun w t => (protRead (w / 2048) (w % 2048) false 0 t).1) s else s

/-- R426: an item is written. -/
def protPut (c key : Nat) (s : State) : State :=
  if anyBad s || flipArmed s then forEach (itemWords s c key) (fun w => protWrite (w / 2048) (w % 2048)) s else s

end Sys2Proof.Machine
end

