-- ==== Sys2Proof/Machine/TierOps.lean ====
section
/-!
DEFINITION. Groves, tiles, frames and line content: the lookups of R12 and R133, the key-slot
condition of R336, dirty volume and can-vault (R55, R156), poison maps and the poison log (R135, R155,
R172), T1 frames (R209, R210, R536), T2 slots (R236, R243), and the content of a line (R132).
-/

namespace Sys2Proof.Machine

open Sys2Proof

/-! ## Keys -/

/-- Landing key of a line. -/
def lkey (g line : Nat) : Nat := g * 2 ^ 42 + line

/-- Tile-table key. -/
def tkey (g t : Nat) : Nat := g * 2 ^ 32 + t

/-- Cellar record key: tile-sector of a grove. -/
def skey (g t sec : Nat) : Nat := g * 2 ^ 36 + t * 16 + sec

/-- Tile of a line (R12). -/
def tileOf (line : Nat) : Nat := line / 1024

/-- Sector of a line within its tile (R12). -/
def secOf (line : Nat) : Nat := line % 1024 / 64

/-! ## Groves (R49) -/

/-- The grove record; `none` is a grove that does not exist. -/
def groveOf (s : State) (g : Nat) : Option GroveRec := SMap.find s.tier.md.groves g

/-- The grove exists and is a host's, not grove 1,023 (R13). -/
def groveLive (s : State) (g : Nat) : Bool := decide (g < 1023) && (groveOf s g).isSome

/-- Lines of a grove: 2^18 per extent (R12). -/
def groveLines (r : GroveRec) : Nat := r.extents * 2 ^ 18

/-- Tiles of a grove. -/
def groveTiles (r : GroveRec) : Nat := r.extents * 256

/-- Configured persistence level. -/
def levelOf (s : State) (g : Nat) : Level :=
  match groveOf s g with
  | some r => r.level
  | none => .vol

/-- Write policy of a line: the region its extent falls in (R178, R367). -/
def policyOf (s : State) (g line : Nat) : Policy :=
  match groveOf s g with
  | some r => r.regions.foldl (fun p x => if x.first ≤ line / 2 ^ 18 then x.policy else p) .wb
  | none => .na

/-- Way-mask group (R180). -/
def classOf (s : State) (g : Nat) : Nat :=
  match groveOf s g with
  | some r => r.wayClass
  | none => 0

/-- Regulator of a grove (R49, R212). -/
def qosOf (s : State) (g : Nat) : Nat :=
  match groveOf s g with
  | some r => r.qos
  | none => 46

/-! ## Key slots (R331, R333, R336) -/

/-- A slot. -/
def slotOf (s : State) (n : Nat) : Slot := SMap.get s.cipher.slots {} n

/-- LOADED or ROLLING: the slot can be used. -/
def slotUsable (s : State) (n : Nat) : Bool :=
  (slotOf s n).state == .loaded || (slotOf s n).state == .rolling

/-- Slot number of a grove; grove 1,023's is META_SLOT (R365). -/
def groveSlot (s : State) (g : Nat) : Nat :=
  if g = 1023 then (img s).tiers.metaSlot
  else match groveOf s g with
    | some r => r.keySlot
    | none => 0

/-- R336, R339: accesses to the grove can be encrypted. -/
def groveKeyed (s : State) (g : Nat) : Bool := slotUsable s (groveSlot s g)

/-! ## Effective level and can-vault (R55) -/

/-- Effective level of a configured level under the role. -/
def effLevel (s : State) (g : Nat) : Level :=
  match levelOf s g with
  | .mir => if s.twin.role == .solo then .loc else .mir
  | l => l

/-- Cellar mode in force (R170): 0 FULL, 1 CEILING, 2 OFF. -/
def cellarMode (s : State) : Nat := fld s .tierCellarMode 1 0

/-- R55: the node can vault. -/
def canVault (s : State) : Bool :=
  cellarMode s != 2 && s.pwr.estore && decide (s.tier.celNeed ≤ s.tier.celBlocks)
    && decide (0 < s.tier.celNeed) && groveKeyed s 1023

/-- Level order of R59: lower is weaker. -/
def levelRank : Level → Nat
  | .vol => 0
  | .loc => 1
  | .mir => 2

/-- The lower of two levels. -/
def minLevel (a b : Level) : Level := if levelRank a ≤ levelRank b then a else b

/-! ## Tile table (R133) -/

/-- The entry of a tile. -/
def tile (s : State) (g t : Nat) : Tile := SMap.get s.tier.md.tiles {} (tkey g t)

/-- Bound on grove 1,023's dirty sectors (R156). -/
def metaBound (s : State) : Nat := if isSmall s then 1610612736 / 4096 else 3221225472 / 4096

/-- R160: grove 1,023 stands at its bound, so work that would change a tile-table entry waits. -/
def metaHeld (s : State) : Bool := decide (metaBound s ≤ s.tier.metaDirty.length)

/-- Notes that a table sector of grove 1,023 changed (R156); reaching the bound raises 566 (R160). -/
def touchMeta (key : Nat) (s : State) : State :=
  let s1 := { s with tier := { s.tier with metaDirty := insertNat key s.tier.metaDirty } }
  if metaHeld s1 && !s1.tier.metaFull then
    raise 566 { s1 with tier := { s1.tier with metaFull := true } }
  else s1

/-- Changes the tier's metadata. -/
def modMeta (f : Meta → Meta) (s : State) : State :=
  { s with tier := { s.tier with md := f s.tier.md } }

/-- Writes a tile-table entry: its table sector becomes dirty (R134). -/
def setTile (g t : Nat) (x : Tile) (s : State) : State :=
  touchMeta (tkey g (t / 256))
    (modMeta (fun m => { m with tiles := SMap.set m.tiles {} (tkey g t) x }) s)

/-- Changes a tile-table entry. -/
def updTile (g t : Nat) (f : Tile → Tile) (s : State) : State := setTile g t (f (tile s g t)) s

/-- A tile-table lookup clears AGE (R136). -/
def touchAge (g t : Nat) (s : State) : State :=
  if (tile s g t).age = 0 then s
  else modMeta (fun m => { m with tiles := SMap.upd m.tiles {} (tkey g t) (fun x => { x with age := 0 }) }) s

/-- The listed tiles: grove, tile, entry. -/
def tiles (s : State) : List (Nat × Nat × Tile) :=
  s.tier.md.tiles.map (fun p => (p.1 / 2 ^ 32, p.1 % 2 ^ 32, p.2))

/-- R133: a tile-table entry as its 128 bits. -/
def entryBits (e : Tile) : BitVec 128 :=
  BitVec.ofNat 128 (b2n e.frame.isSome * 2 ^ 127 + b2n e.t2.isSome * 2 ^ 126 + b2n (e.sdirty != 0) * 2 ^ 125
    + b2n e.sealed_ * 2 ^ 124 + b2n e.pinned * 2 ^ 123 + b2n e.poison.isSome * 2 ^ 122 + b2n e.sched.isSome * 2 ^ 121
    + b2n e.cellar * 2 ^ 120 + e.age % 2 ^ 8 * 2 ^ 112 + e.sdirty.toNat * 2 ^ 96 + e.sched.getD 0 % 2 ^ 12 * 2 ^ 84
    + e.poison.getD 0 % 2 ^ 20 * 2 ^ 64 + e.t2.getD 0 % 2 ^ 32 * 2 ^ 32 + e.frame.getD 0 % 2 ^ 27)

/-- LOCAL or MIRROR. -/
def durable (s : State) (g : Nat) : Bool := levelOf s g != .vol

/-- R156: dirty sectors counted in D. Sectors of sealed tiles are not counted (R146). -/
def dirtySectors (s : State) : Nat :=
  (tiles s).foldl (fun n p =>
    if durable s p.1 && p.1 < 1023 && !p.2.2.sealed_ then n + popCount p.2.2.sdirty else n) 0

/-- R66, R67: the tile is sealed or sealing, and so read-only. -/
def tileReadOnly (s : State) (g t : Nat) : Bool := (tile s g t).sealed_ || (tile s g t).sealing

/-- A write over lines of a grove is refused as sealed (R67): reason 3. -/
def pieceSealed (s : State) (g : Nat) (ps : List Piece) : Bool :=
  ps.any (fun p => tileReadOnly s g (tileOf p.line))

/-- The grove is read-only under L2 containment (R436): reason 4. -/
def groveReadOnly (s : State) (g : Nat) : Bool := s.tier.readOnly.contains g

/-! ## Poison (R135, R155, R172) -/

/-- The tile's poisoned lines: none, its map, or every line (0xF_FFFF). -/
def poisonMask (s : State) (g t : Nat) : BitVec 1024 :=
  match (tile s g t).poison with
  | none => 0
  | some i => if i = 0xFFFFF then BitVec.allOnes 1024 else SMap.get s.tier.md.pmaps 0 i

/-- The tile has never been written: no frame, no T2 copy, no Cellar record (R48, R132). -/
def tileBlank (e : Tile) : Bool := e.frame.isNone && e.t2.isNone && !e.cellar

/-- R107, R113: a tile that a copy had not installed when FORCE_LEAD ended it, and that has not been written since. -/
def tileMissing (s : State) (g t : Nat) : Bool :=
  s.tier.md.partGroves.any (fun x => x.1 = g && decide (t < x.2)) && !s.tier.md.partHave.contains (g, t)
    && tileBlank (tile s g t)

/-- The tile's map marks the line, or the tile is missing. -/
def linePoisoned (s : State) (g line : Nat) : Bool :=
  (poisonMask s g (tileOf line)).getLsbD (line % 1024) || tileMissing s g (tileOf line)

/-- The lowest free poison map of 0 to 1,048,574. -/
def freePmap (s : State) : Option Nat :=
  let used := s.tier.md.pmaps.map (·.1)
  ((List.range (used.length + 1)).find? (fun i => !used.contains i)).filter (fun i => decide (i < 1048575))

/-- The sectors a line mask reaches. -/
def sectorsOf (m : BitVec 1024) : BitVec 16 :=
  ofBits 16 ((List.range 16).filter (fun k => decide (m.extractLsb' (64 * k) 64 ≠ 0)))

/-- The lines of a set of sectors. -/
def linesOf (m : BitVec 16) : BitVec 1024 :=
  (bitsSet m).foldl (fun acc k => acc ||| ((BitVec.allOnes 64).setWidth 1024 <<< (64 * k))) 0

/-- R172: the sectors that the tile's record names. -/
def notePoison (g t : Nat) (sectors : BitVec 16) (s : State) : State :=
  let f (r : PoisonRec) : PoisonRec := { r with sectors := r.sectors ||| sectors }
  { s with tier := { s.tier with plog := mapIf (fun r => r.grove = g && r.tile = t) f s.tier.plog } }

/-- R155, R172: a record of the poison log; a tile that has one keeps it. -/
def logPoison (g t : Nat) (sectors : BitVec 16) (origin : Nat) (s : State) : State :=
  if s.tier.plog.any (fun r => r.grove = g && r.tile = t) then notePoison g t sectors s
  else if s.tier.plog.length < 64 then
    { s with tier := { s.tier with plog := s.tier.plog ++
        [{ gtc := now s, reads := 0, grove := g, tile := t, sectors := sectors, origin := origin }] } }
  else
    let s1 := bumpRc .tierPoisonLost 0 31 0 1 s
    if s1.tier.plogFull then s1
    else raise 579 { s1 with tier := { s1.tier with plogFull := true } }

/-- R155: marks lines of a tile poisoned. The first poisoning of the tile raises 577 and opens a log
record; with no map free every line is poisoned and 578 is raised (R135). The record names every sector poisoned. -/
def poisonLines (g t : Nat) (m : BitVec 1024) (origin : Nat) (s : State) : State :=
  if m = 0 then s
  else
    let e := tile s g t
    match e.poison with
    | some i =>
      if i = 0xFFFFF then s
      else notePoison g t (sectorsOf m) (touchMeta (tkey 1023 (4096 + i / 32))
        (modMeta (fun md => { md with pmaps := SMap.upd md.pmaps 0 i (fun x => x ||| m) }) s))
    | none =>
      match freePmap s with
      | some i =>
        raiseAt 577 g (logPoison g t (sectorsOf m) origin (setTile g t { e with poison := some i }
          (touchMeta (tkey 1023 (4096 + i / 32))
            (modMeta (fun md => { md with pmaps := SMap.set md.pmaps 0 i m }) s))))
      | none =>
        raiseAt 577 g (logPoison g t (BitVec.allOnes 16) origin (raise 578 (setTile g t { e with poison := some 0xFFFFF } s)))

/-- R107, R113: a missing tile that is about to hold something takes a poison map for what it lacks. -/
def settleMissing (g t : Nat) (s : State) : State :=
  if tileMissing s g t then
    poisonLines g t (BitVec.allOnes 1024) 3 (modMeta (fun m => { m with partHave := (g, t) :: m.partHave }) s)
  else s

/-- R155: a full-line write clears the line's poison; the last line frees the map. A tile whose every
line is poisoned takes a map again for the lines left, where one is free. -/
def clearPoison (g line : Nat) (s0 : State) : State :=
  let s := settleMissing g (tileOf line) s0
  if !linePoisoned s g line then s
  else
    let t := tileOf line
    let e := tile s g t
    let m := poisonMask s g t &&& ~~~ (BitVec.ofNat 1024 (2 ^ (line % 1024)))
    match e.poison with
    | none => s
    | some i =>
      if m = 0 then
        setTile g t { e with poison := none }
          (modMeta (fun md => { md with pmaps := SMap.del md.pmaps i }) s)
      else if i = 0xFFFFF then
        match freePmap s with
        | some j =>
          setTile g t { e with poison := some j }
            (modMeta (fun md => { md with pmaps := SMap.set md.pmaps 0 j m }) s)
        | none => s
      else
        touchMeta (tkey 1023 (4096 + i / 32))
          (modMeta (fun md => { md with pmaps := SMap.set md.pmaps 0 i m }) s)

/-- A read answered with poison counts in the tile's record (R155, R172). -/
def countPoisonRead (g t : Nat) (s : State) : State :=
  let f (r : PoisonRec) : PoisonRec := { r with reads := satAdd 32 r.reads 1 }
  { s with tier := { s.tier with plog := mapIf (fun r => r.grove = g && r.tile = t) f s.tier.plog } }

/-! ## Interleave sets and frames (R209, R210, R226, R536) -/

/-- A set. -/
def setOf (s : State) (n : Nat) : DramSet := SMap.get s.dram.sets {} n

/-- Changes a set. -/
def updSet (n : Nat) (f : DramSet → DramSet) (s : State) : State :=
  { s with dram := { s.dram with sets := SMap.upd s.dram.sets {} n f } }

/-- The set a frame belongs to. -/
def setOfFrame (s : State) (f : Nat) : Option Nat :=
  (List.range 16).find? (fun n =>
    (setOf s n).valid && decide ((setOf s n).base ≤ f) && decide (f < (setOf s n).base + (setOf s n).frames))

/-- A set that new frames are taken from: ONLINE (R536). -/
def setOpen (x : DramSet) : Bool := x.valid && x.state == 0

/-- Numbers common to `[a, a + n)` and `[b, b + m)`. -/
def overlap (a n b m : Nat) : Nat := min (a + n) (b + m) - max a b

/-- R223: frames of a set that hold grove 1,023, both copies counted. -/
def metaFrames (s : State) (n : Nat) : Nat :=
  s.dram.metaRuns.foldl (fun k r => k + overlap r.frame r.count (setOf s n).base (setOf s n).frames
    + overlap r.partner r.count (setOf s n).base (setOf s n).frames) 0

/-- R223: the frame holds a copy of grove 1,023: its tile, and the frame of the other copy. -/
def metaOf (s : State) (f : Nat) : Option (Nat × Nat) :=
  s.dram.metaRuns.findSome? (fun r =>
    if r.frame ≤ f ∧ f < r.frame + r.count then some (r.tile + (f - r.frame), r.partner + (f - r.frame))
    else if r.partner ≤ f ∧ f < r.partner + r.count then some (r.tile + (f - r.partner), r.frame + (f - r.partner))
    else none)

/-- Frames of a set in use by tiles other than grove 1,023's. -/
def setOwned (s : State) (n : Nat) : Nat :=
  (s.tier.owner.filter (fun p => decide ((setOf s n).base ≤ p.1) && decide (p.1 < (setOf s n).base + (setOf s n).frames))).length

/-- Frames of a set in use (R232). -/
def setUsed (s : State) (n : Nat) : Nat := setOwned s n + metaFrames s n

/-- Free frames of a set. -/
def setFree (s : State) (n : Nat) : Nat := (setOf s n).frames - setUsed s n

/-- TIER_FREE_FRAMES (R171): free frames of the sets that are ONLINE. -/
def freeFrames (s : State) : Nat :=
  ((List.range 16).filter (fun n => setOpen (setOf s n))).foldl (fun k n => k + setFree s n) 0

/-- All T1 frames of the sets that are not OFFLINE. -/
def totalFrames (s : State) : Nat :=
  ((List.range 16).filter (fun n => (setOf s n).valid && (setOf s n).state != 2)).foldl
    (fun k n => k + (setOf s n).frames) 0

/-- The frame is free in one of the sets admitted. -/
def frameOk (s : State) (ok : Nat → Bool) (f : Nat) : Bool :=
  match setOfFrame s f with
  | some n => ok n && setOpen (setOf s n) && (SMap.find s.tier.owner f).isNone && (metaOf s f).isNone
  | none => false

/-- The lowest free frame of a set. -/
def lowFrame (s : State) (n : Nat) : Option Nat :=
  let x := setOf s n
  let starts := x.base :: s.dram.metaRuns.flatMap (fun r => [r.frame + r.count, r.partner + r.count])
  let c := starts.filterMap (fun b => ((List.range (setOwned s n + 1)).map (b + ·)).find? (fun f =>
    decide (x.base ≤ f) && decide (f < x.base + x.frames) && (SMap.find s.tier.owner f).isNone && (metaOf s f).isNone))
  c.min?

/-- R536: the frame a residence takes: the controller's choice where it is a free frame of an admitted
set, else the lowest such frame. -/
def pickFrame (s : State) (ok : Nat → Bool) : Option Nat :=
  let f := Config.freeFrame s.free (freeFrames s)
  if frameOk s ok f then some f
  else ((List.range 16).filter (fun n => ok n && setOpen (setOf s n))).findSome? (lowFrame s)

/-- The channel a frame's line lies on, and its coordinates SUB, RANK, BG, BA, ROW, COL (R210). -/
structure Coord where
  ch   : Nat
  sub  : Nat
  rank : Nat
  bg   : Nat
  ba   : Nat
  row  : Nat
  col  : Nat
  deriving DecidableEq, Repr

/-- log2 of the logical ranks of a set's channels. -/
def rankBits (s : State) (x : DramSet) : Nat := Nat.log2 (SMap.get s.dram.chs {} x.first).lranks

/-- R210: the four maps. -/
def coordOf (s : State) (f line : Nat) : Coord :=
  match setOfFrame s f with
  | none => ⟨0, 0, 0, 0, 0, 0, 0⟩
  | some n =>
    let x := setOf s n
    let a := (f - x.base) * 1024 + line
    let c := x.log2
    let g := if x.gran then 6 else 2
    let r := rankBits s x
    let fs (lo w : Nat) : Nat := a / 2 ^ lo % 2 ^ w
    match x.map with
    | 0 =>
      ⟨x.first + fs g c, fs (g + c) 1, fs (13 + c) r, fs (8 + c) 3, fs (11 + c) 2,
        a / 2 ^ (13 + c + r), fs 0 g + fs (g + c + 1) (7 - g) * 2 ^ g⟩
    | 1 =>
      let row := a / 2 ^ (13 + c + r)
      ⟨x.first + fs g c, fs (g + c + 3) 1, fs (13 + c) r, fs (g + c) 3 ^^^ (row % 8),
        fs (g + c + 4) 2 ^^^ (row / 8 % 4), row, fs 0 g + fs (g + c + 6) (7 - g) * 2 ^ g⟩
    | 2 =>
      ⟨x.first + fs g c, fs (7 + c) 1, fs (13 + c) r, fs (8 + c) 3, fs (11 + c) 2,
        a / 2 ^ (13 + c + r), fs 0 g + fs (g + c) (7 - g) * 2 ^ g⟩
    | _ =>
      ⟨x.first + fs 10 c, fs 7 1, fs (13 + c) r, fs 8 2 + fs (10 + c) 1 * 4, fs (11 + c) 2,
        a / 2 ^ (13 + c + r), fs 0 7⟩

/-- The channel of a frame's line. -/
def chanOf (s : State) (f line : Nat) : Nat := (coordOf s f line).ch

/-! ## Line content (R132) -/

/-- The line's device error is an uncorrectable one (R204). -/
def isUncorr : DramRead → Bool
  | .uncorr _ => true
  | _ => false

/-- A line of a T1 frame: `none` is a poison marker or an uncorrectable line (R204). -/
def t1Line (s : State) (f i : Nat) : Option LineData :=
  if s.tier.t1poison.contains (f * 1024 + i) || isUncorr (SMap.get s.tier.t1bad .clean (f * 1024 + i)) then none
  else some (SMap.get s.tier.t1 0 (f * 1024 + i))

/-- Writes a line of a T1 frame whole: its marker and its device error go (R218, R220). -/
def putT1 (f i : Nat) (d : LineData) (s : State) : State :=
  { s with tier := { s.tier with
      t1 := SMap.set s.tier.t1 0 (f * 1024 + i) d
      t1poison := s.tier.t1poison.filter (· ≠ f * 1024 + i)
      t1bad := SMap.set s.tier.t1bad .clean (f * 1024 + i) .clean } }

/-- Writes a poison marker into a T1 line (R204, R220). -/
def markT1 (f i : Nat) (s : State) : State :=
  { s with tier := { s.tier with
      t1poison := insertNat (f * 1024 + i) s.tier.t1poison
      t1bad := SMap.set s.tier.t1bad .clean (f * 1024 + i) .clean } }

/-- R204, R219: what a channel returned for a line of a frame; an error stays in the line until it is written. -/
def noteRead (f i : Nat) (o : DramRead) (s : State) : State :=
  if o = .clean then s
  else { s with tier := { s.tier with t1bad := SMap.set s.tier.t1bad .clean (f * 1024 + i) o } }

/-- R219: what a copier's channel reads return for lines of its tile. -/
def noteReads (errs : List LineRead) (s : State) : State :=
  forEach errs (fun e u => match (tile u e.grove (tileOf e.line)).frame with
    | some f => noteRead f (e.line % 1024) e.o u
    | none => u) s

/-- The line as the tile's T2 copy holds it, if it has one. -/
def t2Line (s : State) (g line : Nat) : Option LineData :=
  ((tile s g (tileOf line)).t2).map (fun n => SMap.get s.tier.t2 0 (n * 1024 + line % 1024))

/-- R152: the T2 content of a line as its repair gave it, while the repaired copy is being programmed. -/
def repairedLine (s : State) (g line : Nat) (d : LineData) : LineData :=
  match s.tier.progs.find? (fun p => p.kind = .repair && p.grove = g && p.tile = tileOf line) with
  | some p => (p.lines[line % 1024]?).getD d
  | none => d

/-- R132: the content of a line before landing entries; `none` is poison. -/
def lineContent (s : State) (g line : Nat) : Option LineData :=
  let e := tile s g (tileOf line)
  if linePoisoned s g line then none
  else match e.frame with
    | some f => t1Line s f (line % 1024)
    | none =>
      if e.cellar && e.sdirty.getLsbD (secOf line) then
        some (SMap.get s.tier.cel 0 (tkey g (tileOf line) * 1024 + line % 1024))
      else match e.t2 with
        | some n => some (repairedLine s g line (SMap.get s.tier.t2 0 (n * 1024 + line % 1024)))
        | none => some 0

/-- R132: the sector was written in T1: it is dirty, from now on if it was clean (R158), and a Cellar record of it is
no longer its content (R162). -/
def markDirty (g t sec : Nat) (s : State) : State :=
  let e := tile s g t
  let bit := BitVec.ofNat 16 (2 ^ sec)
  let f (p : Prog) : Prog := { p with written := p.written ||| bit }
  let s1 := { s with tier := { s.tier with
    progs := mapIf (fun p => p.grove = g && p.tile = t) f s.tier.progs
    celRecs := s.tier.celRecs.filter (· ≠ skey g t sec) } }
  if e.sdirty.getLsbD sec then s1
  else
    setTile g t { e with
      sdirty := e.sdirty ||| BitVec.ofNat 16 (2 ^ sec)
      dirtyAt := if e.sdirty = 0 then now s else e.dirtyAt } s1

/-- The partial or full write of a line into its frame (R220): a marked line takes only a full line, and an
uncorrectable line that a partial write reads becomes a marker. -/
def writeT1 (g line : Nat) (d : LineData) (m : Mask) (s : State) : State :=
  let e := tile s g (tileOf line)
  match e.frame with
  | none => s
  | some f =>
    match t1Line s f (line % 1024) with
    | some old => markDirty g (tileOf line) (secOf line) (putT1 f (line % 1024) (mergeLine old d m) s)
    | none =>
      if m = fullMask then
        markDirty g (tileOf line) (secOf line) (putT1 f (line % 1024) d s)
      else markT1 f (line % 1024) s

/-- Takes a frame for a tile. -/
def takeFrame (g t f : Nat) (s : State) : State :=
  useFree { s with tier := { s.tier with owner := SMap.put s.tier.owner f (some (tkey g t)) } }

/-- Frees a frame: its content and markers go. -/
def dropFrame (f : Nat) (s : State) : State :=
  { s with tier := { s.tier with
      owner := SMap.del s.tier.owner f
      t1 := SMap.filterKeys s.tier.t1 (fun k => decide (k / 1024 ≠ f))
      t1poison := s.tier.t1poison.filter (fun k => decide (k / 1024 ≠ f))
      t1bad := SMap.filterKeys s.tier.t1bad (fun k => decide (k / 1024 ≠ f)) } }

/-- R249: a new T2 copy of the tile, or its release, abandons a relocation or a repaired copy in flight. -/
def dropReloc (g t : Nat) (s : State) : State :=
  { s with tier := { s.tier with progs := s.tier.progs.filter (fun p =>
      !(p.grove = g && p.tile = t && (p.kind = .relocation || p.kind = .repair))) } }

/-- R140: releases the T2 copy of a T1-resident tile: the slot is no longer live (R237), every sector dirty. -/
def dropT2 (g t : Nat) (s : State) : State :=
  match (tile s g t).t2 with
  | none => s
  | some _ =>
    updTile g t (fun e => { e with t2 := none, sdirty := BitVec.allOnes 16, dirtyAt := if e.sdirty = 0 then now s else e.dirtyAt })
      (dropReloc g t s)

/-- Releases everything a tile holds (R48): frame, copy, Cellar records, poison. -/
def dropTile (g t : Nat) (s : State) : State :=
  let e := tile s g t
  let s1 := match e.frame with
    | some f => dropFrame f s
    | none => s
  let s2 := match e.poison with
    | some i => modMeta (fun md => { md with pmaps := SMap.del md.pmaps i }) s1
    | none => s1
  let s3 := { s2 with tier := { s2.tier with
      celRecs := s2.tier.celRecs.filter (fun k => decide (k / 16 ≠ tkey g t))
      cel := SMap.filterKeys s2.tier.cel (fun k => decide (k / 1024 ≠ tkey g t))
      promos := s2.tier.promos.filter (fun p => !(p.grove = g && p.tile = t))
      progs := s2.tier.progs.filter (fun p => !(p.grove = g && p.tile = t))
      repairs := s2.tier.repairs.filter (fun p => !(p.grove = g && p.tile = t))
      moves := s2.tier.moves.filter (fun p => !(p.grove = g && p.tile = t)) } }
  setTile g t {} s3

/-- R536, R48: a first write to a tile that holds nothing takes a frame that reads zero. -/
def firstFrame (g t : Nat) (s : State) : State :=
  if tileBlank (tile s g t) then
    match pickFrame s (fun _ => true) with
    | some f => updTile g t (fun e => { e with frame := some f }) (takeFrame g t f (settleMissing g t s))
    | none => raise 569 s
  else s

/-- The tile is being promoted (R138). -/
def promoting (s : State) (g t : Nat) : Bool :=
  s.tier.promos.any (fun p => p.grove = g && p.tile = t)

/-- The tile's frame is moving (R227). -/
def moving (s : State) (g t : Nat) : Bool :=
  s.tier.moves.any (fun p => p.grove = g && p.tile = t)

/-- The regulator of an internal requester: 0 replay, 1 migration, 2 Cellar and trickle, 3 patrol, 4 management,
5 resync reads (R212). -/
def regFor (s : State) (k : Nat) : Nat := ((img s).canopy.binding[k]?).getD (42 + k)

/-- Charges `k` lines to a regulator (R212): 64 bytes each off its bucket; OFF holds no bucket, and during a Cellar
action no regulator applies. -/
def chargeLines (n k : Nat) (s : State) : State :=
  if fld s .dramRegCfg 30 29 n = 0 || s.pwr.state == .cellar then s
  else { s with dram := { s.dram with tokens := SMap.upd s.dram.tokens 0 n (· - 64 * k) } }

end Sys2Proof.Machine
end

