-- ==== Sys2Proof/Machine/Ftl.lean ====
section
/-!
DEFINITION. The translation layer's parts that every NAND command shares: T2 slots and superblocks (R236), the XTS
data units (R327 to R329), owner records (R237), the queue of a die (R242), where a T2 write goes (R239, R243, R246),
stripes (R238), erases (R250), blocks and dies that fail (R248, R253, R254), the Cellar log (R251) and the anchor (R252).
-/

namespace Sys2Proof.Machine

open Sys2Proof

/-! ## T2 slots (R236, R239) -/

/-- Channel of a T2 tile number. -/
def t2Ch (n : Nat) : Nat := n / 2 ^ 27

/-- Die within the channel. -/
def t2Die (n : Nat) : Nat := n / 2 ^ 22 % 32

/-- Virtual block. -/
def t2Block (n : Nat) : Nat := n / 2 ^ 10 % 2 ^ 12

/-- Slot within the block. -/
def t2Slot (n : Nat) : Nat := n % 2 ^ 10

/-- Block key of a T2 tile number: die key × 2^12 + virtual block. -/
def t2Blk (n : Nat) : Nat := n / 2 ^ 10

/-- A die by its key, channel × 32 + DIE. -/
def dieAt (s : State) (k : Nat) : Die := SMap.get s.nand.dies {} k

/-- The die of a channel. -/
def dieOf (s : State) (ch die : Nat) : Die := dieAt s (ch * 32 + die)

/-- Changes a die. -/
def updDieAt (k : Nat) (f : Die → Die) (s : State) : State :=
  { s with nand := { s.nand with dies := SMap.upd s.nand.dies {} k f } }

/-- Changes a die of a channel. -/
def updDie (ch die : Nat) (f : Die → Die) (s : State) : State := updDieAt (ch * 32 + die) f s

/-- The die takes programs. -/
def dieOnline (s : State) (k : Nat) : Bool := (dieAt s k).state == .online

/-- Stripe parity is on (R238, R258). -/
def parityOn (s : State) : Bool := decide (fld s .nandNodeCfg 2 2 = 1)

/-- R238: the slot holds its stripe's parity. -/
def isParity (s : State) (n : Nat) : Bool :=
  parityOn s && decide (t2Ch n % 16 = (t2Block n + t2Slot n) % 16)

/-- Bits per cell of the native mode: slots of a wordline (R243). -/
def cellBits (x : ImgNand) : Nat := if x.cell = 2 then 4 else 3

/-- Bytes of a T2 tile slot. -/
def tileBytes : Nat := 65536

/-- Spare blocks per die, S of R239. -/
def spareBlocks (s : State) : Nat := ceilDiv ((img s).nand.blocks * fld s .nandNodeCfg 7 4) 100

/-- Virtual blocks of a die that T2 uses: B − S − C (R239). -/
def t2Blocks (s : State) : Nat := (img s).nand.blocks - spareBlocks s - s.tier.celBlocks

/-- The physical block behind a virtual one, both by die key × 2^12 (R236). -/
def physBlk (s : State) (b : Nat) : Nat :=
  match SMap.find (dieAt s (b / 2 ^ 12)).remap (b % 2 ^ 12) with
  | some p => b / 2 ^ 12 * 2 ^ 12 + p
  | none => b

/-- Key of a superblock: group, DIE, VBLOCK (R236). -/
def superOf (n : Nat) : Nat := t2Ch n / 16 * 2 ^ 17 + t2Die n * 2 ^ 12 + t2Block n

/-- The blocks of a superblock. -/
def superBlocks (k : Nat) : List Nat :=
  (List.range 16).map (fun c => ((k / 2 ^ 17 * 16 + c) * 32 + k / 2 ^ 12 % 32) * 2 ^ 12 + k % 2 ^ 12)

/-- Group and DIE of a die's superblocks: group × 32 + DIE. -/
def rowOf (k : Nat) : Nat := k / 512 * 32 + k % 32

/-- The dies of a group and DIE. -/
def rowDies (r : Nat) : List Nat := (List.range 16).map (fun c => (r / 32 * 16 + c) * 32 + r % 32)

/-- R237: the slot holds the copy that its owner's entry names. -/
def liveSlot (s : State) (n : Nat) : Option (Nat × Nat) :=
  match SMap.find s.nand.owners n with
  | some o => if o.kind ≤ 1 && (tile s o.grove o.tile).t2 = some n then some (o.grove, o.tile) else none
  | none => none

/-- The live slots that `ok` admits. -/
def liveSlots (s : State) (ok : Nat → Bool) : List Nat :=
  ((tiles s).filterMap (fun p => p.2.2.t2)).filter (fun n => ok n && (liveSlot s n).isSome)

/-- Live T2 slots: named by their tile's entry (R237). -/
def liveT2 (s : State) : Nat := ((tiles s).filter (fun p => p.2.2.t2.isSome)).length

/-- A die whose slots cannot be read. -/
def dieGone (s : State) (n : Nat) : Bool :=
  let d := (dieAt s (n / 2 ^ 22)).state
  d == .dead || d == .rebuilding || d == .absent

/-! ## XTS data units (R327 to R329) -/

/-- R328: the T1 tweak of a line. -/
def t1Tweak (g line : Nat) : Nat := g % 2 ^ 10 * 2 ^ 42 + line % 2 ^ 42

/-- R328: the T2 tweak of a sector, by its tile-sector number. -/
def t2Tweak (g t sec : Nat) : Nat := 2 ^ 127 + g % 2 ^ 10 * 2 ^ 36 + (t * 16 + sec) % 2 ^ 36

/-- R327: XTS-AES-256 of one data unit under its tweak, taken little-endian. -/
def xtsUnit (key : BitVec 512) (tweak : Nat) (l : List LineData) : List LineData :=
  let out := Config.aes 2 key (leBytes 16 tweak) (l.flatMap lineBytes)
  (List.range l.length).map (fun i => lineOf (slice out (64 * i) 64))

/-- R340: the key of a line of T1: the old generation's for a tile that a roll has not reached. -/
def t1Key (s : State) (g t : Nat) : BitVec 512 :=
  let x := slotOf s (groveSlot s g)
  if x.state = .rolling && decide (SMap.get s.tier.rollTile 0 (groveSlot s g) ≤ t) then x.oldKey else x.key

/-- R340: the key of a T2 copy or Cellar record of a WSEQ. -/
def t2Key (s : State) (g wseq : Nat) : BitVec 512 :=
  let x := slotOf s (groveSlot s g)
  if x.state = .rolling && decide (wseq < x.rollWseq) then x.oldKey else x.key

/-- R17, R327: what the DIMMs hold of a line of T1. -/
def t1Cipher (s : State) (g line : Nat) : Option LineData :=
  (lineContent s g line).bind (fun d => (xtsUnit (t1Key s g (tileOf line)) (t1Tweak g line) [d]).head?)

/-- R137, R327: the ciphertext of a sector. -/
def sectorCipher (s : State) (g t sec : Nat) (l : List LineData) : List LineData :=
  xtsUnit (t2Key s g s.nand.wseq) (t2Tweak g t sec) l

/-- The ciphertext of a whole tile: 16 codewords. -/
def tileCipher (s : State) (g t : Nat) (l : List LineData) : List LineData :=
  (List.range 16).flatMap (fun k => sectorCipher s g t k (slice l (64 * k) 64))

/-! ## Owner records (R237) -/

/-- The upper 96 bits of a codeword's owner record. -/
def ownerTop (o : Owner) (sec : Nat) : Nat :=
  o.wseq % 2 ^ 32 * 2 ^ 64 + o.grove % 2 ^ 10 * 2 ^ 54 + o.tile % 2 ^ 32 * 2 ^ 22 + sec % 16 * 2 ^ 18 + o.kind % 8 * 2 ^ 15

/-- The owner record of a codeword. -/
def ownerWord (o : Owner) (sec : Nat) : BitVec 128 :=
  BitVec.ofNat 128 (ownerTop o sec * 2 ^ 32 + ((o.crcs[sec]?).getD 0).toNat)

/-- A slot's owner record, with the CRC-32C of each codeword's ciphertext and record bits. -/
def ownerOf (s : State) (g t kind : Nat) (cipher : List LineData) : Owner :=
  let o : Owner := ⟨s.nand.wseq, g, t, kind, []⟩
  { o with crcs := (List.range 16).map (fun k =>
      crc32c ((slice cipher (64 * k) 64).flatMap lineBytes ++ leBytes 12 (ownerTop o k))) }

/-- A slot is programmed with an owner record. -/
def putOwner (n g t kind : Nat) (cipher : List LineData) (s : State) : State :=
  protPut 5 n { s with nand := { s.nand with
    owners := SMap.put s.nand.owners n (some (ownerOf s g t kind cipher)), wseq := s.nand.wseq + 1 } }

/-- R161: bytes programmed to the T2 region. -/
def addBytes (n : Nat) (s : State) : State := { s with tier := { s.tier with nandBytes := s.tier.nandBytes + n } }

/-! ## Events (R256, R258) -/

/-- Event of NAND channel `n` at an offset of R256; the target of an L2 reaction is the channel. -/
def nandEvent (n off : Nat) (s : State) : State := raiseAt (224 + 3 * n + off) n s

/-- A media fault of a channel with its cause bit (R256, R257). -/
def mediaFault (ch bit : Nat) (s : State) : State := nandEvent ch 2 (setBit .nandChCause ch bit s)

/-- A node-wide FTL condition: event 226 with its cause bit (R256, R258). -/
def ftlCause (bit : Nat) (s : State) : State := raise 226 (setBit .nandFtlCause 0 bit s)

/-! ## Slots in use -/

/-- Slots that T2 writes in flight take. -/
def progSlots (s : State) : List Nat := s.tier.progs.map (·.t2)

/-- R236: the first slot of a block, in program order, that nothing has taken. -/
def blkNext (s : State) (b : Nat) : Nat :=
  let taken := (s.nand.owners.filter (fun p => decide (p.1 / 1024 = b))).map (·.1) ++ (progSlots s).filter (fun n => decide (n / 1024 = b))
  taken.foldl (fun m n => max m (n % 1024 + 1)) 0

/-- The slot of a block that takes its next data: parity's is passed by (R238). -/
def nextSlot (s : State) (b : Nat) : Nat :=
  let i := blkNext s b
  if isParity s (b * 1024 + i) then i + 1 else i

/-- Wordline of a slot: block × 1,024 + wordline (R243). -/
def wlOf (s : State) (n : Nat) : Nat := n / 1024 * 1024 + n % 1024 / cellBits (img s).nand

/-- The slots of a wordline. -/
def wlSlots (s : State) (w : Nat) : List Nat :=
  let k := cellBits (img s).nand
  ((List.range k).map (fun i => w % 1024 * k + i)).filter (fun i => decide (i < (img s).nand.pages)) |>.map (w / 1024 * 1024 + ·)

/-- Every data slot of the wordline is taken. -/
def wlFull (s : State) (w : Nat) : Bool := (wlSlots s w).all (fun n => decide (n % 1024 < nextSlot s (w / 1024)))

/-- T2 writes of a wordline. -/
def wlProgs (s : State) (w : Nat) : List Prog := s.tier.progs.filter (fun p => wlOf s p.t2 = w)

/-! ## The queue of a die (R242) -/

/-- The work can begin: a read on a die that neither reads nor, unless a demand read may suspend it, programs or erases;
a wordline in program order, once it is full. -/
def opReady (s : State) (d : Die) (o : DieOp) : Bool :=
  match o.job with
  | .read _ _ _ => d.cur.isNone || (o.prio == 2 && (d.held || decide (d.susp < 4)))
  | .wordline w => d.cur.isNone && wlFull s w && !d.queue.any (fun x => match x.job with
    | .wordline v => decide (v / 1024 = w / 1024) && decide (v < w)
    | _ => false)
  | .erase _ => d.cur.isNone

/-- The work a die begins next: R143's priority, the oldest among equals. -/
def nextOp (s : State) (d : Die) : Option DieOp :=
  if d.rd.isSome then none
  else (d.queue.filter (opReady s d)).foldl (fun (b : Option DieOp) o => match b with
    | none => some o
    | some x => if o.prio < x.prio then some o else some x) none

/-- A die begins its next work, a demand read suspending what runs; with no such read left, what it suspended goes on. -/
def dieStep (k : Nat) (s : State) : State :=
  let d := dieAt s k
  match nextOp s d with
  | none => if d.held && d.rd.isNone then updDieAt k (fun x => { x with held := false }) s else s
  | some o =>
    let rest := d.queue.erase o
    match o.job with
    | .read _ _ _ =>
      let stop := d.cur.isSome && !d.held
      updDieAt k (fun x => { x with queue := rest, rd := some o, held := x.cur.isSome, susp := if stop then x.susp + 1 else x.susp }) s
    | _ => updDieAt k (fun x => { x with queue := rest, cur := some o, susp := 0, held := false }) s

/-- A die begins all it can. -/
def runDie (k : Nat) (s : State) : State := dieStep k (dieStep k s)

/-- Work is queued on a die. -/
def pushDie (k : Nat) (o : DieOp) (s : State) : State := runDie k (updDieAt k (fun d => { d with queue := d.queue ++ [o] }) s)

/-- The program or erase of a die ends. -/
def endCur (k : Nat) (s : State) : State := runDie k (updDieAt k (fun d => { d with cur := none, held := false, susp := 0 }) s)

/-- Work that waits or runs on a die. -/
def dieLoad (s : State) (k : Nat) : Nat :=
  let d := dieAt s k
  d.queue.length + (if d.rd.isSome then 1 else 0) + (if d.cur.isSome then 1 else 0)

/-- A promotion's read is at demand priority from now on (R143, R151). -/
def hurry (g t : Nat) (s : State) : State :=
  forEach (SMap.keys s.nand.dies) (fun k u =>
    let mine (o : DieOp) : Bool := match o.job with
      | .read h x _ => h = g && x = t
      | _ => false
    if (dieAt u k).queue.any mine then runDie k (updDieAt k (fun d => { d with queue := mapIf mine (fun o => { o with prio := 2 }) d.queue }) u)
    else u) s

/-- R249: reads of a superblock wait or run. -/
def superRead (s : State) (k : Nat) : Bool :=
  s.nand.dies.any (fun p => (p.2.rd.toList ++ p.2.queue).any (fun o => match o.job with
    | .read _ _ n => superOf n = k
    | _ => false))

/-! ## Erases (R250) -/

/-- An erase of a block begins with its ERASE_PENDING record; a block of a die out of service leaves its superblock. -/
def startErase (b : Nat) (s : State) : State :=
  let d := (dieAt s (b / 2 ^ 12)).state
  if s.nand.erasing.contains b then s
  else if d != .online && d != .retiring then
    { s with nand := { s.nand with owners := SMap.filterKeys s.nand.owners (fun n => decide (n / 1024 ≠ b)) } }
  else
    let s1 := touchMeta (tkey 1023 8192) (modMeta (fun m => { m with erasePending := insertNat (physBlk s b) m.erasePending }) s)
    pushDie (b / 2 ^ 12) ⟨11, .erase b⟩ { s1 with nand := { s1.nand with erasing := insertNat b s1.nand.erasing } }

/-! ## Where a T2 write goes (R236, R239, R243, R246) -/

/-- Stripe of a T2 slot (R238): group, DIE, VBLOCK and SLOT. -/
def stripeKey (n : Nat) : Nat := t2Ch n / 16 * 2 ^ 27 + n % 2 ^ 27

/-- T2 tile number of a stripe's member on channel `k` of its group. -/
def stripeSlot (key k : Nat) : Nat := (key / 2 ^ 27 * 16 + k) * 2 ^ 27 + key % 2 ^ 27

/-- The open stripes: those with a buffer, and those that a write in flight opens. -/
def openStripes (s : State) : List Nat :=
  (SMap.keys s.nand.stripes ++ ((progSlots s).filter (fun n => decide (t2Block n < t2Blocks s))).map stripeKey).dedup

/-- R238: one of the 64 stripe buffers serves the slot's stripe. -/
def stripeRoom (s : State) (n : Nat) : Bool :=
  !parityOn s || (openStripes s).contains (stripeKey n) || decide ((openStripes s).length < 64)

/-- The virtual block of a group and DIE holds nothing and waits for nothing. -/
def superIdle (s : State) (strict : Bool) (r v : Nat) : Bool :=
  (rowDies r).all (fun k =>
    let b := k * 2 ^ 12 + v
    blkNext s b = 0 && !s.nand.erasing.contains b && !s.nand.retired.contains b && !s.nand.failing.contains b
      && !s.tier.md.erasePending.contains (physBlk s b) && !(strict && s.nand.half.contains (physBlk s b)))

/-- Highest erase count of a superblock's members (R246). -/
def superWear (s : State) (r v : Nat) : Nat :=
  (rowDies r).foldl (fun m k => max m (SMap.get s.nand.erases 0 (physBlk s (k * 2 ^ 12 + v)))) 0

/-- Virtual blocks of a group and DIE of which anything is recorded. -/
def knownBlocks (s : State) (r : Nat) : List Nat :=
  let mine (b : Nat) : Bool := rowOf (b / 2 ^ 12) = r
  (((s.nand.owners.map (fun (p : Nat × Option Owner) => p.1 / 1024) ++ (progSlots s).map (· / 1024) ++ SMap.keys s.nand.erases ++ s.nand.erasing
    ++ s.nand.retired ++ s.nand.failing ++ s.nand.half ++ s.tier.md.erasePending).filter mine).map (· % 2 ^ 12)
    ++ (rowDies r).flatMap (fun k => SMap.keys (dieAt s k).remap)).dedup

/-- R246: the free virtual block whose highest member erase count is lowest. -/
def freeBlock (s : State) (strict : Bool) (r : Nat) : Option Nat :=
  let known := knownBlocks s r
  match (List.range (known.length + 1)).find? (fun v => !known.contains v && decide (v < t2Blocks s)) with
  | some v => some v
  | none =>
    (known.filter (fun v => decide (v < t2Blocks s) && superIdle s strict r v)).foldl (fun (b : Option Nat) v => match b with
      | none => some v
      | some x => if superWear s r v < superWear s r x then some v else some x) none

/-- R236: every member of the open superblock is full. -/
def superFull (s : State) (r v : Nat) : Bool :=
  (rowDies r).all (fun k => !dieOnline s k || s.nand.failing.contains (k * 2 ^ 12 + v)
    || decide ((img s).nand.pages ≤ nextSlot s (k * 2 ^ 12 + v)))

/-- The slot a T2 write would take on a die: the next of its open superblock, or the first of a new one. -/
def dieRoom (s : State) (k : Nat) : Option Nat :=
  let r := rowOf k
  let at_ (v : Nat) : Nat := (k * 2 ^ 12 + v) * 1024 + nextSlot s (k * 2 ^ 12 + v)
  let fresh := (freeBlock s true r).map at_
  match SMap.find s.nand.opens r with
  | some v =>
    if !s.nand.failing.contains (k * 2 ^ 12 + v) && decide (nextSlot s (k * 2 ^ 12 + v) < (img s).nand.pages) then some (at_ v)
    else if superFull s r v then fresh else none
  | none => fresh

/-- Dies that can take a T2 write, each with its slot. -/
def t2Cands (s : State) (avoid : Option Nat) : List (Nat × Nat) :=
  if (img s).nand.pages = 0 then []
  else (SMap.keys s.nand.dies).filterMap (fun k =>
    if dieOnline s k && avoid != some k then ((dieRoom s k).filter (stripeRoom s)).map (fun n => (k, n)) else none)

/-- T2 has room for one more copy (R244). -/
def t2Room (s : State) : Bool :=
  decide (liveT2 s + (s.tier.progs.filter (fun p => p.kind != .relocation && p.kind != .repair)).length < s.nand.t2Tiles)

/-- A new copy can be placed. -/
def t2Can (s : State) : Bool := t2Room s && !(t2Cands s none).isEmpty

/-- R243: the slot of a T2 write: the open superblock of the die whose queue is shortest; which of equals is free. -/
def pickSlot (s : State) (avoid : Option Nat) : Option Nat :=
  match t2Cands s avoid with
  | [] => none
  | c :: rest =>
    let least := (c :: rest).foldl (fun m x => min m (dieLoad s x.1)) (dieLoad s c.1)
    let l := (c :: rest).filter (fun x => dieLoad s x.1 = least)
    some (((l[Config.freeT2 s.free l.length % l.length]?).getD c).2)

/-- R236, R246, R250: the slot's superblock is open; blocks on which a blank check failed when one was looked for are
erased again. -/
def openSuper (n : Nat) (s : State) : State :=
  let r := rowOf (n / 2 ^ 22)
  if SMap.find s.nand.opens r = some (t2Block n) then s
  else
    let bad := match freeBlock s false r with
      | some v => ((rowDies r).map (fun k => k * 2 ^ 12 + v)).filter (fun b => s.nand.half.contains (physBlk s b))
      | none => []
    let s1 := { s with nand := { s.nand with opens := SMap.put s.nand.opens r (some (t2Block n)) } }
    forEach bad startErase s1

/-- A wordline waits on its die, at the priority of the most urgent of its writes. -/
def queueWl (prio n : Nat) (s : State) : State :=
  let k := n / 2 ^ 22
  let w := wlOf s n
  let mine (o : DieOp) : Bool := o.job == .wordline w
  if (dieAt s k).queue.any mine then
    runDie k (updDieAt k (fun d => { d with queue := mapIf mine (fun o => { o with prio := min prio o.prio }) d.queue }) s)
  else pushDie k ⟨prio, .wordline w⟩ s

/-- R243: a T2 write is placed and waits for its wordline; `none` where no die can take it. -/
def placeProg (p : Prog) (avoid : Option Nat) (s : State) : Option State :=
  match pickSlot s avoid with
  | none => none
  | some n =>
    let s1 := openSuper n (useFree s)
    some (queueWl p.prio n { s1 with tier := { s1.tier with progs := s1.tier.progs ++ [{ p with t2 := n }] } })

/-- R143: the priority of a T2 write. -/
def progPrio (k : ProgKind) (forced : Bool) : Nat :=
  match k with
  | .demotion => if forced then 3 else 11
  | .repair => 5
  | .drain => 8
  | .sealCopy => 9
  | .trickle => 10
  | _ => 11

/-! ## Stripes (R238) -/

/-- XOR of two runs of lines; a shorter one counts as zeros. -/
def xorLines (a b : List LineData) : List LineData :=
  (List.range (max a.length b.length)).map (fun i => (a[i]?).getD 0 ^^^ (b[i]?).getD 0)

/-- XOR of two runs of owner records. -/
def xorOwners (a b : List (BitVec 128)) : List (BitVec 128) :=
  (List.range (max a.length b.length)).map (fun i => (a[i]?).getD 0 ^^^ (b[i]?).getD 0)

/-- Every member of the stripe but its parity is written, or counts as pad on a die out of service. -/
def stripeDone (s : State) (key : Nat) : Bool :=
  (List.range 16).all (fun c =>
    let n := stripeSlot key c
    isParity s n || (SMap.find s.nand.owners n).isSome || !dieOnline s (n / 2 ^ 22))

/-- A member of the stripe is being programmed. -/
def stripeBusy (s : State) (key : Nat) : Bool := (progSlots s).any (fun n => stripeKey n = key)

/-- The channel of a group that holds a stripe's parity. -/
def parityChan (key : Nat) : Nat := (key / 2 ^ 10 % 2 ^ 12 + key % 2 ^ 10) % 16

/-- R238: the stripe's parity is programmed, whole codewords with owner records, and its unwritten members are pad; a
stripe whose parity cannot be written is unprotected. -/
def closeStripe (key : Nat) (s : State) : State :=
  match SMap.find s.nand.stripes key with
  | none => s
  | some x =>
    let n := stripeSlot key (parityChan key)
    let pads := ((List.range 16).map (stripeSlot key)).filter (fun m =>
      m != n && (SMap.find s.nand.owners m).isNone && dieOnline s (m / 2 ^ 22))
    let s1 := forEach pads (fun m u => putOwner m 0 0 5 [] u) { s with nand := { s.nand with stripes := SMap.del s.nand.stripes key } }
    if dieOnline s (n / 2 ^ 22) then
      addBytes tileBytes (putOwner n 0 0 2 x.words { s1 with
        tier := { s1.tier with t2 := SMap.writeRun s1.tier.t2 0 (n * 1024) x.words }
        nand := { s1.nand with parityOwn := SMap.set s1.nand.parityOwn [] n x.owns } })
    else { s1 with tier := { s1.tier with unprotected := insertNat key s1.tier.unprotected } }

/-- R238: a slot of a stripe was written with these codewords; the stripe's last closes it, as does the first to come
after its 10 ms. -/
def noteStripe (n : Nat) (cipher : List LineData) (s : State) : State :=
  if !parityOn s then s
  else
    let key := stripeKey n
    let x := (SMap.find s.nand.stripes key).getD { since := now s }
    let own := match SMap.find s.nand.owners n with
      | some o => (List.range 16).map (ownerWord o)
      | none => []
    let y : Stripe := { x with count := x.count + 1, words := xorLines x.words cipher, owns := xorOwners x.owns own }
    let s1 := { s with nand := { s.nand with stripes := SMap.put s.nand.stripes key (some y) } }
    if (stripeDone s1 key || y.due) && !stripeBusy s1 key then closeStripe key s1 else s1

/-- A slot is programmed with a tile's content (R131, R237). -/
def programSlot (n g t kind : Nat) (l : List LineData) (s : State) : State :=
  let c := tileCipher s g t l
  noteStripe n c (addBytes tileBytes (putOwner n g t kind c
    { s with tier := { s.tier with t2 := SMap.writeRun s.tier.t2 0 (n * 1024) l } }))

/-- A slot is written as pad (R237). -/
def padSlot (n : Nat) (s : State) : State := noteStripe n [] (addBytes tileBytes (putOwner n 0 0 5 [] s))

/-- R238, R253: the stripe of a slot can give it: its parity is programmed and no second member is out of reach. -/
def stripeGives (s : State) (n : Nat) : Bool :=
  let key := stripeKey n
  parityOn s && !s.tier.unprotected.contains key
    && (SMap.find s.nand.owners (stripeSlot key (parityChan key))).isSome
    && (List.range 16).all (fun c => let m := stripeSlot key c
      m = n || !dieGone s m || (SMap.find s.nand.owners m).isNone)

/-! ## Blocks and dies that fail (R243, R248, R253, R254) -/

/-- R241, R247: a slot waits for its relocation. -/
def queueReloc (n : Nat) (s : State) : State :=
  { s with nand := { s.nand with relocs := if s.nand.relocs.contains n then s.nand.relocs else s.nand.relocs ++ [n] } }

/-- R252: spare blocks of a die that the anchor takes. -/
def anchorSpares (k : Nat) : Nat := if k = 0 || k = 256 then 2 else 0

/-- R239, R252: spare blocks a die has left. -/
def sparesLeft (s : State) (k : Nat) : Nat := spareBlocks s - anchorSpares k - (dieAt s k).used

/-- R248: a retiring die without live slots is RETIRED, and its capacity leaves T2. -/
def settleDie (k : Nat) (s : State) : State :=
  if (dieAt s k).state = .retiring && (liveSlots s (fun n => decide (n / 2 ^ 22 = k))).isEmpty then
    let x := (img s).nand
    let per := t2Blocks s * x.pages * (100 - x.op) / 100 * (if x.parity then 15 else 16) / 16
    let s1 := updDieAt k (fun y => { y with state := .retired, queue := [], rd := none }) s
    { s1 with nand := { s1.nand with t2Tiles := s1.nand.t2Tiles - per } }
  else s

/-- R248: a die without spares retires: its live slots are relocated. -/
def retireDie (k : Nat) (s : State) : State :=
  if dieOnline s k then
    settleDie k (forEach (liveSlots s (fun n => decide (n / 2 ^ 22 = k))) queueReloc
      (updDieAt k (fun y => { y with state := .retiring }) s))
  else s

/-- R254: a dead die with stripe parity is rebuilt at once, one die at a time. -/
def startRebuild (s : State) : State :=
  if s.nand.rbBusy || !parityOn s then s
  else match s.nand.dies.find? (fun p => p.2.state = .dead) with
    | none => s
    | some (k, _) =>
      let left := liveSlots s (fun n => decide (n / 2 ^ 22 = k))
      let s1 := updDieAt k (fun y => { y with state := .rebuilding }) s
      { s1 with nand := { s1.nand with rbBusy := true, rbDie := k, rbResult := 0, rbLeft := left, rbStart := now s, rbDone := 0 } }

/-- R243: a T2 write goes to another die than `k`; without room it waits there for one. -/
def rewrite (k : Nat) (p : Prog) (s : State) : State :=
  let s1 := { s with tier := { s.tier with progs := s.tier.progs.filter (fun x => x.id ≠ p.id) } }
  (placeProg p (some k) s1).getD s

/-- R253: a die becomes DEAD: what it was to write goes to other dies. -/
def killDie (k : Nat) (s : State) : State :=
  let d := dieAt s k
  if d.state = .online || d.state = .retiring then
    let s1 := mediaFault (k / 32) 3 (updDieAt k (fun y => { y with
      state := .dead, queue := [], rd := none, cur := none, held := false, susp := 0 }) s)
    let s2 := { s1 with nand := { s1.nand with erasing := s1.nand.erasing.filter (fun b => decide (b / 2 ^ 12 ≠ k)) } }
    startRebuild (forEach (s2.tier.progs.filter (fun p => p.t2 / 2 ^ 22 = k)) (rewrite k) s2)
  else s

/-- R253: a program or erase of a die failed; the eighth within 1 s makes it DEAD. -/
def dieFail (k : Nat) (s : State) : State :=
  let fails := ((dieAt s k).fails.filter (fun t => decide (now s - t < 1000000000))) ++ [now s]
  onlyIf (decide (8 ≤ fails.length)) (killDie k) (updDieAt k (fun y => { y with fails := fails }) s)

/-- R243, R248: a failed block is replaced from the spares through the remap, or stays retired. -/
def retireBlock (b : Nat) (s : State) : State :=
  let k := b / 2 ^ 12
  let left := sparesLeft s k
  let spare := (img s).nand.blocks - spareBlocks s + anchorSpares k + (dieAt s k).used
  let s1 := { s with nand := { s.nand with
      owners := SMap.filterKeys s.nand.owners (fun n => decide (n / 1024 ≠ b))
      failing := s.nand.failing.filter (· ≠ b)
      chs := SMap.upd s.nand.chs {} (k / 32) (fun c => { c with bad := c.bad + 1 })
      retired := if left = 0 then insertNat b s.nand.retired else s.nand.retired } }
  let s2 := if left = 0 then s1
    else updDieAt k (fun y => { y with used := y.used + 1, remap := SMap.put y.remap (b % 2 ^ 12) (some spare) }) s1
  let quarter := spareBlocks s
  let s3 := onlyIf (decide (left * 4 ≥ quarter) && decide ((left - 1) * 4 < quarter)) (mediaFault (k / 32) 2) s2
  onlyIf (decide (left ≤ 1)) (retireDie k) s3

/-- R249: reads of a block wait or run. -/
def blockRead (s : State) (b : Nat) : Bool :=
  let d := dieAt s (b / 2 ^ 12)
  (d.rd.toList ++ d.queue).any (fun o => match o.job with
    | .read _ _ n => n / 1024 = b
    | _ => false)

/-- R243: a failed block whose live slots have moved is retired. -/
def settleBlock (b : Nat) (s : State) : State :=
  if (liveSlots s (fun n => decide (n / 1024 = b))).isEmpty && !blockRead s b then retireBlock b s else s

/-- R246, R247: adds to a physical block's read count. -/
def countBlock (b k : Nat) (s : State) : State :=
  { s with nand := { s.nand with reads := SMap.upd s.nand.reads 0 (physBlk s b) (· + k) } }

/-- Page reads of a T2 slot. -/
def countReads (n k : Nat) (s : State) : State := countBlock (t2Blk n) k s

/-- Work of a die that nothing waits for any more goes: reads of promotions that ended or have all they need, wordlines
without a write. -/
def reapDie (k : Nat) (s : State) : State :=
  let d := dieAt s k
  let keep (o : DieOp) : Bool := match o.job with
    | .read g t _ => s.tier.promos.any (fun p => p.grove = g && p.tile = t && p.read != BitVec.allOnes 16)
    | .wordline w => !(wlProgs s w).isEmpty
    | .erase b => s.nand.erasing.contains b
  let rd := d.rd.filter keep
  let cur := d.cur.filter keep
  let queue := d.queue.filter keep
  if rd = d.rd && cur = d.cur && queue = d.queue then s
  else
    let gone := match d.cur, cur with
      | some o, none => (match o.job with
        | .wordline w => (wlSlots s w).filter (fun n => (SMap.find s.nand.owners n).isNone && !isParity s n)
        | _ => [])
      | _, _ => []
    runDie k (forEach gone (fun n t => addBytes tileBytes (putOwner n 0 0 5 [] t)) (updDieAt k (fun x => { x with
      rd := rd, queue := queue, cur := cur, held := x.held && cur.isSome, susp := if cur.isSome then x.susp else 0 }) s))

/-- R137, R168: a promotion whose slot no die has been asked for asks for it. -/
def askRead (p : Promo) (s : State) : State :=
  let mine (o : DieOp) : Bool := match o.job with
    | .read g t _ => g = p.grove && t = p.tile
    | _ => false
  match (tile s p.grove p.tile).t2 with
  | some n =>
    if p.read = BitVec.allOnes 16 || dieGone s n || s.nand.dies.any (fun d => (d.2.rd.toList ++ d.2.queue).any mine) then s
    else pushDie (n / 2 ^ 22) ⟨if p.kind = 1 then 6 else 2, .read p.grove p.tile n⟩ s
  | none => s

/-- R243: a T2 write that no other die has taken yet after its wordline failed. -/
def stale (s : State) (p : Prog) : Bool :=
  s.pwr.state != .cellar && ((SMap.find s.nand.owners p.t2).isSome || s.nand.failing.contains (t2Blk p.t2)
    || !((dieAt s (p.t2 / 2 ^ 22)).queue ++ (dieAt s (p.t2 / 2 ^ 22)).cur.toList).any (fun o => o.job == .wordline (wlOf s p.t2)))

/-- R376: the Cellar region is shorter than R165 sizes it. -/
def celShort (s : State) : Bool := decide (s.tier.celBlocks < s.tier.celNeed) && decide (0 < t2Blocks s)

/-- R376: the Cellar region grows by T2's last block once reclaim has freed it on every die. -/
def growCellar (s : State) : State :=
  let v := t2Blocks s - 1
  if celShort s && ((SMap.keys s.nand.dies).map rowOf).dedup.all (fun r => superIdle s true r v && SMap.find s.nand.opens r != some v) then
    { s with tier := { s.tier with celBlocks := s.tier.celBlocks + 1 } }
  else s

/-- What follows at once from a change of T2: dies drop work that ended, failed blocks and retiring dies that hold no live
slot leave service (R243, R248). -/
def settleNand (s : State) : State :=
  let s0 := forEach s.tier.promos askRead s
  let s1 := forEach ((s0.nand.dies.filter (fun p => p.2.rd.isSome || p.2.cur.isSome || !p.2.queue.isEmpty)).map (·.1)) reapDie s0
  let s2 := forEach (s1.tier.progs.filter (stale s1)) (fun p t => rewrite (p.t2 / 2 ^ 22) p t) (forEach s1.nand.failing settleBlock s1)
  growCellar (forEach ((s2.nand.dies.filter (fun p => p.2.state = .retiring)).map (·.1)) settleDie s2)

/-! ## The Cellar log (R251) -/

/-- Bytes of an SLC block. -/
def slcBlock (s : State) : Nat := (img s).nand.pages * tileBytes / cellBits (img s).nand

/-- Records of a Cellar block after its header page of 16 KiB. -/
def celPer (s : State) : Nat := slcBlock s / 4096 - 4

/-- Virtual blocks of a die's part of the region. -/
def celRange (s : State) (k : Nat) : List Nat := (List.range s.tier.celBlocks).map (fun i => k * 2 ^ 12 + t2Blocks s + i)

/-- The programmed block of a die that has room: the last in the log. -/
def celOpen (s : State) (k : Nat) : Option Nat :=
  (((SMap.present s.nand.cellar).filter (fun p => p.1 / 2 ^ 12 = k && decide (p.2.recs.length < celPer s))).foldl
    (fun (b : Option (Nat × Nat)) p => match b with
      | none => some (p.1, p.2.place)
      | some x => if x.2 < p.2.place then some (p.1, p.2.place) else some x) none).map (·.1)

/-- The erased block of a die with the lowest erase count (R246). -/
def celErased (s : State) (k : Nat) : Option Nat :=
  let wear (b : Nat) : Nat := SMap.get s.nand.erases 0 (physBlk s b)
  ((celRange s k).filter (fun b => (SMap.find s.nand.cellar b).isNone && !s.nand.retired.contains b)).foldl
    (fun (m : Option Nat) b => match m with
      | none => some b
      | some x => if wear b < wear x then some b else some x) none

/-- The dies that can take a record, in the order of the stripe, from the one after the last. -/
def celDies (s : State) : List Nat :=
  let l := (SMap.keys s.nand.dies).filter (fun k => dieOnline s k && ((celOpen s k).isSome || (celErased s k).isSome))
  l.filter (fun k => decide (s.nand.celDie < k)) ++ l.filter (fun k => decide (k ≤ s.nand.celDie))

/-- R251: a record goes to the next location of the log, opening a block with its header page where it must. -/
def celWrite (v : Nat) (x : CelSect) (key : Option Nat) (s : State) : State :=
  match celDies s with
  | [] => s
  | k :: _ =>
    let add (b : Nat) (y : CelBlock) (t : State) : State :=
      { t with nand := { t.nand with
          cellar := SMap.put t.nand.cellar b (some { y with recs := y.recs ++ [key] }), celDie := k, wseq := t.nand.wseq + 1 } }
    match celOpen s k with
    | some b => (match SMap.find s.nand.cellar b with
      | some y => add b y s
      | none => s)
    | none => (match celErased s k with
      | some b => add b ⟨v, x, s.nand.celPlace, []⟩ { s with nand := { s.nand with celPlace := s.nand.celPlace + 1 } }
      | none => s)

/-- Records of a section. -/
def celWriteN (v : Nat) (x : CelSect) (n : Nat) (s : State) : State := forEach (List.range n) (fun _ t => celWrite v x none t) s

/-- A Cellar block is erased. -/
def celErase (b : Nat) (s : State) : State :=
  { s with nand := { s.nand with
      cellar := SMap.del s.nand.cellar b
      reads := SMap.del s.nand.reads (physBlk s b)
      erases := SMap.upd s.nand.erases 0 (physBlk s b) (· + 1) } }

/-- Bytes of erased Cellar space (R251). -/
def celFree (s : State) : Nat :=
  (((SMap.keys s.nand.dies).filter (dieOnline s)).map (fun k =>
    ((celRange s k).filter (fun b => (SMap.find s.nand.cellar b).isNone)).length)).foldl (· + ·) 0 * slcBlock s

/-- The Cellar block that holds a sector's record. -/
def celBlkOf (s : State) (key : Nat) : Option Nat :=
  ((SMap.present s.nand.cellar).find? (fun p => p.2.recs.contains (some key))).map (·.1)

/-! ## The anchor (R252) -/

/-- Anchor blocks are numbered 0 and 1 on channel 0's die 0, 2 and 3 on channel 8's: their physical blocks are those dies'
first spares. -/
def anchorPhys (s : State) (i : Nat) : Nat := (i / 2 * 256) * 2 ^ 12 + (img s).nand.blocks - spareBlocks s + i % 2

/-- The same kind of anchor record. -/
def sameAnchor (a b : AnchorRec) : Bool :=
  match a, b with
  | .root _, .root _ => true
  | .session _, .session _ => true
  | .fingerprint _, .fingerprint _ => true
  | _, _ => false

/-- A record is appended to an anchor block; into a block just erased, after the newest record of each other kind. -/
def anchorPut (i : Nat) (fresh : Bool) (r : AnchorRec) (s : State) : State :=
  let old := SMap.get s.nand.anchors [] (if i % 2 = 0 then i + 1 else i - 1)
  let newest := [AnchorRec.root 0, .session 0, .fingerprint 0].filterMap (fun k =>
    if sameAnchor k r then none else (old.filter (sameAnchor k)).getLast?)
  let l := if fresh then newest ++ [r] else SMap.get s.nand.anchors [] i ++ [r]
  { s with nand := { s.nand with
      anchors := SMap.set s.nand.anchors [] i l
      wseq := s.nand.wseq + 1
      erases := if fresh then SMap.upd s.nand.erases 0 (anchorPhys s i) (· + 1) else s.nand.erases } }

/-- R252: an anchor record is programmed on both dies; a full pair of blocks gives way to the other, erased. -/
def anchorWrite (r : AnchorRec) (s : State) : State :=
  let cur := s.nand.anchorAt
  let full := decide (slcBlock s / 4096 ≤ (SMap.get s.nand.anchors [] cur).length) && decide (0 < slcBlock s)
  let at_ := if full then 1 - cur else cur
  let s1 := { s with nand := { s.nand with anchorAt := at_ }, tier := { s.tier with anchored := true } }
  anchorPut (2 + at_) full r (anchorPut at_ full r s1)

end Sys2Proof.Machine
end

