-- ==== Sys2Proof/Machine/Channel.lean ====
section
/-!
DEFINITION. The DDR5 channels as their requesters meet them: channel and rank records, the UE log (R219, R222),
leaving self-refresh (R217), the fabric ports with their regulators (R213), and the two queues of a subchannel with
the order in which its scheduler issues requests (R205, R211, R215, R216).
-/

namespace Sys2Proof.Machine

open Sys2Proof

/-! ## Channels and ranks -/

/-- A DRAM channel. -/
def chOf (s : State) (n : Nat) : DramCh := SMap.get s.dram.chs {} n

/-- Changes a channel. -/
def updCh (n : Nat) (f : DramCh → DramCh) (s : State) : State :=
  { s with dram := { s.dram with chs := SMap.upd s.dram.chs {} n f } }

/-- Event of channel `n` at an offset of R230; the target of an L2 reaction is the channel. -/
def dramEvent (n off : Nat) (s : State) : State := raiseAt (64 + 10 * n + off) n s

/-- R222: a UE log record of the channel that a frame's line lies on; a full log counts and raises +8 once. -/
def logUe (f i src cls action : Nat) (s : State) : State :=
  let n := chanOf s f i
  let c := chOf s n
  if c.ueLog.length < 32 then
    updCh n (fun c => { c with ueLog := c.ueLog ++ [⟨now s, src, cls, action, f * 1024 + i⟩] }) s
  else
    let s1 := bumpRc .dramUeLost n 31 0 1 s
    if c.ueFull then s1 else dramEvent n 8 (updCh n (fun c => { c with ueFull := true }) s1)

/-- The channel is FAILED, so its requests complete as uncorrectable reads and discarded writes (R221). -/
def chFailed (s : State) (f i : Nat) : Bool := (chOf s (chanOf s f i)).state == .failed

/-- R219: a demand read meets an uncorrectable line or a marker: UE log, event +1. -/
def demandUe (f i src cls : Nat) (s : State) : State := dramEvent (chanOf s f i) 1 (logUe f i src cls 0 s)

/-- R222: CLASS of what a read of a frame's line met: a FAILED channel, a marker, or its device error. -/
def ueClass (s : State) (f i : Nat) : Nat :=
  if chFailed s f i then 3
  else if s.tier.t1poison.contains (f * 1024 + i) then 1
  else match SMap.get s.tier.t1bad .clean (f * 1024 + i) with
    | .uncorr c => c
    | _ => 1

/-- A refresh state of a rank. -/
def rankOf (s : State) (ch r : Nat) : Rank := SMap.get (chOf s ch).ranks {} r

/-- Changes a rank. -/
def updRank (ch r : Nat) (f : Rank → Rank) (s : State) : State :=
  updCh ch (fun c => { c with ranks := SMap.upd c.ranks {} r f }) s

/-! ## Self-refresh (R217) -/

/-- A request reaches a channel that idles in self-refresh: it exits. -/
def wakeCh (n : Nat) (s : State) : State :=
  if (chOf s n).state = .selfRefresh && decide (s.pwr.stage ≠ 0xD) then updCh n (fun c => { c with state := .online }) s else s

/-- A request for a line of a frame. -/
def wakeLine (f i : Nat) (s : State) : State := wakeCh (chanOf s f i) s

/-- A whole frame is read or written. -/
def wakeFrame (f : Nat) (s : State) : State :=
  match setOfFrame s f with
  | some n => forEach (List.range (2 ^ (setOf s n).log2)) (fun k t => wakeCh ((setOf s n).first + k) t) s
  | none => s

/-- The frame of a tile, if it has one, is read or written whole. -/
def wakeTile (g t : Nat) (s : State) : State :=
  match (tile s g t).frame with
  | some f => wakeFrame f s
  | none => s

/-! ## Regulators (R212, R213) -/

/-- Bytes in a regulator's bucket. -/
def tokensOf (s : State) (n : Nat) : Nat := SMap.get s.dram.tokens 0 n

/-- R213: a fabric port passes `k` lines: a CAP regulator holds tokens for them, or as many as its bucket can hold. -/
def portOpen (s : State) (n k : Nat) : Bool :=
  fld s .dramRegCfg 30 29 n != 1 || s.pwr.state == .cellar
    || decide (min (64 * k) (fld s .dramRegCfg 15 0 n * 1024) ≤ tokensOf s n)

/-- R215: a real-time regulator. -/
def isRt (s : State) (n : Nat) : Bool := decide (fld s .dramRegCfg 31 31 n = 1)

/-! ## The queues of a subchannel (R211) -/

/-- A subchannel. -/
def subOf (s : State) (k : Nat) : DramSub := SMap.get s.dram.subs {} k

/-- Changes a subchannel. -/
def updSub (k : Nat) (f : DramSub → DramSub) (s : State) : State :=
  { s with dram := { s.dram with subs := SMap.upd s.dram.subs {} k f } }

/-- Coordinates of a request (R210). -/
def reqCoord (s : State) (r : DramReq) : Coord := coordOf s (r.addr / 1024) (r.addr % 1024)

/-- The subchannel of coordinates. -/
def subKey (c : Coord) : Nat := c.ch * 2 + c.sub

/-- The bank of coordinates. -/
def bankKey (c : Coord) : Nat := c.rank * 32 + c.bg * 4 + c.ba

/-- A write, for the write queue. -/
def isWr (r : DramReq) : Bool := r.kind != .fill

/-- Requests of one queue that wait for the scheduler. -/
def queueOf (x : DramSub) (wr : Bool) : List DramReq := x.reqs.filter (fun r => !r.issued && isWr r == wr)

/-- The request of a kind for a line of a grove. -/
def forLine (k : ReqKind) (g a : Nat) (r : DramReq) : Bool := r.kind == k && r.grove = g && r.line = a

/-- R205: requests that no earlier one to the same line holds back, oldest first. -/
def eligible : List DramReq → List Nat → List DramReq
  | [], _ => []
  | r :: rest, held =>
    if r.issued then eligible rest held
    else if held.contains r.addr then eligible rest held
    else r :: eligible rest (r.addr :: held)

/-- R211: a burst starts at 48 writes, or when no read is queued, and stops at 16 while a read is. -/
def burstNow (x : DramSub) : Bool :=
  let w := (queueOf x true).length
  if (queueOf x false).isEmpty then decide (0 < w)
  else if x.burst then decide (16 < w) else decide (48 ≤ w)

/-- R211: the request issued next: real-time ones, those that hold GUARANTEE tokens, those that have waited 2 µs, then
reads, or writes while a burst runs, row hits first (log 92). -/
def pickReq (s : State) (x : DramSub) : Option DramReq :=
  let l := eligible x.reqs []
  let hit (r : DramReq) : Bool :=
    let c := reqCoord s r
    SMap.get x.rows none (bankKey c) == some c.row
  let inOrder (p : DramReq → Bool) : Option DramReq :=
    match l.find? (fun r => p r && hit r) with
    | some r => some r
    | none => l.find? p
  match l.find? (fun r => isRt s r.reg) with
  | some r => some r
  | none =>
    match l.find? (fun r => r.tok) with
    | some r => some r
    | none =>
      match l.find? (fun r => decide (2000 ≤ now s - r.gtc)) with
      | some r => some r
      | none => if burstNow x then inOrder isWr else inOrder (fun r => !isWr r)

/-- The first equal request of a queue is issued. -/
def markIssued (r : DramReq) : List DramReq → List DramReq
  | [] => []
  | x :: rest => if x = r then { x with issued := true } :: rest else x :: markIssued r rest

/-- R215: real-time requests are queued for the rank. -/
def rtQueued (s : State) (ch rank : Nat) : Bool :=
  [0, 1].any (fun b => (subOf s (ch * 2 + b)).reqs.any (fun r =>
    !r.issued && isRt s r.reg && decide ((reqCoord s r).rank = rank)))

/-- R216: the rank's burst has run longer than its declaration. -/
def burstOver (s : State) (x : Rank) : Bool :=
  match x.since with
  | some t => decide (x.most * 100 < now s - t)
  | none => false

/-- R215, R216: a burst ends with its last real-time request: the postponed refreshes are issued. -/
def endBurst (ch rank : Nat) (s : State) : State :=
  let x := rankOf s ch rank
  if x.since.isNone || rtQueued s ch rank then s
  else
    onlyIf (burstOver s x && !x.overSaid) (dramEvent ch 6) (updRank ch rank (fun y => { y with
      issued := y.issued + y.postponed, postponed := 0, since := none, most := 0, overSaid := false }) s)

/-- R211: the scheduler issues one request of a subchannel; a CA recovery stops it (R221). -/
def issueOne (k : Nat) (s : State) : State :=
  let x := subOf s k
  if (chOf s (k / 2)).caRec.contains (k % 2) then s
  else match pickReq s x with
    | none => s
    | some r =>
      let c := reqCoord s r
      endBurst c.ch c.rank (updSub k (fun y => { y with
        reqs := markIssued r y.reqs, burst := burstNow y, rows := SMap.set y.rows none (bankKey c) (some c.row) }) s)

/-- R213, R215: a request passes its port and joins its queue of 64, or waits at the port (`none`). A partial write
takes two lines. -/
def passReq (kind : ReqKind) (g a lines n : Nat) (s : State) : Option State :=
  match (tile s g (tileOf a)).frame with
  | none => none
  | some f =>
    let c := coordOf s f (a % 1024)
    let r : DramReq :=
      { kind := kind, grove := g, line := a, addr := f * 1024 + a % 1024, reg := n
        tok := fld s .dramRegCfg 30 29 n = 2 && decide (64 * lines ≤ tokensOf s n), gtc := now s, issued := false }
    if 64 ≤ (queueOf (subOf s (subKey c)) (isWr r)).length || !portOpen s n lines then none
    else
      let s1 := updSub (subKey c) (fun x => { x with reqs := x.reqs ++ [r] }) (chargeLines n lines (wakeCh c.ch s))
      some (if isRt s n then
          updRank c.ch c.rank (fun y => { y with
            since := some (y.since.getD (now s)), most := max y.most (fld s .dramRegCfg 27 16 n) }) s1
        else s1)

/-- The scheduler issues requests until the oldest one of the line has been issued. -/
def issueTo (fuel : Nat) (kind : ReqKind) (g a k : Nat) (s : State) : State :=
  match fuel with
  | 0 => s
  | n + 1 =>
    match (subOf s k).reqs.find? (forLine kind g a) with
    | some r => if r.issued then s else issueTo n kind g a k (issueOne k s)
    | none => s

/-- A channel answers the oldest request of the line: what goes before it has been issued, and it leaves the queue.
`none` while the channel does not hold it, or its subchannel is stopped (R221). -/
def finishReq (kind : ReqKind) (g a : Nat) (s : State) : Option State :=
  match (tile s g (tileOf a)).frame with
  | none => none
  | some f =>
    let c := coordOf s f (a % 1024)
    let k := subKey c
    let s1 := issueTo ((subOf s k).reqs.length + 1) kind g a k s
    match (subOf s1 k).reqs.find? (forLine kind g a) with
    | some r =>
      if (chOf s c.ch).caRec.contains c.sub || !r.issued then none
      else some (updSub k (fun x => { x with reqs := x.reqs.erase r }) s1)
    | none => none

/-- Requests of a tile leave their queues: its frame goes or moves. -/
def dropReqs (g t : Nat) (s : State) : State :=
  { s with dram := { s.dram with subs := SMap.mapVals s.dram.subs {} (fun x =>
      { x with reqs := x.reqs.filter (fun r => !(r.grove = g && tileOf r.line = t)) }) } }

/-- The write-backs of a tile leave their queues: their bytes are in its frame. -/
def dropEvicts (g t : Nat) (s : State) : State :=
  { s with dram := { s.dram with subs := SMap.mapVals s.dram.subs {} (fun x =>
      { x with reqs := x.reqs.filter (fun r => !(r.kind == .evict && r.grove = g && tileOf r.line = t)) }) } }

/-- A request for a line of the channel waits or runs. -/
def chBusy (s : State) (n : Nat) : Bool := [0, 1].any (fun b => !(subOf s (n * 2 + b)).reqs.isEmpty)

/-- R211: one scheduling round of every subchannel. -/
def schedule (s : State) : State := forEach (SMap.keys s.dram.subs) issueOne s

end Sys2Proof.Machine
end

