-- ==== Sys2Proof/Machine/CanopyOps.lean ====
section
/-!
DEFINITION. Canopy, Windfall and the eviction tracker: where a line lies (R175), ways and victims
(R181), the errors of the arrays (R196), evictions and recalls (R185, R186), what is passed to the DRAM channels
(R186, R213), landing entries (R54), the miss file (R183), and what a fill returns (R21, R187).
-/

namespace Sys2Proof.Machine

open Sys2Proof

/-! ## Where a line lies (R175) -/

/-- Slice bits: 4, or 3 on the smaller part. -/
def sliceBits (s : State) : Nat := if isSmall s then 3 else 4

/-- Home slice of a line, and its landing bank (R11). -/
def sliceOf (s : State) (g a : Nat) : Nat :=
  (a ^^^ (a / 2 ^ 12) ^^^ (a / 2 ^ 24) ^^^ (a / 2 ^ 36) ^^^ g ^^^ (g / 2 ^ 6)) % 2 ^ sliceBits s

/-- Set of a line within its slice. -/
def setIdx (s : State) (g a : Nat) : Nat :=
  let u := a / 2 ^ sliceBits s
  (u ^^^ (u / 2 ^ 14) ^^^ (u / 2 ^ 28) ^^^ (g * 16)) % 2 ^ 14

/-- Key of a line's set. -/
def setKey (s : State) (g a : Nat) : Nat := sliceOf s g a * 16384 + setIdx s g a

/-- A set. -/
def canSet (s : State) (k : Nat) : CanSet := SMap.get s.can.sets {} k

/-- Changes a set. -/
def updCanSet (k : Nat) (f : CanSet → CanSet) (s : State) : State :=
  { s with can := { s.can with sets := SMap.upd s.can.sets {} k f } }

/-- The way that holds a line. -/
def hitWay (s : State) (g a : Nat) : Option (Nat × Way) :=
  if s.can.enabled then (canSet s (setKey s g a)).ways.find? (fun p => p.2.grove = g && p.2.line = a)
  else none

/-- Writes a way. -/
def putWay (k w : Nat) (x : Way) (s : State) : State :=
  updCanSet k (fun c => { c with ways := (c.ways.filter (fun p => p.1 ≠ w)) ++ [(w, x)] }) s

/-- Invalidates a way. -/
def dropWay (k w : Nat) (s : State) : State :=
  updCanSet k (fun c => { c with ways := c.ways.filter (fun p => p.1 ≠ w) }) s

/-- The pseudo-LRU bits after a touch (R174). -/
def touchWay (k w : Nat) (s : State) : State :=
  updCanSet k (fun c => { c with plru := Config.plruTouch c.plru w }) s

/-- Changes the way of a line that Canopy holds. -/
def updLine (g a : Nat) (f : Way → Way) (s : State) : State :=
  match hitWay s g a with
  | some (w, x) => putWay (setKey s g a) w (f x) s
  | none => s

/-! ## Windfall and tracker (R185, R186) -/

/-- Windfall lines of a slice, oldest first. -/
def wfOf (s : State) (sl : Nat) : List WfLine := SMap.get s.can.wf [] sl

/-- Writes a slice's Windfall. -/
def setWf (sl : Nat) (l : List WfLine) (s : State) : State :=
  { s with can := { s.can with wf := SMap.set s.can.wf [] sl l } }

/-- Tracker entries of a slice, in order of entry. -/
def trkOf (s : State) (sl : Nat) : List TrkEntry := SMap.get s.can.trk [] sl

/-- Writes a slice's tracker. -/
def setTrk (sl : Nat) (l : List TrkEntry) (s : State) : State :=
  { s with can := { s.can with trk := SMap.set s.can.trk [] sl l } }

/-- The Windfall entry of a line. -/
def hitWf (s : State) (g a : Nat) : Option WfLine :=
  if s.can.enabled then (wfOf s (sliceOf s g a)).find? (fun x => x.grove = g && x.line = a) else none

/-- Removes a line from Windfall. -/
def dropWf (g a : Nat) (s : State) : State :=
  let sl := sliceOf s g a
  setWf sl ((wfOf s sl).filter (fun x => !(x.grove = g && x.line = a))) s

/-- Windfall is in use: CANOPY_CTL.WINDFALL is 1 and no disable runs (R185, R193). -/
def wfOn (s : State) : Bool :=
  s.can.enabled && !s.can.disabling && decide (fld s .canCtl 2 2 = 1)

/-- An evicted line enters Windfall, C or L; the oldest is discarded beyond 2,048 (R185). -/
def pushWf (g a : Nat) (st : LineState) (d : LineData) (s : State) : State :=
  if !wfOn s then s
  else
    let sl := sliceOf s g a
    let l := wfOf s sl ++ [⟨g, a, if st = .landed then .landed else .clean, d⟩]
    setWf sl (if l.length ≤ 2048 then l else l.drop 1) s

/-- The slice's tracker has room for `n` entries (R186). -/
def trkFree (s : State) (g a n : Nat) : Bool := decide ((trkOf s (sliceOf s g a)).length + n ≤ 128)

/-- The entry can be passed on: no promotion or move holds its tile, its grove's slot can be used, and the tile has a
frame (R188, R227). -/
def canIssue (s : State) (x : TrkEntry) : Bool :=
  !promoting s x.grove (tileOf x.line) && !moving s x.grove (tileOf x.line) && groveKeyed s x.grove
    && (tile s x.grove (tileOf x.line)).frame.isSome

/-- One held entry is passed to its channel, unless an earlier one of its line is held or its port has no room. -/
def passEntry (acc : State × List TrkEntry) (x : TrkEntry) : State × List TrkEntry :=
  let s := firstFrame x.grove (tileOf x.line) acc.1
  let held := acc.2.any (fun y => !y.issued && y.grove = x.grove && y.line = x.line)
  if x.issued then (acc.1, acc.2 ++ [x])
  else if held || !canIssue s x then (acc.1, acc.2 ++ [x])
  else match passReq .evict x.grove x.line (if x.mask = fullMask then 1 else 2) (qosOf s x.grove) s with
    | some t => (t, acc.2 ++ [{ x with issued := true }])
    | none => (acc.1, acc.2 ++ [x])

/-- R186: held entries of a slice are passed to their DRAM channels, in order. -/
def passTrk (sl : Nat) (s : State) : State :=
  let r := (trkOf s sl).foldl passEntry (s, [])
  setTrk sl r.2 r.1

/-- A write-back, write-through or masked write enters the tracker (R186); `walk` marks a maintenance walk's,
`src` names the source of a write. -/
def pushTrk (g a : Nat) (d : LineData) (m : Mask) (walk : Bool) (src : Option Nat) (s : State) : State :=
  let sl := sliceOf s g a
  passTrk sl (setTrk sl (trkOf s sl ++ [⟨g, a, d, m, false, walk, src⟩]) s)

/-- The tracker's entries of a line, oldest first. -/
def trkLine (s : State) (g a : Nat) : List TrkEntry :=
  (trkOf s (sliceOf s g a)).filter (fun x => x.grove = g && x.line = a)

/-- Bytes laid over a line that may be poison: only all 64 bytes make poison data again (R220, R534). -/
def overlay (base : Option LineData) (d : LineData) (m : Mask) : Option LineData :=
  match base with
  | some b => some (mergeLine b d m)
  | none => if m = fullMask then some d else none

/-- What a DRAM read behind the tracker's writes of the line returns (R187, R205). -/
def behindTrk (s : State) (g a : Nat) (base : Option LineData) : Option LineData :=
  (trkLine s g a).foldl (fun b x => overlay b x.data x.mask) base

/-! ## Landing entries (R54, R534) -/

/-- The committed landing entry of a line. -/
def landOf (s : State) (g a : Nat) : Option LandEntry := SMap.find s.can.land (lkey g a)

/-- Writes a landing entry. -/
def setLand (g a : Nat) (e : Option LandEntry) (s : State) : State :=
  { s with can := { s.can with land := SMap.set s.can.land none (lkey g a) e } }

/-- Committed entries of a landing bank. -/
def bankUsed (s : State) (sl : Nat) : Nat :=
  (s.can.land.filter (fun p => decide (sliceOf s (p.1 / 2 ^ 42) (p.1 % 2 ^ 42) = sl))).length

/-- R20: the bank of a line has no free entry. -/
def bankFull (s : State) (g a : Nat) : Bool := decide (32768 ≤ bankUsed s (sliceOf s g a))

/-- A tile has undrained landing entries. -/
def tileLanded (s : State) (g t : Nat) : Bool :=
  s.can.land.any (fun p => decide (p.1 / 2 ^ 42 = g) && decide (tileOf (p.1 % 2 ^ 42) = t))

/-- R21, R534: a line with its committed landing entry laid over; a marked entry reads as poison. -/
def overLanding (s : State) (g a : Nat) (base : Option LineData) : Option LineData :=
  match landOf s g a with
  | none => base
  | some e => if e.poison then none else overlay base e.data e.mask

/-- What a fill of the line delivers, before the reader's own pending writes (R21). -/
def fillData (s : State) (g a : Nat) : Option LineData :=
  overLanding s g a (behindTrk s g a (lineContent s g a))

/-- R418: the words of a line's landing entry, metadata and data, are read. -/
def landGet (g a : Nat) (s : State) : State :=
  if (landOf s g a).isSome then protGet 4 (lkey g a) (protGet 3 (lkey g a) s) else s

/-- The words of a line's landing entry, if it has one, can be read (R416). -/
def landOk (s : State) (g a : Nat) : Bool :=
  (landOf s g a).isNone || (protOk s 3 (lkey g a) && protOk s 4 (lkey g a))

/-- R54: the line's entry with bytes merged in, or a new one. A full line clears the mark (R534). -/
def mergedEntry (o : Option LandEntry) (d : LineData) (m : Mask) (seq src : Nat) : LandEntry :=
  match o with
  | some e =>
    { e with
      data := mergeLine e.data d m
      mask := e.mask ||| m
      poison := if m = fullMask then false else e.poison
      remerged := e.draining
      seqs := if seq = 0 then e.seqs else e.seqs ++ [seq]
      src := src }
  | none => ⟨mergeLine 0 d m, m, false, false, false, if seq = 0 then [] else [seq], src⟩

/-- R54, R426: merges bytes into the line's entry, or commits a new one, and writes its words. -/
def landMerge (g a : Nat) (d : LineData) (m : Mask) (seq src : Nat) (s : State) : State :=
  protPut 4 (lkey g a) (protPut 3 (lkey g a) (setLand g a (some (mergedEntry (landOf s g a) d m seq src)) s))

/-! ## Errors of the arrays (R196) -/

/-- A way of a set, if it is valid. -/
def wayAt (s : State) (k w : Nat) : Option Way := ((canSet s k).ways.find? (fun p => p.1 = w)).map (·.2)

/-- The first error is recorded in CANOPY_ERR_LOG0 and 1 until VALID is cleared. -/
def canErrLog (e sl way set g : Nat) (s : State) : State :=
  if fld s .canErrLog0 31 31 = 1 then s
  else
    setRegWord .canErrLog1 0 0 g
      (setRegWord .canErrLog0 0 0 (2 ^ 31 + (e - 440) * 2 ^ 27 + sl * 2 ^ 23 + way * 2 ^ 14 + set) s)

/-- Errors at a place go: they have been read, or the array is written anew. -/
def dropErrs (p : ErrPlace) (tags : Bool) (s : State) : State :=
  let mine (e : ArrErr) : Bool := e.place == p && (e.chk == .tag || e.chk == .state) == tags
  { s with can := { s.can with errs := s.can.errs.filter (fun e => !mine e) } }

/-- An error of the arrays, named by a line: it is where the line lies, or, for a tag in no place, in the lowest invalid
way of the line's set (log 92). -/
def addErr (g a : Nat) (chk : ArrayCheck) (s : State) : State :=
  let k := setKey s g a
  let place : Option ErrPlace :=
    match hitWay s g a with
    | some (w, _) => some (.way k w)
    | none =>
      if (hitWf s g a).isSome then some (.wf g a)
      else if !(trkLine s g a).isEmpty then some (.trk g a)
      else if s.can.enabled && (chk == .tag || chk == .state) then
        ((List.range 16).find? (fun w => (wayAt s k w).isNone)).map (.way k)
      else none
  match place with
  | some p => if chk = .ok then s else { s with can := { s.can with errs := s.can.errs ++ [⟨p, chk⟩] } }
  | none => s

/-- Errors named by a command. -/
def addErrs (errs : List (Nat × Nat × ArrayCheck)) (s : State) : State :=
  forEach errs (fun e => addErr e.1 e.2.1 e.2.2) s

/-- A way is lost with its line, C, L or invalid: counted, logged, event `e`. -/
def loseWay (e k w g : Nat) (s : State) : State :=
  raise e (bumpRc .canErrCount 0 31 16 1 (canErrLog e (k / 16384) w (k % 16384) g (dropWay k w s)))

/-- R196: a tag error that a read of a set's tags meets; `true` when the node enters Clearing. -/
def tagError (e : ArrErr) (s : State) : State × Bool :=
  match e.place with
  | .way k w =>
    let s1 := dropErrs e.place true s
    let x := wayAt s k w
    (match e.chk with
      | .state => (raiseClearing 444 (canErrLog 444 (k / 16384) w (k % 16384) ((x.map (·.grove)).getD 0) s1), true)
      | .tag =>
        if (x.map (·.st)) = some .dirty then (raiseClearing 444 (canErrLog 444 (k / 16384) w (k % 16384) 0 s1), true)
        else (loseWay 443 k w 0 s1, false)
      | _ => (s, false))
  | _ => (s, false)

/-- R196: the tags of the sets that `here` admits are read. -/
def checkTags (here : Nat → Bool) (s : State) : State × Bool :=
  (s.can.errs.filter (fun e => match e.place with
    | .way k _ => here k && (e.chk == .tag || e.chk == .state)
    | _ => false)).foldl (fun acc e =>
      let r := tagError e acc.1
      (r.1, acc.2 || r.2)) (s, false)

/-- R196: one error in a way's data under the protection in force: `some true` the data is good, `some false` the way
is gone, `none` the node enters Clearing. -/
def dataError (k w : Nat) (x : Way) (chk : ArrayCheck) (s : State) : State × Option Bool :=
  let secded := decide (fld s .canCtl 1 1 = 1)
  let hard := (chk == .parity && !secded) || (chk == .secded2 && secded)
  if chk == .secded1 && secded then
    (raise 442 (bumpRc .canErrCount 0 15 0 1 (canErrLog 442 (k / 16384) w (k % 16384) x.grove s)), some true)
  else if !hard then (s, some true)
  else if x.st = .dirty then (raiseClearing 441 (canErrLog 441 (k / 16384) w (k % 16384) x.grove s), none)
  else (loseWay 440 k w x.grove s, some false)

/-- R196: the data of a way is read. -/
def dataCheck (k w : Nat) (x : Way) (s : State) : State × Option Bool :=
  (s.can.errs.filter (fun e => e.place == .way k w && e.chk != .tag && e.chk != .state)).foldl (fun acc e =>
    if acc.2 = some true then dataError k w x e.chk acc.1 else acc) (dropErrs (.way k w) false s, some true)

/-- R196: a Windfall entry is read; an error discards it (event 445). -/
def wfCheck (g a : Nat) (s : State) : State :=
  if s.can.errs.any (fun e => e.place == .wf g a) then
    let sl := sliceOf s g a
    let n := (wfOf s sl).findIdx (fun x => x.grove = g && x.line = a)
    raise 445 (bumpRc .canErrCount 0 31 16 1 (canErrLog 445 sl 0 n g
      (dropErrs (.wf g a) true (dropErrs (.wf g a) false (dropWf g a s)))))
  else s

/-- R196: a tracker entry of the line is read: corrected (446), or the node enters Clearing (447, `true`). -/
def trkCheck (g a : Nat) (s : State) : State × Bool :=
  let sl := sliceOf s g a
  let n := (trkOf s sl).findIdx (fun x => x.grove = g && x.line = a)
  let mine := s.can.errs.filter (fun e => e.place == .trk g a)
  let s1 := dropErrs (.trk g a) true (dropErrs (.trk g a) false s)
  if mine.any (fun e => e.chk == .secded2) then (raiseClearing 447 (canErrLog 447 sl 0 n g s1), true)
  else if mine.any (fun e => e.chk == .secded1) then
    (raise 446 (bumpRc .canErrCount 0 15 0 1 (canErrLog 446 sl 0 n g s1)), false)
  else (s1, false)

/-- R196: what a write meets in the arrays: the tags of its set, the data a partial write changes, the Windfall copy. -/
def checkWrite (g a : Nat) (m : Mask) (s : State) : State :=
  let s1 := (checkTags (· = setKey s g a) s).1
  match hitWay s1 g a with
  | some (w, x) =>
    if m = fullMask then dropErrs (.way (setKey s g a) w) false s1 else (dataCheck (setKey s g a) w x s1).1
  | none => wfCheck g a s1

/-! ## Allocation (R180, R181) -/

/-- The way mask of a class. -/
def wayMask (s : State) (cls : Nat) : BitVec 16 :=
  BitVec.ofNat 16 (if cls = 31 then fld s .canWaymask31 15 0 else fld s .canWaymask 15 0 cls)

/-- R181: the way an allocating miss takes. -/
def victim (s : State) (g a cls : Nat) : Option Nat :=
  let c := canSet s (setKey s g a)
  let m := wayMask s cls
  let free := (List.range 16).find? (fun w => m.getLsbD w && !c.ways.any (fun p => p.1 = w))
  match free with
  | some w => some w
  | none =>
    let cand := ofBits 16 ((c.ways.filter (fun p => m.getLsbD p.1 && !p.2.pin && !p.2.fill)).map (·.1))
    let w := Config.plruPick c.plru cand
    if cand.getLsbD w then some w else (bitsSet cand).head?

/-- R186: the tracker takes `n` entries for the access and one more where its victim is a D line. -/
def trkReady (s : State) (g a cls n : Nat) : Bool :=
  match (victim s g a cls).bind (wayAt s (setKey s g a)) with
  | some x => trkFree s g a (if x.st = .dirty then n + 1 else n)
  | none => trkFree s g a n

/-- Evicts the line of a way: to Windfall as C or L, with the write-back of a D line (R177, R185), once the array has
given it (R196). -/
def evict (k w : Nat) (s : State) : State :=
  match wayAt s k w with
  | none => s
  | some x =>
    let c := dataCheck k w x s
    if c.2 != some true then dropWay k w c.1
    else
      let s1 := dropWay k w c.1
      let s2 := if x.st = .dirty then pushTrk x.grove x.line x.data x.have_ false none s1 else s1
      pushWf x.grove x.line x.st x.data s2

/-- Whether an access of a class can allocate the line. -/
def canAlloc (s : State) (g a cls : Nat) : Bool :=
  s.can.enabled && !s.can.disabling && decide (g < 1023) && (victim s g a cls).isSome

/-- Installs a line in the way R181 gives it. -/
def install (g a cls : Nat) (st : LineState) (pin fill : Bool) (d : LineData) (m : Mask) (s : State) : State :=
  match victim s g a cls with
  | none => s
  | some w =>
    let k := setKey s g a
    touchWay k w (putWay k w ⟨g, a, st, pin, fill, d, m⟩
      (dropErrs (.way k w) true (dropErrs (.way k w) false (evict k w s))))

/-- R185: recalls a Windfall line into its set, the victim moving to Windfall in exchange. -/
def recallLine (g a : Nat) (x : WfLine) (s : State) : State :=
  install g a (classOf s g) x.st false false x.data fullMask (dropWf g a s)

/-- The policy an access meets: NA while Canopy is off or being disabled (R193, R194). -/
def policyNow (s : State) (g a : Nat) : Policy :=
  if s.can.enabled && !s.can.disabling then policyOf s g a else .na

/-- The access would allocate under its policy and class. -/
def wouldAlloc (s : State) (g a : Nat) (write : Bool) : Bool :=
  let p := policyNow s g a
  (if write then p == .wb || p == .wt else p != .na) && canAlloc s g a (classOf s g)

/-! ## Miss file (R183) -/

/-- Miss-file entries of a slice. -/
def missOf (s : State) (sl : Nat) : List Miss := SMap.get s.can.miss [] sl

/-- Writes a slice's miss file. -/
def setMiss (sl : Nat) (l : List Miss) (s : State) : State :=
  { s with can := { s.can with miss := SMap.set s.can.miss [] sl l } }

/-- The entry of a line. -/
def missLine (s : State) (g a : Nat) : Option Miss :=
  (missOf s (sliceOf s g a)).find? (fun x => x.grove = g && x.line = a)

/-- The slice's miss file has room for the line (R183). -/
def missRoom (s : State) (g a : Nat) : Bool :=
  (missLine s g a).isSome || decide ((missOf s (sliceOf s g a)).length < 512)

/-- One miss-file entry's read is passed to its channel (R213). -/
def passFill (acc : State × List Miss) (m : Miss) : State × List Miss :=
  if m.sent then (acc.1, acc.2 ++ [m])
  else match passReq .fill m.grove m.line 1 m.reg acc.1 with
    | some t => (t, acc.2 ++ [{ m with sent := true }])
    | none => (acc.1, acc.2 ++ [m])

/-- The slice's misses whose reads wait at a port are passed on, in order. -/
def passMiss (sl : Nat) (s : State) : State :=
  let r := (missOf s sl).foldl passFill (s, [])
  setMiss sl r.2 r.1

/-- Everything that waits at the fabric ports and can be passed is passed to its DRAM channel. -/
def passAll (s : State) : State :=
  forEach (SMap.keys s.can.trk) passTrk (forEach (SMap.keys s.can.miss) passMiss s)

/-- A waiter joins the line's entry, behind at most 16 later accesses, or takes a new one; without room, or while its
victim waits for the tracker (R186), it waits in the slice queue. -/
def joinMiss (g a n : Nat) (w : Waiter) (s : State) : State :=
  let sl := sliceOf s g a
  let full := { s with can := { s.can with queue := s.can.queue ++ [.read g a w] } }
  match missLine s g a with
  | some x =>
    if x.left = 0 then full
    else setMiss sl (mapIf (fun y => y.grove = g && y.line = a)
      (fun y => { y with joiners := y.joiners ++ [w], left := y.left - 1 }) (missOf s sl)) s
  | none =>
    let alloc := wouldAlloc s g a false
    if !missRoom s g a || (alloc && !trkReady s g a (classOf s g) 0) then full
    else
      let s1 := if alloc then install g a (classOf s g) .clean false true 0 0 s else s
      passMiss sl (setMiss sl (missOf s1 sl ++
        [{ grove := g, line := a, joiners := [w], gtc := now s, reg := n, sent := false, left := 16 }]) s1)

/-- A fill for a partial write that allocated: an entry without a waiter (R178, R183). -/
def fillFor (g a n : Nat) (s : State) : State :=
  let sl := sliceOf s g a
  match missLine s g a with
  | some _ => s
  | none => passMiss sl (setMiss sl (missOf s sl ++
      [{ grove := g, line := a, joiners := [], gtc := now s, reg := n, sent := false, left := 16 }]) s)

/-! ## Invalidation before a frame is freed (R188) -/

/-- The ways that hold lines of a tile: set, way, line. -/
def tileWays (s : State) (g t : Nat) : List (Nat × Nat × Way) :=
  s.can.sets.flatMap (fun p => (p.2.ways.filter (fun q => q.2.grove = g && tileOf q.2.line = t)).map (fun q => (p.1, q.1, q.2)))

/-- Every tracker entry of a tile is written to its frame (R186, R188). -/
def flushTracker (g t : Nat) (s : State) : State :=
  forEach (SMap.keys s.can.trk) (fun sl s1 =>
    let mine (x : TrkEntry) : Bool := x.grove = g && tileOf x.line = t
    forEach ((trkOf s1 sl).filter mine) (fun x s2 =>
      let lines := if x.mask = fullMask then 1 else 2
      writeT1 x.grove x.line x.data x.mask (if x.issued then s2 else chargeLines (qosOf s2 x.grove) lines s2))
      (setTrk sl ((trkOf s1 sl).filter (fun x => !mine x)) s1)) s

/-- R188: a D line of the tile is written back through the tracker, and every way of it invalidated. -/
def invalidateWay (x : Nat × Nat × Way) (s : State) : State :=
  let c := if x.2.2.st = .dirty then dataCheck x.1 x.2.1 x.2.2 s else (s, some true)
  let s1 := if x.2.2.st = .dirty && c.2 = some true then
      writeT1 x.2.2.grove x.2.2.line x.2.2.data x.2.2.have_
        (chargeLines (qosOf c.1 x.2.2.grove) (if x.2.2.have_ = fullMask then 1 else 2) c.1)
    else c.1
  dropWay x.1 x.2.1 s1

/-- R186, R188: the tile's lines can be written back: no D line meets a full tracker. -/
def settleReady (s : State) (g t : Nat) : Bool :=
  (tileWays s g t).all (fun x => x.2.2.st != .dirty || trkFree s x.2.2.grove x.2.2.line 1
    || (trkOf s (x.1 / 16384)).any (fun y => y.grove = g && tileOf y.line = t))

/-- R188: the tracker's entries of a tile are written, its D lines after them, and its lines are invalidated in Canopy
and Windfall. The tags of its sets are read (R196). -/
def settleTile (g t : Nat) (s : State) : State :=
  let l := tileWays s g t
  let s1 := (checkTags (fun k => l.any (fun x => x.1 = k)) (dropReqs g t (flushTracker g t s))).1
  let s2 := forEach (l.filter (fun x => (wayAt s1 x.1 x.2.1).isSome)) invalidateWay s1
  forEach (SMap.keys s2.can.wf) (fun sl s3 =>
    setWf sl ((wfOf s3 sl).filter (fun x => !(x.grove = g && tileOf x.line = t))) s3) s2

/-- R177, R84: a node that stops serving keeps no D line: each is written to its frame, or, while its tile has none or
moves, joins a landing entry (log 93). -/
def cleanDirty (s : State) : State :=
  forEach (s.can.sets.flatMap (fun p => (p.2.ways.filter (fun q => q.2.st = .dirty)).map (fun q => (p.1, q.1)))) (fun p t =>
    match wayAt t p.1 p.2 with
    | none => t
    | some x =>
      let c := dataCheck p.1 p.2 x t
      if c.2 != some true then c.1
      else if (tile c.1 x.grove (tileOf x.line)).frame.isNone || moving c.1 x.grove (tileOf x.line) then
        putWay p.1 p.2 { x with st := .landed } (landMerge x.grove x.line x.data x.have_ 0 288 c.1)
      else
        let u := dropEvicts x.grove (tileOf x.line) (flushTracker x.grove (tileOf x.line) c.1)
        putWay p.1 p.2 { x with st := .clean }
          (writeT1 x.grove x.line x.data x.have_ (chargeLines (qosOf u x.grove) (if x.have_ = fullMask then 1 else 2) u))) s

/-- R48, R110: everything the die holds above T1 of the lines that `mine` admits goes with their content: ways,
Windfall, tracker entries, landing entries and their queued writes. -/
def forget (mine : Nat → Nat → Bool) (s : State) : State :=
  let s1 := forEach (s.can.sets.filter (fun p => p.2.ways.any (fun w => mine w.2.grove w.2.line))) (fun p u =>
    updCanSet p.1 (fun c => { c with ways := c.ways.filter (fun w => !mine w.2.grove w.2.line) }) u) s
  let s2 := forEach (SMap.keys s1.can.wf) (fun sl u => setWf sl ((wfOf u sl).filter (fun x => !mine x.grove x.line)) u) s1
  let s3 := forEach (SMap.keys s2.can.trk) (fun sl u => setTrk sl ((trkOf u sl).filter (fun x => !mine x.grove x.line)) u) s2
  let s4 := { s3 with can := { s3.can with land := SMap.filterKeys s3.can.land (fun k => !mine (k / 2 ^ 42) (k % 2 ^ 42)) } }
  { s4 with dram := { s4.dram with subs := SMap.mapVals s4.dram.subs {} (fun x =>
      { x with reqs := x.reqs.filter (fun r => !(isWr r && mine r.grove r.line)) }) } }

/-- The tile's requests leave the channels, and what waits is passed again when its tile has a frame. -/
def unsend (g t : Nat) (s : State) : State :=
  let miss (m : Miss) : Bool := m.grove = g && tileOf m.line = t
  let trk (x : TrkEntry) : Bool := x.grove = g && tileOf x.line = t
  let s1 := forEach (SMap.keys s.can.miss) (fun sl u => setMiss sl (mapIf miss (fun m => { m with sent := false }) (missOf u sl)) u)
    (dropReqs g t s)
  forEach (SMap.keys s1.can.trk) (fun sl u => setTrk sl (mapIf trk (fun x => { x with issued := false }) (trkOf u sl)) u) s1

end Sys2Proof.Machine
end

