-- ==== Sys2Proof/Machine/MonOps.lean ====
section
/-!
DEFINITION. What every family counts and measures: the performance monitors (R452 to R454), the event
recorder's samples (R456, R457), the invocation counters of key slots with rolls and exhaustion (R333,
R337, R339, R340), and what the loss of a host port does (R275, R280).
-/

namespace Sys2Proof.Machine

open Sys2Proof

/-! ## Performance monitors -/

/-- R453: a request as a filter sees it: source, class bit, and the grove byte it names. -/
structure PReq where
  src : Nat
  cls : Nat
  at_ : Option (Nat × Nat)
  deriving DecidableEq, Repr

/-- The privilege bit of a source (R453): 0 HOST, 1 MGMT, 2 INTERNAL. -/
def privBit (src : Nat) : Nat := if src ≤ 271 then 0 else if src ≤ 310 then 2 else 1

/-- R453: the request matches the filter of unit `u`. -/
def perfMatch (s : State) (u : Nat) (r : PReq) : Bool :=
  let f := regWord s .perfFilt u
  let m := regWord s .perfSource u
  let g := regWord s .perfGrove u
  let start := fld s .perfStartHi 15 0 u * 2 ^ 32 + regWord s .perfStartLo u
  let stop := fld s .perfEndHi 15 0 u * 2 ^ 32 + regWord s .perfEndLo u
  bitOf f (privBit r.src) && bitOf f (8 + r.cls)
    && decide (bitsOf m 11 0 ≤ r.src) && decide (r.src ≤ bitsOf m 27 16)
    && (!bitOf g 31 || (match r.at_ with
        | some (x, o) => decide (x = bitsOf g 9 0) && decide (start ≤ o) && decide (o < stop)
        | none => false))

/-- R452: counter `c` of unit `u` gains `n`, saturating; a counter that saturates sets its OVF bit, and
the first one of the unit raises 617. -/
def bumpPerf (u c n : Nat) (s : State) : State :=
  let p := SMap.get s.perf {} u
  let v := SMap.get p.cnt 0 c + n
  let s1 := { s with perf := SMap.set s.perf {} u { p with cnt := SMap.set p.cnt 0 c (min v (2 ^ 48 - 1)) } }
  if 2 ^ 48 - 1 ≤ v then
    onlyIf (fld s .perfCtl 7 0 u = 0) (raise 617) (setBit .perfCtl u c s1)
  else s1

/-- R454: event `ev` happens `n` times (or, for LAT_OVER, with latency `n`) on a request, at one unit. -/
def perfUnit (r : PReq) (ev n u : Nat) (s : State) : State :=
  if fld s .perfCtl 31 31 u = 0 then s
  else forEach (List.range 8) (fun c t =>
    if fld t .perfSel 7 0 u c = ev && (fld t .perfSel 31 31 u c = 1 || perfMatch t u r) then
      if ev = 0x09 then onlyIf (decide (regWord t .perfThresh u ≤ n)) (bumpPerf u c 1) t
      else bumpPerf u c n t
    else t) s

/-- Some PERF register differs from its reset value; otherwise no unit is enabled. -/
def perfInUse (s : State) : Bool :=
  s.regs.any (fun p => decide (0x0F000000 ≤ p.1) && decide (p.1 < 0x0F001800))

/-- R454: event `ev` at every unit. -/
def perfAdd (r : PReq) (ev n : Nat) (s : State) : State :=
  if perfInUse s then forEach (List.range 24) (perfUnit r ev n) s else s

/-- A request's latency in ns (R454, LAT_SUM and LAT_OVER). -/
def perfLat (r : PReq) (ns : Nat) (s : State) : State := perfAdd r 0x09 ns (perfAdd r 0x08 ns s)

/-- The request of a CXL read or a VRMP read of a line. -/
def readReqOf (src g line : Nat) : PReq := ⟨src, 0, some (g, line * 64)⟩

/-- The request of a write piece. -/
def writeReqOf (src g line : Nat) : PReq := ⟨src, 1, some (g, line * 64)⟩

/-- R453, R454: a request that moves `n` lines from line `a` of a grove on: a copy (3), a replayed input (4), or a
scrubber's read (5). -/
def moved (cls src g a n : Nat) (s : State) : State :=
  perfAdd ⟨src, cls, some (g, a * 64)⟩ 0x02 n (perfAdd ⟨src, cls, some (g, a * 64)⟩ 0x01 1 s)

/-- R134: entries the tile-table cache holds. -/
def ttSize (s : State) : Nat := if isSmall s then 262144 else 524288

/-- R134, R454: a tile-table lookup; a miss brings the entry into the cache. Which entry leaves a full cache is the
controller's choice (log 8). -/
def ttLookup (r : PReq) (g t : Nat) (s : State) : State :=
  let k := tkey g t
  if s.tier.ttCache.contains k then protGet 1 k s
  else
    let c := s.tier.ttCache
    let n := Config.choose s.free c.length % c.length
    perfAdd r 0x06 1 (protPut 1 k (useFree { s with tier := { s.tier with
      ttCache := k :: (if c.length < ttSize s then c else c.eraseIdx n) } }))

/-! ## Recorder samples -/

/-- R457: the bin of a sample. -/
def binOf (v : Nat) : Nat := if v ≤ 1 then 0 else min 31 (Nat.log2 v)

/-- R456: path `p` takes a sample, once the first epoch has started and while the store is not full. -/
def recSample (p v : Nat) (s : State) : State :=
  if !s.recd.started || s.recd.full || fld s .recPaths p p = 0 then s
  else
    let x := min v (2 ^ 32 - 1)
    let a := SMap.get s.recd.acc {} p
    let b := SMap.get a.bins 0 (binOf x)
    let sat := a.count = 2 ^ 32 - 1 || b = 2 ^ 32 - 1
    let a1 : RecAcc := { a with
      min := if a.count = 0 then x else Nat.min a.min x
      max := Nat.max a.max x
      count := satAdd 32 a.count 1
      sat := a.sat || sat
      bins := SMap.set a.bins 0 (binOf x) (satAdd 32 b 1) }
    onlyIf (sat && !a.sat) (raise 618) { s with recd := { s.recd with acc := SMap.set s.recd.acc {} p a1 } }

/-! ## Host ports and logical devices -/

/-- A host port. -/
def portOf (s : State) (p : Nat) : HostPort := SMap.get s.host.ports {} p

/-- Changes a host port. -/
def updPort (p : Nat) (f : HostPort → HostPort) (s : State) : State :=
  { s with host := { s.host with ports := SMap.upd s.host.ports {} p f } }

/-- A logical device. -/
def ldOf (s : State) (p l : Nat) : Ld := SMap.get s.host.lds {} (16 * p + l)

/-- Changes a logical device. -/
def updLd (p l : Nat) (f : Ld → Ld) (s : State) : State :=
  { s with host := { s.host with lds := SMap.upd s.host.lds {} (16 * p + l) f } }

/-- R277, R278: a record in an event log of an LD, with the MSI-X vector of that log. -/
def postRec (p l log kind : Nat) (detail : List Nat) (s : State) : State :=
  send (.msix p l (log + 1)) (send (.eventRec p l log kind detail) s)

/-- Event of port `p` at an offset of R282; the target of an L2 reaction is the port. -/
def portEvent (p off : Nat) (s : State) : State := raiseAt (320 + 4 * p + off) p s

/-- An answer no longer owed to the hosts of a port (R280). -/
def noAck (p : Nat) (a : AckTo) : AckTo :=
  match a with
  | .cxl q l t g => if q = p then .none else .cxl q l t g
  | x => x

/-- R280: the port answers nothing further: what was not stamped is discarded, and no answer is owed for
what was. Its LD configuration spaces return to reset values. -/
def portReset (p : Nat) (s : State) : State :=
  let keep (h : HeldReq) : Bool := match h with
    | .cxl r _ _ _ => decide (r.port ≠ p)
    | _ => true
  let s1 := { s with seqr := { s.seqr with
      held := s.seqr.held.filter keep
      reads := s.seqr.reads.filter (fun r => decide (r.req.port ≠ p))
      inputs := s.seqr.inputs.map (fun i => { i with ack := noAck p i.ack })
      placing := s.seqr.placing.map (fun x => { x with ack := noAck p x.ack })
      gpf := s.seqr.gpf.filter (fun x => decide (x.1 ≠ p)) } }
  forEach (List.range 16) (fun l t =>
    if (ldOf t p l).present then updLd p l (fun d => { d with decs := [], decErr := [] }) t else t) s1

/-- R277: an uncorrectable internal error of a port: AER, the RAS capability, INTERNAL and event +3. -/
def portInternal (p : Nat) (s : State) : State :=
  if (portOf s p).formed then
    portEvent p 3 (setBit .hostCause p 5 (updPort p (fun x => { x with aerUnc := true, rasUnc := true }) s))
  else s

/-- The port goes DOWN, with its cause and event +2 (R282). -/
def hostDown (p : Nat) (s : State) : State :=
  if (portOf s p).link = .down then s
  else
    portReset p (portEvent p 2 (setBit .hostCause p 0
      (updPort p (fun x => { x with link := .down, rate := 0, width := 0, spdm := false }) s)))

/-! ## Key slots (R331 to R341) -/

/-- Writes a slot. -/
def setSlot (n : Nat) (x : Slot) (s : State) : State :=
  { s with cipher := { s.cipher with slots := SMap.set s.cipher.slots {} n x } }

/-- R333: ZEROISE, Clearing, power-down or Glade leave a slot EMPTY with its binding; its wrapped record
is kept elsewhere. -/
def emptySlot (x : Slot) : Slot :=
  { bind := x.bind, pair := x.pair, hardened := x.hardened, target := x.target }

/-- Empties a slot. -/
def zeroSlot (n : Nat) (s : State) : State := protPut 6 n (setSlot n (emptySlot (slotOf s n)) s)

/-- The wrapped record of a generation of a slot (R334). -/
def wrapKey (n gen : Nat) : Nat := n * 2 + gen

/-- Programs a wrapped record. -/
def setWrap (n gen : Nat) (w : Option Wrapped) (s : State) : State :=
  { s with cipher := { s.cipher with wrapped := SMap.set s.cipher.wrapped none (wrapKey n gen) w } }

/-- R334, R467: `k` changed records of a slot are appended to the log of the bank that does not run. A log with less than
64 KiB left is copied into the other bank's and its area is erased: event 595. -/
def appendWrap (k : Nat) (s : State) : State :=
  let b := if s.cfg.running = 2 then 0 else 1
  let used := SMap.upd s.cipher.logUsed 0 b (· + k)
  let n := SMap.get used 0 b
  if 1048576 < 96 * n + 65536 then
    let live := (SMap.present s.cipher.wrapped).length
    raise 595 <| forEach ((List.range 16).map (fun i => b * 512 + 0x120 + i)) eraseSector { s with cipher := { s.cipher with
      logUsed := SMap.set (SMap.upd used 0 (1 - b) (· + live)) 0 b 0 } }
  else { s with cipher := { s.cipher with logUsed := used } }

/-- The record a loaded slot is stored as. -/
def recordOf (x : Slot) : Wrapped :=
  { pair := x.pair, gen := false, rollWseq := 0, floor := x.floor, key := x.key }

/-- Stores the records of a slot: one generation, or two while it rolls (R334). -/
def storeSlot (n : Nat) (s : State) : State :=
  let x := slotOf s n
  if x.state = .rolling then
    appendWrap 2 (setWrap n 0 (some { pair := x.pair, gen := true, rollWseq := x.rollWseq, floor := x.oldCtr, key := x.oldKey })
      (setWrap n 1 (some { pair := x.pair, gen := true, rollWseq := x.rollWseq, floor := x.floor, key := x.key }) s))
  else appendWrap 1 (setWrap n 1 none (setWrap n 0 (some (recordOf x)) s))

/-- R340: a roll starts: a second generation from the DRBG, its records, ROLL_TILE at 0, event 476. -/
def startRoll (n : Nat) (s : State) : State :=
  let x := slotOf s n
  let y : Slot := { x with
    state := .rolling
    oldKey := x.key
    oldCtr := x.ctr
    key := Config.drbg s.free
    ctr := 0
    floor := 0
    warn := false
    rollWseq := s.nand.wseq }
  let s1 := storeSlot n (protPut 6 n (setSlot n y (useFree s)))
  raise 476 { s1 with tier := { s1.tier with rollTile := SMap.set s1.tier.rollTile 0 n 0 } }

/-- R339: outcome of EXHAUSTED by binding. -/
def slotExhausted (n : Nat) (s : State) : State :=
  let x := slotOf s n
  let s1 := setSlot n { x with state := .exhausted, key := 0, oldKey := 0 } s
  match x.bind with
  | 1 => if x.target = 1023 then raiseOff 473 s1 else raise 473 s1
  | 2 =>
    let p := x.target / 2
    hostDown p (portEvent p 3 (setBit .hostCause p 3
      (updPort p (fun y => { y with ide := 3, ideErr := true }) (raise 473 s1))))
  | 3 =>
    let mine := match (img s1).twin with
      | some t => t.linkSlot = n
      | none => false
    onlyIf mine
      (fun t => raise 424 { t with twin := { t.twin with link := .down, lanes := 0, noRetry := true } })
      (raise 473 s1)
  | _ => raise 473 s1

/-- R337, R339: `k` invocations of a slot's newest generation. -/
def countSlot (n k : Nat) (s : State) : State :=
  let x := slotOf s n
  if !slotUsable s n then
    if x.usedEmpty then s else raise 482 (setSlot n { x with usedEmpty := true } s)
  else
    let c := min (x.ctr + k) (2 ^ 64 - 1)
    let fl := (c / 2 ^ 40 + 1) * 2 ^ 40
    let y := { x with ctr := c }
    let s1 :=
      if x.ctr / 2 ^ 40 < c / 2 ^ 40 && x.bind != 2 then
        storeSlot n (setSlot n { y with floor := min fl (2 ^ 64 - 1) } s)
      else setSlot n y s
    let s2 :=
      if 2 ^ 63 < c && !x.warn then
        let t := raise 472 (setSlot n { slotOf s1 n with warn := true } s1)
        if x.bind = 1 && x.state = .loaded && (fld t .ciphCtl 0 0 = 1 || x.target = 1023) then startRoll n t else t
      else s1
    if c = 2 ^ 64 - 1 && (slotOf s2 n).ctr = c then slotExhausted n s2 else s2

/-- R337, R339, R422: the key is read from the slot store and its invocations are counted. -/
def useSlot (n k : Nat) (s : State) : State := if k = 0 then s else countSlot n k (protGet 6 n s)

/-- R339, R340: `k` invocations on T1 lines of tile `t` of a grove: the old generation serves tiles at or
above ROLL_TILE; once it is exhausted, the tiles it still covers are poisoned (R341). -/
def useGrove (g t k : Nat) (s : State) : State :=
  let n := groveSlot s g
  let x := slotOf s n
  if x.state = .rolling && decide (SMap.get s.tier.rollTile 0 n ≤ t) then
    let s1 := setSlot n { x with oldCtr := min (x.oldCtr + k) (2 ^ 64 - 1) } s
    if x.oldCtr < 2 ^ 64 - 1 && decide (2 ^ 64 - 1 ≤ x.oldCtr + k) then
      let left := (tiles s).filter (fun p => p.1 = g && decide (SMap.get s.tier.rollTile 0 n ≤ p.2.1))
      forEach left (fun p u => poisonLines g p.2.1 (BitVec.allOnes 1024) 3 u) s1
    else s1
  else useSlot n k s

end Sys2Proof.Machine
end

