-- ==== Sys2Proof/Machine/IntegOps.lean ====
section
/-!
DEFINITION. The grove map's entries and their protected words (R43, R44, R417).
-/

namespace Sys2Proof.Machine

open Sys2Proof

/-! ## The grove map's words (R43, R44, R417) -/

/-- Entries of an LD (R44, R362). -/
def ldEntries (s : State) (p l : Nat) : Nat := (ldOf s p l).entries

/-- Word index of a grove-map entry: the entries of the lower-numbered LDs come first (log 9). -/
def mapIndex (s : State) (src e : Nat) : Nat :=
  (s.host.lds.filter (fun x => decide (x.1 < src))).foldl (fun n x => n + x.2.entries) 0 + e

/-- Key of a grove-map entry. -/
def mapKey (src e : Nat) : Nat := src * 2 ^ 22 + e

/-- Writes a grove-map entry (R43): its protected word is written, and grove 1,023 is touched (R417). -/
def setMapEntry (src e : Nat) (x : Option MapEntry) (s : State) : State :=
  let i := mapIndex s src e
  touchMeta (tkey 1023 (8192 + i / 512))
    (protWrite (i / 2048) (i % 2048)
      (modMeta (fun m => { m with map := SMap.set m.map none (mapKey src e) x }) s))

/-- Reads a grove-map entry, with the check of its word. -/
def readMapEntry (src e : Nat) (s : State) : State × Bool × Option MapEntry :=
  let i := mapIndex s src e
  let r := protRead (i / 2048) (i % 2048) false 0 s
  (r.1, r.2, SMap.find s.tier.md.map (mapKey src e))

end Sys2Proof.Machine
end

