-- ==== Sys2Proof/Machine/UtlOps.lean ====
section
/-!
DEFINITION. Sending on the twin link and on the network path (R87, R91, R94, R117, R121 to R123): frame
sizes, the retry buffer, credit, and the transmit queue.
-/

namespace Sys2Proof.Machine

open Sys2Proof

/-- The link carries frames (R120). -/
def linkOpen (s : State) : Bool := s.twin.link == .up || s.twin.link == .degrade

/-- The image configures a twin (R358). -/
def hasTwin (s : State) : Bool := (img s).twin.isSome

/-- A feature is agreed (R119). -/
def feature (s : State) (n : Nat) : Bool := bitOf s.twin.features n

/-- R122: lengths of the runs of enabled bytes of a write. -/
def runLens (ps : List Piece) : List Nat :=
  let bytes := ps.flatMap (fun p => (bitsSet p.mask).map (fun k => p.line * 64 + k))
  let r := bytes.foldl (fun (a : List Nat × Option Nat) b =>
    match a.1, a.2 with
    | n :: rest, some prev => if b = prev + 1 then ((n + 1) :: rest, some b) else (1 :: n :: rest, some b)
    | l, _ => (1 :: l, some b)) ([], none)
  r.1.reverse

/-- Bytes of a record of up to 4,096 data bytes: its header and its padded data (R122). -/
def recLen (n : Nat) : Nat := 24 + ceilDiv n 8 * 8

/-- Bytes of the records of a run of `n` bytes, split at 4,096. -/
def runBytes (n : Nat) : Nat := n / 4096 * recLen 4096 + (if n % 4096 = 0 then 0 else recLen (n % 4096))

/-- Bytes of the records of an input (R122, R313, R367). -/
def opBytes : RecOp → Nat
  | .write _ ps => (runLens ps).foldl (fun t n => t + runBytes n) 0
  | .atomic _ _ _ w => recLen (if w.isSome then 8 else 0)
  | .flush _ _ => recLen 0
  | .sealOp _ _ _ => recLen 0
  | .unsealOp _ _ _ => recLen 0
  | .sched c => recLen (16 + 16 * c.entries.length)
  | .grove _ => recLen 128
  | .mapOp _ _ _ => recLen 8
  | .keyReg k => recLen (16 + 32 * k.windows.length)
  | .keyRevoke _ => recLen 8
  | .lsa _ _ d => runBytes d.length
  | .reserved _ => recLen 0

/-- Payload bytes of a frame that takes CREDIT (R123), 0 for any other. -/
def creditBytes : Frame → Nat
  | .stampedInput _ rs => 8 + rs.foldl (fun n r => n + opBytes r.op) 0
  | .resyncData c =>
    32 + (match c.body with
      | .data _ => 8192
      | .zero => 0
      | .metaRec r => opBytes r.op
      | .repair l => (match l with
        | some _ => 8192
        | none => 0)
      | .poisoned _ _ => 8208
      | .sealStamp _ _ => 16)
  | _ => 0

/-- STAMPED_INPUT and RESYNC_DATA: the frames that wait for room and credit (R91, R117, R123). -/
def isBulk : Frame → Bool
  | .stampedInput _ _ => true
  | .resyncData _ => true
  | _ => false

/-- Bytes of a frame: header, payload and tag (R121). -/
def frameBytes (f : Frame) : Nat := 32 + (if isBulk f then creditBytes f else f.payload.length)

/-- Bytes of the retry buffer in use. -/
def retryUsed (s : State) : Nat := s.twin.retryBuf.foldl (fun n p => n + frameBytes p.2) 0

/-- R117, R123: a bulk frame can be sent now: room below the 16 KiB kept, and credit. -/
def canSend (s : State) (f : Frame) : Bool :=
  decide (retryUsed s + frameBytes f ≤ 524288 - 16384)
    && decide (s.twin.credUsed + ceilDiv (creditBytes f) 256 ≤ s.twin.credLimit)

/-- R118: the pair key, in the LINK slot that the TWIN section names. -/
def pairKey (s : State) : BitVec 512 :=
  match (img s).twin with
  | some t => (slotOf s t.linkSlot).key
  | none => 0

/-- R118: the key of negotiation frames, from the pair key alone. -/
def negKey (s : State) : BitVec 256 := Config.kdf (pairKey s) 0 []

/-- R118: a session key: its use and direction are the label (1 and 2 the UTL from node A and from node B, 3 and 4 the
network path), the random values of node A and node B the context. -/
def sessKey (s : State) (net fromB : Bool) (randA randB : BitVec 256) : BitVec 256 :=
  Config.kdf (pairKey s) (1 + b2n fromB + 2 * b2n net) (leBytes 32 randA.toNat ++ leBytes 32 randB.toNat)

/-- R327: keys derived from the pair key: each is one invocation of the LINK slot. -/
def derive (n : Nat) (s : State) : State :=
  match (img s).twin with
  | some t => useSlot t.linkSlot n s
  | none => s

/-- R118: the keys of a session under both nodes' random values. -/
def sessionKeys (own peer : BitVec 256) (s : State) : State :=
  let b := s.pwr.nodeB
  let a := if b then peer else own
  let z := if b then own else peer
  derive 4 { s with twin := { s.twin with
    sessionRand := own, peerRand := peer
    txKey := sessKey s false b a z, rxKey := sessKey s false (!b) a z
    netTxKey := sessKey s true b a z, netRxKey := sessKey s true (!b) a z } }

/-- LINK_ACK: the last frame received in order (R121). -/
def linkAck (s : State) : Nat := (s.twin.rxSeq + (2 ^ 32 - 1)) % 2 ^ 32

/-- The header of the UTL frame sent next, at a version (R118, R121). -/
def utlHdr (ver : Nat) (s : State) : TxHdr :=
  { net := false, retry := false, ver := ver, linkSeq := s.twin.txSeq % 2 ^ 32, linkAck := linkAck s, epoch := s.twin.epoch
    nonce := frameNonce s.pwr.nodeB s.twin.negCount s.twin.txSeq, key := s.twin.txKey, dest := none }

/-- Sends a frame on the UTL and keeps it for retry (R117). A payload takes CREDIT by the 256-byte units it fills or
begins (R123, log 22). -/
def txFrame (f : Frame) (s : State) : State :=
  let h := utlHdr s.twin.version s
  let units := if isBulk f then ceilDiv (creditBytes f) 256 else 0
  send (.frame h f)
    { s with twin := { s.twin with
      retryBuf := s.twin.retryBuf ++ [(h, f)]
      txSeq := (s.twin.txSeq + 1) % 2 ^ 64
      credUsed := s.twin.credUsed + units } }

/-- Sends a frame on an open link; a bulk frame that cannot be sent waits, in order (R117). -/
def sendUtl (f : Frame) (s : State) : State :=
  if !linkOpen s then s
  else if isBulk f && (!s.twin.txQueue.isEmpty || !canSend s f) then
    { s with twin := { s.twin with txQueue := s.twin.txQueue ++ [f] } }
  else txFrame f s

/-- Sends the frames that waited and now have room and credit. -/
def pumpTx (fuel : Nat) (s : State) : State :=
  match fuel with
  | 0 => s
  | n + 1 =>
    match s.twin.txQueue with
    | [] => s
    | f :: rest =>
      if linkOpen s && canSend s f then
        pumpTx n (txFrame f { s with twin := { s.twin with txQueue := rest } })
      else s

/-- The header of the network-path frame sent next: to the peer address and UDP port of the image (R94, R118, R121). -/
def netHdr (t : ImgTwin) (s : State) : TxHdr :=
  { net := true, retry := false, ver := s.twin.version, linkSeq := s.twin.netTx % 2 ^ 32, linkAck := s.twin.netRx
    epoch := s.twin.epoch, nonce := frameNonce s.pwr.nodeB s.twin.negCount s.twin.netTx, key := s.twin.netTxKey
    dest := some (t.peerAddr, t.hbUdp) }

/-- R94: sends a frame on the network path, where NET_HEARTBEAT is agreed. -/
def sendNet (f : Frame) (s : State) : State :=
  match (img s).twin with
  | some t =>
    if feature s 3 then
      send (.frame (netHdr t s) f) { s with twin := { s.twin with netTx := (s.twin.netTx + 1) % 2 ^ 64 } }
    else s
  | none => s

/-- Sends on both paths. -/
def sendBoth (f : Frame) (s : State) : State := sendNet f (sendUtl f s)

/-- The node feeds a peer: LEADER, or SOLO while a resync runs (R75). -/
def feeding (s : State) : Bool :=
  linkOpen s && (s.twin.role == .leader || (s.twin.role == .solo && s.twin.resync != 0))

/-- A source holds the merge (R34): it is in the merge set, and is not an LD of an isolated port with no input left
to emit, which has left it. -/
def inMerge (s : State) (y : Nat) : Bool :=
  s.seqr.mergeSet.contains y
    && !(decide (y < 256) && (portOf s (y / 16)).isolated && !s.seqr.inputs.any (fun i => i.lane = y))

/-- R89, R114, R117, R123, R36, R93: a hold on every logical input of the node. A stamp can lie 2 ns behind the GTC
(R29), so the wait of R93 ends 2 ns after the greatest replayed stamp. -/
def holdAll (s : State) : Bool :=
  s.twin.lagHold || s.twin.handover != 0 || s.seqr.stalled.any (inMerge s)
    || (s.twin.role == .leader && !s.twin.txQueue.isEmpty)
    || (feeding s && decide (s.twin.credLimit ≤ s.twin.credUsed))
    || decide (now s ≤ s.seqr.topReplay + 2 && s.seqr.topReplay ≠ 0)

/-- The CREDIT, ACK_SEQ and APPLIED_SEQ fields this node reports (R123). A serving node has applied what it emitted. -/
def report (s : State) : Nat × Nat × Nat :=
  if serving s then (s.twin.credGrant, s.seqr.nextSeq - 1, s.seqr.nextSeq - 1)
  else (s.twin.credGrant, s.twin.ackSeq, s.twin.applied)

/-- R88, R90: LANDING_ACK with the node's positions. -/
def sendLandingAck (s : State) : State :=
  let r := report s
  sendUtl (.landingAck r.1 r.2.1 r.2.2) s

/-- The UTL goes DOWN: nothing in flight is kept, because a new negotiation starts a new session (R117,
R118, log 10), and a resync starts again when the peer returns (R107, R113). -/
def utlDown (s : State) : State :=
  if s.twin.link = .down then s
  else
    { s with twin := { s.twin with
      link := .down, lanes := 0, retryBuf := [], txQueue := [],
      txSeq := 0, rxSeq := 0, credUsed := 0, credLimit := 0, timeLocked := false, timeDone := false, rekeying := false,
      cmdBusy := s.twin.cmdBusy && !(s.twin.proposed.isSome && s.twin.link = .up)
      proposed := none, resync := 0, toSend := [], metaSend := [], recopyGot := false, recopyReq := [] } }

end Sys2Proof.Machine
end

