-- ==== Sys2Proof/Machine/DataOps.lean ====
section
/-!
DEFINITION. The data path every family shares: answers (R19, R269, R272, R304), reads of a line with
everything they can wait for (R14, R17, R21, R137 to R139, R151, R153, R183 to R187), the application of
write pieces to landing entries and Canopy (R54, R178, R179, R185, R535), atomics (R64, R317), and what
is retried when room appears.
-/

namespace Sys2Proof.Machine

open Sys2Proof

/-! ## Queue pairs and peers -/

/-- A queue pair that is open. -/
def qpOf (s : State) (n : Nat) : Option Qp := SMap.find s.net.qps n

/-- Changes an open queue pair. -/
def updQp (n : Nat) (f : Qp → Qp) (s : State) : State :=
  match qpOf s n with
  | some q => { s with net := { s.net with qps := SMap.set s.net.qps none n (some (f q)) } }
  | none => s

/-- A peer. -/
def peerOf (s : State) (n : Nat) : Option Peer := SMap.find s.net.peers n

/-- Changes a peer. -/
def updPeer (n : Nat) (f : Peer → Peer) (s : State) : State :=
  match peerOf s n with
  | some q => { s with net := { s.net with peers := SMap.set s.net.peers none n (some (f q)) } }
  | none => s

/-- The peer with an address. -/
def peerAt (s : State) (ip : BitVec 128) : Option (Nat × Peer) := (SMap.present s.net.peers).find? (fun p => p.2.ip = ip)

/-- Address of the peer of a queue pair. -/
def qpIp (s : State) (n : Nat) : BitVec 128 :=
  match qpOf s n with
  | some q => (match peerOf s q.peer with
    | some p => p.ip
    | none => 0)
  | none => 0

/-- Ingress engine of a queue pair: its source number (R291). -/
def engineOf (s : State) (qpn : Nat) : Nat := 256 + qpn % (if isSmall s then 8 else 16)

/-- The node answers hosts: at READY, not once a Cellar action or a Clearing has begun (R68, R279, R320). -/
def canAnswer (s : State) : Bool := isReady s && s.pwr.state == .on

/-- R322: a packet to a peer; one that agreed GCM is sent under its session key with the next NONCE_CTR of the engine
that sends it, whose top 4 bits name the engine. -/
def sendPeer (n eng : Nat) (o : Out) (s : State) : State :=
  match peerOf s n with
  | some p =>
    if bitOf p.feats 0 then
      let c := eng % 16 * 2 ^ 60 + SMap.get p.nonces 0 eng % 2 ^ 60
      send (.secured p.txKey (BitVec.ofNat 96 (p.txSalt.toNat * 2 ^ 64 + c)) o)
        (updPeer n (fun x => { x with nonces := SMap.upd x.nonces 0 eng (· + 1) }) s)
    else send o s
  | none => send o s

/-- A packet of a queue pair, sent by its engine. -/
def sendQp (q : Nat) (o : Out) (s : State) : State :=
  match qpOf s q with
  | some x => sendPeer x.peer (engineOf s q) o s
  | none => send o s

/-- A packet to an address, sent by engine `eng`. -/
def sendIp (ip : BitVec 128) (eng : Nat) (o : Out) (s : State) : State :=
  match peerAt s ip with
  | some (n, _) => sendPeer n eng o s
  | none => send o s

/-- NAK (R304): counted, and 395 for a malformed or unsupported packet (R323). -/
def sendNakTo (ip : BitVec 128) (qpn psn code addr : Nat) (hint : Bool) (s : State) : State :=
  if !canAnswer s then s
  else
    onlyIf (code = 0x0A || code = 0x0B) (raise 395)
      (bumpRc .netNakSent 0 31 0 1 (sendIp ip (engineOf s qpn) (.nak ip qpn psn code addr hint) s))

/-- NAK to the peer of a queue pair. -/
def sendNak (qpn psn code addr : Nat) (s : State) : State := sendNakTo (qpIp s qpn) qpn psn code addr false s

/-- R305: the first PSN an ACK does not cover: a held write or atomic is not stamped, so not accepted yet. -/
def ackEnd (s : State) (q exp : Nat) : Nat :=
  (s.seqr.held.findSome? (fun h => match h with
    | .vrmp n psn _ _ _ _ _ => if n = q then some psn else none
    | _ => none)).getD exp

/-- R305: a response implies the ACK of its PSN: none is due once it is the last one accepted. -/
def impliesAck (q psn : Nat) (s : State) : State :=
  updQp q (fun x => if (psn + 1) % 2 ^ 32 = x.expPsn && ackEnd s q x.expPsn = x.expPsn then { x with unacked := 0 } else x) s

/-! ## CXL answers -/

/-- Writes of a port held at the entry point: RwD credits held (R271). -/
def heldOf (s : State) (p : Nat) : Nat :=
  (s.seqr.held.filter (fun h => match h with
    | .cxl r _ _ _ => decide (r.port = p)
    | _ => false)).length

/-- The source of a request. -/
def srcReq (r : CxlReq) : Nat := 16 * r.port + r.ld

/-- CXL reads of a port that wait before the crossing: Req credits held (R271). -/
def waitingReads (s : State) (p : Nat) : Nat :=
  (s.can.queue.filter (fun q => match q with
    | .read _ _ (.cxlRead id) => s.seqr.reads.any (fun r => r.id = id && r.req.port = p)
    | _ => false)).length

/-- R272: DevLoad; the QoS class is a grove's (R49), and which a request without one is held to is free. -/
def devLoad (s : State) (p : Nat) (g : Option Nat) : Nat :=
  let h := heldOf s p
  let n := match g with
    | some k => qosOf s k
    | none => Config.choose s.free 48 % 48
  if 64 ≤ h then 3
  else if fld s .dramRegCfg 30 29 n != 0 && SMap.get s.dram.tokens 0 n = 0 then 2
  else if 0 < h then 1 else 0

/-- R270: a refused access: answered with poison or Cmp, logged, posted to the LD's Warning log, event +0. -/
def refuseCxl (r : CxlReq) (reason : Nat) (write : Bool) (dpa : Nat) (g : Option Nat) (s : State) : State :=
  let p := r.port
  let x := portOf s p
  let s1 :=
    if x.log.length < 32 then
      updPort p (fun y => { y with log := y.log ++ [⟨now s, r.ld, reason, write, dpa / 64 * 64⟩] }) s
    else bumpRc .hostAccLost p 31 0 1 s
  let s2 := portEvent p 0 (postRec p r.ld 1 (if reason = 5 then 1 else 0) [dpa, reason] s1)
  let s3 := perfAdd ⟨16 * p + r.ld, if write then 1 else 0, none⟩ 0x0A 1 s2
  if x.link = .up then
    useFree (send (if write then .cmp p r.ld r.tag (devLoad s p g) else .memData p r.ld r.tag 0 true (devLoad s p g)) s3)
  else s3

/-! ## Stamps (R29 to R33) -/

/-- R29, R30: the GTC copy a source stamps with: at most 2 ns behind, and never below its earlier stamps. -/
def stampNow (s : State) (src : Nat) : Nat :=
  max (SMap.get s.seqr.marks 0 src) (now s - Config.choose s.free 3 % 3)

/-- A source's watermark and the time at which it last advanced (R33, R36); the source no longer stalls. -/
def setMark (src g : Nat) (s : State) : State :=
  if SMap.get s.seqr.marks 0 src < g then
    { s with seqr := { s.seqr with
        marks := SMap.set s.seqr.marks 0 src g
        markAt := SMap.set s.seqr.markAt 0 src (now s)
        stalled := s.seqr.stalled.filter (· ≠ src) } }
  else s

/-- R18, R30: an input is stamped and waits for the merge. -/
def stampInput (src : Nat) (op : InOp) (ack : AckTo) (origin : Nat) (key : BitVec 64) (raddr : Nat) (s : State) : State :=
  let g := stampNow s src
  let i : Input :=
    { src := src, gtc := g, lane := src, op := op, ack := ack, origin := origin, key := key, raddr := raddr, seq := 0 }
  setMark src g (useFree { s with seqr := { s.seqr with inputs := s.seqr.inputs ++ [i] } })

/-- A local input of the management source (R32, R436). -/
def localInput (op : InOp) (s : State) : State := stampInput 311 op .none 311 0 0 s

/-- R32: a local input passes through the merge for its place in the node's order; it takes no number, and its
physical work is its command's effect (log 84). -/
def localPass (src : Nat) (s : State) : State := stampInput src .local_ .none src 0 0 s

/-- R31: the migration or tier engine that carries a local input; which of the 16 is free (log 84). -/
def migrSrc (s : State) : Nat := 288 + Config.choose s.free 16 % 16

/-- R31: the scrubber that carries a correction or a hold for a refresh; which of the six is free (log 84). -/
def scrubSrc (s : State) : Nat := 305 + Config.choose s.free 6 % 6

/-! ## Placement and acknowledgement (R19, R52, R90) -/

/-- The operation is a write or an atomic (R56). -/
def isData : InOp → Bool
  | .log (.write _ _) => true
  | .fadd _ _ _ => true
  | .cas _ _ _ _ => true
  | _ => false

/-- The operation is a local input (R32). -/
def isLocal : InOp → Bool
  | .readOnly _ => true
  | .local_ => true
  | _ => false

/-- PSN `a` was sent before PSN `b` on a queue pair. -/
def psnBefore (a b : Nat) : Bool := a ≠ b && decide ((b + 2 ^ 32 - a % 2 ^ 32) % 2 ^ 32 ≤ 2 ^ 31)

/-- The acknowledgement belongs to an earlier request of the queue pair. -/
def ackBefore (q psn : Nat) (a : AckTo) : Bool :=
  match a with
  | .vrmp n p => n = q && psnBefore p psn
  | _ => false

/-- Answers an input that has taken effect at `level`. -/
def answerAck (a : AckTo) (level : Level) (gtc src : Nat) (s : State) : State :=
  match a with
  | .none => s
  | .cxl p l t g =>
    if canAnswer s && (portOf s p).link == .up then
      recSample (2 + levelRank level) (now s - gtc)
        (perfLat ⟨src, 1, none⟩ (now s - gtc) (send (.cmp p l t (devLoad s p (some g))) s))
    else s
  | .vrmp q _ =>
    updQp q (fun x => { x with
      unplaced := x.unplaced - 1
      lowest := min x.lowest (levelRank level)
      flushes := mapIf (fun f => ackBefore q f.psn a) (fun f => { f with low := min f.low (levelRank level) }) x.flushes }) s
  | .cmd p t c => if isReady s then complete p t c 0 [] s else s
  | .zeroPiece => { s with can := { s.can with zeroLeft := s.can.zeroLeft - 1 } }
  | .dcd t p l =>
    let d := ldOf s p l
    let n := ((d.dcdLeft.find? (fun x => x.1 = t)).map (·.2)).getD 0
    let s1 := updLd p l (fun y => { y with
      dcdLeft := if n ≤ 1 then y.dcdLeft.filter (fun x => x.1 ≠ t)
        else mapIf (fun x => x.1 = t) (fun x => (x.1, x.2 - 1)) y.dcdLeft }) s
    onlyIf (n = 1 && isReady s) (mboxDone p l t 0 []) s1

/-- Changes a placing record. -/
def updPlacing (id : Nat) (f : Placing → Placing) (s : State) : State :=
  { s with seqr := { s.seqr with placing := mapIf (fun x => x.id = id) f s.seqr.placing } }

/-- A placing record with nothing left to wait for is answered and goes. -/
def tryAck (id : Nat) (s : State) : State :=
  match s.seqr.placing.find? (fun x => x.id = id) with
  | some x =>
    if x.left = 0 && x.mirror.isNone then
      answerAck x.ack x.level x.gtc x.src
        { s with seqr := { s.seqr with placing := s.seqr.placing.filter (fun y => y.id ≠ id) } }
    else s
  | none => s

/-- One piece of an input has been accepted. -/
def pieceDone (id : Nat) (s : State) : State :=
  tryAck id (updPlacing id (fun x => { x with left := x.left - 1 }) s)

/-- R55: MIRROR writes still waiting for the peer are acknowledged as LOCAL when the node becomes SOLO. -/
def mirrorToLocal (s : State) : State :=
  forEach (s.seqr.placing.map (·.id)) (fun id t =>
    tryAck id (updPlacing id (fun x =>
      if x.mirror.isSome then { x with mirror := none, level := .loc } else x) t)) s

/-- R90: a LANDING_ACK covers MIRROR writes up to a sequence number. -/
def mirrorAcked (upto : Nat) (s : State) : State :=
  forEach (s.seqr.placing.map (·.id)) (fun id t =>
    tryAck id (updPlacing id (fun x =>
      match x.mirror with
      | some n => if n ≤ upto then { x with mirror := none } else x
      | none => x) t)) s

/-! ## Records for the peer (R83, R85, R87, R103) -/

/-- R85: folds a numbered input into the digest; the record at a window's end closes it. -/
def foldDigest (seq : Nat) (r : StampRec) (s : State) : State :=
  let start := decide (seq % 2 ^ 20 = 0)
  let acc := digestFold (pairKey s) (if start then 0 else s.twin.digAcc) r seq
  let t1 := { s.twin with
    digAcc := acc
    digFirst := if start then seq else s.twin.digFirst
    digSpan := if start then false else s.twin.digSpan }
  let s1 := { s with twin := t1 }
  if seq % 2 ^ 20 = 2 ^ 20 - 1 && !t1.digSpan then
    if s.twin.role = .standby then sendUtl (.digest t1.digFirst acc) s1
    else { s1 with twin := { t1 with digDone := some (t1.digFirst, acc) } }
  else s1

/-- Sends the numbered records that no longer wait for an atomic's result. -/
def flushRecs (fuel : Nat) (s : State) : State :=
  match fuel with
  | 0 => s
  | n + 1 =>
    match s.seqr.unsent with
    | (seq, some r) :: rest =>
      let s1 := foldDigest seq r { s with seqr := { s.seqr with unsent := rest } }
      flushRecs n (if feeding s1 then sendUtl (.stampedInput seq [r]) s1 else s1)
    | _ => s

/-- The result of an atomic completes its record. -/
def fillRec (seq : Nat) (r : StampRec) (s : State) : State :=
  flushRecs (s.seqr.unsent.length + 1)
    { s with seqr := { s.seqr with unsent := mapIf (fun x => x.1 = seq) (fun _ => (seq, some r)) s.seqr.unsent } }

/-- R103, R109: an emitted write is remembered: retained by a LEADER and by a node that feeds its peer, and its tile
marked in an open resync bitmap. -/
def retain (seq g line gtc src : Nat) (s : State) : State :=
  let t := (g, tileOf line)
  let tw := s.twin
  { s with twin := { tw with
      retained := if tw.role == .leader || feeding s then tw.retained ++ [⟨seq, g, line, gtc, src⟩] else tw.retained
      bmTiles := if tw.bmOpen && !tw.bmTiles.contains t then tw.bmTiles ++ [t] else tw.bmTiles } }

/-! ## Waiting -/

/-- An access waits in its slice's input queue (R142, R183, R186). -/
def enqueue (q : QAcc) (s : State) : State := { s with can := { s.can with queue := s.can.queue ++ [q] } }

/-- The line a queued access is for. -/
def qLine : QAcc → Nat × Nat
  | .read g a _ => (g, a)
  | .write _ g p => (g, p.line)

/-- An earlier access to the line waits in the queue. -/
def lineQueued (s : State) (g a : Nat) : Bool := s.can.queue.any (fun q => qLine q == (g, a))

/-- The waiter is an atomic. -/
def isAtomic : Waiter → Bool
  | .atomic _ _ _ => true
  | _ => false

/-- R64: an atomic waits for the line, so later inputs on it wait behind it. -/
def atomicWaiting (s : State) (g a : Nat) : Bool :=
  (match missLine s g a with
    | some m => m.joiners.any isAtomic
    | none => false)
  || s.tier.promos.any (fun p => p.grove = g && p.waiters.any (fun w => w.1 = a && isAtomic w.2))
  || s.tier.repairs.any (fun p => p.grove = g && p.waiters.any (fun w => w.1 = a && isAtomic w.2))
  || s.tier.lates.any (fun l => l.grove = g && l.line = a && isAtomic l.waiter)

/-- R21: bytes of the reader's own pending writes, in arrival order. -/
def ownPending (s : State) (src g a : Nat) (base : Option LineData) : Option LineData :=
  s.seqr.inputs.foldl (fun b i =>
    if i.src = src && i.lane = src then
      match i.op with
      | .log (.write h ps) =>
        if h = g then ps.foldl (fun b p => if p.line = a then overlay b p.data p.mask else b) b else b
      | _ => b
    else b) base

/-! ## Answers to reads -/

/-- A CXL read is answered (R269), unless the watchdog or the port has cut it. -/
def answerRead (id g a : Nat) (d : Option LineData) (hit : Bool) (s : State) : State :=
  match s.seqr.reads.find? (fun r => r.id = id) with
  | none => s
  | some r =>
    let src := 16 * r.req.port + r.req.ld
    let x := ownPending s src g a d
    let s1 := { s with seqr := { s.seqr with reads := s.seqr.reads.filter (fun y => y.id ≠ id) } }
    if !canAnswer s || (portOf s r.req.port).link != .up then s1
    else
      let ns := now s - r.gtc
      recSample (if hit then 0 else 1) ns
        (perfLat (readReqOf src g a) ns
          (send (.memData r.req.port r.req.ld r.req.tag (x.getD 0) x.isNone (devLoad s r.req.port (some g)))
            (if x.isNone then countPoisonRead g (tileOf a) s1 else s1)))

/-- READ_RESP segments of at most `pay` bytes, ascending (R316). -/
def segments (fuel pay qpn psn addr : Nat) (bs : List Byte) (last : Bool) : List Out :=
  match fuel with
  | 0 => []
  | n + 1 =>
    if bs.length ≤ pay then [.readResp qpn psn addr bs last]
    else .readResp qpn psn addr (bs.take pay) false :: segments n pay qpn psn (addr + pay) (bs.drop pay) last

/-- R316: a read job with every line gathered is answered: its bytes in ascending address, or those before
the first poisoned line and NAK POISON. -/
def finishJob (j : ReadJob) (s : State) : State :=
  let s0 := { s with seqr := { s.seqr with jobs := s.seqr.jobs.filter (fun x => x.id ≠ j.id) } }
  let first := j.off / 64
  let n := (j.off + j.len - 1) / 64 + 1 - first
  let at_ (k : Nat) : Option LineData := ((j.got.find? (fun x => x.1 = first + k)).map (·.2)).getD none
  let bad := (List.range n).find? (fun k => (at_ k).isNone)
  let upto := bad.getD n
  let bytes := ((List.range upto).map (fun k => lineBytes ((at_ k).getD 0))).flatten
  let part := slice bytes (j.off - first * 64) (min j.len (upto * 64 - (j.off - first * 64)))
  match qpOf s j.qpn with
  | none => s0
  | some q =>
    if !canAnswer s then s0
    else
      let pay := ((peerOf s q.peer).map (·.payload)).getD 1024
      let src := engineOf s j.qpn
      let s1 :=
        if bad.isSome && part.isEmpty then s0
        else impliesAck j.qpn j.psn
          (forEach (segments (part.length / pay + 1) pay j.qpn j.psn j.addr part bad.isNone) (sendQp j.qpn) s0)
      match bad with
      | some k => sendNak j.qpn j.psn 0x07 (j.addr + ((first + k) * 64 - j.off)) s1
      | none => recSample 5 (now s - j.gtc) (perfLat (readReqOf src j.grove first) (now s - j.gtc) s1)

/-- A line of a read job has arrived. -/
def gotLine (id g a : Nat) (d : Option LineData) (s : State) : State :=
  match s.seqr.jobs.find? (fun j => j.id = id) with
  | none => s
  | some j =>
    let x := ownPending s (engineOf s j.qpn) g a d
    let j1 := { j with got := j.got ++ [(a, x)] }
    let s1 := { (if x.isNone then countPoisonRead g (tileOf a) s else s) with
      seqr := { s.seqr with jobs := mapIf (fun y => y.id = id) (fun _ => j1) s.seqr.jobs } }
    if (j.off + j.len - 1) / 64 + 1 - j.off / 64 ≤ j1.got.length then finishJob j1 s1 else s1

/-! ## Writes to a line -/

/-- The line is in Canopy: its bytes change and it takes a state (R178). -/
def mergeWay (g a : Nat) (d : LineData) (m : Mask) (st : LineState) (s : State) : State :=
  match hitWay s g a with
  | some (w, _) =>
    touchWay (setKey s g a) w (updLine g a (fun x =>
      { x with data := mergeLine x.data d m, have_ := x.have_ ||| m, st := st }) s)
  | none => s

/-- The bytes go into the line's Windfall copy (R185). -/
def mergeWf (g a : Nat) (d : LineData) (m : Mask) (st : LineState) (s : State) : State :=
  let sl := sliceOf s g a
  setWf sl (mapIf (fun x => x.grove = g && x.line = a)
    (fun x => { x with data := mergeLine x.data d m, st := st }) (wfOf s sl)) s

/-- A write miss allocates the line: whole without a fill, partial with one (R178); `n` is the writer's regulator. -/
def allocWrite (g a n : Nat) (d : LineData) (m : Mask) (st : LineState) (s : State) : State :=
  if m = fullMask then install g a (classOf s g) st false false d m s
  else fillFor g a n (install g a (classOf s g) st false true (mergeLine 0 d m) m s)

/-- R212: the regulator of an input's own reads: twin replay's on a node that does not serve, management's, else the
QoS class of the grove. -/
def inputReg (s : State) (g src : Nat) : Nat :=
  if !serving s then regFor s 0 else if 311 ≤ src && src ≤ 313 then regFor s 4 else qosOf s g

/-- Source of the input behind a placing record. -/
def placingSrc (s : State) (id : Nat) : Nat := ((s.seqr.placing.find? (fun x => x.id = id)).map (·.src)).getD 288

/-- Regulator of the input behind a placing record. -/
def placingReg (s : State) (g id : Nat) : Nat := inputReg s g (placingSrc s id)

/-- Under its policy and class a write to the line allocates it now, or recalls it from Windfall (R178, R181, R185). -/
def writeAllocs (s : State) (g a : Nat) : Bool :=
  (policyNow s g a == .wb || policyNow s g a == .wt) && canAlloc s g a (classOf s g)

/-- R183, R186: an allocation can begin: the tracker takes `n` entries and the victim's, and a partial write finds a
miss-file entry. -/
def allocReady (s : State) (g a n : Nat) (fill : Bool) : Bool :=
  trkReady s g a (classOf s g) n && (!fill || missRoom s g a)

/-- R54, R177, R178, R183, R185: a LOCAL or MIRROR write, any replayed write (R84), or a write under R535: into
the landing entry, and into Canopy or Windfall. Without room it waits in the slice queue (R20, R186). -/
def landWrite (id g : Nat) (p : Piece) (seq : Nat) (s0 : State) : State :=
  let a := p.line
  let s := checkWrite g a p.mask s0
  let full := p.mask == fullMask
  let inWf := (hitWf s g a).isSome
  let allocs := (hitWay s g a).isNone && writeAllocs s g a
    && (inWf || ((full || (tile s g (tileOf a)).frame.isSome) && (full || !linePoisoned s g a)))
  if (bankFull s g a && (landOf s g a).isNone) || (allocs && !allocReady s g a 0 (!inWf && !full)) then
    enqueue (.write id g p) s
  else
    let s1 := landMerge g a p.data p.mask seq (placingSrc s id) s
    let s2 := if full then clearPoison g a s1 else s1
    let s3 :=
      match hitWay s2 g a, hitWf s2 g a with
      | some _, _ => mergeWay g a p.data p.mask .landed s2
      | none, some x =>
        if allocs then mergeWay g a p.data p.mask .landed (recallLine g a x s2)
        else mergeWf g a p.data p.mask .landed s2
      | none, none => if allocs then allocWrite g a (placingReg s2 g id) p.data p.mask .landed s2 else s2
    pieceDone id s3

/-- R178, R179, R183, R185, R186, R193: a VOLATILE write to a line whose tile has a frame or whose sector is here. -/
def volApply (id g : Nat) (p : Piece) (s0 : State) : State :=
  let a := p.line
  let full := p.mask == fullMask
  if linePoisoned s0 g a && !full then pieceDone id s0
  else
    let s := checkWrite g a p.mask s0
    let pol := policyOf s g a
    let through := s.can.disabling || pol != .wb
    let n := if pol = .wb then 0 else 1
    let wait : State := enqueue (.write id g p) s
    let done (t : State) : State := pieceDone id (if full then clearPoison g a t else t)
    let src := some (placingSrc s id)
    let trk (t : State) : State := pushTrk g a p.data p.mask false src t
    match hitWay s g a, hitWf s g a with
    | some (_, x), _ =>
      if !through then done (mergeWay g a p.data p.mask .dirty s)
      else if !trkFree s g a 1 then wait
      else if s.can.disabling then
        let t := mergeWay g a p.data p.mask .clean s
        match hitWay t g a with
        | some (_, y) => done (pushTrk g a y.data y.have_ false src t)
        | none => done t
      else done (trk (mergeWay g a p.data p.mask x.st s))
    | none, some x =>
      if writeAllocs s g a then
        if !allocReady s g a n false then wait
        else if pol = .wb then done (mergeWay g a p.data p.mask .dirty (recallLine g a x s))
        else done (trk (mergeWay g a p.data p.mask .clean (recallLine g a x s)))
      else if trkFree s g a 1 then done (trk (mergeWf g a p.data p.mask .clean s))
      else wait
    | none, none =>
      if writeAllocs s g a then
        if !allocReady s g a n (!full) then wait
        else if pol = .wb then done (allocWrite g a (placingReg s g id) p.data p.mask .dirty s)
        else done (trk (allocWrite g a (placingReg s g id) p.data p.mask .clean s))
      else if trkFree s g a 1 then done (trk s)
      else wait

/-! ## Atomics (R64, R317) -/

/-- The record of an executed atomic (R122). -/
def atomicRec (i : Input) (g off param : Nat) (w : Option (BitVec 64)) : StampRec :=
  ⟨i.gtc, i.src, .atomic g off param w⟩

/-- ATOMIC_RESP with the original value, kept among the last 8 (R306, R317). -/
def atomicDone (a : AckTo) (orig : BitVec 64) (s : State) : State :=
  match a with
  | .vrmp q psn =>
    let s1 := updQp q (fun x => { x with
      atomics := x.atomics.filter (· ≠ psn)
      cache := ((psn, orig) :: x.cache).take 8 }) s
    if canAnswer s && (qpOf s q).isSome then impliesAck q psn (sendQp q (.atomicResp q psn orig) s1) else s1
  | _ => s

/-- An atomic meets its line: nothing is written to a poisoned line, and it is answered with NAK POISON. -/
def atomicExec (id seq : Nat) (i : Input) (d : Option LineData) (s : State) : State :=
  let run (g off : Nat) (param : BitVec 64 → Nat) (new : BitVec 64 → Option (BitVec 64)) : State :=
    let a := off / 64
    match d with
    | none =>
      let s1 := fillRec seq (atomicRec i g off 3 none) (countPoisonRead g (tileOf a) s)
      let s2 := match i.ack with
        | .vrmp q psn =>
          sendNak q psn 0x07 i.raddr (updQp q (fun x => { x with atomics := x.atomics.filter (· ≠ psn) }) s1)
        | _ => s1
      pieceDone id (updPlacing id (fun y => { y with mirror := none }) s2)
    | some x =>
      let old := word64 x (off % 64)
      let w := new old
      let s2 := atomicDone i.ack old (fillRec seq (atomicRec i g off (param old) w) s)
      match w with
      | none => pieceDone id (updPlacing id (fun y => { y with mirror := none }) s2)
      | some v =>
        let p : Piece := ⟨a, at64 (off % 64) v, maskRun (off % 64) 8⟩
        let s3 := retain seq g a i.gtc i.src s2
        if levelOf s g == .vol && (landOf s g a).isNone then volApply id g p s3 else landWrite id g p seq s3
  match i.op with
  | .fadd g off k => run g off (fun _ => 0) (fun o => some (o + k))
  | .cas g off c w => run g off (fun o => if o = c then 1 else 2) (fun o => if o = c then some w else none)
  | _ => s

/-- A waiter gets its line; `none` is poison. -/
def deliver (g a : Nat) (d : Option LineData) (hit : Bool) (w : Waiter) (s : State) : State :=
  match w with
  | .cxlRead id => answerRead id g a d hit s
  | .vrmpRead j => gotLine j g a d s
  | .vwrite id p => volApply id g p s
  | .atomic id seq i => atomicExec id seq i d s

/-! ## Promotion, repair and late touches -/

/-- The promotion of a tile in flight. -/
def promoOf (s : State) (g t : Nat) : Option Promo := s.tier.promos.find? (fun p => p.grove = g && p.tile = t)

/-- Changes a promotion. -/
def updPromo (g t : Nat) (f : Promo → Promo) (s : State) : State :=
  { s with tier := { s.tier with promos := mapIf (fun p => p.grove = g && p.tile = t) f s.tier.promos } }

/-- R137, R142, R160: starts a promotion, or answers `none` where it waits: no frame is free, grove 1,023 is
at its bound, or the grove's slot cannot be used (R336). -/
def startPromo (g t kind line : Nat) (pin : Bool) (s : State) : Option State :=
  if metaHeld s || !groveKeyed s g then none
  else
    match pickFrame s (fun _ => true) with
    | none => none
    | some f =>
      let p : Promo :=
        { grove := g, tile := t, frame := f, kind := kind, line := line, pin := pin,
          arrived := 0, waiters := [], gtc := now s }
      let s1 := takeFrame g t f s
      let s2 := { s1 with tier := { s1.tier with promos := s1.tier.promos ++ [p] } }
      let s3 := match (tile s g t).t2 with
        | some n => if dieGone s n then s2 else pushDie (n / 2 ^ 22) ⟨if kind = 1 then 6 else 2, .read g t n⟩ s2
        | none => s2
      some (localPass (migrSrc s) (onlyIf (kind != 1) (perfAdd ⟨288, 3, some (g, line * 64)⟩ 0x07 1) s3))

/-- A frame is missing: 569 when none is free (R142, R169). -/
def noFrame (s : State) : State := onlyIf ((pickFrame s (fun _ => true)).isNone) (raise 569) s

/-- R149: tiles that staging may pin. -/
def pinMax (s : State) : Nat := totalFrames s * (img s).tiers.pinLimit / 100

/-- R149: a staging pins its tile within the limit; past it, 573. -/
def pinNow (s : State) : Bool × State :=
  let pin := decide (s.tier.pinCount + (s.tier.promos.filter (fun p => p.pin)).length < pinMax s)
  (pin, onlyIf (!pin) (raise 573) s)

/-- The schedule entry whose policy a late touch meets (R148, R151). -/
def lateEntry (s : State) (sched : Nat) : Option QEntry := s.tier.md.queue.find? (fun q => q.sched = sched)

/-- A demand promotion for a line that a waiter needs (R137). -/
def demand (g a : Nat) (w : Waiter) (s : State) : State :=
  match startPromo g (tileOf a) 0 a false s with
  | some s1 => updPromo g (tileOf a) (fun p => { p with waiters := p.waiters ++ [(a, w)] }) s1
  | none => enqueue (.read g a w) (noFrame s)

/-- R151: the slice holds all the late touches it can, so new accesses to it wait. -/
def lateFull (s : State) (g a : Nat) : Bool :=
  let sl := sliceOf s g a
  decide (256 ≤ (s.tier.lates.filter (fun l => l.slice = sl)).length)

/-- R20, R151, R183: accesses wait in the line's slice, and the fabric withholds credits back to the entry points. -/
def sliceHeld (s : State) (g a : Nat) : Bool :=
  lateFull s g a || s.can.queue.any (fun q => sliceOf s (qLine q).1 (qLine q).2 = sliceOf s g a)

/-- R151: the DIRECT path: a demand read of the touched sector, whose tile is staged on; without a free frame it waits
for one (R142). -/
def directRead (g a : Nat) (s : State) : State :=
  match promoOf s g (tileOf a) with
  | some _ => hurry g (tileOf a) (updPromo g (tileOf a) (fun p => { p with line := a }) s)
  | none =>
    let p := pinNow s
    (startPromo g (tileOf a) 0 a p.1 p.2).getD (noFrame s)

/-- Late touches of a tile whose line is here are served; the recorder takes their lateness (R151). -/
def serveLates (g t : Nat) (s : State) : State :=
  let here (l : LateTouch) : Bool := l.grove = g && tileOf l.line = t
    && ((tile s g t).frame.isSome || (match promoOf s g t with
      | some p => p.arrived.getLsbD (secOf l.line)
      | none => false))
  let ready := s.tier.lates.filter here
  forEach ready (fun l u => recSample 9 (now u - l.gtc) (deliver g l.line (fillData u g l.line) false l.waiter u))
    { s with tier := { s.tier with lates := s.tier.lates.filter (fun l => !here l) } }

/-- R151: a late touch: STALL waits for staging, DIRECT reads the touched sector at once. -/
def lateTouch (g a : Nat) (w : Waiter) (q : QEntry) (s : State) : State :=
  if lateFull s g a then enqueue (.read g a w) s
  else
    let l : LateTouch :=
      { id := s.ids, slice := sliceOf s g a, grove := g, line := a, waiter := w, gtc := now s,
        bound := (if q.lateBound = 0 then 200 else q.lateBound) * 1000, direct := q.late }
    let s1 := raise 570 (bumpId { s with tier := { s.tier with lates := s.tier.lates ++ [l] } })
    let s2 := perfAdd ⟨288, 0, some (g, a * 64)⟩ 0x0D 1 s1
    serveLates g (tileOf a) (if q.late then directRead g a s2 else s2)

/-- A line of a tile without a frame: zero where the tile holds nothing, else from a repair, a promotion or a
late touch (R132, R137, R138, R151, R153). -/
def readCold (g a : Nat) (w : Waiter) (s : State) : State :=
  let t := tileOf a
  let e := tile s g t
  if s.tier.repairs.any (fun r => r.grove = g && r.tile = t && r.sectors.getLsbD (secOf a)) then
    let join (r : Repair) : Repair := { r with waiters := r.waiters ++ [(a, w)] }
    { s with tier := { s.tier with repairs := mapIf (fun r => r.grove = g && r.tile = t) join s.tier.repairs } }
  else
    match (e.sched.bind (lateEntry s)), promoOf s g t with
    | some q, some _ => lateTouch g a w q s
    | none, some p =>
      if p.arrived.getLsbD (secOf a) then deliver g a (fillData s g a) false w s
      else updPromo g t (fun p => { p with waiters := p.waiters ++ [(a, w)] }) s
    | late, none =>
      if tileBlank e then
        match w with
        | .cxlRead _ => deliver g a (overLanding s g a (some 0)) false w s
        | .vrmpRead _ => deliver g a (overLanding s g a (some 0)) false w s
        | _ =>
          let s1 := firstFrame g t s
          if tileBlank (tile s1 g t) then enqueue (.read g a w) s1
          else deliver g a (overLanding s1 g a (some 0)) false w s1
      else
        match late with
        | some q => lateTouch g a w q s
        | none => demand g a w s

/-- R136: one hit in 64 of each slice is an access sample, which clears the tile's AGE. -/
def sampleHit (g a : Nat) (s : State) : State :=
  let sl := sliceOf s g a
  let n := (SMap.get s.can.hits 0 sl + 1) % 64
  let s1 := { s with can := { s.can with hits := SMap.set s.can.hits 0 sl n } }
  if n = 0 then touchAge g (tileOf a) s1 else s1

/-- Source number of the requester behind a waiter. -/
def waiterSrc (s : State) (w : Waiter) : Nat :=
  match w with
  | .cxlRead id => ((s.seqr.reads.find? (fun r => r.id = id)).map (fun r => srcReq r.req)).getD 288
  | .vrmpRead id => ((s.seqr.jobs.find? (fun j => j.id = id)).map (fun j => engineOf s j.qpn)).getD 288
  | .vwrite id _ => ((s.seqr.placing.find? (fun x => x.id = id)).map (·.src)).getD 288
  | .atomic _ _ i => i.src

/-- The waiter's access as a performance filter sees it. -/
def waiterReq (s : State) (g a : Nat) (w : Waiter) : PReq :=
  match w with
  | .vwrite _ _ => writeReqOf (waiterSrc s w) g a
  | .atomic _ _ _ => writeReqOf (waiterSrc s w) g a
  | _ => readReqOf (waiterSrc s w) g a

/-- R212: the regulator of a waiter's fill. -/
def waiterReg (s : State) (g : Nat) (w : Waiter) : Nat :=
  match w with
  | .vwrite id _ => placingReg s g id
  | .atomic _ _ i => inputReg s g i.src
  | _ => qosOf s g

/-- The tracker's entries of a line that are held (R186). -/
def heldTrk (s : State) (g a : Nat) : List TrkEntry := (trkLine s g a).filter (fun x => !x.issued)

/-- R142, R160, R336: nothing above T1 gives the line, and the promotion that would bring it, or the first frame that a
write needs, cannot be had now. -/
def coldWaits (s : State) (g a : Nat) (w : Waiter) : Bool :=
  let t := tileOf a
  let e := tile s g t
  let plain : Bool := match w with
    | .cxlRead _ => true
    | .vrmpRead _ => true
    | _ => false
  e.frame.isNone && (promoOf s g t).isNone && (e.sched.bind (lateEntry s)).isNone
    && !s.tier.repairs.any (fun r => r.grove = g && r.tile = t && r.sectors.getLsbD (secOf a))
    && (hitWay s g a).isNone && (hitWf s g a).isNone && (heldTrk s g a).isEmpty
    && ((pickFrame s (fun _ => true)).isNone || (!tileBlank e && (metaHeld s || !groveKeyed s g)))
    && !(tileBlank e && plain)

/-- R183, R186, R187: the read waits in the slice queue: behind a masked write that is held, for a miss-file entry, or
for its victim's write-back. -/
def readWaits (s : State) (g a : Nat) : Bool :=
  let full : Bool := match missLine s g a with
    | some m => m.left = 0
    | none => !missRoom s g a
  let alloc := wouldAlloc s g a false && !trkReady s g a (classOf s g) 0
  match hitWay s g a with
  | some (_, y) => y.fill && full
  | none =>
    if (hitWf s g a).isSome then alloc
    else if !(heldTrk s g a).isEmpty then (heldTrk s g a).any (fun x => x.mask != fullMask)
    else (tile s g (tileOf a)).frame.isSome && (full || ((missLine s g a).isNone && alloc))

/-- A read of a line that Canopy and Windfall do not give: from a held full write-back, from T1 behind what has been
issued, or from below T1 (R14, R137, R187). -/
def readBelow (g a : Nat) (w : Waiter) (r : PReq) (s : State) : State :=
  match (heldTrk s g a).getLast? with
  | some x =>
    let c := trkCheck g a s
    deliver g a (if c.2 then none else overLanding s g a (some x.data)) false w c.1
  | none =>
    let s1 := touchAge g (tileOf a) (ttLookup r g (tileOf a) s)
    if !protOk s 1 (tkey g (tileOf a)) && s.tier.ttCache.contains (tkey g (tileOf a)) then s1 else
    if (tile s1 g (tileOf a)).frame.isSome then joinMiss g a (waiterReg s1 g w) w s1 else readCold g a w s1

/-- R14, R16: a hit is answered from its way; a hit off the fast path is counted (R452). -/
def readHit (g a k n : Nat) (y : Way) (slow : Bool) (w : Waiter) (r : PReq) (s : State) : State :=
  let s1 := perfAdd r 0x03 1 (touchWay k n s)
  let s2 := if perfInUse s1 && (slow || Config.choose s1.free 2 = 1) then perfAdd r 0x0C 1 (useFree s1) else s1
  deliver g a (some y.data) true w (sampleHit g a s2)

/-- R14, R17, R21, R185, R187, R196: a read of a line by a waiter: answered at once, or it waits. -/
def readLine (g a : Nat) (w : Waiter) (r : PReq) (s0 : State) : State :=
  let marked := match landOf s0 g a with
    | some e => e.poison
    | none => false
  if lineQueued s0 g a || lateFull s0 g a then enqueue (.read g a w) s0
  else if marked || linePoisoned s0 g a then deliver g a none false w s0
  else
    let k := setKey s0 g a
    let c := checkTags (· = k) s0
    let s := wfCheck g a c.1
    if c.2 then deliver g a none false w s
    else if readWaits s g a then enqueue (.read g a w) s
    else if coldWaits s g a w then enqueue (.read g a w) (noFrame s)
    else
      match hitWay s g a, hitWf s g a with
      | some (n, x), _ =>
        if x.fill then joinMiss g a (waiterReg s g w) w (perfAdd r 0x03 1 s)
        else
          let d := dataCheck k n x s
          (match d.2 with
            | none => deliver g a none true w d.1
            | some true => readHit g a k n x (d.1.can.errs != s.can.errs) w r d.1
            | some false => if readWaits d.1 g a then enqueue (.read g a w) d.1 else readBelow g a w r d.1)
      | none, some x =>
        let s1 := perfAdd r 0x05 1 s
        let s2 := if wouldAlloc s1 g a false then recallLine g a x s1 else s1
        deliver g a (some x.data) true w s2
      | none, none => readBelow g a w r (perfAdd r 0x04 1 s)

/-- R15, R21, R422: a read of a line; one that meets an uncorrectable landing word gets no answer, for the Clearing takes
its link down. -/
def readAt (g a : Nat) (w : Waiter) (r : PReq) (s : State) : State :=
  if landOk s g a then readLine g a w r (landGet g a s) else landGet g a s

/-! ## Pieces of an emitted write -/

/-- Applies one piece of an emitted write (R18 step 4), in emission order on its line; its tile-table lookup clears AGE
(R136). -/
def placePiece (id g seq : Nat) (land : Bool) (p : Piece) (s0 : State) : State :=
  let s := touchAge g (tileOf p.line) s0
  if lineQueued s g p.line || atomicWaiting s g p.line then enqueue (.write id g p) s
  else if land || levelOf s g != .vol || (landOf s g p.line).isSome then landWrite id g p seq s
  else if (tile s g (tileOf p.line)).frame.isSome then volApply id g p s
  else readCold g p.line (.vwrite id p) s

/-- Sequence number of the input a placing record belongs to, for the landing entry's list. -/
def seqOfPlacing (s : State) (id : Nat) : Nat :=
  match s.seqr.placing.find? (fun x => x.id = id) with
  | some x => x.seq
  | none => 0

/-- Tries one queued access again. -/
def retryOne (q : QAcc) (s : State) : State :=
  match q with
  | .read g a w =>
    if lineQueued s g a || coldWaits s g a w then enqueue q s else readAt g a w (waiterReq s g a w) s
  | .write id g p => placePiece id g (seqOfPlacing s id) (!serving s) p s

/-- R142: a late touch on the DIRECT path whose tile found no frame asks for one again. -/
def retryLate (l : LateTouch) (s : State) : State :=
  if l.direct && s.tier.lates.contains l && (promoOf s l.grove (tileOf l.line)).isNone
      && (tile s l.grove (tileOf l.line)).frame.isNone then directRead l.grove l.line s
  else s

/-- What waits at the fabric ports is passed on where it can be, then every queued access tries again, in order; those
that still cannot proceed wait again. -/
def runQueue (s0 : State) : State :=
  let s := passAll s0
  forEach s.tier.lates retryLate (forEach s.can.queue retryOne { s with can := { s.can with queue := [] } })

/-! ## What a promotion brings -/

/-- A line brought from T2 or the Cellar is installed where its class and policy allow (R137, R180). -/
def passLine (g a : Nat) (s : State) : State :=
  match fillData s g a with
  | none => s
  | some d =>
    if (hitWay s g a).isSome || (hitWf s g a).isSome || !wouldAlloc s g a false || !trkReady s g a (classOf s g) 0 then s
    else install g a (classOf s g) (if (landOf s g a).isSome then .landed else .clean) false false d fullMask s

end Sys2Proof.Machine
end

