-- ==== Sys2Proof/Machine/CopOps.lean ====
section
/-!
DEFINITION. Coppice (R442 to R451): pools and buffers, headroom and states, allocation and frees, and the errors
of packet memory.
-/

namespace Sys2Proof.Machine

open Sys2Proof

/-- Bytes of a buffer of a pool (R442). -/
def bufBytes (p : Nat) : Nat :=
  match p with
  | 0 => 256
  | 1 => 2048
  | 2 => 9728
  | _ => 65536

/-- Buffers of an assigned block of a pool (R442). -/
def perBlock (p : Nat) : Nat :=
  match p with
  | 0 => 152
  | 1 => 19
  | _ => 4

/-- Buffers of pool 3 (R442). -/
def pool3Size (s : State) : Nat := if isSmall s then 8192 else 16384

/-- R444: the smallest pool for a length; `none` above 64 KiB. -/
def poolFor (n : Nat) : Option Nat :=
  if n ≤ 256 then some 0 else if n ≤ 2048 then some 1 else if n ≤ 9728 then some 2 else if n ≤ 65536 then some 3 else none

/-- Assigned blocks of a pool. -/
def copBlocksOf (s : State) (p : Nat) : List (Nat × CopBlock) := (SMap.present s.cop.blocks).filter (fun b => b.2.pool = p)

/-- Free blocks. -/
def freeBlocks (s : State) : Nat := 1293 - (SMap.present s.cop.blocks).length

/-- Free buffers of a pool. -/
def freeBufs (s : State) (p : Nat) : Nat :=
  if p = 3 then pool3Size s - s.cop.pool3.length
  else (copBlocksOf s p).foldl (fun n b => n + (perBlock p - b.2.owners.length)) 0

/-- R447: the unclaimed reservation. -/
def unclaimed (s : State) : Nat := s.net.creditOut - s.cop.arrival

/-- R447: the spare. -/
def spareBytes (s : State) : Int := (freeBlocks s * 38912 : Nat) - (unclaimed s : Int)

/-- R447: the headroom of a pool. -/
def headroom (s : State) (p : Nat) : Int :=
  if p = 3 then (freeBufs s 3 * 65536 : Nat) else (freeBufs s p * bufBytes p : Nat) + spareBytes s

/-- R462: a threshold of a pool in bytes: 1 NOTICE, 2 BACKPRESSURE, 3 RESERVE_ONLY. -/
def copThreshold (s : State) (p k : Nat) : Int :=
  let id := if p = 3 then RegId.copThresh3 else RegId.copThresh
  let i := if p = 3 then 0 else p
  let v := if k = 1 then fld s id 29 20 i else if k = 2 then fld s id 19 10 i else fld s id 9 0 i
  (v * (if p = 3 then 1048576 else 65536) : Nat)

/-- State of a pool. -/
def poolState (s : State) (p : Nat) : Nat := SMap.get s.cop.st 0 p

/-- R449: the state a pool's headroom gives it: down at a threshold, up again an eighth above it. -/
def nextPoolState (s : State) (p : Nat) : Nat :=
  let h := headroom s p
  let old := poolState s p
  let down := if h < copThreshold s p 3 then 3 else if h < copThreshold s p 2 then 2 else if h < copThreshold s p 1 then 1 else 0
  let above (k : Nat) : Bool := decide (copThreshold s p k + copThreshold s p k / 8 ≤ h)
  let up := if old = 3 then (if above 3 then (if above 2 then (if above 1 then 0 else 1) else 2) else 3)
    else if old = 2 then (if above 2 then (if above 1 then 0 else 1) else 2)
    else if old = 1 then (if above 1 then 0 else 1) else 0
  max down up

/-- R449: a pool takes its state; entering one below raises its event. COP_LOW keeps the least headroom. -/
def poolSettle (p : Nat) (s : State) : State :=
  let n := nextPoolState s p
  let kib := (max 0 (headroom s p)).toNat / 1024
  let low := if s.cop.lowKnown.contains p then min (fld s .copLow 31 0 p) kib else kib
  let s1 := setRegWord .copLow p 0 low { s with cop := { s.cop with lowKnown := insertNat p s.cop.lowKnown } }
  if n = poolState s p then s1
  else
    let s2 := { s1 with cop := { s1.cop with st := SMap.set s1.cop.st 0 p n } }
    onlyIf (decide (poolState s p < n)) (raise (540 + 4 * n + p)) s2

/-- The pools take their states. -/
def copSettle (s : State) : State := forEach (List.range 4) poolSettle s

/-- R448: a block may be assigned: always for an arrival under a grant, else only within the spare. -/
def mayAssign (s : State) (grant : Bool) : Bool :=
  decide (0 < freeBlocks s) && (grant || decide (38912 ≤ spareBytes s))

/-- R449, R450: an allocation is served in the pool's state; during a Cellar action only the Cellar's. -/
def mayServe (s : State) (p owner : Nat) (grant : Bool) : Bool :=
  if s.pwr.state = .cellar then owner == 304 else poolState s p != 3 || grant || owner == 304 || (decide (272 ≤ owner) && decide (owner ≤ 287))

/-- R444: an allocation: the first free buffer of an assigned block, or a block's first; `none` waits. -/
def copAlloc (p owner : Nat) (grant : Bool) (s : State) : Option State :=
  if !mayServe s p owner grant then none
  else if p = 3 then
    match firstIdx (pool3Size s) (fun k => !s.cop.pool3.any (fun b => b.1 = k)) with
    | some k => some (copSettle { s with cop := { s.cop with pool3 := s.cop.pool3 ++ [(k, owner)] } })
    | none => none
  else
    match (copBlocksOf s p).find? (fun b => decide (b.2.owners.length < perBlock p)) with
    | some (n, b) =>
      let k := (firstIdx (perBlock p) (fun k => !b.owners.any (fun o => o.1 = k))).getD 0
      some (copSettle { s with cop := { s.cop with
        blocks := SMap.set s.cop.blocks none n (some { b with owners := b.owners ++ [(k, owner)] }) } })
    | none =>
      if mayAssign s grant then
        match firstIdx 1293 (fun n => (SMap.find s.cop.blocks n).isNone) with
        | some n => some (copSettle { s with cop := { s.cop with
            blocks := SMap.set s.cop.blocks none n (some ⟨p, [(0, owner)]⟩) } })
        | none => none
      else none

/-- Pool of a buffer. -/
def bufPool (blk : Nat) (s : State) : Nat := if blk = 1293 then 3 else ((SMap.find s.cop.blocks blk).map (·.pool)).getD 0

/-- R446: a bad free or transfer is counted and recorded, and changes nothing else: 556 for a buffer already free, 557
for a requester that does not own it. -/
def badFree (double : Bool) (blk idx owner who : Nat) (s : State) : State :=
  let p := bufPool blk s
  let s1 := if double then bumpRc .copBadFree 0 31 16 1 s else bumpRc .copBadFree 0 15 0 1 s
  raise (if double then 556 else 557) { s1 with cop := { s1.cop with
    badLast := some (!double, p, if blk = 1293 then idx else blk * perBlock p + idx), badWho := (who, owner) } }

/-- Owner of a buffer of pools 0 to 2, by block and buffer, or of pool 3 (`blk` 1,293 and the buffer's number). -/
def bufOwner (blk idx : Nat) (s : State) : Option Nat :=
  if blk = 1293 then (s.cop.pool3.find? (fun b => b.1 = idx)).map (·.2)
  else (SMap.find s.cop.blocks blk).bind (fun b => (b.owners.find? (fun o => o.1 = idx)).map (·.2))

/-- A buffer's owner tag is rewritten, or, with none, the buffer is free; a block with no buffer left is free. -/
def setOwner (blk idx : Nat) (heir : Option Nat) (s : State) : State :=
  let put (l : List (Nat × Nat)) : List (Nat × Nat) := match heir with
    | some o => mapIf (fun x => x.1 = idx) (fun x => (x.1, o)) l
    | none => l.filter (fun x => x.1 ≠ idx)
  if blk = 1293 then { s with cop := { s.cop with pool3 := put s.cop.pool3 } }
  else match SMap.find s.cop.blocks blk with
    | some b =>
      let l := put b.owners
      let x : Option CopBlock := if l.isEmpty then none else some ⟨b.pool, l⟩
      { s with cop := { s.cop with blocks := SMap.set s.cop.blocks none blk x } }
    | none => s

/-- R445, R446: a requester frees a buffer (`heir` none) or transfers it: accepted from its owner only. -/
def copHand (blk idx who : Nat) (heir : Option Nat) (s : State) : State :=
  match bufOwner blk idx s with
  | none => if heir.isNone then badFree true blk idx 0 who s else badFree false blk idx 0 who s
  | some o => if o = who then copSettle (setOwner blk idx heir s) else badFree false blk idx o who s

/-- A buffer of a pool that the requester owns, by block and buffer: the first it was given. -/
def ownBuf (p owner : Nat) (s : State) : Option (Nat × Nat) :=
  if p = 3 then (s.cop.pool3.find? (fun b => b.2 = owner)).map (fun b => (1293, b.1))
  else ((copBlocksOf s p).find? (fun b => b.2.owners.any (fun o => o.2 = owner))).bind (fun b =>
    (b.2.owners.find? (fun o => o.2 = owner)).map (fun o => (b.1, o.1)))

/-- R444, R446: the owner frees one of its buffers of a pool. -/
def copFree (p owner : Nat) (s : State) : State :=
  match ownBuf p owner s with
  | some (blk, idx) => copHand blk idx owner none s
  | none => s

/-- R243: buffers of pool 3 whose staging or T2 write is over are free again. -/
def reapBufs (s : State) : State :=
  let held := (s.cop.pool3.filter (fun b => b.2 = 288)).length
  let need := (s.tier.promos.filter (fun p => p.kind = 1)).length + (s.tier.progs.filter (fun p => p.buf)).length
  forEach (List.range (held - need)) (fun _ t => copFree 3 288 t) s

/-- R451: a read of a buffer: 0 clean, 1 corrected (558), 2 uncorrectable (559). Answers whether it can be
used. -/
def copRead (mem : Nat) (s : State) : State × Bool :=
  if mem = 1 then (raise 558 (bumpRc .copEcc 0 15 0 1 s), true)
  else if mem = 0 then (s, true)
  else (raise 559 (bumpRc .copEcc 0 31 16 1 s), false)

/-- R449: the most severe state of pools 0 to 2, which governs grants and UTL intake. -/
def grantState (s : State) : Nat := max (poolState s 0) (max (poolState s 1) (poolState s 2))

end Sys2Proof.Machine
end

