-- ==== Sys2Proof/Machine/DramOps.lean ====
section
/-!
DEFINITION. Copiers of T1 frames: what they read from a frame and where they take a line that cannot be read
(R218, R219, R225), and the evacuation of an interleave set (R226 to R228).
-/

namespace Sys2Proof.Machine

open Sys2Proof

/-- R218: a read that is no demand read meets an error corrected in flight: counted, +0. -/
def corrected (f i : Nat) (s : State) : State :=
  let n := chanOf s f i
  if SMap.get s.tier.t1bad .clean (f * 1024 + i) == .corrected && !chFailed s f i then
    dramEvent n 0 (bumpRc .dramCeCount n 31 0 1 s)
  else s

/-- R225: the peer can give a sector of the grove: MIRROR, T2_REPAIR agreed and the UTL UP. -/
def peerGives (s : State) (g : Nat) : Bool := levelOf s g == .mir && feature s 2 && linkOpen s

/-- R154, R219, R225: the peer is asked for the line's sector; what it answers is no state of this node, so the line it
gives, if it can, is free (log 94). -/
def fromPeer (g t i : Nat) (s : State) : State × Option LineData :=
  (useFree (sendUtl (.repairReq g t (BitVec.ofNat 16 (2 ^ (i / 64)))) s), Config.peerLine s.free (tkey g t * 1024 + i))

/-- R219, R225: a copier meets a line of a frame that it cannot read: it takes the T2 copy's line where the sector is
clean (ACTION 1), or the peer's (ACTION 2); `none` with ACTION 3 otherwise. A line found is written back. -/
def copierSource (g t i f src : Nat) (s : State) : State × Option LineData :=
  let e := tile s g t
  let cls := ueClass s f i
  let copy : Option LineData := if (e.sdirty.getLsbD (i / 64)) = true then none else t2Line s g (t * 1024 + i)
  match copy with
  | some d => (putT1 f i d (logUe f i src cls 1 s), some d)
  | none =>
    if peerGives s g then
      let r := fromPeer g t i s
      match r.2 with
      | some d => (putT1 f i d (logUe f i src cls 2 r.1), some d)
      | none => (logUe f i src cls 3 r.1, none)
    else (logUe f i src cls 3 s, none)

/-- R219: a copier reads line `i` of a tile's frame: the data and the state; `none` is a poisoned line. -/
def copierLine (g t i src : Nat) (s : State) : State × Option LineData :=
  match (tile s g t).frame with
  | none => (s, lineContent s g (t * 1024 + i))
  | some f =>
    if linePoisoned s g (t * 1024 + i) then (s, none)
    else
      let here : Option LineData := if (chFailed s f i) = true then none else t1Line s f i
      match here with
      | some d => (corrected f i s, some d)
      | none => copierSource g t i f src s

/-- The lines of a tile's frame that hold a marker or a device error, or lie on a failed channel. -/
def badLines (s : State) (g t : Nat) : List Nat :=
  match (tile s g t).frame with
  | none => []
  | some f =>
    let n := setOfFrame s f
    let failed : Bool := match n with
      | some k => (List.range 16).any (fun c => (chOf s c).state == .failed && (chOf s c).set == k && (setOf s k).valid)
      | none => false
    if failed then (List.range 1024).filter (fun i => (t1Line s f i).isNone || chFailed s f i)
    else (s.tier.t1poison.filter (fun k => decide (k / 1024 = f))).map (· % 1024)
      ++ (s.tier.t1bad.filter (fun p => decide (p.1 / 1024 = f))).map (fun p => p.1 % 1024)

/-- R219: what a T2 copier does first: lines it cannot read are replaced or poisoned in the tile's map with
ORIGIN 3. -/
def copierScan (g t src : Nat) (s : State) : State :=
  forEach (badLines s g t) (fun i u =>
    let r := copierLine g t i src u
    match r.2 with
    | some _ => r.1
    | none => poisonLines g t (BitVec.ofNat 1024 (2 ^ i)) 3 r.1) s

/-- The content a whole-tile copy programs: line by line from the frame, zeros for poisoned lines (R219). -/
def tileLines (s : State) (g t : Nat) : List LineData :=
  (List.range 1024).map (fun i => (lineContent s g (t * 1024 + i)).getD 0)

/-! ## Evacuation -/

/-- The sets named as degraded sets of a set, ONLINE ones. -/
def degradedSets (s : State) (n : Nat) : List Nat :=
  (bitsSet (setOf s n).degraded).filter (fun k => setOpen (setOf s k))

/-- Tiles with a frame in a set: frame, grove, tile. -/
def setTiles (s : State) (n : Nat) : List (Nat × Nat × Nat) :=
  (SMap.present s.tier.owner).filterMap (fun p =>
    if setOfFrame s p.1 = some n then some (p.1, p.2 / 2 ^ 32, p.2 % 2 ^ 32) else none)

/-- R226: tiles that are moved first: pinned, or with landing entries. -/
def moveFirst (s : State) (g t : Nat) : Bool := (tile s g t).pinned || tileLanded s g t

/-- R226: frames that demotion could free in a set. -/
def demotable (s : State) (n : Nat) : Nat :=
  ((setTiles s n).filter (fun x => !moveFirst s x.2.1 x.2.2 && !promoting s x.2.1 x.2.2)).length

/-- R226: frames of the first group: those of grove 1,023 and those of tiles that move first. -/
def firstGroup (s : State) (n : Nat) : Nat :=
  metaFrames s n + ((setTiles s n).filter (fun x => moveFirst s x.2.1 x.2.2)).length

/-- R226, R232: EVACUATE of a set, or its refusal: 1 no degraded set, 2 not ONLINE or another evacuation
runs, 3 too few frames. Answers the state and whether it started. -/
def evacRefusal (s : State) (n : Nat) : Nat :=
  let room := (degradedSets s n).foldl (fun k d => k + setFree s d + demotable s d) 0
  if !(setOf s n).valid || (setOf s n).degraded = 0 then 1
  else if (setOf s n).state != 0 || s.dram.evBusy then 2
  else if room < firstGroup s n then 3 else 0

/-- Changes every channel of a set. -/
def setChannels (n : Nat) (f : DramCh → DramCh) (s : State) : State :=
  let x := setOf s n
  forEach (List.range (2 ^ x.log2)) (fun k t => updCh (x.first + k) f t) s

/-- A channel that serves takes another state; a FAILED one stays FAILED. -/
def serveAs (st : ChState) (c : DramCh) : DramCh :=
  if c.state == .failed || c.state == .absent then c else { c with state := st }

/-- Starts an evacuation (R226). -/
def startEvac (n : Nat) (s : State) : State :=
  setChannels n (serveAs .evacuating) (updSet n (fun x => { x with state := 1 })
    { s with dram := { s.dram with evBusy := true, evSafe := s.dram.evSafe.filter (· ≠ n), evSet := n, evResult := 0 } })

/-- EVACUATE of a set: it starts, or its refusal is recorded (R226, R230, R232). -/
def tryEvac (n : Nat) (s : State) : State :=
  let r := evacRefusal s n
  if r = 0 then startEvac n s else { s with dram := { s.dram with evSet := n, evResult := r } }

/-- The set that is being evacuated. -/
def evacuating (s : State) : Option Nat := (List.range 16).find? (fun n => (setOf s n).valid && (setOf s n).state == 1)

/-- R228: an OFFLINE channel: its clocks stop, RESET_N is low, every other pin is in high impedance. -/
def powerDown (c : DramCh) : DramCh := { c with state := .offline, clkOn := false, resetN := false, hiZ := true }

/-- R206, R228: a channel that trains or serves: clocks running, RESET_N high, pins driven. -/
def powerUp (st : ChState) (c : DramCh) : DramCh := { c with state := st, clkOn := true, resetN := true, hiZ := false }

/-- R228: a set that holds no frame any more is OFFLINE: its channels are powered down; SAFE, event +9 on its first
channel. -/
def finishEvac (s : State) : State :=
  match evacuating s with
  | none => s
  | some n =>
    if setUsed s n = 0 then
      dramEvent (setOf s n).first 9
        (setChannels n powerDown (updSet n (fun x => { x with state := 2 })
          { s with dram := { s.dram with evBusy := false, evSafe := insertNat n s.dram.evSafe, evSet := n, evResult := 0 } }))
    else s

end Sys2Proof.Machine
end

