-- ==== Sys2Proof/Machine/PowerOps.lean ====
section
/-!
DEFINITION. What ends service: the quiesce of R165 and R409, the vault (R162, R165, R219), the loss of the
rails' state (R71, R382), power-down (R390, R391), power-up (R387, R388, R392), and Clearing (R407 to R410,
R501).
-/

namespace Sys2Proof.Machine

open Sys2Proof

/-- Changes the power supervisor. -/
def modPwr (f : Pwr → Pwr) (s : State) : State := { s with pwr := f s.pwr }

/-! ## Network ports -/

/-- A network port. -/
def netOf (s : State) (p : Nat) : NetPort := SMap.get s.net.ports {} p

/-- Changes a network port. -/
def updNet (p : Nat) (f : NetPort → NetPort) (s : State) : State :=
  { s with net := { s.net with ports := SMap.upd s.net.ports {} p f } }

/-- A network port's link goes DOWN: cause and link event (R323). -/
def netDown (p : Nat) (s : State) : State :=
  if (netOf s p).up then
    raiseAt (384 + p) p (setBit .netCause p 0 (updNet p (fun x => { x with up := false, speed := 0, lanes := 0 }) s))
  else s

/-- The PCS of a port is held in reset (R320, R436). -/
def netHold (p : Nat) (s : State) : State := updNet p (fun x => { x with held := true }) (netDown p s)

/-! ## Quiesce (R165 steps 2 to 4, R409 steps 1 and 2) -/

/-- R99: a STANDBY or JOINING node sends LEAVING with its last applied sequence number, on both paths. -/
def sendLeaving (s : State) : State :=
  if s.twin.role = .standby || s.twin.role = .joining then sendBoth (.leaving s.twin.applied) s else s

/-- An emitted durable piece that waited for room reaches its landing entry. -/
def placeQueued (q : QAcc) (s : State) : State :=
  match q with
  | .write id g p => if levelOf s g != .vol then landMerge g p.line p.data p.mask 0 (placingSrc s id) s else s
  | .read _ _ _ => s

/-- Entry points close; emitted inputs reach their landing entries, and what was not emitted is discarded
without an answer. Reads in flight are not answered. -/
def quiesce (s : State) : State :=
  let s1 := forEach s.can.queue placeQueued s
  { s1 with
    seqr := { s1.seqr with
      inputs := [], held := [], reads := [], jobs := [], gpf := [], placing := [], unsent := [] }
    can := { s1.can with queue := [] } }

/-- Every transmitter enters electrical idle: host links, network links and the UTL go down. -/
def linksDown (s : State) : State :=
  let s1 := forEach (List.range 16) (fun p t => if (portOf t p).formed then hostDown p t else t) s
  let s2 := forEach (List.range 8) (fun p t => if (netOf t p).formed then netHold p t else t) s1
  utlDown s2

/-! ## A store command that an outage abandons (R471) -/

/-- A little-endian word of the store. -/
def storeWord (s : State) (a : Nat) : Nat := leNat (SMap.readRun s.cfg.flash 0xFF a 4)

/-- Writes a word of the store. -/
def putStore (a v : Nat) (s : State) : State :=
  { s with cfg := { s.cfg with flash := SMap.writeRun s.cfg.flash 0xFF a (leBytes 4 v) } }

/-- R471: the running command is abandoned: a program leaves its word partly programmed, which is a free value
between the old and the new word; an erase leaves its sector half-erased. -/
def abandonStore (s : State) : State :=
  if !s.cfg.eng.busy then s
  else
    let a := s.cfg.eng.runAt
    let s1 := match s.cfg.eng.run with
      | 1 => useFree (putStore a (storeWord s a &&& (((s.cfg.eng.todo.head?).getD 0).toNat ||| (Config.anyWord s.free).toNat)) s)
      | 2 =>
        { s with cfg := { s.cfg with hdrs := SMap.upd s.cfg.hdrs {} (a / 65536) (fun h => { h with started := true, done := false }) } }
      | _ => s
    { s1 with cfg := { s1.cfg with eng := { bank := s.cfg.eng.bank, result := 5 } } }

/-- R467: the sectors of the wrapped-key area of a bank. -/
def keySectors (bank : Nat) : List Nat := (List.range 16).map (fun k => bank * 512 + 0x120 + k)

/-- R481: Glade's erase of the wrapped-key areas is cut: their sectors are half-erased, and their records are lost. -/
def cutKeyErase (s : State) : State :=
  if s.cfg.dbg != .opening then s
  else
    { s with
      cipher := { s.cipher with wrapped := [], logUsed := [] }
      cfg := { s.cfg with hdrs := (keySectors 0 ++ keySectors 1).foldl (fun m n =>
        SMap.upd m {} n (fun h => { h with started := true, done := false, erases := h.erases + 1 })) s.cfg.hdrs } }

/-! ## The vault (R162) -/

/-- Tiles of the groves of a level with dirty sectors that count in D, in tile-table order. -/
def dirtyTiles (s : State) (l : Level) : List (Nat × Nat × Tile) :=
  (tiles s).filter (fun p => decide (p.1 < 1023) && levelOf s p.1 == l && !p.2.2.sealed_ && p.2.2.sdirty != 0)

/-- The Cellar index: dirty sectors of LOCAL groves, then of MIRROR groves. -/
def cellarIndex (s : State) : List Nat :=
  (dirtyTiles s .loc ++ dirtyTiles s .mir).flatMap (fun p => (bitsSet p.2.2.sdirty).map (fun k => skey p.1 p.2.1 k))

/-- Grove, tile and sector of a Cellar index entry. -/
def ofSkey (k : Nat) : Nat × Nat × Nat := (k / 2 ^ 36, k / 16 % 2 ^ 32, k % 16)

/-- R219: the sector's frame holds a line that cannot be read. -/
def sectorBad (s : State) (g t sec : Nat) : Bool :=
  (badLines s g t).any (fun i => decide (i / 64 = sec) && !linePoisoned s g (t * 1024 + i))

/-- Sectors that SECTORS writes: not yet recorded, of a grove whose slot can be used, readable (R162, R165). -/
def vaultTodo (s : State) : List Nat :=
  (cellarIndex s).filter (fun k =>
    let x := ofSkey k
    !s.tier.celRecs.contains k && groveKeyed s x.1 && !sectorBad s x.1 x.2.1 x.2.2
      && (tile s x.1 x.2.1).frame.isSome)

/-- Number of the vault being written. -/
def vaultNum (s : State) : Nat := (s.tier.vault.map (fun (v : Vault) => v.num)).getD 0

/-- Writes a sector's Cellar record from its frame (R251). -/
def writeRecord (k : Nat) (s : State) : State :=
  let x := ofSkey k
  let s1 := forEach (List.range 64) (fun i t =>
    let line := x.2.2 * 64 + i
    { t with tier := { t.tier with
        cel := SMap.set t.tier.cel 0 (tkey x.1 x.2.1 * 1024 + line) ((lineContent s x.1 (x.2.1 * 1024 + line)).getD 0) } }) s
  useSlot (groveSlot s x.1) 1 (useGrove x.1 x.2.1 64
    (celWrite (vaultNum s) .sectors (some k) { s1 with tier := { s1.tier with celRecs := insertNat k s1.tier.celRecs } }))

/-- Writes the first `n` sectors that the vault still owes; a record whose program fails is written again at the next
location, on another die (R251). -/
def writeSectors (n : Nat) (fails : List Nat) (s : State) : State :=
  forEach ((vaultTodo s).take n) (fun k t => writeRecord k (onlyIf (fails.contains k) (celWrite (vaultNum t) .sectors none) t)) s

/-- R423, R534: an entry one of whose landing words is uncorrectable is vaulted with its poison mark. -/
def markLanding (s : State) (m : SMap (Option LandEntry)) : SMap (Option LandEntry) :=
  if anyBad s then
    m.map (fun p => (p.1, if protOk s 3 p.1 && protOk s 4 p.1 then p.2 else p.2.map (fun e => { e with poison := true })))
  else m

/-- LANDING, META and HEADER of a vault that begins now; LM_DONE is not written yet. -/
def newVault (s : State) : Vault :=
  { num := (match s.tier.vault with
      | some v => v.num + 1
      | none => 1)
    epoch := s.twin.epoch
    seq := s.seqr.nextSeq - 1
    gtc := now s
    mode := cellarMode s
    layout := s.cfg.layoutId
    land := markLanding s (s.can.land.filter (fun p => levelOf s (p.1 / 2 ^ 42) != .vol))
    meta_ := s.tier.md
    index := cellarIndex s
    done := s.tier.celRecs
    count := 0
    crc := 0
    cut := 0
    ms := 0
    retained := s.twin.retained }

/-- Changes the vault being written. -/
def modVault (f : Vault → Vault) (s : State) : State :=
  { s with tier := { s.tier with vault := s.tier.vault.map f } }

/-- The vault's records are those the Cellar holds. -/
def noteRecords (s : State) : State := modVault (fun v => { v with done := s.tier.celRecs }) s

/-- Blocks whose erase a die has begun (R250). -/
def erasesBegun (s : State) : List Nat :=
  s.nand.dies.filterMap (fun p => match p.2.cur with
    | some ⟨_, .erase b⟩ => some b
    | _ => none)

/-- R249: what the dies have begun to program goes on; what waits is dropped, and erases are abandoned, half-done. -/
def quietNand (s : State) : State :=
  let runs (p : Prog) : Bool := ((dieAt s (p.t2 / 2 ^ 22)).cur.map (·.job)) == some (.wordline (wlOf s p.t2))
  let half := (erasesBegun s).map (physBlk s)
  let isErase (o : DieOp) : Bool := match o.job with
    | .erase _ => true
    | _ => false
  { s with
    tier := { s.tier with progs := s.tier.progs.filter runs }
    nand := { s.nand with
      erasing := [], relocs := s.nand.relocs, half := (s.nand.half ++ half).dedup
      dies := SMap.mapVals s.nand.dies {} (fun d => { d with
        queue := [], rd := none, held := false, cur := d.cur.filter (fun o => !isErase o) }) } }

/-- R162, R165, R238: the Cellar action begins: stage 0xB, service ends, the vault is opened. NAND programs in
flight go on to complete; open stripes are unprotected; erases are abandoned. -/
def cellarAction (s : State) : State :=
  let s1 := abandonStore (linksDown (quiesce (sendLeaving s)))
  let s2 := modPwr (fun p => { p with state := .cellar, stage := 0xB, ready := false }) s1
  let v := newVault s2
  raise 562 (celWrite v.num .header none (quietNand { s2 with
    tier := { s2.tier with
      vault := some v, session := false, promos := [], moves := [], repairs := [], lates := []
      unprotected := s2.tier.unprotected ++ SMap.keys s2.nand.stripes }
    nand := { s2.nand with stripes := [] }
    integ := { s2.integ with scrubbing := false } }))

/-- R162: records of a vault's LANDING and META sections. -/
def lmRecords (s : State) (v : Vault) : Nat × Nat :=
  ((v.land.length + 63) / 64, s.tier.metaDirty.length + ((v.index.map (· / 16)).dedup.length + 511) / 512)

/-- R162, R251: LANDING, META and LM_DONE are written: 64 entries, one sector of grove 1,023 or the index of 512 tiles to a
record. -/
def writeLm (s : State) : State :=
  let v := vaultNum s
  let n := ((s.tier.vault.map (lmRecords s)).getD (0, 0))
  let s1 := useSlot (groveSlot s 1023) (n.1 + n.2)
    (celWrite v .lmDone none (celWriteN v .metaData n.2 (celWriteN v .landing n.1 s)))
  modVault (fun x => { x with cut := 1, land := markLanding s x.land }) s1

/-- Milliseconds since a GTC value, rounded up. -/
def msSince (s : State) (t : Nat) : Nat := ceilDiv (now s - t) 1000000

/-- R171: the duration of a vault that ends. -/
def endVault (s : State) : State := modVault (fun v => { v with ms := msSince s v.gtc }) s

/-- Where a rail cuts a vault in progress (R71, R391). -/
def cutVault (c : VaultCut) (s : State) : State :=
  match c with
  | .beforeLm => endVault s
  | .afterLm n => endVault (noteRecords (writeSectors n [] (writeLm s)))

/-! ## Loss of state -/

/-- Only the AON domain's registers keep their values. -/
def aonRegs (m : SMap Word) : SMap Word :=
  SMap.filterKeys m (fun a => match regAt a with
    | some (r, _) => r.clear == .aon
    | none => false)

/-- The media and what is kept in them: T2, Cellar, their metadata and figures. -/
def mediaOf (t : Tier) : Tier :=
  { t2 := t.t2, cel := t.cel, celRecs := t.celRecs, snap := t.snap, vault := t.vault, session := t.session,
    anchored := t.anchored, fingerprint := t.fingerprint, nandBytes := t.nandBytes, lifeStart := t.lifeStart,
    celBlocks := t.celBlocks, rollTile := t.rollTile, unprotected := t.unprotected }

/-- R237, R250: what the NAND parts hold. A wordline cut short holds nothing that can be used; an erase cut short leaves its
block half-done. Tables of the translation layer that only restate the media are kept with them (log 95). -/
def mediaNand (s0 : State) : Nand :=
  let s := forEach (s0.nand.dies.filterMap (fun p => match p.2.cur with
    | some ⟨_, .wordline w⟩ => some w
    | _ => none)) (fun w t => forEach ((wlSlots t w).filter (fun n => (SMap.find t.nand.owners n).isNone)) (fun n u => putOwner n 0 0 5 [] u) t) s0
  let n := s.nand
  { owners := n.owners, parityOwn := n.parityOwn, wseq := n.wseq, reads := n.reads, erases := n.erases, retired := n.retired,
    failing := n.failing, opens := n.opens, half := (n.half ++ (erasesBegun s).map (physBlk s)).dedup, cellar := n.cellar,
    celPlace := n.celPlace, celDie := n.celDie, anchors := n.anchors, anchorAt := n.anchorAt,
    chs := SMap.mapVals n.chs {} (fun c => { bad := c.bad }),
    dies := SMap.mapVals n.dies {} (fun d =>
      { state := if d.state = .retired then .retired else .absent, used := d.used, remap := d.remap }) }

/-- R71, R382: everything outside the AON domain, the media and the configuration store is lost. -/
def powerLoss (s : State) : State :=
  { pending := s.pending
    fuse := s.fuse
    pwr := s.pwr
    therm := { sensors := s.therm.sensors, tripAnalog := s.therm.tripAnalog,
               tripSensor := s.therm.tripSensor, tripTemp := s.therm.tripTemp }
    tier := { mediaOf s.tier with unprotected := s.tier.unprotected ++ SMap.keys s.nand.stripes }
    nand := mediaNand s
    host := { lds := [] }
    twin := { epoch := s.twin.epoch }
    cipher := { wrapped := s.cipher.wrapped, logUsed := s.cipher.logUsed, spSize := s.cipher.spSize }
    flt := { deferred := s.flt.deferred, raised := s.flt.raised }
    integ := { pending := s.integ.pending }
    cfg := { flash := s.cfg.flash, hdrs := s.cfg.hdrs, node := s.cfg.node, copies := s.cfg.copies
             savedDram := s.cfg.savedDram, savedNand := s.cfg.savedNand, rdp := s.cfg.rdp, lowering := s.cfg.lowering }
    regs := aonRegs s.regs
    out := s.out
    ids := s.ids
    free := s.free }

/-! ## Rails (R387 to R390) -/

/-- The table in use. -/
def tableOf (s : State) : PTable :=
  s.pwr.table.getD
    { steps := [], retries := 2, stretch := [], depends := [], throttle := 100,
      restartHold := false, checked := true, estoreReq := false }

/-- Drives EN[n], an edge of which starts the rail's ELAPSED (R398). -/
def setEn (n : Nat) (on : Bool) (s : State) : State :=
  modPwr (fun p => { p with
    en := if on then p.en ||| BitVec.ofNat 12 (2 ^ n) else p.en &&& ~~~ (BitVec.ofNat 12 (2 ^ n))
    enAt := SMap.put p.enAt n (some p.aonTime)
    elapsed := SMap.del p.elapsed n }) s

/-- PG[n] as filtered, an edge of which ends the ELAPSED of a rail that was switched (R398). -/
def setPg (n : Nat) (on : Bool) (s : State) : State :=
  modPwr (fun p => { p with
    pg := if on then p.pg ||| BitVec.ofNat 12 (2 ^ n) else p.pg &&& ~~~ (BitVec.ofNat 12 (2 ^ n))
    elapsed := match SMap.find p.enAt n with
      | some t => SMap.set p.elapsed 0 n (min 0xFFFE ((p.aonTime - t) / 10000))
      | none => p.elapsed }) s

/-- A rail that failed to come up or to fall (R414). -/
def railFail (n : Nat) (s : State) : State :=
  setBit .pwrRails 0 n (modPwr (fun p => { p with elapsed := SMap.set p.elapsed 0 n 0xFFFF }) s)

/-- The enabled rails in reverse step order (R390). -/
def railsUp (s : State) : List Nat :=
  (((tableOf s).steps.map (·.en)).filter (fun n => s.pwr.en.getLsbD n)).reverse

/-- R390, R399: the store's rails wait for the buffered records while both are good. -/
def holdForLog (s : State) (n : Nat) : Bool :=
  (n == 0 || n == 8) && (tableOf s).checked && !s.pwr.buf.isEmpty && s.pwr.pg.getLsbD 0 && s.pwr.pg.getLsbD 8

/-- The last rail has fallen: the off time begins, or a failed sequence waits or gives up (R388, R390). -/
def railsOff (s : State) : State :=
  if s.pwr.retrying then
    if s.pwr.attempt < (tableOf s).retries then modPwr (fun p => { p with sub := 2, downSteps := [] }) s
    else
      raisePwr 1 (modPwr (fun p => { p with
        state := .gaveUp, stage := 0, faultN := true, retrying := false, downSteps := [], sub := 0 })
        (logPwr 0x03 1025 s))
  else
    modPwr (fun p => { p with state := .offWait, stage := 0, offPast := false, downSteps := [], sub := 0 })
      (logPwr 0x06 0 s)

/-- Deasserts rails in order, stopping at one whose PG is still high or that is held for the log. -/
def dropRails (fuel : Nat) (l : List Nat) (s : State) : State :=
  match fuel, l with
  | 0, _ => s
  | _, [] => railsOff s
  | k + 1, n :: rest =>
    if holdForLog s n then modPwr (fun p => { p with downSteps := n :: rest, flushWait := true }) s
    else
      let s1 := setEn n false s
      if s1.pwr.pg.getLsbD n then modPwr (fun p => { p with downSteps := n :: rest }) s1
      else dropRails k rest s1

/-- R390: a power-down: RSTO_N low, then the rails in reverse order; what the rails fed is lost. -/
def startDown (toHold : Bool) (s : State) : State :=
  let s1 := powerLoss (cutKeyErase (abandonStore s))
  let s2 := modPwr (fun p => { p with
    state := .powerDown, stage := 0xC, rsto := 0, ready := false, faultN := false, stopped := false, warm := false,
    toHold := toHold, wasReady := false, retrying := false, flushWait := false, jtagHold := false }) s1
  dropRails 13 (railsUp s2) s2

/-- R391: a power-down that can be preceded by a Cellar action, which then begins (R55, R393). -/
def mayVault (s : State) : Bool :=
  canVault s && s.pwr.state == .on && !s.pwr.stopped
    && (s.pwr.stage == 10 || (s.pwr.warm && (s.pwr.stage == 8 || s.pwr.stage == 9)))

/-- R391: the Cellar action when the node can vault, else the power-down at once, with LEAVING (R390). -/
def vaultDown (toHold : Bool) (s : State) : State :=
  if mayVault s then cellarAction (modPwr (fun p => { p with toHold := toHold }) s)
  else startDown toHold (sendLeaving s)

/-- R387: step `k` begins; past the last step the rails are good and stage 3 begins. -/
def beginStep (k : Nat) (s : State) : State :=
  match (tableOf s).steps[k]? with
  | none =>
    modPwr (fun p => { p with stage := 3, sub := 0, state := .on }) (logPwr 0x01 0 s)
  | some st =>
    let s1 := modPwr (fun p => { p with stage := 2, step := k, sub := 0 }) s
    if s1.pwr.pg.getLsbD st.en then
      let s2 := raisePwr 0 (logPwr 0x02 1024 (railFail st.en (raisePwr 13 (logPwr 0x12 1037 s1))))
      let s3 := modPwr (fun p => { p with retrying := true, rsto := 0 }) s2
      dropRails 13 (railsUp s3) s3
    else setEn st.en true s1

/-- R388: a step fails: event 0, and the enabled rails go down in reverse order. -/
def stepFails (n : Nat) (s : State) : State :=
  let s1 := raisePwr 0 (logPwr 0x02 1024 (railFail n s))
  let s2 := modPwr (fun p => { p with retrying := true, rsto := 0 }) s1
  dropRails 13 (railsUp s2) s2

/-- R392, R401, R414: stage 1 of a cold bring-up begins. `kind` 0 VDD_AON valid, 1 AUTO restart, 2 POWER_ON. -/
def startStage1 (kind : Nat) (s : State) : State :=
  modPwr (fun p => { p with
    state := .powerUp, stage := 1, step := 0, attempt := 0, sub := 0, startKind := kind, startEvt := 0,
    faultN := false, ready := false, wasReady := false, stopped := false, warm := false, waitSupply := false, offPast := false,
    retrying := false, ups := p.ups + 1, upAt := p.aonTime, enAt := [], elapsed := [] }) s

/-- R392: AUTO restarts once the supply is there and the store is, where it is required. -/
def tryAuto (s : State) : State :=
  if s.pwr.state = .offWait && s.pwr.offPast && !s.pwr.infail && (s.pwr.estore || !(tableOf s).estoreReq) then
    startStage1 1 (logPwr 0x0A 0 s)
  else s

/-- R404: a stop: the node stays powered with FAULT_N low. -/
def stopNode (s : State) : State := modPwr (fun p => { p with stopped := true, faultN := true }) s

/-! ## Clearing (R407 to R410) -/

/-- R407: a trigger has an effect: from stage 3 of a cold bring-up on, outside a stop, a Cellar action and a
power-down. -/
def clearable (s : State) : Bool :=
  !s.pwr.stopped && ((decide (3 ≤ s.pwr.stage) && decide (s.pwr.stage ≤ 10)) || s.pwr.stage == 0xD)

/-- R409, R410: a Clearing trigger: entry points close, links go DOWN, inputs not emitted are discarded. The
fourth trigger within 60 s powers the node down instead. -/
def startClearing (evt : Nat) (s : State) : State :=
  if !clearable s then s
  else
    let recent := s.pwr.clearAt.filter (fun t => decide (now s - t < 60000000000))
    if 3 ≤ recent.length then
      vaultDown true (logPwr 0x0D 1036 (raisePwr 12 (modPwr (fun p => { p with clearAt := recent ++ [now s] }) s)))
    else
      let s1 := modPwr (fun p => { p with
        clears := satAdd 32 p.clears 1
        clearAt := recent ++ [now s]
        startKind := 3
        upAt := p.aonTime
        startEvt := evt }) (logPwr 0x0F (1024 + evt) s)
      let s2 := cutKeyErase (abandonStore (linksDown (quiesce (sendLeaving s1))))
      let s3 := modPwr (fun p => { p with stage := 0xD, ready := false, warm := true }) s2
      { s3 with integ := { s3.integ with scrubbing := false } }

/-- R501: what a Clearing leaves of the stored registers. -/
def clearedRegs (m : SMap Word) : SMap Word :=
  m.foldl (fun acc p => match regAt p.1 with
    | some (r, _) => SMap.set acc (lo32 r.resetWord) p.1 (lo32 (r.cleared p.2.toNat))
    | none => acc) []

/-- Frames held by promotions and moves that a Clearing abandons are free again (R168). -/
def freeWork (s : State) : State :=
  forEach s.tier.moves (fun m t => dropFrame m.dst t) s

/-- R217: the DIMMs of every channel in use enter self-refresh. -/
def allSelfRefresh (s : State) : State :=
  { s with dram := { s.dram with chs := SMap.mapVals s.dram.chs {} (fun c =>
      if c.state = .online || c.state = .evacuating then { c with state := .selfRefresh } else c) } }

/-- R408, R501: the reset of a Clearing. T1 stays in self-refresh, landing entries, time, epoch and what the
chapters name are kept; everything else is reset. -/
def clearReset (s0 : State) : State :=
  let s := freeWork s0
  { pending := s.pending
    fuse := s.fuse
    pwr := { s.pwr with stage := 3, sub := 0, stopped := false, wasReady := false }
    clk := { gtc := s.clk.gtc, disc := s.clk.disc, stepped := s.clk.stepped, running := s.clk.running &&& 0x1200000 }
    therm := { s.therm with quads := [], began := false }
    seqr := { nextSeq := s.seqr.nextSeq }
    can := { land := SMap.mapVals s.can.land none (Option.map (fun e => { e with draining := false, remerged := false })) }
    tier := { s.tier with progs := [], repairs := [], moves := [], lates := [], readOnly := [],
                          promos := s.tier.promos.map (fun p => { p with kind := 0, arrived := 0, read := 0, waiters := [] })
                          wearQuota := 0, wearAllow := 0, wearLimit := false, ungoverned := 0, throttle := false, draining := false
                          vaultLast := (0, 0), ttCache := [] }
    dram := { s.dram with tokens := [], subs := []
                          chs := SMap.mapVals s.dram.chs {} (fun c => { c with ranks := [], caRec := [] }) }
    nand := (quietNand s).nand
    host := { ports := SMap.mapVals s.host.ports {} (fun x => { log := x.log })
              lds := SMap.mapVals s.host.lds {} (fun x => { bound := x.bound, extents := x.extents }) }
    twin := { epoch := s.twin.epoch, applied := s.twin.applied, ackSeq := s.twin.ackSeq, retained := s.twin.retained,
              installed := s.twin.installed, needBulk := s.twin.needBulk, t1Intact := s.twin.t1Intact }
    cipher := { slots := SMap.mapVals s.cipher.slots {} emptySlot, wrapped := s.cipher.wrapped,
                logUsed := s.cipher.logUsed, badLanes := s.cipher.badLanes, lanesUp := s.cipher.lanesUp,
                dukBlocked := s.cipher.dukBlocked, spSize := s.cipher.spSize }
    flt := { deferred := s.flt.deferred, raised := s.flt.raised }
    integ := { pending := s.integ.pending, spares := s.integ.spares, noSpare := s.integ.noSpare,
               bad := SMap.filterKeys s.integ.bad (fun k => decide (3584 * 2048 ≤ k) && decide (k < 6144 * 2048)) }
    recd := { store := s.recd.store, frozen := s.recd.frozen, full := s.recd.full }
    cfg := { flash := s.cfg.flash, hdrs := s.cfg.hdrs, node := s.cfg.node, copies := s.cfg.copies
             savedDram := s.cfg.savedDram, savedNand := s.cfg.savedNand, rdp := s.cfg.rdp, lowering := s.cfg.lowering, locked := s.cfg.locked,
             i3c := s.cfg.i3c, jtagIr := s.cfg.jtagIr }
    regs := clearedRegs s.regs
    out := s.out
    ids := s.ids
    free := s.free }

end Sys2Proof.Machine
end

