-- ==== Sys2Proof/Machine/React.lean ====
section
/-!
DEFINITION. The fault collector: the profile of R431, counting (R432), the reaction ladder (R435, R436), what
meets in one cycle (R437), the condition change of R74, and `settle`, which ends every command by taking the
occurrences it raised.
-/

namespace Sys2Proof.Machine

open Sys2Proof

/-! ## Sources -/

/-- R431: profile I, informational. -/
def profileI (e : Nat) : Bool :=
  [9, 398, 418, 431, 448, 451, 476, 477, 514, 515, 562, 563, 581].contains e
    || (decide (64 ≤ e) && decide (e < 224) && decide ((e - 64) % 10 = 9))

/-- R431: profile C, corrected. -/
def profileC (e : Nat) : Bool :=
  [440, 442, 443, 445, 446].contains e || (decide (496 ≤ e) && decide (e ≤ 502))
    || (decide (64 ≤ e) && decide (e < 224) && decide ((e - 64) % 10 = 0))
    || (decide (224 ≤ e) && decide (e < 320) && decide ((e - 224) % 3 = 0))

/-- R431: profile U, Clearing. -/
def profileU (e : Nat) : Bool := [441, 444, 447].contains e || (decide (503 ≤ e) && decide (e ≤ 509))

/-- R431: settings of a source without a record; W is 1 s. -/
def fltDefault (e : Nat) : FltSrc :=
  { n := if profileC e then 64 else 1
    level := if profileI e then 0 else if profileU e then 3 else 1
    grace := 0
    wUnit := 2
    wVal := 1
    count := 0
    severe := false
    lvl := 0
    timer := none
    tgt := 0 }

/-- A source. -/
def fltOf (s : State) (e : Nat) : FltSrc := (SMap.find s.flt.src e).getD (fltDefault e)

/-- Writes a source. -/
def setFlt (e : Nat) (x : FltSrc) (s : State) : State :=
  { s with flt := { s.flt with src := SMap.set s.flt.src none e (if x = fltDefault e then none else some x) } }

/-- R435, R440: ALERT_N is low while a severe source at L1 or above is unacknowledged. -/
def alertNow (s : State) : Bool := (SMap.present s.flt.src).any (fun p => p.2.severe && decide (1 ≤ p.2.lvl))

/-- ALERT_N follows the severe sources. -/
def driveAlert (s : State) : State := { s with flt := { s.flt with alert := alertNow s } }

/-- W in ns (R441). -/
def windowNs (x : FltSrc) : Nat :=
  x.wVal * (if x.wUnit = 0 then 1000 else if x.wUnit = 1 then 1000000 else 1000000000)

/-- R434: the sticky bit of a source. -/
def setSticky (e : Nat) (s : State) : State :=
  setRegWord .fltSticky (e / 32) 0 (putBits (regWord s .fltSticky (e / 32)) (e % 32) (e % 32) 1) s

/-- R434: FLT_FIRST while it is empty. -/
def noteFirst (e g : Nat) (s : State) : State :=
  if fld s .fltFirst 31 31 = 1 then s
  else
    setRegWord .fltFirstHi 0 0 (g / 2 ^ 32)
      (setRegWord .fltFirstLo 0 0 g (setRegWord .fltFirst 0 0 (2 ^ 31 + e) s))

/-- R435, `arm`: the grace timer runs at L1 and L2. -/
def armed (x : FltSrc) (t : Nat) : FltSrc :=
  { x with timer := if x.grace != 0 && (x.lvl == 1 || x.lvl == 2) then some (t + x.grace * 1000000) else none }

/-- R432, R435: an occurrence; the level is that of a source that becomes severe on it. -/
def occur (r : Raised) (s : State) : State × Option Nat :=
  let s1 := setSticky r.event s
  let x := fltOf s1 r.event
  let c := min 255 (x.count + 1)
  if !x.severe && decide (x.n ≤ c) then
    let y := armed { x with count := c, severe := true, lvl := x.level, tgt := r.tgt } (now s)
    (noteFirst r.event (r.stamp.getD (now s)) (setFlt r.event y s1), some x.level)
  else (setFlt r.event { x with count := c } s1, none)

/-! ## The ladder -/

/-- R435, L1: MCTP event message, and MSI-X 7 with a vendor record to every bound LD. Which of an LD's logs
takes the record is not stated (log 3). -/
def notify (e : Nat) (s : State) : State :=
  let s1 := send (.mctpEvent e (now s)) s
  let log := Config.choose s.free 4 % 4
  useFree (forEach s1.host.lds (fun p t =>
    if p.2.bound && p.2.present then
      send (.msix (p.1 / 16) (p.1 % 16) 7) (postRec (p.1 / 16) (p.1 % 16) log 1 [e, now s] t)
    else t) s1)

/-- R278: ISOLATE of a formed port. -/
def isolatePort (p : Nat) (s : State) : State :=
  if (portOf s p).formed then updPort p (fun x => { x with isolated := true }) s else s

/-- Network ports that use lane group `q` under the FORM (R286). -/
def netPortsOf (s : State) (q : Nat) : List Nat :=
  match (img s).lanes.form with
  | 0 => [q / 2]
  | 1 => [q]
  | _ => [2 * q, 2 * q + 1]

/-- R436: every die of a NAND channel is RETIRING. -/
def retireChannel (n : Nat) (s : State) : State :=
  forEach ((s.nand.dies.map (·.1)).filter (fun k => k / 32 = n)) retireDie s

/-- R436: containment of the target of a source; a group without a target sets NO_TARGET. -/
def contain (e tgt : Nat) (s : State) : State :=
  if 64 ≤ e ∧ e < 224 then
    tryEvac (chOf s ((e - 64) / 10)).set s
  else if 224 ≤ e ∧ e < 320 then retireChannel ((e - 224) / 3) s
  else if 320 ≤ e ∧ e < 384 then isolatePort ((e - 320) / 4) s
  else if 32 ≤ e ∧ e < 36 then forEach (List.range 4) (fun k => isolatePort ((e - 32) * 4 + k)) s
  else if 384 ≤ e ∧ e < 392 then netHold (e - 384) s
  else if 36 ≤ e ∧ e < 40 then
    forEach (netPortsOf s (e - 36)) (fun p t => if (netOf t p).formed then netHold p t else t) s
  else if e = 577 then localInput (.readOnly tgt) s
  else setBit .fltStatus 0 27 s

/-- R436: the group of the source has a target of L2. -/
def hasTarget (e : Nat) : Bool :=
  (decide (32 ≤ e) && decide (e < 40)) || (decide (64 ≤ e) && decide (e < 392)) || e == 577

/-- R391, L4: power-off, after a Cellar action when the node can vault. -/
def powerOff (e : Nat) (s : State) : State :=
  if s.pwr.state = .cellar || s.pwr.state = .powerDown then s else vaultDown true (logPwr 0x0D (1024 + e) s)

/-- One occurrence of a batch with the level at which its source became severe. -/
structure Hit where
  event : Nat
  tgt   : Nat
  level : Nat
  deriving DecidableEq, Repr

/-- R435, R437: the actions of sources that became severe or escalated in one cycle: L1 for each, then the
highest node action, L2 only where neither L3 nor L4 is taken. -/
def actAll (hits : List Hit) (forced : List (Nat × Nat)) (s : State) : State :=
  let s1 := forEach (hits.filter (fun h => decide (1 ≤ h.level))) (fun h => notify h.event) s
  let off := (hits.filter (fun h => decide (4 ≤ h.level))).map (·.event)
    ++ (forced.filter (fun f => f.2 = 4)).map (·.1)
  let clr := (hits.filter (fun h => decide (h.level = 3))).map (·.event)
    ++ (forced.filter (fun f => f.2 = 3)).map (·.1)
  match off, clr with
  | e :: _, _ => powerOff e s1
  | [], e :: _ => startClearing e s1
  | [], [] => forEach (hits.filter (fun h => decide (h.level = 2))) (fun h => contain h.event h.tgt) s1

/-- Takes a batch of occurrences: counting first, in order, then the actions. From a Clearing trigger until
stage 3 only sticky bits are set (R437). -/
def takeBatch (batch : List Raised) (s : State) : State :=
  let real := batch.filter (fun r => eventListed s r.event)
  let forced := (batch.filter (fun r => r.force != 0)).map (fun r => (r.event, r.force))
  if s.pwr.stage = 0xD then
    actAll [] forced (forEach real (fun r => setSticky r.event) s)
  else
    let r := real.foldl (fun (a : State × List Hit) r =>
      let o := occur r a.1
      (o.1, match o.2 with
        | some l => a.2 ++ [⟨r.event, r.tgt, l⟩]
        | none => a.2)) (s, [])
    driveAlert (actAll r.2 forced r.1)

/-- Supervisor events, which wait for the next stage 3 while no collector runs (R393). -/
def pwrEvent (e : Nat) : Bool := decide (e ≤ 13) || e == 611 || (decide (624 ≤ e) && decide (e ≤ 629))

/-- Takes what was raised, round by round: an action can raise events of its own. -/
def drainRaised (fuel : Nat) (s : State) : State :=
  match fuel with
  | 0 => { s with flt := { s.flt with raised := [] } }
  | k + 1 =>
    if s.flt.raised.isEmpty then s
    else
      let batch := s.flt.raised
      let s1 := { s with flt := { s.flt with raised := [] } }
      if collecting s || s.pwr.stage = 0xD then drainRaised k (takeBatch batch s1)
      else
        { s1 with flt := { s1.flt with
            deferred := s1.flt.deferred
              ++ ((batch.filter (fun r => pwrEvent r.event)).map (fun r => (now s, r.event))) } }

/-! ## The node's condition (R74, R159) -/

/-- Cannot vault; SOLO. -/
def nodeCond (s : State) : Bool × Bool := (!canVault s, s.twin.role == .solo)

/-- A grove of a level in `ok` exists. -/
def anyGrove (s : State) (ok : Level → Bool) : Bool := s.tier.md.groves.any (fun p => match p.2 with
  | some r => ok r.level
  | none => false)

/-- The node's condition as bring-up finds it is no change of it (R74). -/
def syncCond (s : State) : State := { s with tier := { s.tier with lastCond := nodeCond s } }

/-- R74, R278: NOT_VAULTED or DEGRADED of some grove changes: event 560, and MSI-X 8 to the LDs that map one. -/
def condChange (s : State) : State :=
  let c := nodeCond s
  if c = s.tier.lastCond then s
  else
    let s1 := { s with tier := { s.tier with lastCond := c } }
    let v := decide (c.1 ≠ s.tier.lastCond.1)
    let d := decide (c.2 ≠ s.tier.lastCond.2)
    let hits (g : Nat) : Bool := (v && levelOf s g != .vol) || (d && levelOf s g == .mir)
    let up := (s.pwr.stage == 9 || s.pwr.stage == 10) && !s.pwr.stopped
    if !up || !anyGrove s (fun l => (v && l != .vol) || (d && l == .mir)) then s1
    else
      raise 560 (forEach s1.host.lds (fun p t =>
        if isReady s && p.2.present && s.tier.md.map.any (fun e => e.1 / 2 ^ 22 = p.1 && (match e.2 with
            | some x => x.valid && hits x.grove
            | none => false)) then send (.msix (p.1 / 16) (p.1 % 16) 8) t
        else t) s1)

/-- R159: under CEILING, D stands at the dirty ceiling. -/
def atCeiling (s : State) : Bool :=
  cellarMode s == 1 && decide (fld s .tierCeiling 10 0 * 262144 ≤ dirtySectors s)

/-- R159: THROTTLE follows D; event 565 as D reaches the ceiling. -/
def ceilChange (s : State) : State :=
  if s.tier.throttle = atCeiling s then s
  else onlyIf (atCeiling s) (raise 565) { s with tier := { s.tier with throttle := atCeiling s } }

/-- The end of every command: the ceiling, the node's condition, then the occurrences it raised (R437). -/
def settle (s : State) : State := drainRaised 5 (condChange (ceilChange (reapBufs (settleNand s))))

/-- The outcome of a command. -/
def done (s : State) : Host.Outcome State Fault Refusal := .next (settle s)

/-- The outcome of a physical event, with the effect `t` on a unit of this part. A unit that the part lacks gives
no effect: its balls are unconnected inside the package and its clock domains are gated (R2, R10, log 7). -/
def onUnit (ok : Bool) (s t : State) : Host.Outcome State Fault Refusal := if ok then done t else .next s

end Sys2Proof.Machine
end

