-- ==== Sys2Proof/Machine/Access.lean ====
section
/-!
DEFINITION. How a command of management or of a mailbox reaches the node (R279, R403, R479, R485, R493), and
the register writes that only management makes (R500).
-/

namespace Sys2Proof.Machine

open Sys2Proof

/-- The path reaches the node now: the service processor runs; the I3C target answers in AON standby, the off
time, GAVE_UP, stage 1, a stop and at READY (R403); Glade is OPEN (R481); the LD's mailbox is ready (R279). -/
def pathUp (s : State) (p : Path) : Bool :=
  match p with
  | .sp => s.cfg.spRun
  | .mgmt => s.pwr.aon && (decide (s.pwr.stage ≤ 1) || s.pwr.stopped || isReady s)
  | .glade => s.cfg.dbg == .opened
  | .mailbox q l => isReady s && (ldOf s q l).present && (portOf s q).link == .up

/-- A result code in 0x01 to 0x7F that the spec does not state (log 3). -/
def openCode (s : State) : Nat := 1 + Config.choose s.free 127 % 127

/-- Completes a command whose refusal has no stated code. -/
def refuseOpen (p : Path) (tag code : Nat) (s : State) : State :=
  useFree (complete p tag code (openCode s) [] s)

/-- R485: a Belvor command other than the power commands: 0x84 outside READY. -/
def belvor (p : Path) (tag code : Nat) (f : State → State) (s : State) : State :=
  if !pathUp s p then s
  else if isReady s then f s else complete p tag code 0x84 [] s

/-- R485: one that needs MGMT. -/
def belvorMgmt (p : Path) (tag code : Nat) (f : State → State) (s : State) : State :=
  belvor p tag code (mgmtOnly p tag code f) s

/-- R485: a version 1 request for a command of version 2 is unsupported. -/
def fromV2 (v1 : Bool) (p : Path) (tag code : Nat) (f : State → State) (s : State) : State :=
  if v1 then complete p tag code 0x80 [] s else f s

/-- R403, R485: a power command, served in every state its path reaches. -/
def belvorPower (p : Path) (tag code : Nat) (f : State → State) (s : State) : State :=
  if !pathUp s p then s else mgmtOnly p tag code f s

/-- R493: the path reaches control space now; the management port does so only at READY. -/
def regUp (s : State) (p : Path) : Bool := pathUp s p && (p != .mgmt || isReady s)

/-- A write of a register of management's alone, with its own rule (R500). -/
def ctlWrite (p : Path) (addr : Nat) (f : State → State) (s : State) : State :=
  if !regUp s p then s else mgmtWrite p addr f s

/-- A command register's write that its state refuses: ignored, with an access event of cause 4. -/
def refuseWrite (p : Path) (addr : Nat) (s : State) : State := accessEvent true 4 p addr s

end Sys2Proof.Machine
end

