-- ==== Sys2Proof/Machine/ImageParse.lean ====
section
/-!
DEFINITION. Reading a Gemain image from the bytes of a bank (R356 to R374): the header, the section table and
each section's fields, put into the typed image in format 4 form (R360). Nothing is checked here; a field that
the checks of Machine/ImageCheck.lean refuse is read all the same.
-/

namespace Sys2Proof.Machine

open Sys2Proof

/-- A section of the table with its bytes (R358). -/
structure ImgSec where
  typ   : Nat
  rsv   : Nat
  off   : Nat
  len   : Nat
  crc   : Nat
  bytes : List Byte
  deriving DecidableEq, Repr

/-- Header fields, section table and signature block (R357 to R359). -/
structure RawImg where
  magic    : Nat
  fmt      : Nat
  hdrLen   : Nat
  version  : Nat
  part     : Nat
  stepping : Nat
  rsv      : Nat
  length   : Nat
  count    : Nat
  secs     : List ImgSec
  alg      : Nat
  sigRsv   : Nat
  deriving DecidableEq, Repr

/-! ## Raw image -/

/-- R353, R465: store address of an image bank: 1 A, 2 B. -/
def imgBase (bank : Nat) : Nat := if bank = 2 then 0x2800000 else 0x0800000

/-- Bytes of the store. -/
def storeBytes (s : State) (a n : Nat) : List Byte := SMap.readRun s.cfg.flash 0xFF a n

/-- A little-endian number of the store. -/
def storeLe (s : State) (a n : Nat) : Nat := leNat (storeBytes s a n)

/-- Bytes of a section-table entry (R358, R360). -/
def entBytes (fmt : Nat) : Nat := if fmt = 3 then 12 else 16

/-- Entry `i` of the section table. -/
def readSec (s : State) (base fmt i : Nat) : ImgSec :=
  let e := base + 64 + entBytes fmt * i
  let off := storeLe s (e + 4) 4
  let len := storeLe s (e + 8) 4
  { typ := storeLe s e 1
    rsv := storeLe s (e + 1) 3
    off := off
    len := len
    crc := if fmt = 3 then 0 else storeLe s (e + 12) 4
    bytes := storeBytes s (base + off) (min len 0x800000) }

/-- The image of a bank as it lies in the store. -/
def readRaw (s : State) (bank : Nat) : RawImg :=
  let b := imgBase bank
  let fmt := storeLe s (b + 4) 2
  let len := storeLe s (b + 16) 4
  let count := storeLe s (b + 20) 2
  { magic := storeLe s b 4
    fmt := fmt
    hdrLen := storeLe s (b + 6) 2
    version := storeLe s (b + 8) 4
    part := storeLe s (b + 12) 2
    stepping := storeLe s (b + 14) 1
    rsv := storeLe s (b + 15) 1 + storeLe s (b + 22) 10
    length := len
    count := count
    secs := (List.range (min count 16)).map (readSec s b fmt)
    alg := storeLe s (b + (len - 208)) 2
    sigRsv := storeLe s (b + (len - 206)) 6 + storeLe s (b + (len - 8)) 8 }

/-- A section's bytes. -/
def RawImg.sec (r : RawImg) (t : Nat) : Option (List Byte) := (r.secs.find? (fun x => x.typ = t)).map (·.bytes)

/-- A section's bytes; none of an absent one. -/
def RawImg.secB (r : RawImg) (t : Nat) : List Byte := (r.sec t).getD []

/-! ## Fields -/

/-- Bit `n` of the byte at `o`. -/
def bitAt (b : List Byte) (o n : Nat) : Bool := bitOf (leAt b o 1) n

/-- Records of `w` bytes from `o`. -/
def records (b : List Byte) (o w n : Nat) : List (List Byte) := (List.range n).map (fun i => slice b (o + w * i) w)

/-! ## Sections -/

/-- R361. -/
def parseClocks (b : Option (List Byte)) : ImgClocks :=
  match b with
  | none => {}
  | some b => { timeSrc := leAt b 0 1, ptpPort := leAt b 1 1, ppsEdge := leAt b 2 1,
                refclk := (List.range 4).map (fun g => leAt b (4 + g) 1) }

/-- R362. -/
def parseLanes (b : List Byte) : ImgLanes :=
  { groups := (List.range 4).map (fun g => (leAt b g 1 / 16, leAt b g 1 % 4))
    form := leAt b 4 1
    rspWd := leAt b 6 2
    lds := (records b 16 8 (leAt b 8 2)).map (fun r => (leAt r 0 1 % 16, leAt r 1 1 % 16, leAt r 4 4)) }

/-- R363. -/
def parseDram (b : List Byte) : ImgDram :=
  { rate := leAt b 0 2
    srIdle := leAt b 4 4
    patTarget := leAt b 8 1
    patMax := leAt b 9 1
    chans := (records b 16 4 16).map (fun r =>
      { dimms := leAt r 0 1, density := leAt r 1 1, ranks := leAt r 2 1, stack := leAt r 3 1 })
    sets := (records b 80 16 (leAt b 2 1)).map (fun r =>
      { first := leAt r 0 1, log2 := leAt r 1 1, map := leAt r 2 1, gran := leAt r 3 1, base := leAt r 4 4,
        degraded := BitVec.ofNat 16 (leAt r 8 2) }) }

/-- R364. -/
def parseNand (b : List Byte) : ImgNand :=
  { nch := leAt b 0 1, ndies := leAt b 1 1, luns := leAt b 2 1, cell := leAt b 3 1, blocks := leAt b 4 2,
    pages := leAt b 6 2, pageKib := leAt b 8 2, spareBytes := leAt b 10 2, parity := bitAt b 12 0,
    sparePct := leAt b 13 1, geometry := slice b 0 64, rate := leAt b 64 1, retryMax := leAt b 65 1,
    op := leAt b 66 1, reformat := bitAt b 67 0, peRating := leAt b 68 4, slcPe := leAt b 72 4,
    rdLimit := leAt b 76 2, wlDelta := leAt b 78 2, scanTarget := leAt b 80 1, scanMax := leAt b 81 1,
    recLow := leAt b 82 1, recCrit := leAt b 83 1, rebuild := leAt b 84 2 }

/-- R365. -/
def parseTiers (b : List Byte) : ImgTiers :=
  { metaExtents := leAt b 0 4, ceiling := leAt b 4 2, lifeYears := leAt b 6 1, pinLimit := leAt b 7 1,
    floor := leAt b 8 2, agePeriod := leAt b 10 2, freeLow := leAt b 12 4, metaSlot := leAt b 16 2 % 4096 }

/-- R367: a level's code. -/
def levelCode (n : Nat) : Level := if n = 2 then .loc else if n = 3 then .mir else .vol

/-- R367: a region's policy. -/
def policyCode (n : Nat) : Policy :=
  if n % 4 = 0 then .wb else if n % 4 = 1 then .wt else if n % 4 = 2 then .wa else .na

/-- R360: a record of format 3 in format 4 form, without sealing rights. -/
def widenGrove (fmt3 : Bool) (r : List Byte) : List Byte :=
  if fmt3 then r.take 88 ++ List.replicate 32 0 ++ r.drop 88 else r

/-- R367: a grove or template record in format 4 form. -/
def parseGrove (r : List Byte) : GroveRec :=
  { grove := leAt r 0 2 % 1024
    op := leAt r 2 1
    level := levelCode (leAt r 3 1)
    keySlot := leAt r 4 2 % 4096
    wayClass := leAt r 6 1 % 32
    qos := leAt r 7 1 % 64
    extents := leAt r 8 4
    maxExtents := leAt r 12 4
    tmpl := leAt r 16 2
    regions := (List.range (min 8 (leAt r 18 1))).map (fun i =>
      { first := leAt r (24 + 8 * i) 4, policy := policyCode (leAt r (28 + 8 * i) 1) })
    sealers := (List.range (min 16 (leAt r 19 1))).map (fun i => leAt r (88 + 2 * i) 2 % 4096) }

/-- R367, R360: bytes of a grove record. -/
def groveBytes (fmt3 : Bool) : Nat := if fmt3 then 96 else 128

/-- R366 to R368: where the template, map and DC records start. -/
def tmplAt (fmt3 : Bool) (b : List Byte) : Nat := 32 + groveBytes fmt3 * leAt b 0 2

/-- Start of the map records. -/
def mapAt (fmt3 : Bool) (b : List Byte) : Nat := tmplAt fmt3 b + groveBytes fmt3 * leAt b 4 1

/-- Start of the DC region records. -/
def dcrAt (fmt3 : Bool) (b : List Byte) : Nat := mapAt fmt3 b + 24 * leAt b 8 4

/-- R366 to R368, R360. -/
def parseGroves (fmt3 : Bool) (b : List Byte) : ImgGroves :=
  let gs := (records b 32 (groveBytes fmt3) (leAt b 0 2)).map (widenGrove fmt3)
  let ts := (records b (tmplAt fmt3 b) (groveBytes fmt3) (leAt b 4 1)).map (widenGrove fmt3)
  { maxGroves := leAt b 2 2
    allowDelete := bitAt b 5 0
    groves := gs.map parseGrove
    tmpls := ts.map parseGrove
    maps := (records b (mapAt fmt3 b) 24 (leAt b 8 4)).map (fun r =>
      { ld := leAt r 0 2 % 256, rd := bitAt r 2 1, wr := bitAt r 2 0, dpa := leAt r 4 4, count := leAt r 8 4,
        grove := leAt r 12 2 % 1024, gext := leAt r 16 4 })
    regions := (records b (dcrAt fmt3 b) 16 (leAt b 12 2)).map (fun r =>
      { ld := leAt r 0 2 % 256, region := leAt r 2 1 % 8, base := leAt r 4 4, len := leAt r 8 4 })
    bytes := b.take 32 ++ gs.flatten ++ ts.flatten ++ b.drop (mapAt fmt3 b) }

/-- R369: CANOPY and QOS. -/
def parseCanopy (c q : Option (List Byte)) : ImgCanopy :=
  let base : ImgCanopy := match c with
    | none => {}
    | some b => { windfall := bitAt b 0 1, enable := bitAt b 0 0,
                  waymasks := (List.range 32).map (fun n => leAt b (4 + 2 * n) 2) }
  match q with
  | none => base
  | some b =>
    { base with
      regs := (records b 0 8 48).map (fun r =>
        { rt := bitAt r 0 7, kind := leAt r 0 1 % 4, rtBurst := leAt r 2 2, burst := leAt r 4 2, rate := leAt r 6 2 })
      binding := (List.range 6).map (fun i => leAt b (384 + i) 1) }

/-- R370. -/
def parseCipher (b : List Byte) : ImgCipher :=
  { autoRoll := bitAt b 0 0
    floors := (List.range 9).map (fun i => leAt b (1 + i) 1)
    slots := (records b 16 8 (leAt b 10 2)).map (fun r =>
      { slot := leAt r 0 2 % 4096, bind := leAt r 2 1, hardened := bitAt r 3 1, pair := bitAt r 3 0,
        target := leAt r 4 2 }) }

/-- An address in network order. -/
def ipAt (b : List Byte) (o : Nat) : BitVec 128 := BitVec.ofNat 128 (beNat (slice b o 16))

/-- R356: an IPv4 address stands as an IPv4-mapped IPv6 address. -/
def isMapped (ip : BitVec 128) : Bool := ip.toNat / 2 ^ 32 == 0xFFFF

/-- The prefix length of a mapped IPv4 prefix counts from its 32 address bits (DEDUCED, log 45). -/
def pfxBits (ip : BitVec 128) (n : Nat) : Nat := if isMapped ip && decide (n ≤ 32) then 96 + n else n

/-- R371: NET. -/
def parseNet (b : List Byte) : ImgNet :=
  let np := leAt b 3 1
  let na := leAt b 11 1
  { udpPort := leAt b 0 2, maxVer := leAt b 2 1, qpCredit := leAt b 4 2, reserve := leAt b 6 1,
    ackCount := leAt b 8 1, ackDelay := leAt b 9 1, rtoRetries := leAt b 10 1, rtoTimeout := leAt b 12 2,
    ports := (records b 32 48 np).map (fun r =>
      { port := leAt r 0 1, vlan := leAt r 2 2, mac := leAt r 4 6, gw4 := ipAt r 16, gw6 := ipAt r 32 })
    addrs := (records b (32 + 48 * np) 20 na).map (fun r => (leAt r 0 1, leAt r 1 1, ipAt r 4))
    classes := (records b (32 + 48 * np + 20 * na) 48 (leAt b 7 1)).map (fun r =>
      { pfx := ipAt r 0, pfxLen := pfxBits (ipAt r 0) (leAt r 16 1),
        keySlot := if leAt r 18 2 = 0xFFFF then none else some (leAt r 18 2), gcm := bitAt r 17 0,
        peerCredit := leAt r 20 4, qpCreditMax := leAt r 24 4, maxQps := leAt r 28 4, dscp := leAt r 32 1 }) }

/-- R371, R360: TWIN. -/
def parseTwin (fmt3 : Bool) (b : List Byte) : ImgTwin :=
  if fmt3 then { thb := leAt b 0 2, tjoin := leAt b 4 2, linkSlot := leAt b 6 2 % 4096 }
  else
    { thb := leAt b 0 2, fence := leAt b 2 1, netHb := bitAt b 3 0, tjoin := leAt b 4 2,
      linkSlot := leAt b 6 2 % 4096, hbPort := leAt b 8 1,
      hbUdp := if leAt b 10 2 = 0 then 7141 else leAt b 10 2, peerAddr := ipAt b 12 }

/-- R372. -/
def parseFaults (b : Option (List Byte)) : List ImgFault :=
  match b with
  | none => []
  | some b => (records b 4 8 (leAt b 0 2)).map (fun r =>
      { event := leAt r 0 2, n := leAt r 2 1, level := leAt r 3 1 % 8, wUnit := leAt r 4 2 / 2 ^ 14,
        wVal := leAt r 4 2 % 2 ^ 14, grace := leAt r 6 2 })

/-- R373: the step table; the three values of R385 come from MODES. -/
def parsePower (b : List Byte) (m : ImgModes) : PTable :=
  { steps := (records b 24 4 (leAt b 0 1)).map (fun r =>
      { en := leAt r 0 1, pgMs := leAt r 1 1, lowMs := leAt r 2 1, settle := leAt r 3 1 })
    retries := leAt b 1 1
    stretch := (List.range 4).map (fun i => leAt b (4 + 2 * i) 2)
    depends := (List.range 4).map (fun i => BitVec.ofNat 12 (leAt b (12 + 2 * i) 2))
    throttle := leAt b 20 1
    restartHold := m.restart == 1
    checked := m.log == 1
    estoreReq := m.cellar != 2 }

/-- R374: a mode's byte, or its default of R39. -/
def modeAt (b : List Byte) (o dflt : Nat) : Nat := if leAt b o 1 = 0xFF then dflt else leAt b o 1

/-- R39, R374. -/
def parseModes (b : Option (List Byte)) : ImgModes :=
  match b with
  | none => {}
  | some b =>
    { cellar := modeAt b 0 1, path := modeAt b 1 0, prot := modeAt b 2 0, refresh := modeAt b 3 0,
      log := modeAt b 4 1, policy := modeAt b 5 0, restart := modeAt b 6 0, debugGate := modeAt b 7 0 == 1 }

/-- R360: the whole image in format 4 form. -/
def parseImage (r : RawImg) : Image :=
  let fmt3 := r.fmt == 3
  let modes := if fmt3 then {} else parseModes (r.sec 0x10)
  let rec_ := if fmt3 then none else r.sec 0x0F
  { version := r.version
    format3 := fmt3
    clocks := parseClocks (r.sec 2)
    lanes := parseLanes (r.secB 3)
    dram := parseDram (r.secB 4)
    nand := parseNand (r.secB 5)
    tiers := parseTiers (r.secB 6)
    groves := parseGroves fmt3 (r.secB 7)
    canopy := parseCanopy (r.sec 8) (r.sec 9)
    cipher := parseCipher (r.secB 0x0C)
    net := (r.sec 0x0A).map parseNet
    twin := (r.sec 0x0B).map (parseTwin fmt3)
    recEpoch := (match rec_ with
      | some b => leAt b 0 4
      | none => 1000)
    recPaths := (match rec_ with
      | some b => leAt b 4 4
      | none => 0)
    faults := parseFaults (r.sec 0x0D)
    power := (r.sec 0x0E).map (fun b => parsePower b modes)
    modes := modes }

end Sys2Proof.Machine
end

