-- ==== Sys2Proof/Machine/ImageCheck.lean ====
section
/-!
DEFINITION. The checks of stages 5 and 6 on an image (R354 to R374): stage 5 in the order of the reason codes;
stage 6 section by section in ascending TYPE, each section's fields in their order, then the rules that tie
sections together, then what the running node and its stored state refuse (R376, R377). The order within
stage 6 is the model's (log 45).
-/

namespace Sys2Proof.Machine

open Sys2Proof

/-- One check: whether it fails, the reason, and the byte offset in its section. -/
abbrev Chk := Bool × Nat × Nat

/-- A failed check: stage, reason, TYPE of the section, byte offset. -/
structure ImgFail where
  stage  : Nat
  reason : Nat
  typ    : Nat
  off    : Nat
  deriving DecidableEq, Repr

/-- The first check that fails. -/
def firstFail (stage typ : Nat) (l : List Chk) : Option ImgFail :=
  (l.find? (fun c => c.1)).map (fun c => { stage := stage, reason := c.2.1, typ := typ, off := c.2.2 })

/-- A field outside its range. -/
def rng (b : List Byte) (o n lo hi : Nat) : Chk := (decide (leAt b o n < lo) || decide (hi < leAt b o n), 0x11, o)

/-- A reserved field that is not 0. -/
def rsv0 (b : List Byte) (o n : Nat) : Chk := (leAt b o n != 0, 0x11, o)

/-- Bits [hi:lo] of the field at `o` are reserved. -/
def rsvBits (b : List Byte) (o n hi lo : Nat) : Chk := (bitsOf (leAt b o n) hi lo != 0, 0x11, o)

/-- A section of another length than its contents take (log 45). -/
def lenIs (b : List Byte) (n o : Nat) : Chk := (b.length != n, 0x11, o)

/-- The checks of each record of a run. -/
def eachRec (o w n : Nat) (f : Nat → Nat → List Chk) : List Chk :=
  (List.range n).flatMap (fun i => f i (o + w * i))

/-! ## Stage 5 (R355 0x01 to 0x09) -/

/-- Sectors of a bank's firmware and image (R465). -/
def bankSectors (bank : Nat) : List Nat := (List.range 256).map (fun i => (if bank = 2 then 512 else 0) + i)

/-- A store command runs on the bank. -/
def bankBusy (s : State) (bank : Nat) : Bool := s.cfg.eng.busy && s.cfg.eng.bank == bank - 1

/-- R474: no firmware or image sector of the bank is half-erased or worn out. -/
def bankWhole (s : State) (bank : Nat) : Bool :=
  (bankSectors bank).all (fun n => sectorWhole (SMap.get s.cfg.hdrs {} n) && !(SMap.get s.cfg.hdrs {} n).bad)

/-- R358: the section table is in order, aligned, in bounds and free of overlap. -/
def tableOk (r : RawImg) : Bool :=
  let last := r.length - 208
  let top := if r.fmt = 3 then 0x0E else 0x10
  (r.secs.zip (r.secs.drop 1)).all (fun p => decide (p.1.typ < p.2.typ))
    && r.secs.all (fun x => decide (1 ≤ x.typ) && decide (x.typ ≤ top) && x.off % 8 == 0
        && decide (64 + entBytes r.fmt * r.count ≤ x.off) && decide (x.off + x.len ≤ last))
    && r.secs.all (fun x => r.secs.all (fun y => x.typ == y.typ || decide (x.off + x.len ≤ y.off) || decide (y.off + y.len ≤ x.off)))

/-- R354, R355, R357 to R360, R475: stage 5 on a bank. -/
def stage5Fail (s : State) (bank : Nat) (v : BankVerdict) : Option ImgFail :=
  let r := readRaw s bank
  let partNo := if isSmall s then 0x4808 else 0x4816
  firstFail 5 0
    [ (!v.fwReadable || bankBusy s bank || !bankWhole s bank, 0x01, 0),
      (r.magic != 0x4E4D4547, 0x02, 0),
      (r.fmt != 3 && r.fmt != 4, 0x03, 4),
      (r.hdrLen != 64 || decide (r.length < 1024) || decide (0x800000 < r.length) || r.length % 8 != 0
        || r.count == 0 || decide (16 < r.count), 0x04, 6),
      (r.part != partNo || (r.stepping != 0xB0 && r.stepping != 0), 0x05, 12),
      (!v.hashOk, 0x06, 0),
      (!v.sigOk || !v.fwSigOk || r.alg != 1, 0x07, 0),
      (!tableOk r, 0x08, 64),
      (r.fmt == 4 && r.secs.any (fun x => (crc32c x.bytes).toNat != x.crc), 0x09, 64) ]

/-! ## Formed ports -/

/-- R260: a host port of a group's BIF. -/
def bifForms (form k : Nat) : Bool := if form = 0 then k == 0 else if form = 1 then k % 2 == 0 else true

/-- R260, R362: the image forms the host port. -/
def imgForms (s : State) (im : Image) (p : Nat) : Bool :=
  decide (p < nHost s) && bifForms (((im.lanes.groups[p / 4]?).getD (0, 0)).2) (p % 4)

/-- Host ports the image forms. -/
def formedHosts (s : State) (im : Image) : List Nat := (List.range 16).filter (imgForms s im)

/-- R286, R358: network ports the image forms; none without a NET section. -/
def formedNets (s : State) (im : Image) : Nat := if im.net.isSome then nNet s im.lanes.form else 0

/-- Grove-map entries of the part (R44). -/
def mapRoom (s : State) : Nat := if isSmall s then 2097152 else 4194304

/-- Groves of the part (R366). -/
def groveMax (s : State) : Nat := if isSmall s then 511 else 1023

/-- Key slots of the part (R331). -/
def slotMax (s : State) : Nat := if isSmall s then 2048 else 4096

/-! ## Stage 6, section by section -/

/-- R361: CLOCKS. -/
def chkClocks (s : State) (im : Image) (b : List Byte) : List Chk :=
  [ lenIs b 16 0, rng b 0 1 0 2,
    (im.clocks.timeSrc == 2 && decide (formedNets s im ≤ im.clocks.ptpPort), 0x11, 1),
    rng b 2 1 0 1, rsv0 b 3 1 ]
    ++ (List.range 4).map (fun g => rng b (4 + g) 1 0 2) ++ [rsv0 b 8 8]

/-- LD records of a port. -/
def ldsOf (im : Image) (p : Nat) : List Nat := (im.lanes.lds.filter (fun x => x.1 = p)).map (fun x => x.2.1)

/-- Map entries of the records up to `i`. -/
def entriesTo (im : Image) (i : Nat) : Nat := ((im.lanes.lds.take (i + 1)).map (fun x => x.2.2)).foldl (· + ·) 0

/-- R44, R260, R285, R286, R362: LANES. -/
def chkLanes (s : State) (im : Image) (b : List Byte) : List Chk :=
  let n := leAt b 8 2
  let groups := if isSmall s then 2 else 4
  (List.range groups).flatMap (fun g =>
      [ (bitsOf (leAt b g 1) 7 4 == 0 || decide (6 < bitsOf (leAt b g 1) 7 4), 0x11, g),
        (bitsOf (leAt b g 1) 1 0 == 3, 0x11, g), rsvBits b g 1 3 2 ])
    ++ [ rng b 4 1 0 2, (isSmall s && leAt b 4 1 == 2, 0x12, 4), rsv0 b 5 1, rng b 6 2 1 65535,
         rng b 8 2 1 256, (isSmall s && decide (128 < n), 0x13, 8), rsv0 b 10 6, lenIs b (16 + 8 * n) 8 ]
    ++ eachRec 16 8 n (fun i o =>
      [ rsvBits b o 1 7 4, (decide (nHost s ≤ leAt b o 1), 0x13, o), (!imgForms s im (leAt b o 1), 0x12, o),
        rsvBits b (o + 1) 1 7 4, rsv0 b (o + 2) 2,
        ((im.lanes.lds.take i).any (fun x => x.1 = leAt b o 1 && x.2.1 = leAt b (o + 1) 1), 0x12, o + 1),
        (decide (mapRoom s < entriesTo im i), 0x13, o + 4) ])
    ++ [ ((formedHosts s im).any (fun p =>
          (ldsOf im p).isEmpty || !(List.range (ldsOf im p).length).all (fun k => (ldsOf im p).contains k)), 0x12, 16) ]

/-- R201: GiB of a channel: 16 data devices of a rank. -/
def chanGib (c : ImgChan) : Nat :=
  c.dimms * c.ranks * c.stack * (if c.density = 0 then 32 else if c.density = 1 then 48 else 64)

/-- Channels of a set. -/
def chansOf (x : ImgSet) : List Nat := (List.range (2 ^ x.log2)).map (fun i => x.first + i)

/-- A channel record. -/
def chanAt (d : ImgDram) (c : Nat) : ImgChan := (d.chans[c]?).getD { dimms := 0, density := 0, ranks := 0, stack := 0 }

/-- R209: frames of a set. -/
def imgFrames (d : ImgDram) (x : ImgSet) : Nat := 2 ^ x.log2 * chanGib (chanAt d x.first) * 16384

/-- Frames of all sets. -/
def allFrames (d : ImgDram) : Nat := (d.sets.map (imgFrames d)).foldl (· + ·) 0

/-- R4, R201, R202, R209, R210, R363: DRAM. -/
def chkDram (s : State) (im : Image) (b : List Byte) : List Chk :=
  let d := im.dram
  let n := leAt b 2 1
  [ (!([48, 56, 64, 72, 80] : List Nat).contains d.rate, 0x11, 0), (s.fuse.c6 && decide (64 < d.rate), 0x13, 0),
    rng b 2 1 1 16, rsv0 b 3 1, rng b 4 4 0 0xFFFFF, rng b 8 1 1 168, rng b 9 1 1 255, rsv0 b 10 6,
    lenIs b (80 + 16 * n) 2 ]
    ++ eachRec 16 4 16 (fun i o =>
      let used := leAt b o 1 != 0
      [ rng b o 1 0 2, (used && decide (nSlices s ≤ i), 0x13, o), rng b (o + 1) 1 0 2,
        (used && (leAt b (o + 2) 1 == 0 || decide (2 < leAt b (o + 2) 1)), 0x11, o + 2),
        (used && (leAt b (o + 3) 1 == 0 || decide (2 < leAt b (o + 3) 1)), 0x11, o + 3) ])
    ++ eachRec 80 16 n (fun i o =>
      match d.sets[i]? with
      | none => []
      | some x =>
        let cs := chansOf x
        [ rng b (o + 1) 1 0 4, rng b (o + 2) 1 0 3, rng b (o + 3) 1 0 1, rsv0 b (o + 10) 6,
          (decide (nSlices s < x.first + 2 ^ x.log2), 0x13, o),
          (x.first % 2 ^ x.log2 != 0 || (d.sets.take i).any (fun y => cs.any (fun c => (chansOf y).contains c)), 0x12, o),
          (cs.any (fun c => chanAt d c != chanAt d x.first) || (chanAt d x.first).dimms == 0, 0x12, o),
          (x.map == 3 && x.gran == 0, 0x12, o + 3),
          (decide (2 ^ 27 < x.base + imgFrames d x)
            || (d.sets.take i).any (fun y => decide (x.base < y.base + imgFrames d y) && decide (y.base < x.base + imgFrames d x)), 0x12, o + 4),
          ((bitsSet x.degraded).any (fun k => decide (n ≤ k)), 0x12, o + 8) ])

/-- User bytes of a die: 4 planes of 16 KiB pages (R233). -/
def dieBytes (x : ImgNand) : Nat := x.blocks * 4 * x.pages * 16384

/-- Dies of the node. -/
def allDies (x : ImgNand) : Nat := x.nch * x.ndies

/-- R233, R364: NAND. -/
def chkNand (s : State) (im : Image) (b : List Byte) : List Chk :=
  let x := im.nand
  [ lenIs b 96 0, rng b 0 1 1 32, (decide (nNand s < x.nch), 0x13, 0), rng b 1 1 1 32, rng b 2 1 1 2,
    (decide (16 * x.luns < x.ndies), 0x12, 1), rng b 3 1 1 2, rng b 4 2 1 4096, rng b 6 2 1 1024,
    (decide (250000000000 < dieBytes x), 0x12, 4),
    (decide ((if isSmall s then 128 else 256) * 1000000000000 < allDies x * dieBytes x), 0x12, 4),
    rng b 8 2 16 16, rng b 10 2 2048 65535, rng b 12 1 0 1, rng b 13 1 1 10, rsv0 b 14 2, rsv0 b 48 16,
    (!([24, 28, 32, 36] : List Nat).contains x.rate, 0x11, 64), rng b 65 1 0 16, rng b 66 1 7 50, rsvBits b 67 1 7 1,
    rng b 76 2 10 10000, rng b 78 2 50 5000, rng b 80 1 1 90, rng b 81 1 1 255, rng b 84 2 1 1000, rsv0 b 86 10 ]

/-- R134, R365: TIERS. -/
def chkTiers (s : State) (b : List Byte) : List Chk :=
  [ lenIs b 32 0, rng b 0 4 1 (if isSmall s then 2048 else 4096), rng b 4 2 1 1024, rng b 6 1 1 20, rng b 7 1 1 100,
    rng b 8 2 10 10000, rng b 10 2 10 10000, rsvBits b 16 2 15 12, rsv0 b 18 14 ]

/-- Regions ascend from extent 0 (R367). -/
def regionsOk : List Region → Bool
  | [] => true
  | r :: rest => (r.first == 0) && (rest.foldl (fun (acc : Bool × Nat) q =>
      (acc.1 && decide (acc.2 < q.first), q.first)) (true, 0)).1

/-- R13, R39, R367: a grove or template record at `o` of a section in format 4 form. -/
def chkGroveRec (small fmt3 tmpl : Bool) (b : List Byte) (o : Nat) : List Chk :=
  let r := parseGrove (widenGrove fmt3 (slice b o (groveBytes fmt3)))
  [ rsvBits b o 2 15 10, (!tmpl && r.grove == 1023, 0x12, o), (!tmpl && small && decide (510 < r.grove), 0x13, o), (tmpl && decide (63 < r.grove), 0x11, o),
    (r.op != (if tmpl then 4 else 0), 0x11, o + 2), rng b (o + 3) 1 1 3, rsvBits b (o + 4) 2 15 12,
    rng b (o + 6) 1 0 30, rng b (o + 7) 1 0 47, (tmpl && r.extents != 0, 0x11, o + 8),
    (decide (r.maxExtents < r.extents), 0x12, o + 8),
    (r.tmpl != 0xFFFF && decide (63 < r.tmpl), 0x11, o + 16), rng b (o + 18) 1 1 8,
    rng b (o + 19) 1 0 (if fmt3 then 0 else 16), rsv0 b (o + 20) 4, (!regionsOk r.regions, 0x12, o + 24) ]
    ++ (List.range r.regions.length).flatMap (fun i => [rsvBits b (o + 28 + 8 * i) 1 7 2, rsv0 b (o + 29 + 8 * i) 3])
    ++ (if fmt3 then [rsv0 b (o + 88) 8]
        else (List.range r.sealers.length).map (fun i => rsvBits b (o + 88 + 2 * i) 2 15 12) ++ [rsv0 b (o + 120) 8])

/-- Map entries the image gives an LD. -/
def imgEntries (im : Image) (ld : Nat) : Option Nat :=
  (im.lanes.lds.find? (fun x => 16 * x.1 + x.2.1 = ld)).map (fun x => x.2.2)

/-- DPA extents of every map and DC record in order: LD, first, count. -/
def dpaRuns (g : ImgGroves) : List (Nat × Nat × Nat) :=
  g.maps.map (fun m => (m.ld, m.dpa, m.count)) ++ g.regions.map (fun r => (r.ld, r.base, r.len))

/-- R368: the run of record `i` lies in its LD's entries and meets no earlier one. -/
def runOk (im : Image) (i : Nat) : Bool :=
  let rs := dpaRuns im.groves
  match rs[i]? with
  | none => true
  | some x =>
    (match imgEntries im x.1 with
      | some n => decide (x.2.1 + x.2.2 ≤ n)
      | none => false)
      && !(rs.take i).any (fun y => y.1 == x.1 && decide (y.2.1 < x.2.1 + x.2.2) && decide (x.2.1 < y.2.1 + y.2.2))

/-- A grove of the image. -/
def imgGrove (im : Image) (g : Nat) : Option GroveRec := im.groves.groves.find? (fun r => r.grove = g)

/-- R13, R366 to R368: GROVES. -/
def chkGroves (s : State) (im : Image) (fmt3 : Bool) (b : List Byte) : List Chk :=
  let g := im.groves
  let ng := leAt b 0 2
  let nt := leAt b 4 1
  let nm := leAt b 8 4
  let nd := leAt b 12 2
  [ rng b 2 2 0 1023, (decide (groveMax s < g.maxGroves), 0x13, 2), (decide (g.maxGroves < ng), 0x12, 0),
    rng b 4 1 0 64, rsvBits b 5 1 7 1, rsv0 b 6 2, rsv0 b 14 18, lenIs b (dcrAt fmt3 b + 16 * nd) 0 ]
    ++ eachRec 32 (groveBytes fmt3) ng (fun i o =>
      chkGroveRec (isSmall s) fmt3 false b o
        ++ [ (decide (0 < i) && decide (((g.groves[i]?).map (·.grove)).getD 0 ≤ ((g.groves[i - 1]?).map (·.grove)).getD 0), 0x12, o) ])
    ++ eachRec (tmplAt fmt3 b) (groveBytes fmt3) nt (fun i o =>
      chkGroveRec (isSmall s) fmt3 true b o
        ++ [ ((g.tmpls.take i).any (fun r => some r.grove == (g.tmpls[i]?).map (·.grove)), 0x12, o) ])
    ++ eachRec (mapAt fmt3 b) 24 nm (fun i o =>
      match g.maps[i]? with
      | none => []
      | some m =>
        [ rsvBits b o 2 15 8, rsvBits b (o + 2) 1 7 2, rsv0 b (o + 3) 1, rng b (o + 8) 4 1 (2 ^ 32 - 1),
          rsvBits b (o + 12) 2 15 10, rsv0 b (o + 14) 2, rsv0 b (o + 20) 4, (!runOk im i, 0x12, o + 4),
          (m.grove == 1023 || (match imgGrove im m.grove with
            | some r => decide (r.extents < m.gext + m.count)
            | none => true), 0x12, o + 12) ])
    ++ eachRec (dcrAt fmt3 b) 16 nd (fun i o =>
      match g.regions[i]? with
      | none => []
      | some r =>
        [ rsvBits b o 2 15 8, rng b (o + 2) 1 0 7, rsv0 b (o + 3) 1, rsv0 b (o + 12) 4, (!runOk im (nm + i), 0x12, o + 4),
          ((g.regions.take i).any (fun q => q.ld == r.ld && q.region == r.region), 0x12, o + 2) ])

/-- R369: CANOPY. -/
def chkCanopy (b : List Byte) : List Chk := [lenIs b 68 0, rsvBits b 0 1 7 2, rsv0 b 1 3]

/-- R203, R213: the GUARANTEE rates, in 64 MB/s, against the sustained bandwidth of some channels. -/
def guaranteeOk (rates : List Nat) (channels dramRate : Nat) : Bool :=
  decide (rates.foldl (· + ·) 0 * 64 * 80 ≤ 51250 * channels * dramRate)

/-- Channels in the image's sets. -/
def imgChannels (d : ImgDram) : Nat := (d.sets.map (fun x => 2 ^ x.log2)).foldl (· + ·) 0

/-- R215: 3 × tREFI of the mode, in units of 100 ns, rounded down. -/
def rtMost (refresh : Nat) : Nat := if refresh = 0 then 117 else 58

/-- R213, R215, R369: QOS. -/
def chkQos (im : Image) (b : List Byte) : List Chk :=
  lenIs b 392 0 :: eachRec 0 8 48 (fun _ o =>
      [ rsvBits b o 1 6 2, rng b o 1 0 0xFF, (bitsOf (leAt b o 1) 1 0 == 3, 0x11, o), rsv0 b (o + 1) 1, rng b (o + 2) 2 0 0xFFF,
        (bitAt b o 7 && decide (rtMost im.modes.refresh < leAt b (o + 2) 2), 0x12, o + 2), rng b (o + 6) 2 0 0x3FFF ])
    ++ (List.range 6).map (fun i => rng b (384 + i) 1 0 47)
    ++ [ rsv0 b 390 2,
         (!guaranteeOk ((im.canopy.regs.filter (fun r => r.kind = 2)).map (·.rate)) (imgChannels im.dram) im.dram.rate, 0x12, 0) ]

/-- A slot of the image with a binding (R370). -/
def slotBound (im : Image) (n bind : Nat) : Bool := im.cipher.slots.any (fun x => x.slot == n && x.bind == bind)

/-- R287, R289, R371: NET. -/
def chkNet (s : State) (im : Image) (x : ImgNet) (b : List Byte) : List Chk :=
  let np := leAt b 3 1
  let na := leAt b 11 1
  let nc := leAt b 7 1
  [ rng b 0 2 1024 65535, rng b 2 1 1 2, rng b 4 2 1 32767, rng b 6 1 1 40, rng b 7 1 1 64, rng b 8 1 1 255,
    rng b 9 1 1 255, rng b 10 1 1 15, rng b 12 2 10 65535, rsv0 b 14 18, lenIs b (32 + 48 * np + 20 * na + 48 * nc) 3 ]
    ++ eachRec 32 48 np (fun i o =>
      [ (decide (formedNets s im ≤ leAt b o 1), 0x13, o), ((x.ports.take i).any (fun q => q.port = leAt b o 1), 0x12, o),
        rsv0 b (o + 1) 1, rsv0 b (o + 10) 6 ])
    ++ eachRec (32 + 48 * np) 20 na (fun i o =>
      let a := ipAt b (o + 4)
      [ (decide (formedNets s im ≤ leAt b o 1), 0x13, o), rng b (o + 1) 1 0 128, rsv0 b (o + 2) 2,
        (decide (4 ≤ ((x.addrs.take i).filter (fun q => q.1 = leAt b o 1 && isMapped q.2.2 == isMapped a)).length), 0x12, o) ])
    ++ eachRec (32 + 48 * np + 20 * na) 48 nc (fun i o =>
      match x.classes[i]? with
      | none => []
      | some c =>
        [ ((x.classes.take i).any (fun q => q.pfxLen == c.pfxLen && q.pfx.toNat / 2 ^ (128 - c.pfxLen) == c.pfx.toNat / 2 ^ (128 - c.pfxLen)), 0x12, o),
          rng b (o + 16) 1 0 128, rng b (o + 17) 1 0 1,
          (match c.keySlot with
            | some n => !slotBound im n 4
            | none => false, 0x12, o + 18),
          rng b (o + 32) 1 0 63, rsv0 b (o + 33) 15 ])

/-- R128, R371: TWIN. -/
def chkTwin (s : State) (im : Image) (fmt3 : Bool) (x : ImgTwin) (b : List Byte) : List Chk :=
  [ rng b 0 2 5 1000, rng b 4 2 0 600, rsvBits b 6 2 15 12, (!slotBound im x.linkSlot 3, 0x12, 6) ]
    ++ (if fmt3 then [rsv0 b 2 2, lenIs b 8 0]
        else [ rng b 2 1 5 48, rsvBits b 3 1 7 1, (x.netHb && decide (formedNets s im ≤ x.hbPort), 0x12, 8), rsv0 b 9 1,
               lenIs b 28 0 ])

/-- R332: a binding takes the kind. -/
def kindOk (bind : Nat) (pair : Bool) : Bool := if bind = 1 then pair else if bind = 5 then true else !pair

/-- R332, R343, R370: CIPHER. -/
def chkCipher (s : State) (im : Image) (b : List Byte) : List Chk :=
  let n := leAt b 10 2
  [rsvBits b 0 1 7 1] ++ (List.range 9).map (fun i => rng b (1 + i) 1 0 64)
    ++ [ (decide (64 < im.cipher.floors.foldl (· + ·) 0), 0x12, 1), rsv0 b 12 4, lenIs b (16 + 8 * n) 10 ]
    ++ eachRec 16 8 n (fun i o =>
      let bind := leAt b (o + 2) 1
      [ rsvBits b o 2 15 12, (decide (slotMax s ≤ leAt b o 2), 0x13, o),
        ((im.cipher.slots.take i).any (fun q => q.slot = leAt b o 2), 0x12, o), rng b (o + 2) 1 1 5,
        rsvBits b (o + 3) 1 7 2, (!kindOk bind (bitAt b (o + 3) 0), 0x12, o + 3),
        (if bind = 2 then bitsOf (leAt b (o + 4) 2) 15 5 != 0 else leAt b (o + 4) 2 != 0, 0x11, o + 4),
        (bind = 2 && decide (nHost s ≤ leAt b (o + 4) 2 / 2 % 16), 0x13, o + 4), rsv0 b (o + 6) 2 ])

/-- R372: FAULT. -/
def chkFault (b : List Byte) : List Chk :=
  let n := leAt b 0 2
  [rsv0 b 2 2, lenIs b (4 + 8 * n) 0] ++ eachRec 4 8 n (fun _ o =>
    let u := leAt b (o + 4) 2 / 2 ^ 14
    let v := leAt b (o + 4) 2 % 2 ^ 14
    [ rng b o 2 0 639, rng b (o + 2) 1 1 255, rng b (o + 3) 1 0 4,
      (u == 3 || v == 0 || (u == 2 && decide (16 < v)) || (u == 1 && decide (16000 < v)), 0x11, o + 4), rng b (o + 6) 2 0 1000 ])

/-- Place of a rail in the step table; past the end for one that no step names. -/
def stepOf (b : List Byte) (n : Nat) : Nat := ((List.range (leAt b 0 1)).find? (fun k => leAt b (24 + 4 * k) 1 = n)).getD 255

/-- R526: a memory rail comes up after the rail of its bank, or never. -/
def comesAfter (b : List Byte) (n before : Nat) : Bool := stepOf b n == 255 || decide (stepOf b before < stepOf b n)

/-- R373, R526: POWER. -/
def chkPower (b : List Byte) : List Chk :=
  let n := leAt b 0 1
  [rng b 0 1 1 12, rng b 1 1 0 7, rsv0 b 2 2] ++ (List.range 4).map (fun i => rng b (4 + 2 * i) 2 1 1023)
    ++ (List.range 4).map (fun i => rsvBits b (12 + 2 * i) 2 15 12)
    ++ [rng b 20 1 85 104, rsv0 b 21 3, lenIs b (24 + 4 * n) 0]
    ++ eachRec 24 4 n (fun i o =>
      [ rng b o 1 0 11, ((List.range i).any (fun k => leAt b (24 + 4 * k) 1 = leAt b o 1), 0x12, o), rng b (o + 1) 1 1 255,
        rng b (o + 2) 1 1 255 ])
    ++ [ (!comesAfter b 10 6 || !comesAfter b 11 7, 0x12, 24) ]

/-- R371, R464: RECORDER. -/
def chkRecorder (b : List Byte) : List Chk := [lenIs b 8 0, rng b 0 4 1 10000, rng b 4 4 0 0xFFFF]

/-- R374: a mode within its values, or 0xFF. -/
def modeRng (b : List Byte) (o hi : Nat) : Chk := (decide (hi < leAt b o 1) && leAt b o 1 != 0xFF, 0x11, o)

/-- R374: MODES. -/
def chkModes (b : List Byte) : List Chk :=
  [ lenIs b 16 0, modeRng b 0 2, modeRng b 1 1, modeRng b 2 1, modeRng b 3 2, modeRng b 4 1, modeRng b 5 1, modeRng b 6 1,
    modeRng b 7 1, rsv0 b 8 8 ]

/-! ## What ties sections together -/

/-- R163, R165: L + M in KiB. -/
def cellarFixed (s : State) : Nat := if isSmall s then (16 + 2048) * 1024 else (32 + 4096) * 1024

/-- R134: tiles of grove 1,023. -/
def metaTiles (im : Image) : Nat := im.tiers.metaExtents * 256

/-- R157: D_max in tiles, for the groves that exist. -/
def dMax (im : Image) (gs : List GroveRec) : Nat :=
  min (allFrames im.dram - 2 * metaTiles im)
    (((gs.filter (fun r => r.level != .vol)).map (fun r => r.extents * 256)).foldl (· + ·) 0)

/-- R157, R163: D_bound in KiB with the groves of the image; `none` under OFF. -/
def dBound (im : Image) : Option Nat :=
  if im.modes.cellar = 2 then none
  else if im.modes.cellar = 1 then some (im.tiers.ceiling * 2 ^ 20)
  else some (dMax im im.groves.groves * 64)

/-- R165: SLC blocks of the Cellar region for a D_bound, to the nearest block. -/
def slcBlocks (s : State) (im : Image) (bound : Option Nat) : Nat :=
  match bound with
  | none => 0
  | some d =>
    let kib := 2 * (d + cellarFixed s) * (if im.nand.cell = 2 then 4 else 3)
    let blk := 4 * im.nand.pages * 16
    (2 * kib + blk) / (2 * blk)

/-- R165, R239: C, the Cellar blocks of a die. -/
def imgCellar (s : State) (im : Image) : Nat := ceilDiv (slcBlocks s im (dBound im)) (allDies im.nand)

/-- R239: S, the spare blocks of a die. -/
def imgSpare (im : Image) : Nat := ceilDiv (im.nand.sparePct * im.nand.blocks) 100

/-- R239: usable T2 tiles with `c` Cellar blocks per die and `dies` dies. -/
def t2TilesOf (im : Image) (dies c : Nat) : Nat :=
  let n := dies * (im.nand.blocks - imgSpare im - c) * im.nand.pages * (100 - im.nand.op)
  if im.nand.parity then n * 15 / 1600 else n / 100

/-- R533: extents that the tables of grove 1,023 need. -/
def metaRoom (s : State) (im : Image) : Nat :=
  let g := im.groves
  let most := (g.tmpls.map (·.maxExtents)).foldl max 0
  let k := (g.groves.map (·.maxExtents)).foldl (· + ·) 0 + (g.maxGroves - g.groves.length) * most
  let bytes := k * 4128 + im.tiers.metaExtents * 4096 + 16 * allDies im.nand * 4 * im.nand.blocks
    + (if isSmall s then 624 else 1424) * 2 ^ 20 + (if isSmall s then 32 else 64) * 2 ^ 24
  ceilDiv bytes (2 ^ 24)

/-- Key slots named by groves and by grove 1,023. -/
def groveSlots (im : Image) : List Nat := im.groves.groves.map (·.keySlot) ++ [im.tiers.metaSlot]

/-- R165, R239, R332, R370, R533: rules of several sections, each with the section and field it names. -/
def chkCross (s : State) (im : Image) (fmt3 : Bool) : List (Nat × Chk) :=
  let need := imgSpare im + imgCellar s im
  let bounds := (im.groves.groves.map (fun r => r.maxExtents * 256)).foldl (· + ·) 0
  [ (5, (decide (im.nand.blocks ≤ need), 0x12, 4)), (6, (decide (im.tiers.metaExtents < metaRoom s im), 0x12, 0)),
    (6, (decide (allFrames im.dram < 2 * metaTiles im), 0x12, 0)),
    (7, (decide (allFrames im.dram - 2 * metaTiles im + t2TilesOf im (allDies im.nand) (imgCellar s im) < bounds + metaTiles im), 0x12, 44)),
    (6, (!slotBound im im.tiers.metaSlot 1, 0x12, 16)) ]
    ++ im.groves.groves.zipIdx.map (fun p =>
      (7, (!slotBound im p.1.keySlot 1 || decide (1 < ((groveSlots im).filter (· = p.1.keySlot)).length), 0x12,
        32 + groveBytes fmt3 * p.2 + 4)))

/-! ## What the stored state refuses (R376, R377) -/

/-- R364: the NAND fingerprint of an image. -/
def fingerprintOf (im : Image) : BitVec 64 := (Config.sha384 im.nand.geometry).setWidth 64

/-- R125, R360: LAYOUT_ID of an image. -/
def layoutOf (im : Image) : BitVec 64 := (Config.sha384 im.groves.bytes).setWidth 64

/-- The DRAM content of T1 lives on: the node runs warm, or runs now. -/
def warmNow (s : State) : Bool := s.pwr.warm || isReady s

/-- R376: the running channel and set records. -/
def dramMatches (s : State) (im : Image) : Bool :=
  (List.range 16).all (fun c =>
      let r := SMap.get s.dram.chs {} c
      let x := chanAt im.dram c
      r.capGib == chanGib x
        && (x.dimms == 0 || (r.density == x.density && r.lranks == x.dimms * x.ranks * x.stack)))
    && (List.range 16).all (fun n =>
      let r := SMap.get s.dram.sets {} n
      match im.dram.sets[n]? with
      | none => !r.valid
      | some x => r.valid && r.base == x.base && r.frames == imgFrames im.dram x && r.log2 == x.log2 && r.first == x.first
          && r.map == x.map && r.gran == (x.gran == 1) && r.degraded == x.degraded)

/-- The metadata that stage 8 will start from (R166, R377). -/
def storedMeta (s : State) : Meta :=
  if warmNow s then s.tier.md
  else match s.tier.vault with
    | some v => if s.tier.session || v.cut = 0 then s.tier.snap else v.meta_
    | none => s.tier.snap

/-- R252, R364: a bring-up treats T2 and the Cellar as empty. -/
def willReformat (s : State) (im : Image) : Bool :=
  match s.tier.fingerprint with
  | some f => f != fingerprintOf im && im.nand.reformat
  | none => false

/-- R377: the relayout would refuse. -/
def relayoutBad (s : State) (im : Image) : Bool :=
  let m := storedMeta s
  (s.tier.anchored || warmNow s) && m.layoutId != layoutOf im
    && (SMap.present m.groves).any (fun p => match imgGrove im p.1 with
      | some r => r.level != p.2.level || r.keySlot != p.2.keySlot
      | none => !im.groves.allowDelete)

/-- R376, R377: 0x14, 0x15, 0x16. -/
def chkStored (s : State) (im : Image) : List (Nat × Chk) :=
  [ (4, (warmNow s && !dramMatches s im, 0x14, 16)),
    (5, (match s.tier.fingerprint with
      | some f => f != fingerprintOf im && !im.nand.reformat
      | none => false, 0x15, 0)),
    (7, (relayoutBad s im, 0x16, 32)) ]

/-! ## Stage 6 -/

/-- R358: the sections that every image has. -/
def requiredSecs : List Nat := [1, 3, 4, 5, 6, 7, 0xC]

/-- The checks of an optional section. -/
def ifSec (r : RawImg) (t : Nat) (f : List Byte → List Chk) : Option ImgFail :=
  match r.sec t with
  | some b => firstFail 6 t (f b)
  | none => none

/-- The first failure of checks with their sections. -/
def firstTyped (l : List (Nat × Chk)) : Option ImgFail :=
  (l.find? (fun c => c.2.1)).map (fun c => { stage := 6, reason := c.2.2.1, typ := c.1, off := c.2.2.2 })

/-- R354, R356 to R377: stage 6 on a bank that passed stage 5. -/
def stage6Fail (s : State) (r : RawImg) (im : Image) : Option ImgFail :=
  let fmt3 := r.fmt == 3
  let missing := (requiredSecs.find? (fun t => (r.sec t).isNone)).map
    (fun t => ({ stage := 6, reason := 0x10, typ := t, off := 0 } : ImgFail))
  let parts : List (Option ImgFail) :=
    [ missing,
      firstFail 6 0 [(r.rsv != 0 || r.sigRsv != 0 || r.secs.any (fun x => x.rsv != 0), 0x11, 15)],
      ifSec r 1 (fun b => [lenIs b 32 0]), ifSec r 2 (chkClocks s im), ifSec r 3 (chkLanes s im), ifSec r 4 (chkDram s im),
      ifSec r 5 (chkNand s im), ifSec r 6 (chkTiers s), ifSec r 7 (chkGroves s im fmt3), ifSec r 8 chkCanopy,
      ifSec r 9 (chkQos im), ifSec r 0xA (fun b => (im.net.map (fun x => chkNet s im x b)).getD []),
      ifSec r 0xB (fun b => (im.twin.map (fun x => chkTwin s im fmt3 x b)).getD []), ifSec r 0xC (chkCipher s im),
      ifSec r 0xD chkFault, ifSec r 0xE chkPower, ifSec r 0xF chkRecorder, ifSec r 0x10 chkModes,
      firstTyped (chkCross s im fmt3), firstTyped (chkStored s im) ]
  parts.findSome? id

/-- R381: every check of stages 5 and 6 on a bank. -/
def bankFail (s : State) (bank : Nat) (v : BankVerdict) : Option ImgFail :=
  match stage5Fail s bank v with
  | some f => some f
  | none => stage6Fail s (readRaw s bank) (parseImage (readRaw s bank))

end Sys2Proof.Machine
end

