-- ==== Sys2Proof/Machine/TwinOps.lean ====
section
/-!
DEFINITION. What the twin's roles share (R75 to R78, R99 to R109): the stored role and epoch, the resync
bitmap, the answers of a node that stops serving (R76, R320), divergence (R103 to R106), and joining.
-/

namespace Sys2Proof.Machine

open Sys2Proof

/-- Changes the twin. -/
def modTwin (f : Twin → Twin) (s : State) : State := { s with twin := f s.twin }

/-- R77, R465: the role and the epoch as the node record stores them. -/
def setRole (r : Role) (s : State) : State :=
  let s1 := modTwin (fun t => { t with role := r }) s
  putNode (fun n => { n with lastRole := r, epoch := s1.twin.epoch }) s1

/-- Takes an epoch. -/
def setEpoch (e : Nat) (s : State) : State :=
  let s1 := modTwin (fun t => { t with epoch := e }) s
  putNode (fun n => { n with epoch := e }) s1

/-- R109: the bitmap opens from a position and marks every tile of the retained log above it. -/
def openBitmap (start : Nat) (s : State) : State :=
  modTwin (fun t => { t with
    bmOpen := true
    bmStart := start
    bmTiles := ((t.retained.filter (fun r => decide (start < r.seq))).map (fun r => (r.grove, tileOf r.line))).dedup }) s

/-- R107: a LEADER becomes SOLO; MIRROR writes still waiting are acknowledged as LOCAL (R55), and a handover in
progress ends. -/
def toSolo (s : State) : State :=
  let s1 := openBitmap s.twin.peerApplied (setRole .solo s)
  mirrorToLocal (modTwin (fun t => { t with
    lagHold := false, lag := 0, unrep := [], handover := 0, resync := 0, toSend := [], metaSend := []
    cmdBusy := if t.handover = 0 then t.cmdBusy else false
    cmdResult := if t.handover = 0 then t.cmdResult else 1
    digSpan := true }) s1)

/-! ## Answers of a node that does not serve (R76, R320) -/

/-- A request held at its entry point is answered. -/
def refuseHeld (h : HeldReq) (s : State) : State :=
  match h with
  | .cxl r g _ _ => refuseCxl r 5 true ((dpaKnown s r).getD r.hpa) (some g) s
  | .vrmp q psn _ _ _ _ _ => sendNak q psn 0x08 0 s
  | .mgmt i => refuseAck i.ack s
where
  /-- The DPA by the LD's decoders. -/
  dpaKnown (s : State) (r : CxlReq) : Option Nat :=
    (List.range 4).findSome? (fun i => (SMap.find (ldOf s r.port r.ld).decs i).bind (fun d =>
      if d.hpaBase ≤ r.hpa ∧ r.hpa < d.hpaBase + d.size then
        some (d.dpaBase + (r.hpa - d.hpaBase) / (d.gran * d.ways) * d.gran + (r.hpa - d.hpaBase) % d.gran) else none))
  /-- A management input is completed with a code the spec does not state. -/
  refuseAck (a : AckTo) (s : State) : State :=
    match a with
    | .cmd p t c => refuseOpen p t c s
    | .dcd t p l => useFree (mboxDone p l t (1 + Config.choose s.free 3 % 3) []
        (updLd p l (fun y => { y with dcdLeft := y.dcdLeft.filter (fun x => x.1 ≠ t) }) s))
    | .zeroPiece => { s with can := { s.can with 
        zeroLeft := s.can.zeroLeft - 1, skipped := satAdd 32 s.can.skipped 1 } }
    | _ => s

/-- Answers every held request as not served. -/
def refuseAllHeld (s : State) : State :=
  let hs := s.seqr.held
  forEach hs refuseHeld { s with seqr := { s.seqr with held := [] } }

/-- A stamped input or a write awaiting its acknowledgement is answered as not served. -/
def refuseWaiting (a : AckTo) (dpa : Nat) (s : State) : State :=
  match a with
  | .cxl p l t g => refuseCxl ⟨p, l, t, 0⟩ 5 true dpa (some g) s
  | .vrmp q psn => sendNak q psn 0x08 0 s
  | x => refuseHeld.refuseAck x s

/-- R303, R320: every QP is closed with a reason, and every peer context freed. -/
def dropQps (reason : Nat) (s : State) : State :=
  let s1 := forEach (SMap.present s.net.qps) (fun q t =>
    if canAnswer t then sendQp q.1 (.close q.1 reason) t else t) s
  { s1 with
    net := { s1.net with peers := [], qps := [], cached := [], waiting := [], notes := [], creditOut := 0 }
    seqr := { s1.seqr with jobs := [] } }

/-- R76, R100, R104: the node becomes FENCED: 419, and everything waiting is answered. -/
def fence (s : State) : State :=
  let ins := s.seqr.inputs
  let pls := s.seqr.placing
  let rds := s.seqr.reads
  let s1 := raise 419 (setRole .fenced s)
  let s2 := { s1 with seqr := { s1.seqr with inputs := [], placing := [], reads := [], gpf := [], unsent := [] } }
  let s3 := refuseAllHeld s2
  let s4 := forEach ins (fun i t => if i.seq = 0 then refuseWaiting i.ack i.raddr t else t) s3
  let s5 := forEach pls (fun x t => refuseWaiting x.ack 0 t) s4
  let s6 := forEach rds (fun r t => refuseCxl r.req 5 false r.req.hpa (some r.grove) t) s5
  let s7 := dropQps 2 s6
  modTwin (fun t => { t with
      lagHold := false, lag := 0, unrep := [], handover := 0, resync := 0, toSend := [], metaSend := []
      cmdBusy := t.cmdBusy && t.handover = 0, cmdResult := if t.handover = 0 then t.cmdResult else 1 })
    { s7 with can := { s7.can with queue := s7.can.queue.filter (fun q => match q with
      | .read _ _ _ => false
      | .write _ _ _ => true) } }

/-! ## Received payload (R123, R449) -/

/-- R123, R449: CREDIT advances by the payload freed: by half of it while a resync runs under BACKPRESSURE, and for
resync data not at all under RESERVE_ONLY. -/
def grantCredit (chunk : Bool) (bytes : Nat) (s : State) : State :=
  let u := ceilDiv bytes 256
  let g := grantState s
  let n :=
    if s.twin.role != .joining || s.twin.resync = 0 || g < 2 then u
    else if g = 3 && chunk then 0 else (u + 1) / 2
  modTwin (fun t => { t with credGrant := (t.credGrant + n) % 2 ^ 32 }) s

/-- A payload enters Coppice under a UTL owner (R443). -/
def holdRx (owner bytes : Nat) (s : State) : State :=
  match poolFor bytes with
  | some p => (copAlloc p owner true s).getD s
  | none => s

/-- A payload leaves Coppice and its credit goes back. -/
def freeRx (owner : Nat) (chunk : Bool) (bytes : Nat) (s : State) : State :=
  grantCredit chunk bytes (match poolFor bytes with
    | some p => copFree p owner s
    | none => s)

/-- The frames of the stream whose every record is applied leave Coppice. -/
def freeApplied (upto : Nat) (s : State) : State :=
  forEach (s.twin.rxHeld.filter (fun x => decide (x.1 ≤ upto))) (fun x t => freeRx 272 false x.2 t)
    (modTwin (fun t => { t with rxHeld := t.rxHeld.filter (fun x => decide (upto < x.1)) }) s)

/-- Chunks queued and frames not applied are discarded. -/
def dropRx (s : State) : State :=
  let cs := s.twin.chunks
  let s1 := freeApplied (2 ^ 64) s
  forEach cs (fun c t => freeRx 273 true (creditBytes (.resyncData c)) t) (modTwin (fun t => { t with chunks := [] }) s1)

/-! ## Joining (R107 to R109) -/

/-- RECOPY frames of at most 1,038 tiles, LAST in the final one; one empty frame for none (R125). -/
def recopyFrames (fuel : Nat) (l : List (Nat × Nat)) : List Frame :=
  match fuel with
  | 0 => []
  | n + 1 => if l.length ≤ 1038 then [.recopy true l] else .recopy false (l.take 1038) :: recopyFrames n (l.drop 1038)

/-- Sends the RECOPY frames of a list. -/
def sendRecopy (l : List (Nat × Nat)) (s : State) : State :=
  forEach (recopyFrames (l.length / 1038 + 2) l) sendUtl (modTwin (fun t => { t with recopyOut := t.recopyOut ++ l }) s)

/-- The node enters or stays in JOINING: what was queued to replay or install goes, and the tiles to be recopied
are named. -/
def toJoining (bulk : Bool) (tiles : List (Nat × Nat)) (s : State) : State :=
  let s1 := setRole .joining s
  let s2 := dropRx { s1 with seqr := { s1.seqr with inputs := s1.seqr.inputs.filter (fun i => decide (i.seq = 0)) } }
  sendRecopy tiles (modTwin (fun t => { t with
    doneSeq := none, recopyOut := [], resync := 0, unrep := [], lag := 0
    needBulk := t.needBulk || bulk
    digSpan := true }) s2)

/-- R122: a stream error: 430, and the node joins again by bulk copy (R108). -/
def streamError (s : State) : State := raise 430 (toJoining true [] s)

/-! ## Divergence (R103 to R106) -/

/-- R106: a divergence record, or its count when the list is full; 429 once. -/
def addDiv (r : Retained) (s : State) : State :=
  if s.tier.md.divs.length < 1048576 then
    { s with tier := { s.tier with md := { s.tier.md with divs := s.tier.md.divs ++ [⟨r.gtc, r.src, r.grove, r.line⟩] } } }
  else
    let s1 := modTwin (fun t => { t with divLost := satAdd 32 t.divLost 1, divFull := true }) s
    if s.twin.divFull then s1 else raise 429 s1

/-- Tiles of every D line and tracker entry (R104). -/
def unwrittenTiles (s : State) : List (Nat × Nat) :=
  ((s.can.sets.flatMap (fun p => (p.2.ways.filter (fun w => w.2.st == .dirty)).map (fun w => (w.2.grove, tileOf w.2.line))))
    ++ s.can.trk.flatMap (fun p => p.2.map (fun x => (x.grove, tileOf x.line)))).dedup

/-- The waiter carries bytes of an emitted input. -/
def writes : Waiter → Bool
  | .vwrite _ _ => true
  | .atomic _ _ _ => true
  | _ => false

/-- Tiles of the bytes of emitted inputs that wait for their lines: queued, in the miss file, or behind a promotion, a
repair or a late touch. -/
def waitingTiles (s : State) : List (Nat × Nat) :=
  (s.can.queue.filterMap (fun q => match q with
      | .write _ g p => some (g, tileOf p.line)
      | .read g a w => if writes w then some (g, tileOf a) else none)
    ++ s.can.miss.flatMap (fun q => (q.2.filter (fun m => m.joiners.any writes)).map (fun m => (m.grove, tileOf m.line)))
    ++ (s.tier.promos.filter (fun p => p.waiters.any (fun w => writes w.2))).map (fun p => (p.grove, p.tile))
    ++ (s.tier.repairs.filter (fun p => p.waiters.any (fun w => writes w.2))).map (fun p => (p.grove, p.tile))
    ++ (s.tier.lates.filter (fun l => writes l.waiter)).map (fun l => (l.grove, tileOf l.line))).dedup

/-- Drops every wait of an emitted input for its line. -/
def dropWaits (s : State) : State :=
  let keep (l : List (Nat × Waiter)) : List (Nat × Waiter) := l.filter (fun w => !writes w.2)
  { s with
    can := { s.can with miss := [], queue := [] }
    tier := { s.tier with
      promos := s.tier.promos.map (fun p => { p with waiters := keep p.waiters })
      repairs := s.tier.repairs.map (fun p => { p with waiters := keep p.waiters })
      lates := s.tier.lates.filter (fun l => !writes l.waiter) } }

/-- R104: a node that has served takes END_SEQ and the new epoch, discards what diverged and joins. The tiles of
emitted bytes that had not reached their lines are recopied too (log 21). -/
def diverge (endSeq epoch : Nat) (s : State) : State :=
  let late := s.twin.retained.filter (fun r => decide (endSeq < r.seq))
  let s1 := forEach late addDiv s
  let tiles := (s.twin.recopyOut ++ (late.map (fun r => (r.grove, tileOf r.line))) ++ unwrittenTiles s
    ++ waitingTiles s).dedup
  let s0 := dropWaits s1
  let s2 := { s0 with can := { s0.can with
      sets := [], wf := [], trk := []
      land := SMap.mapVals s0.can.land none (fun e => match e with
        | some x => if x.seqs.any (fun q => decide (endSeq < q)) then none else some x
        | none => none) } }
  let s3 := modTwin (fun t => { t with
      retained := [], applied := endSeq, ackSeq := endSeq, t1Intact := true, bmOpen := false, bmTiles := [] }) s2
  toJoining false tiles (setEpoch epoch { s3 with seqr := { s3.seqr with nextSeq := endSeq + 1 } })

/-- R78: a higher epoch arrives; `endSeq` is there in an EPOCH frame (R104). A serving node raises 420. A node that
joins with writes the peer had not reported as applied keeps its epoch until an EPOCH frame brings the END_SEQ that
decides which of them diverge (R72, R104, log 21). -/
def higherEpoch (epoch : Nat) (endSeq : Option Nat) (s : State) : State :=
  match s.twin.role with
  | .standby => toJoining false [] (setEpoch epoch (modTwin (fun t => { t with t1Intact := true }) s))
  | .joining =>
    if s.twin.retained.isEmpty then toJoining false s.twin.recopyOut (setEpoch epoch s)
    else
      match endSeq with
      | some n =>
        let bulk := !s.twin.t1Intact
        modTwin (fun t => { t with needBulk := t.needBulk || bulk, t1Intact := !bulk }) (diverge n epoch s)
      | none => s
  | .unset => s
  | r =>
    let s1 := if r = .fenced then s else fence (raise 420 s)
    match endSeq with
    | some n => diverge n epoch s1
    | none => s1

end Sys2Proof.Machine
end

