-- ==== Sys2Proof/Machine/LogicOps.lean ====
section
/-!
DEFINITION. What each kind of logical input does when it is applied (R82): seals (R144 to R146), schedules
(R147 to R150), grove changes (R48, R375), keys (R312, R319) and label storage (R266); each is applied alike by
the node that decided it and by a node that replays it (R83). What the deciding node checks first stands here too.
-/

namespace Sys2Proof.Machine

open Sys2Proof

/-! ## Seals -/

/-- Tiles of a range with a listed entry that satisfies `p`. -/
def rangeTiles (s : State) (g first count : Nat) (p : Tile → Bool) : List Nat :=
  (s.tier.md.tiles.filter (fun x =>
    decide (tkey g first ≤ x.1) && decide (x.1 < tkey g first + count) && p x.2)).map (fun x => x.1 % 2 ^ 32)

/-- A stamp is at or before another (R30). -/
def stampLe (g1 s1 g2 s2 : Nat) : Bool := decide (g1 < g2) || (g1 == g2 && decide (s1 ≤ s2))

/-- R145: every tile of the record's range is SEALED or has been unsealed since. -/
def sealDone (s : State) (r : SealRec) : Bool :=
  (rangeTiles s r.grove r.first r.count (fun e => e.sealing && stampLe e.sealGtc e.sealSrc r.gtc r.src)).isEmpty

/-- R145: the seals that are complete are answered, with code 0, and leave the journal. -/
def sealProgress (s : State) : State :=
  let fin := s.tier.md.journal.filter (sealDone s)
  if fin.isEmpty then s
  else
    forEach fin (fun r t => answerAck r.ack .loc r.gtc r.src t)
      (touchMeta (tkey 1023 12288) (modMeta (fun m => { m with journal := m.journal.filter (fun r => !fin.contains r) }) s))

/-- R145: the tiles of a seal become sealing; a tile that is SEALED or sealing stays what it is. A tile sealed at a
joiner of which the serving node has named no seal is sealed by this one (R81, R108). -/
def applySeal (g first count gtc src : Nat) (ack : AckTo) (s : State) : State :=
  let s1 := touchMeta (tkey 1023 12288) (modMeta (fun m => { m with
    journal := m.journal ++ [⟨s.ids, g, first, count, gtc, src, ack, []⟩] }) (bumpId s))
  sealProgress (forEach (List.range count) (fun k t =>
    if t.twin.oldSeals.contains (g, first + k) then
      updTile g (first + k) (fun e => { e with sealGtc := gtc, sealSrc := src })
        (modTwin (fun w => { w with oldSeals := w.oldSeals.filter (· ≠ (g, first + k)) }) t)
    else if tileReadOnly t g (first + k) then t
    else updTile g (first + k) (fun e => { e with sealing := true, sealGtc := gtc, sealSrc := src }) t) s1)

/-- R146: SEALED and SCHED are cleared on every tile of the range, and a sealing in progress ends. -/
def applyUnseal (g first count : Nat) (s : State) : State :=
  let ts := rangeTiles s g first count (fun e => e.sealed_ || e.sealing || e.sched.isSome)
  let here (h t : Nat) : Bool := h = g && decide (first ≤ t) && decide (t < first + count)
  let s1 := { s with
    tier := { s.tier with
      progs := s.tier.progs.filter (fun p => !(p.kind = .sealCopy && p.grove = g && ts.contains p.tile)) }
    twin := { s.twin with
      oldSeals := s.twin.oldSeals.filter (fun x => !here x.1 x.2)
      sealWait := s.twin.sealWait.filter (fun x => !here x.1 x.2.1) } }
  let s2 := if s1.tier.md.journal.any (fun r => r.grove = g) then
      touchMeta (tkey 1023 12288) (modMeta (fun m => { m with
        journal := mapIf (fun r => r.grove = g) (fun r => { r with cuts := r.cuts ++ [(first, count)] }) m.journal }) s1)
    else s1
  sealProgress (forEach ts (fun k t =>
    updTile g k (fun e => { e with sealed_ := false, sealing := false, sched := none }) t) s2)

/-! ## Schedules -/

/-- The entry names the tile. -/
def names (q : QEntry) (g t : Nat) : Bool :=
  q.e.grove = g && decide (q.e.firstTile ≤ t) && decide (t < q.e.firstTile + q.e.count)

/-- When an entry retires (R150). -/
def retiresAt (q : QEntry) : Nat := q.e.deadline + q.hold * 1000

/-- R148: the schedule of a tile: the one whose entry retires last, of equals the one queued first (log 90). -/
def schedOf (s : State) (g t : Nat) : Option Nat :=
  (s.tier.md.queue.foldl (fun (b : Option QEntry) q =>
    if !names q g t then b
    else match b with
      | none => some q
      | some x => if retiresAt x < retiresAt q then some q else some x) none).map (·.sched)

/-- R150, R182: the tile's lines lose PIN. -/
def unpinLines (g t : Nat) (s : State) : State :=
  let mine (p : Nat × Way) : Bool := p.2.pin && p.2.grove = g && tileOf p.2.line = t
  forEach (s.can.sets.filter (fun p => p.2.ways.any mine)) (fun p u =>
    updCanSet p.1 (fun c => { c with ways := mapIf mine (fun w => (w.1, { w.2 with pin := false })) c.ways }) u) s

/-- A tile of a retired entry loses SCHED and PINNED, unless another entry names it; a staging of it that is in
flight pins nothing more. -/
def unschedule (g t : Nat) (s : State) : State :=
  let e := tile s g t
  match schedOf s g t with
  | some n => if e.sched = some n then s else setTile g t { e with sched := some n } s
  | none =>
    if e.sched.isNone && !e.pinned then unpinLines g t s
    else
      let off (p : Promo) : Promo := { p with pin := false }
      let s0 := { s with tier := { s.tier with promos := mapIf (fun p => p.grove = g && p.tile = t) off s.tier.promos } }
      let s1 := setTile g t { e with sched := none, pinned := false } s0
      unpinLines g t (if e.pinned then { s1 with tier := { s1.tier with pinCount := s1.tier.pinCount - 1 } } else s1)

/-- Every tile of an entry has a frame. -/
def entryResident (s : State) (q : QEntry) : Bool :=
  (List.range q.e.count).all (fun k => (tile s q.e.grove (q.e.firstTile + k)).frame.isSome)

/-- R150: an entry retires, and its tiles are released. -/
def retireEntry (q : QEntry) (s : State) : State :=
  let s2 := touchMeta (tkey 1023 14336) (modMeta (fun m => { m with queue := m.queue.filter (fun x => x.id ≠ q.id) }) s)
  forEach (rangeTiles s2 q.e.grove q.e.firstTile q.e.count (fun e => e.sched.isSome || e.pinned))
    (fun t u => unschedule q.e.grove t u) s2

/-- R148: an entry joins the deadline queue, and its tiles take SCHED. -/
def addEntry (c : SchedCmd) (e : SchedEntry) (s : State) : State :=
  let q : QEntry := ⟨s.ids, c.id, c.target, c.late, c.lateBound, c.hold, e, false, false⟩
  let s1 := touchMeta (tkey 1023 14336) (modMeta (fun m => { m with queue := m.queue ++ [q] }) (bumpId s))
  forEach (List.range e.count) (fun k t =>
    let n := schedOf t e.grove (e.firstTile + k)
    if (tile t e.grove (e.firstTile + k)).sched = n then t
    else updTile e.grove (e.firstTile + k) (fun x => { x with sched := n }) t) s1

/-- Entries of a schedule. -/
def entriesOf (s : State) (id : Nat) : List QEntry := s.tier.md.queue.filter (fun q => q.sched = id)

/-- R147, R150: POST replaces, APPEND adds, CANCEL retires. -/
def applySched (c : SchedCmd) (s : State) : State :=
  let s1 := if c.cmd = 1 then s else forEach (entriesOf s c.id) retireEntry s
  if c.cmd = 2 then s1 else forEach c.entries (addEntry c) s1

/-! ## Groves -/

/-- Everything on the die that a tile's lines have: landing entries, lines, tracker entries and waits. -/
def forgetTile (g t : Nat) (s : State) : State :=
  unsend g t (forget (fun h a => h = g && tileOf a = t) s)

/-- R48: a tile is released with everything it holds. -/
def releaseTile (g t : Nat) (s : State) : State := dropTile g t (forgetTile g t s)

/-- R333, R335: a key from the DRBG enters an EMPTY slot, and its record is programmed. -/
def generateKey (n : Nat) (s : State) : State :=
  let x := slotOf s n
  storeSlot n (protPut 6 n
    (setSlot n { x with state := .loaded, key := Config.drbg s.free, ctr := 0, floor := 0, warn := false } (useFree s)))

/-- R370, R375: a GROVE slot that no grove names, and not grove 1,023's. -/
def spareSlot (s : State) (n : Nat) : Bool :=
  (slotOf s n).bind = 1 && n ≠ (img s).tiers.metaSlot
    && !s.tier.md.groves.any (fun p => match p.2 with
      | some r => r.keySlot = n
      | none => false)

/-- R55, R157, R165: under FULL the Cellar region must hold D_max, which follows the groves that exist. -/
def sizeNeed (s : State) : State :=
  if cellarMode s = 0 then
    let gs := (SMap.present s.tier.md.groves).map (·.2)
    { s with tier := { s.tier with celNeed := ceilDiv (slcBlocks s (img s) (some (dMax (img s) gs * 64))) (allDies (img s).nand) } }
  else s

/-- Writes a grove record. -/
def setGrove (g : Nat) (r : Option GroveRec) (s : State) : State :=
  sizeNeed <| touchMeta (tkey 1023 (18432 + g / 32)) (modMeta (fun m => { m with groves := SMap.set m.groves none g r }) s)

/-- R375: a created grove takes its slot, with a key of its own where the slot is EMPTY; a blocked device key
gives none (475). -/
def applyCreate (r : GroveRec) (s : State) : State :=
  let n := r.keySlot
  let s1 := setSlot n { slotOf s n with target := r.grove } (setGrove r.grove (some r) s)
  if (slotOf s1 n).state != .empty then s1
  else if s1.cipher.dukBlocked then raise 475 s1 else generateKey n s1

/-- Tiles of a grove from `t` up, with an entry or content on the die. -/
def tilesFrom (s : State) (g t : Nat) : List Nat :=
  (((tiles s).filter (fun p => p.1 = g && decide (t ≤ p.2.1))).map (fun p => p.2.1)
    ++ (s.can.land.filter (fun p => decide (p.1 / 2 ^ 42 = g) && decide (t ≤ tileOf (p.1 % 2 ^ 42)))).map (fun p => tileOf (p.1 % 2 ^ 42))
    ++ s.can.trk.flatMap (fun q => (q.2.filter (fun x => x.grove = g && decide (t ≤ tileOf x.line))).map (fun x => tileOf x.line))
    ++ s.can.sets.flatMap (fun q => (q.2.ways.filter (fun w => w.2.grove = g && decide (t ≤ tileOf w.2.line))).map (fun w => tileOf w.2.line))
    ++ s.can.wf.flatMap (fun q => (q.2.filter (fun x => x.grove = g && decide (t ≤ tileOf x.line))).map (fun x => tileOf x.line))).dedup

/-- R49: a resize; a shrink releases the highest extents. -/
def applyResize (g extents : Nat) (s : State) : State :=
  match groveOf s g with
  | none => s
  | some r =>
    let s1 := modMeta (fun m => { m with
      partGroves := m.partGroves.map (fun x => if x.1 = g then (x.1, min x.2 (extents * 256)) else x) })
      (setGrove g (some { r with extents := extents }) s)
    if r.extents ≤ extents then s1 else sealProgress (forEach (tilesFrom s1 g (extents * 256)) (releaseTile g) s1)

/-- R48, R73, R341, R375: a deletion: tiles and schedule entries go, the slot is zeroised and spare again, and
the grove's status reads 0. -/
def applyDelete (g : Nat) (s : State) : State :=
  match groveOf s g with
  | none => s
  | some r =>
    let s1 := forEach (tilesFrom s g 0) (releaseTile g) s
    let s2 := setRegWord .groveStatus g 0 0 (setGrove g none (zeroSlot r.keySlot s1))
    sealProgress { s2 with tier := { s2.tier with
      readOnly := s2.tier.readOnly.filter (· ≠ g)
      md := { s2.tier.md with
        queue := s2.tier.md.queue.filter (fun q => q.e.grove ≠ g)
        partGroves := s2.tier.md.partGroves.filter (fun x => x.1 ≠ g)
        partHave := s2.tier.md.partHave.filter (fun x => x.1 ≠ g) } } }

/-- A grove record is applied. -/
def applyGrove (r : GroveRec) (s : State) : State :=
  match r.op with
  | 1 => applyCreate r s
  | 2 => applyResize r.grove r.extents s
  | 3 => applyDelete r.grove s
  | 4 => modMeta (fun m => { m with tmpls := SMap.set m.tmpls none r.grove (some r) }) s
  | _ => setGrove r.grove (some r) s

/-! ## Keys -/

/-- The record of a key, by its index. -/
def keyOf (s : State) (k : BitVec 64) : Option KeyRec :=
  (SMap.find s.tier.md.keys (k.toNat % 2 ^ 20)).filter (fun r => r.key = k)

/-- R319: the key is registered and no emitted revocation names it. -/
def keyLive (s : State) (k : BitVec 64) : Bool := (keyOf s k).isSome && !s.net.revokes.any (fun r => r.key = k)

/-- Stores or removes a key. -/
def setKey_ (k : BitVec 64) (r : Option KeyRec) (s : State) : State :=
  let i := k.toNat % 2 ^ 20
  touchMeta (tkey 1023 (20480 + i / 2)) (modMeta (fun m => { m with keys := SMap.set m.keys none i r }) s)

/-- R319: what a revocation's completion does: the index is free, and 398. -/
def freeKey (k : BitVec 64) (s : State) : State :=
  raise 398 (setKey_ k none { s with net := { s.net with
    revokes := s.net.revokes.filter (fun r => r.key ≠ k)
    dropped := s.net.dropped.filter (· ≠ k)
    keyCache := s.net.keyCache.filter (· ≠ k) } })

/-! ## The record as applied -/

/-- R266: label storage of an LD. -/
def applyLsa (ld off : Nat) (d : List Byte) (s : State) : State :=
  touchMeta (tkey 1023 (30720 + ld * 32 + off / 4096))
    (modMeta (fun m => { m with labels := SMap.writeRun m.labels 0 (ld * 2 ^ 17 + off) d }) s)

/-- A logical input other than a write, an atomic or a revocation is applied. -/
def applyMeta (op : RecOp) (gtc src : Nat) (ack : AckTo) (s : State) : State :=
  match op with
  | .sealOp g f n => applySeal g f n gtc src ack s
  | .unsealOp g f n => applyUnseal g f n s
  | .sched c => applySched c s
  | .grove r => applyGrove r s
  | .mapOp ld e x => setMapEntry ld e (if x.valid then some x else none) s
  | .keyReg k => setKey_ k.key (some k) s
  | .lsa ld off d => applyLsa ld off d s
  | _ => s

/-! ## What the deciding node checks at emission (R144, R147, R375, R312) -/

/-- The origin's map maps the grove with RD (R147), or it is a management source. -/
def mayStage (s : State) (origin g : Nat) : Bool :=
  (decide (311 ≤ origin) && decide (origin ≤ 315))
    || s.tier.md.map.any (fun p => p.1 / 2 ^ 22 = origin && (match p.2 with
      | some x => x.valid && x.rd && x.grove = g
      | none => false))

/-- R144: result of a SEAL or UNSEAL. -/
def checkSeal (s : State) (origin g first count : Nat) (isSeal : Bool) : Nat :=
  match groveOf s g with
  | none => 2
  | some r =>
    if g = 1023 || count = 0 || 4194304 < count || groveTiles r < first + count then 2
    else if !r.sealers.contains origin then 1
    else if isSeal && 1048576 ≤ s.tier.md.journal.length then 3 else 0

/-- Deadlines never fall, from `d` on. -/
def risingFrom (d : Nat) : List SchedEntry → Bool
  | [] => true
  | e :: rest => decide (d ≤ e.deadline) && risingFrom e.deadline rest

/-- R144, R147: result of a SCHEDULE command. A schedule is known while it has an unretired entry, and its last deadline
is the last of these (log 90). -/
def checkSched (s : State) (origin : Nat) (c : SchedCmd) : Nat :=
  let mine := entriesOf s c.id
  let outside (e : SchedEntry) : Bool := match groveOf s e.grove with
    | none => true
    | some r => e.grove = 1023 || decide (groveTiles r < e.firstTile + e.count)
  let last := mine.foldl (fun d q => max d q.e.deadline) 0
  let have_ := s.tier.md.queue.length - (if c.cmd = 0 then mine.length else 0)
  if c.entries.any outside then 2
  else if c.entries.any (fun e => !mayStage s origin e.grove) then 1
  else if c.id = 0 || 4095 < c.id || 2 < c.cmd || 255 < c.entries.length || 1000000 < c.hold
      || (c.lateBound != 0 && (decide (c.lateBound < 10) || decide (10000 < c.lateBound)))
      || c.entries.any (fun e => e.count = 0 || decide (4194303 < e.count))
      || (c.cmd != 0 && mine.isEmpty)
      || !risingFrom (if c.cmd = 1 then last else 0) c.entries then 4
  else if c.cmd != 2 && decide (1048576 < have_ + c.entries.length) then 3 else 0

/-- A grove-map entry or a window names grove bytes at or above an extent (R48, R268). -/
def mapNames (s : State) (g ext : Nat) : Bool :=
  s.tier.md.map.any (fun p => match p.2 with
    | some x => x.valid && x.grove = g && decide (ext ≤ x.extent)
    | none => false)

/-- A window of a registered key names the grove (R48). -/
def windowNames (s : State) (g : Nat) : Bool :=
  (SMap.present s.tier.md.keys).any (fun p => p.2.windows.any (fun w => w.grove = g))

/-- R375: the whole record of a grove change, or its result code. -/
def decideGrove (s : State) (r : GroveRec) : Except Nat GroveRec :=
  match r.op with
  | 1 =>
    match SMap.find s.tier.md.tmpls r.tmpl with
    | none => .error 4
    | some t =>
      if r.extents = 0 || t.maxExtents < r.extents then .error 4
      else if s.tier.md.maxGroves ≤ (SMap.present s.tier.md.groves).length then .error 3
      else
        let id := firstIdx (if isSmall s then 511 else 1023) (fun g => (groveOf s g).isNone)
        let slot := (SMap.keys s.cipher.slots).find? (spareSlot s)
        match id, slot with
        | some g, some n => .ok { t with grove := g, op := 1, keySlot := n, extents := r.extents, tmpl := r.tmpl }
        | _, _ => .error 3
  | 2 =>
    match groveOf s r.grove with
    | none => .error 2
    | some x =>
      if r.extents = 0 || x.maxExtents < r.extents || (r.extents < x.extents && mapNames s r.grove r.extents) then .error 4
      else .ok { x with op := 2, extents := r.extents }
  | _ =>
    match groveOf s r.grove with
    | none => .error 2
    | some x =>
      if mapNames s r.grove 0 || windowNames s r.grove then .error 4
      else .ok { x with op := 3 }

/-- R312: a window is aligned and lies in a grove that exists. -/
def windowOk (s : State) (w : Window) : Bool :=
  w.base % 4096 = 0 && w.len % 4096 = 0 && w.off % 4096 = 0 && decide (0 < w.len) && decide (w.base + w.len ≤ 2 ^ 64)
    && w.grove != 1023 && (match groveOf s w.grove with
      | some r => decide (w.off + w.len ≤ r.extents * 2 ^ 24)
      | none => false)

/-- Windows of one key do not overlap in remote address (R47). -/
def disjoint : List Window → Bool
  | [] => true
  | w :: rest => rest.all (fun x => decide (w.base + w.len ≤ x.base) || decide (x.base + x.len ≤ w.base)) && disjoint rest

/-- R312: result of KEY_REGISTER. -/
def checkKey (s : State) (k : KeyRec) : Nat :=
  let used := (SMap.present s.tier.md.keys).foldl (fun n p => n + p.2.windows.length) 0
  if k.windows.isEmpty || 64 < k.windows.length || !k.windows.all (windowOk s) || !disjoint k.windows then 3
  else if !k.any && (decide (63 < k.peerClass) || (s.net.classes[k.peerClass]?).isNone) then 6
  else if 1048576 ≤ (SMap.present s.tier.md.keys).length then 1
  else if 4194304 < used + k.windows.length then 2 else 0

/-- R312: the key as drawn: the lowest free index under a check value that is not 0. -/
def drawKey (s : State) : BitVec 64 :=
  let i := (firstIdx ((SMap.present s.tier.md.keys).length + 1) (fun n => (SMap.find s.tier.md.keys n).isNone)).getD 0
  let c := (Config.drbg s.free).toNat % 2 ^ 44
  BitVec.ofNat 64 ((if c = 0 then 1 + (Config.drbg (s.free + 1)).toNat % (2 ^ 44 - 1) else c) * 2 ^ 20 + i)

end Sys2Proof.Machine
end

