-- ==== Sys2Proof/Machine/Emit.lean ====
section
/-!
DEFINITION. Emission (R34): emission checks and refusals (R67), numbering and the records for the peer (R32,
R83, R87), the application of the node's own inputs and of replayed ones (R18, R84, R88).
-/

namespace Sys2Proof.Machine

open Sys2Proof

/-! ## The merge (R34) -/

/-- The oldest input by stamp. -/
def headOf (l : List Input) : Option Input :=
  l.foldl (fun (b : Option Input) i =>
    match b with
    | none => some i
    | some x => if i.gtc < x.gtc || (i.gtc == x.gtc && decide (i.src < x.src)) then some i else some x) none

/-- R34: no other source of the merge set can still send an earlier stamp. -/
def mergeReady (s : State) (i : Input) : Bool :=
  (s.seqr.mergeSet.filter (fun y => y ≠ i.lane && inMerge s y)).all (fun y =>
    let w := SMap.get s.seqr.marks 0 y
    decide (i.gtc < w) || (w == i.gtc && decide (i.src < y)))

/-! ## Refusals (R67, R270, R304) -/

/-- Lines an input names. -/
def opLines : InOp → Nat × List Nat
  | .log (.write g ps) => (g, ps.map (·.line))
  | .fadd g o _ => (g, [o / 64])
  | .cas g o _ _ => (g, [o / 64])
  | _ => (0, [])

/-- R67: a write or atomic refused at emission: CXL reason and NAK code. -/
def refusedData (s : State) (i : Input) : Option (Nat × Nat) :=
  let x := opLines i.op
  match groveOf s x.1 with
  | none => some (1, 0x04)
  | some r =>
    if i.key ≠ 0 && !keyLive s i.key then some (1, 0x02)
    else if x.2.any (fun a => decide (groveLines r ≤ a)) then some (1, 0x04)
    else if x.2.any (fun a => tileReadOnly s x.1 (tileOf a)) then some (3, 0x06)
    else if groveReadOnly s x.1 then some (4, 0x06) else none

/-- A refused VRMP request is answered with a selective NAK, and leaves its queue pair's counts. -/
def refuseVrmp (q psn code addr : Nat) (s : State) : State :=
  sendNak q psn code addr (updQp q (fun x => { x with
    unplaced := x.unplaced - 1
    atomics := x.atomics.filter (· ≠ psn) }) s)

/-- The answer of a refused write or atomic. -/
def refuseData (i : Input) (reason code : Nat) (s : State) : State :=
  match i.ack with
  | .cxl p l t g => refuseCxl ⟨p, l, t, 0⟩ reason true i.raddr (some g) s
  | .vrmp q psn => perfAdd ⟨i.src, 1, none⟩ 0x0A 1 (refuseVrmp q psn code i.raddr s)
  | .zeroPiece => { s with can := { s.can with
      zeroLeft := s.can.zeroLeft - 1, skipped := satAdd 32 s.can.skipped 1 } }
  | .dcd t p l => mboxDone p l t 1 [] (updLd p l (fun y => { y with dcdLeft := y.dcdLeft.filter (fun x => x.1 ≠ t) }) s)
  | _ => s

/-- A refused command is completed with its code; 574 for a seal or schedule, 580 for a full journal (R169). -/
def refuseCmd (i : Input) (code event : Nat) (s : State) : State :=
  let s1 := onlyIf (event != 0) (raise event) s
  match i.ack with
  | .cmd p t c => if isReady s1 then complete p t c code [] s1 else s1
  | _ => s1

/-! ## Numbers and records -/

/-- R34, R87, R89: an emitted logical input takes its number, and its record goes to the peer; `none` waits for
an atomic's result. -/
def takeNumber (r : Option StampRec) (s : State) : State :=
  let n := s.seqr.nextSeq
  let s1 := { s with
    seqr := { s.seqr with nextSeq := n + 1, unsent := s.seqr.unsent ++ [(n, r)] }
    twin := { s.twin with unrep := if s.twin.role = .leader || feeding s then s.twin.unrep ++ [(n, now s)] else s.twin.unrep } }
  flushRecs (s1.seqr.unsent.length + 1) s1

/-- A placing record for `n` pieces at a level; a MIRROR one waits for the peer (R19, R55). -/
def addPlacing (i : Input) (seq n : Nat) (l : Level) (s : State) : State :=
  let x : Placing :=
    { id := s.ids, seq := seq, src := i.src, gtc := i.gtc, left := n,
      mirror := if l = .mir && s.twin.role = .leader then some seq else none, level := l, ack := i.ack, key := i.key }
  bumpId { s with seqr := { s.seqr with placing := s.seqr.placing ++ [x] } }

/-- R18 step 4: the pieces of an emitted write are applied. -/
def applyPieces (id g seq : Nat) (land : Bool) (ps : List Piece) (s : State) : State :=
  forEach ps (placePiece id g seq land) s

/-! ## The node's own inputs -/

/-- A write is emitted (R18, R55, R103). -/
def emitWrite (i : Input) (g : Nat) (ps : List Piece) (s : State) : State :=
  match refusedData s i with
  | some (r, c) => refuseData i r c s
  | none =>
    let seq := s.seqr.nextSeq
    let s1 := takeNumber (some ⟨i.gtc, i.src, .write g ps⟩) s
    let s2 := forEach ((ps.map (·.line)).dedup) (fun a t => retain seq g a i.gtc i.src t) s1
    let id := s2.ids
    applyPieces id g seq false ps (addPlacing i seq ps.length (effLevel s2 g) s2)

/-- An atomic is emitted: it is executed at its line's home slice, behind what waits there (R64, R317). -/
def emitAtomic (i : Input) (g off : Nat) (s : State) : State :=
  match refusedData s i with
  | some (r, c) => refuseData i r c s
  | none =>
    let a := off / 64
    let seq := s.seqr.nextSeq
    let s1 := takeNumber none s
    let id := s1.ids
    readAt g a (.atomic id seq i) (writeReqOf i.src g a) (addPlacing i seq 1 (effLevel s1 g) s1)

/-- A FLUSH is emitted (R58); one of a revoked key is refused (R319). -/
def emitFlush (i : Input) (q : Nat) (l : Level) (s : State) : State :=
  let psn := match i.ack with
    | .vrmp _ p => p
    | _ => 0
  if !keyLive s i.key then
    sendNak q psn 0x02 i.raddr (updQp q (fun x => { x with flushes := x.flushes.filter (fun f => f.psn ≠ psn) }) s)
  else
    let s1 := takeNumber (some ⟨i.gtc, i.src, .flush q l⟩) s
    updQp q (fun x => { x with flushes := mapIf (fun f => f.psn = psn) (fun f => { f with emitted := true }) x.flushes }) s1

/-- A seal or unseal is emitted (R144 to R146). -/
def emitSeal (i : Input) (op : RecOp) (g f n : Nat) (isSeal : Bool) (s : State) : State :=
  let c := checkSeal s i.origin g f n isSeal
  if c ≠ 0 then refuseCmd i c 574 (onlyIf (c = 3) (raise 580) s)
  else
    let s1 := applyMeta op i.gtc i.src i.ack (takeNumber (some ⟨i.gtc, i.src, op⟩) s)
    if isSeal then s1 else answerAck i.ack .loc i.gtc i.src s1

/-- A schedule command is emitted (R147, R150). -/
def emitSched (i : Input) (c : SchedCmd) (s : State) : State :=
  let k := checkSched s i.origin c
  if k ≠ 0 then refuseCmd i k 574 s
  else answerAck i.ack .loc i.gtc i.src (applySched c (takeNumber (some ⟨i.gtc, i.src, .sched c⟩) s))

/-- A grove change is emitted (R375). A creation's completion carries the new grove's ID (log 17). -/
def emitGrove (i : Input) (r : GroveRec) (s : State) : State :=
  match decideGrove s r with
  | .error k => refuseCmd i k 0 s
  | .ok x =>
    let s1 := applyGrove x (takeNumber (some ⟨i.gtc, i.src, .grove x⟩) s)
    match i.ack with
    | .cmd p t c => if isReady s1 then complete p t c 0 (if x.op = 1 then [x.grove] else []) s1 else s1
    | _ => s1

/-- A registration is emitted: the key is drawn and returned (R312). -/
def emitKey (i : Input) (k : KeyRec) (s : State) : State :=
  let c := checkKey s k
  if c ≠ 0 then refuseCmd i c 0 s
  else
    let x : KeyRec := { k with key := drawKey s }
    let s1 := setKey_ x.key (some x) (takeNumber (some ⟨i.gtc, i.src, .keyReg x⟩) (useFree (useFree s)))
    match i.ack with
    | .cmd p t n => if isReady s1 then complete p t n 0 [x.key.toNat] s1 else s1
    | _ => s1

/-- A revocation is emitted: it is pending until what bears the key is done, and every engine drops the key
(R319). -/
def emitRevoke (i : Input) (k : BitVec 64) (s : State) : State :=
  if (keyOf s k).isNone then refuseCmd i 4 0 s
  else if s.net.revokes.any (fun r => r.key = k) then refuseCmd i 5 0 s
  else
    let s1 := takeNumber (some ⟨i.gtc, i.src, .keyRevoke k⟩) s
    { s1 with net := { s1.net with
      revokes := s1.net.revokes ++ [⟨k, i.gtc, i.ack⟩]
      dropped := s1.net.dropped ++ [k], keyCache := s1.net.keyCache.filter (· ≠ k) } }

/-- An input of the node's own is emitted. -/
def emitOwn (i : Input) (s : State) : State :=
  match i.op with
  | .readOnly g => { s with tier := { s.tier with readOnly := insertNat g s.tier.readOnly } }
  | .local_ => s
  | .fadd g o _ => emitAtomic i g o s
  | .cas g o _ _ => emitAtomic i g o s
  | .log op =>
    match op with
    | .write g ps => emitWrite i g ps s
    | .flush q l => emitFlush i q l s
    | .sealOp g f n => emitSeal i op g f n true s
    | .unsealOp g f n => emitSeal i op g f n false s
    | .sched c => emitSched i c s
    | .grove r => emitGrove i r s
    | .keyReg k => emitKey i k s
    | .keyRevoke k => emitRevoke i k s
    | .mapOp _ _ x =>
      if x.valid && (groveOf s x.grove).isNone then refuseData i 1 0x04 s
      else answerAck i.ack .loc i.gtc i.src (applyMeta op i.gtc i.src .none (takeNumber (some ⟨i.gtc, i.src, op⟩) s))
    | .lsa _ _ _ => answerAck i.ack .loc i.gtc i.src (applyMeta op i.gtc i.src .none (takeNumber (some ⟨i.gtc, i.src, op⟩) s))
    | .atomic _ _ _ _ => s
    | .reserved _ => s

/-! ## Replay (R83, R84, R88) -/

/-- Bytes a replayed atomic wrote. -/
def atomicPiece (off : Nat) (w : BitVec 64) : Piece := ⟨off / 64, at64 (off % 64) w, maskRun (off % 64) 8⟩

/-- R375: a create whose slot is no spare one here is a stream error. -/
def badCreate (s : State) (op : RecOp) : Bool :=
  match op with
  | .grove r => r.op == 1 && !spareSlot s r.keySlot
  | _ => false

/-- The applied position advances, with the lag from receipt to application (R123, R129). -/
def noteApplied (seq gtc : Nat) (s : State) : State :=
  let got := ((s.twin.unrep.find? (fun x => x.1 = seq)).map (·.2)).getD (now s)
  let lag := min 65535 (now s - got)
  freeApplied seq (maxRc .twinLag 0 31 16 lag
    { s with
      twin := { s.twin with applied := seq, lag := lag, unrep := s.twin.unrep.filter (fun x => x.1 ≠ seq) }
      seqr := { s.seqr with nextSeq := seq + 1, topReplay := max s.seqr.topReplay gtc } })

/-- R453, R454: a replayed input counts as a request of its replay engine. -/
def replayed (r : StampRec) (lane : Nat) (s : State) : State :=
  match r.op with
  | .write g ps => (match ps with
    | p :: _ => moved 4 lane g p.line ps.length s
    | [] => s)
  | .atomic g o _ _ => moved 4 lane g (o / 64) 1 s
  | _ => perfAdd ⟨lane, 4, none⟩ 0x01 1 s

/-- A replayed record is applied, without re-evaluation. -/
def applyReplay (seq : Nat) (r : StampRec) (lane : Nat) (s : State) : State :=
  if badCreate s r.op then streamError s
  else
    let i : Input :=
      { src := r.src, gtc := r.gtc, lane := lane, op := .log r.op, ack := .none, origin := 0, key := 0, raddr := 0, seq := seq }
    let s1 := onlyIf (perfInUse s) (replayed r lane) (foldDigest seq r s)
    let put (g : Nat) (ps : List Piece) : State :=
      let id := s1.ids
      applyPieces id g seq true ps (addPlacing i seq ps.length .loc s1)
    noteApplied seq r.gtc (match r.op with
      | .write g ps => put g ps
      | .atomic g o _ w =>
        (match w with
          | some v => put g [atomicPiece o v]
          | none => s1)
      | .keyRevoke k => freeKey k s1
      | op => applyMeta op r.gtc r.src .none s1)

/-- The record of a replayed input. -/
def replayRec (i : Input) : StampRec :=
  match i.op with
  | .log op => ⟨i.gtc, i.src, op⟩
  | _ => ⟨i.gtc, i.src, .reserved 0⟩

/-- A replayed write finds room for every line (R20), and no queued chunk comes before it (R110). -/
def replayReady (s : State) (i : Input) : Bool :=
  let ok (g a : Nat) : Bool := !lineQueued s g a && (!bankFull s g a || (landOf s g a).isSome)
  s.twin.role != .fenced
    && !s.twin.chunks.any (fun c => decide (c.asOf < i.seq))
    && (match i.op with
      | .log (.write g ps) => ps.all (fun p => ok g p.line)
      | .log (.atomic g o _ w) => w.isNone || ok g (o / 64)
      | _ => true)

/-! ## One slot of the loop of R34 -/

/-- Removes an input: the first equal one. -/
def takeInput (i : Input) (s : State) : State :=
  { s with seqr := { s.seqr with inputs := s.seqr.inputs.erase i } }

/-- Emits up to `fuel` inputs. -/
def emitLoop (fuel : Nat) (s : State) : State :=
  match fuel with
  | 0 => s
  | n + 1 =>
    match headOf s.seqr.inputs with
    | none => s
    | some i =>
      if !mergeReady s i then s
      else if i.seq = 0 then
        emitLoop n (emitOwn i (recSample 7 (now s - i.gtc) (takeInput i s)))
      else if replayReady s i then
        emitLoop n (applyReplay i.seq (replayRec i) i.lane (recSample 7 (now s - i.gtc) (takeInput i s)))
      else s

end Sys2Proof.Machine
end

