-- ==== Sys2Proof/Machine/Host.lean ====
section
/-!
DEFINITION. The CXL host ports: request decoding (R42 to R45, R265), refusals (R270), credits and holds (R20,
R271), reads and writes (R14, R18, R269), GPF (R56, R57), the links (R259 to R262, R278 to R281), IDE (R274,
R275), Dynamic Capacity (R267), and the mailbox (R266, R276).
-/

namespace Sys2Proof.Machine

open Sys2Proof

/-! ## Decoding -/

/-- R265: an HPA inside a decoder's range and at its interleave position gives a DPA. Positions of 3, 6 and 12
ways are taken modulo the ways (log 15). -/
def decodeHpa (d : Decoder) (hpa : Nat) : Option Nat :=
  let off := hpa - d.hpaBase
  if d.hpaBase ≤ hpa && decide (off < d.size) && decide (off / d.gran % d.ways = d.pos) then
    some (d.dpaBase + off / (d.gran * d.ways) * d.gran + off % d.gran)
  else none

/-- The DPA of a request, by the first of the LD's committed decoders that it matches. -/
def dpaOf (s : State) (r : CxlReq) : Option Nat :=
  (List.range 4).findSome? (fun i => (SMap.find (ldOf s r.port r.ld).decs i).bind (fun d => decodeHpa d r.hpa))

/-- What the checks of cycle 2 find. -/
inductive Check
  /-- refused, with reason and DPA -/
  | refuse (reason dpa : Nat) (g : Option Nat)
  /-- admitted: grove and line -/
  | go (g line : Nat)
  /-- the map word cannot be read: no answer (R422) -/
  | lost
  deriving DecidableEq, Repr

/-- Reasons that a request meets whatever it asks for: 6, 5, and 8 for an unsupported opcode. -/
def earlyReason (s : State) (r : CxlReq) (unsupported : Bool) : Option Nat :=
  if (portOf s r.port).isolated then some 6
  else if !serving s then some 5
  else if unsupported then some 8
  else none

/-- R46: the entry an access of a source meets: changes stamped before the access and not yet emitted are laid
over it. -/
def entryFor (s : State) (src e : Nat) (x : Option MapEntry) : Option MapEntry :=
  s.seqr.inputs.foldl (fun y i =>
    match i.op with
    | .log (.mapOp l k m) =>
      if l = src && k = e && (decide (i.gtc < stampNow s src) || (decide (i.gtc = stampNow s src) && decide (i.src < src))) then some m else y
    | _ => y) x

/-- R42, R44, R265, R270: reasons 6, 5, 0 and 1 up to the map: the request's DPA, or its refusal. -/
def checkDpa (s : State) (r : CxlReq) : Check ⊕ Nat :=
  match earlyReason s r false, dpaOf s r with
  | some k, x => .inl (.refuse k (x.getD r.hpa) none)
  | none, none => .inl (.refuse 0 r.hpa none)
  | none, some dpa => if ldEntries s r.port r.ld ≤ dpa / 2 ^ 24 then .inl (.refuse 1 dpa none) else .inr dpa

/-- R18, R42 to R45, R270, R336: the checks of cycle 2, in the order of reasons. -/
def checkReq (s : State) (r : CxlReq) (write poison : Bool) : State × Check :=
  match checkDpa s r with
  | .inl c => (s, c)
  | .inr dpa =>
    let src := 16 * r.port + r.ld
    let e := dpa / 2 ^ 24
    let m := readMapEntry src e s
    if !m.2.1 then (m.1, .lost)
    else match entryFor s src e m.2.2 with
      | none => (m.1, .refuse 1 dpa none)
      | some x =>
        let line := x.extent * 2 ^ 18 + dpa % 2 ^ 24 / 64
        let no (k : Nat) : State × Check := (m.1, .refuse k dpa (some x.grove))
        if !x.valid then (m.1, .refuse 1 dpa none)
        else if !(if write then x.wr else x.rd) || !groveKeyed s x.grove then no 2
        else if write && poison then no 7
        else if write && tileReadOnly s x.grove (tileOf line) then no 3
        else if write && groveReadOnly s x.grove then no 4
        else (m.1, .go x.grove line)

/-- R45, R265: a request that is neither a read nor a write: the checks up to a VALID map entry. -/
def checkInv (s : State) (r : CxlReq) : State × Check :=
  match checkReq s r false false with
  | (t, .refuse 2 _ (some g)) => (t, .go g 0)
  | x => x

/-! ## Credits -/

/-- The port carries traffic: formed, with the LD, its link UP. -/
def portLive (s : State) (r : CxlReq) : Bool :=
  (portOf s r.port).link == .up && (ldOf s r.port r.ld).present && decide (r.ld < 16)

/-- R271: a flit beyond the port's credits is dropped; event +3 with RX_OVERFLOW. -/
def overflow (p : Nat) (s : State) : State := portEvent p 3 (setBit .hostCause p 4 s)

/-- R271: a Req message is accepted: at READY, while reads that wait before the crossing leave one of the 256
credits. -/
def onReq (r : CxlReq) (f : State → State) (s : State) : State :=
  if !portLive s r then s else if !isReady s || 256 ≤ waitingReads s r.port then overflow r.port s else f s

/-- R271: an RwD message is accepted: at READY, while the port does not hold all 128 credits. -/
def onRwd (r : CxlReq) (f : State → State) (s : State) : State :=
  if !portLive s r then s else if !isReady s || 128 ≤ heldOf s r.port then overflow r.port s else f s

/-! ## Reads -/

/-- R14, R269: an admitted read is outstanding until it is answered. -/
def startRead (r : CxlReq) (g line : Nat) (chk : ArrayCheck) (s0 : State) : State :=
  let s := addErr g line chk s0
  let q := readReqOf (srcReq r) g line
  let id := s.ids
  let s1 := perfAdd q 0x02 1 (perfAdd q 0x01 1 (bumpId s))
  let p : PendRead := { id := id, req := r, grove := g, line := line, gtc := now s }
  readAt g line (.cxlRead id) q { s1 with seqr := { s1.seqr with reads := s1.seqr.reads ++ [p] } }

/-- MEM_RD (R14, R269): decoded, checked and answered by the read path, or it waits. -/
def execMemRd (r : CxlReq) (chk : ArrayCheck) (s : State) : Host.Outcome State Fault Refusal :=
  onUnit (decide (r.port < 16)) s (onReq r (fun t =>
    let c := checkReq t r false false
    match c.2 with
    | .refuse k dpa g => refuseCxl r k false dpa g c.1
    | .lost => c.1
    | .go g line => startRead r g line chk c.1) s)

/-- MEM_SPEC_RD (R269): the lookups may start or the hint is dropped; nothing is answered. -/
def execMemSpecRd (r : CxlReq) (s : State) : Host.Outcome State Fault Refusal :=
  onUnit (decide (r.port < 16)) s (onReq r (fun t =>
    let c := checkReq t r false false
    match c.2 with
    | .go g line =>
      if Config.choose t.free 2 = 0 then useFree t
      else match hitWay c.1 g line with
        | some (w, _) => useFree (touchWay (setKey c.1 g line) w c.1)
        | none => useFree (touchAge g (tileOf line) c.1)
    | _ => t) s)

/-- MEM_INV (R265, R269, R270): Cmp, with no change; refused as a read where no mapped line is named. -/
def execMemInv (r : CxlReq) (s : State) : Host.Outcome State Fault Refusal :=
  onUnit (decide (r.port < 16)) s (onReq r (fun t =>
    let c := checkInv t r
    match c.2 with
    | .refuse k dpa g => refuseCxl r k false dpa g c.1
    | .lost => c.1
    | .go g _ => send (.cmp r.port r.ld r.tag (devLoad c.1 r.port (some g))) c.1) s)

/-- UNSUPPORTED_M2S_OPCODE (R269, R270): reason 8, as a read on Req and as a write on RwD. -/
def execUnsupportedM2sOpcode (r : CxlReq) (rwd : Bool) (s : State) : Host.Outcome State Fault Refusal :=
  let f (t : State) : State := refuseCxl r ((earlyReason t r true).getD 8) rwd ((dpaOf t r).getD r.hpa) none t
  onUnit (decide (r.port < 16)) s ((if rwd then onRwd r f else onReq r f) s)

/-- READ_WATCHDOG (R273, R316): a read still unanswered is completed with poison; its data is discarded later. A VRMP
read is cut at the first line that has not come, with NAK POISON. -/
def execReadWatchdog (id : Nat) (s : State) : Host.Outcome State Fault Refusal :=
  done (match s.seqr.reads.find? (fun r => r.id = id) with
    | none => (match s.seqr.jobs.find? (fun j => j.id = id) with
      | some j => finishJob j s
      | none => s)
    | some r =>
      let s1 := { s with seqr := { s.seqr with reads := s.seqr.reads.filter (fun x => x.id ≠ id) } }
      portEvent r.req.port 3 (setBit .hostCause r.req.port 6
        (send (.memData r.req.port r.req.ld r.req.tag 0 true (devLoad s r.req.port (some r.grove))) s1)))

/-! ## Writes -/

/-- The landing bank of a held CXL write. -/
def heldBank (s : State) (h : HeldReq) : Option (Nat × Nat) :=
  match h with
  | .cxl r g p _ => some (r.port, sliceOf s g p.line)
  | _ => none

/-- R20, R271: a CXL write is held: every input is, its bank is full, or one of its port is held for that bank. -/
def holdCxl (s : State) (r : CxlReq) (g line : Nat) : Bool :=
  holdAll s || bankFull s g line || sliceHeld s g line || s.seqr.held.any (fun h => heldBank s h == some (r.port, sliceOf s g line))

/-- R18: an admitted write is stamped. -/
def stampCxl (r : CxlReq) (g : Nat) (p : Piece) (dpa : Nat) (s : State) : State :=
  stampInput (srcReq r) (.log (.write g [p])) (.cxl r.port r.ld r.tag g) (srcReq r) 0 dpa s

/-- R18, R20: an admitted write is stamped, or held with its credit. -/
def admitCxl (r : CxlReq) (g : Nat) (p : Piece) (s : State) : State :=
  let q := writeReqOf (srcReq r) g p.line
  let s1 := perfAdd q 0x02 1 (perfAdd q 0x01 1 s)
  if holdCxl s1 r g p.line then
    let s2 := { s1 with seqr := { s1.seqr with held := s1.seqr.held ++ [.cxl r g p (now s)] } }
    maxRc .hostHold r.port 31 16 (heldOf s2 r.port) s2
  else stampCxl r g p ((dpaOf s r).getD 0) s1

/-- The write path from the flit decoder (R18, R269). -/
def memWrite (r : CxlReq) (data : LineData) (mask : Mask) (poison : Bool) (s : State) : State :=
  onRwd r (fun t =>
    let c := checkReq t r true poison
    match c.2 with
    | .refuse k dpa g => refuseCxl r k true dpa g c.1
    | .lost => c.1
    | .go g line =>
      if mask = 0 then send (.cmp r.port r.ld r.tag (devLoad c.1 r.port (some g))) c.1
      else admitCxl r g ⟨line, data, mask⟩ c.1) s

/-- MEM_WR (R18, R269). -/
def execMemWr (r : CxlReq) (data : LineData) (poison : Bool) (s : State) : Host.Outcome State Fault Refusal :=
  onUnit (decide (r.port < 16)) s (memWrite r data fullMask poison s)

/-- MEM_WR_PTL (R269): one input of the enabled bytes; with none enabled it is completed and not stamped. -/
def execMemWrPtl (r : CxlReq) (data : LineData) (mask : Mask) (poison : Bool) (s : State) : Host.Outcome State Fault Refusal :=
  onUnit (decide (r.port < 16)) s (memWrite r data mask poison s)

/-! ## GPF -/

/-- GPF_PHASE1 (R56): completed at once. -/
def execGpfPhase1 (port : Nat) (s : State) : Host.Outcome State Fault Refusal :=
  onUnit (decide (port < 16)) s
    (if isReady s && (portOf s port).link == .up then send (.gpfDone port 1) s else s)

/-- GPF_PHASE2 (R56): the request takes its arrival stamp and waits. -/
def execGpfPhase2 (port : Nat) (s : State) : Host.Outcome State Fault Refusal :=
  onUnit (decide (port < 16)) s
    (if isReady s && (portOf s port).link == .up then
      let g := stampNow s (16 * port)
      perfAdd ⟨16 * port, 2, none⟩ 0x01 1
        (setMark (16 * port) g (useFree { s with seqr := { s.seqr with gpf := s.seqr.gpf ++ [(port, g, 16 * port)] } }))
    else s)

/-- Stamp order (R30). -/
def before (g1 s1 g2 s2 : Nat) : Bool := decide (g1 < g2) || (g1 == g2 && decide (s1 < s2))

/-- R56: every write stamped before the request is placed in this node. -/
def gpfCovered (s : State) (g src : Nat) : Bool :=
  !s.seqr.inputs.any (fun i => isData i.op && before i.gtc i.src g src)
    && !s.seqr.placing.any (fun x => before x.gtc x.src g src && decide (x.left ≠ 0))

/-- GPF_PHASE2_COMPLETE (R56, R57). -/
def execGpfPhase2Complete (port : Nat) (s : State) : Host.Outcome State Fault Refusal :=
  onUnit (decide (port < 16)) s
    (match s.seqr.gpf.find? (fun x => x.1 = port) with
    | some x =>
      if gpfCovered s x.2.1 x.2.2 && canAnswer s then
        send (.gpfDone port 2) { s with seqr := { s.seqr with gpf := s.seqr.gpf.erase x } }
      else s
    | none => s)

/-- GPF_PHASE2_OVERTIME (R57): event +1 of the port. -/
def execGpfPhase2Overtime (port : Nat) (s : State) : Host.Outcome State Fault Refusal :=
  onUnit (decide (port < 16)) s (onlyIf (s.seqr.gpf.any (fun x => x.1 = port)) (portEvent port 1) s)

/-! ## Links -/

/-- Width a port is formed with (R260). -/
def formWidth (mode k : Nat) : Nat :=
  match mode with
  | 0 => if k = 0 then 16 else 0
  | 1 => if k = 0 || k = 2 then 8 else 0
  | _ => 4

/-- MAX_RATE of a port's group (R261). -/
def maxRate (s : State) (p : Nat) : Nat := fld s .hostGroupCfg 7 4 (p / 4)

/-- R259: the flits a port runs at a rate: 256 B ones at 64 GT/s, 68 B ones below 8 GT/s; the host's choice
otherwise (log 3). -/
def flitOf (s : State) (rate : Nat) : Nat :=
  if 6 ≤ rate then 1 + Config.choose s.free 2 % 2 else if 3 ≤ rate then Config.choose s.free 3 % 3 else 0

/-- R262: an UP port retrains to a width and rate; one below what it ran at is recorded, with event +2. -/
def retrainTo (p w r : Nat) (s : State) : State :=
  let x := portOf s p
  let tw := max x.topWidth w
  let tr := max x.topRate r
  let s1 := updPort p (fun y => { y with
    width := w, rate := r, topWidth := tw, topRate := tr, degraded := decide (w < tw) || decide (r < tr) }) s
  onlyIf (decide (w < x.width) || decide (r < x.rate)) (portEvent p 2)
    (onlyIf (decide (w < x.width)) (setBit .hostCause p 1)
      (onlyIf (decide (r < x.rate)) (setBit .hostCause p 2) s1))

/-- R261: the width and rate both ends support, within what the port forms. -/
def retrainBoth (p width rate : Nat) (s : State) : State :=
  retrainTo p (min width (portOf s p).maxWidth) (min rate (maxRate s p)) s

/-- R261: a port trains to a width and rate within what is formed. -/
def linkUp (p width rate : Nat) (s : State) : State :=
  retrainBoth p width rate (useFree (updPort p (fun x => { x with
    link := .up, width := 0, rate := 0, flit := flitOf s (min rate (maxRate s p)), ide := 0 }) s))

/-- HOST_LINK_UP (R261, R262, R280): a port that was DOWN returns to UP; one that is UP retrains at the host's
direction. -/
def execHostLinkUp (port width rate : Nat) (s : State) : Host.Outcome State Fault Refusal :=
  onUnit (decide (port < 16)) s
    (let x := portOf s port
    if !x.formed || width = 0 || rate = 0 then s
    else if x.link == .up then retrainBoth port width rate s
    else if (x.link == .down || x.link == .training) && decide (7 ≤ s.pwr.stage) && decide (s.pwr.stage ≤ 10)
        && !s.pwr.stopped then
      linkUp port width rate s
    else s)

/-- HOST_LANE_FAILURE (R262): narrower or slower, with the causes and event +2; DOWN when it cannot train. -/
def execHostLaneFailure (port width rate : Nat) (s : State) : Host.Outcome State Fault Refusal :=
  onUnit (decide (port < 16)) s
    (let x := portOf s port
    if x.link != .up then s
    else if width = 0 || rate = 0 then hostDown port s
    else retrainTo port (min width x.width) (min rate x.rate) s)

/-- HOST_LINK_DOWN (R280). -/
def execHostLinkDown (port : Nat) (s : State) : Host.Outcome State Fault Refusal :=
  onUnit (decide (port < 16)) s (hostDown port s)

/-- HOT_RESET (R280): the configuration spaces return to reset values; nothing further is answered. -/
def execHotReset (port : Nat) (s : State) : Host.Outcome State Fault Refusal :=
  onUnit (decide (port < 16)) s (if (portOf s port).link = .up then portReset port s else s)

/-- PME_TURN_OFF (R259): L2/L3 Ready. -/
def execPmeTurnOff (port : Nat) (s : State) : Host.Outcome State Fault Refusal :=
  onUnit (decide (port < 16)) s
    (if (portOf s port).link = .up then updPort port (fun x => { x with link := .l23 }) s else s)

/-- A host-port command of management (R284). -/
def portCmd (p : Path) (port : Nat) (f : State → State) (s : State) : State :=
  ctlWrite p (regAddr .hostCmd port)
    (fun t => if (portOf t port).formed then f t else accessEvent true 0 p (regAddr .hostCmd port) t) s

/-- ISOLATE (R278). -/
def execIsolate (p : Path) (port : Nat) (s : State) : Host.Outcome State Fault Refusal :=
  onUnit (decide (port < 16)) s (portCmd p port (updPort port (fun x => { x with isolated := true })) s)

/-- R34, R36: the LDs of a port join the merge set anew: none of them stalls. -/
def rejoin (port : Nat) (s : State) : State :=
  { s with seqr := { s.seqr with stalled := s.seqr.stalled.filter (fun y => decide (y / 16 ≠ port)) } }

/-- HOST_PORT_RELEASE (R278). -/
def execHostPortRelease (p : Path) (port : Nat) (s : State) : Host.Outcome State Fault Refusal :=
  onUnit (decide (port < 16)) s
    (portCmd p port (fun t => rejoin port (updPort port (fun x => { x with isolated := false }) t)) s)

/-- RETRAIN (R262): up to the formed width and the maximum rate, as far as both ends can. -/
def execRetrain (p : Path) (port width rate : Nat) (s : State) : Host.Outcome State Fault Refusal :=
  onUnit (decide (port < 16)) s (portCmd p port (fun t =>
    if (portOf t port).link = .up && width != 0 && rate != 0 then retrainBoth port width rate t else t) s)

/-- LOG_CLEAR (R284). -/
def execLogClear (p : Path) (port : Nat) (s : State) : Host.Outcome State Fault Refusal :=
  onUnit (decide (port < 16)) s (portCmd p port (updPort port (fun x => { x with log := [] })) s)

/-- R57: the Phase 2 duration that the GPF DVSEC reports, in µs. -/
def gpfPhase2Us : Nat := 2

/-- CONFIGURATION_REQUEST (R279): CRS in stages 7 to 9; served at READY in every role. The spec does not give
the values of the CXL-defined configuration space. -/
def execConfigurationRequest (port ld addr : Nat) (s : State) : Host.Outcome State Fault Refusal :=
  onUnit (decide (port < 16)) s
    (if (portOf s port).link != .up || !(ldOf s port ld).present then s
    else if isReady s then
      useFree (send (.cfgCpl port ld false
        (if addr = Config.gpfDvsec then gpfPhase2Us else (Config.anyWord (s.free + addr)).toNat)) s)
    else if 7 ≤ s.pwr.stage && s.pwr.stage ≤ 9 then send (.cfgCpl port ld true 0) s
    else s)

/-! ## Decoders -/

/-- DPA range of a decoder. -/
def dpaEnd (d : Decoder) : Nat := d.dpaBase + d.size / max 1 d.ways

/-- DECODER_COMMIT (R265): committed, unless it overlaps another in DPA; a locked one stays. -/
def execDecoderCommit (port ld idx : Nat) (d : Decoder) (s : State) : Host.Outcome State Fault Refusal :=
  onUnit (decide (port < 16) && decide (idx < 4)) s
    (let x := ldOf s port ld
    let locked := match SMap.find x.decs idx with
      | some o => o.lock
      | none => false
    let clash := (SMap.present x.decs).any (fun p =>
      decide (p.1 ≠ idx) && decide (p.2.dpaBase < dpaEnd d) && decide (d.dpaBase < dpaEnd p.2))
    if !x.present || (portOf s port).link != .up || locked || !isReady s then s
    else if clash || d.ways = 0 || d.gran = 0 then
      updLd port ld (fun y => { y with decs := SMap.del y.decs idx, decErr := insertNat idx y.decErr }) s
    else
      updLd port ld (fun y => { y with
        decs := SMap.put y.decs idx (some d), decErr := y.decErr.filter (· ≠ idx) }) s)

/-! ## IDE and SPDM -/

/-- The slot of one direction of a port (R370). -/
def ideSlot (s : State) (port : Nat) (tx : Bool) : Option Nat :=
  (s.cipher.slots.find? (fun p => p.2.bind = 2 && p.2.target = 2 * port + b2n tx)).map (·.1)

/-- SPDM_MESSAGE (R274): authentication opens the session. -/
def execSpdmMessage (port : Nat) (authOk : Bool) (s : State) : Host.Outcome State Fault Refusal :=
  onUnit (decide (port < 16)) s
    (if (portOf s port).link = .up && isReady s then updPort port (fun x => { x with spdm := x.spdm || authOk }) s else s)

/-- IDE_KM_KEY_PROG (R274, R333): inside an SPDM session a key is loaded; IDE counters start at 0. -/
def execIdeKmKeyProg (port : Nat) (tx : Bool) (key : BitVec 256) (s : State) : Host.Outcome State Fault Refusal :=
  onUnit (decide (port < 16)) s
    (match ideSlot s port tx with
    | some n =>
      if (portOf s port).spdm && (portOf s port).link == .up then
        updPort port (fun x => if tx then { x with ideTx := true } else { x with ideRx := true })
          (setSlot n { slotOf s n with
            state := .loaded, key := key.setWidth 512, oldKey := 0, ctr := 0, warn := false, usedEmpty := false } s)
      else s
    | none => s)

/-- KEY_GO (R274): IDE in force, in skid or containment mode, once both directions are keyed. -/
def execKeyGo (port : Nat) (containment : Bool) (s : State) : Host.Outcome State Fault Refusal :=
  onUnit (decide (port < 16)) s
    (let x := portOf s port
    if x.spdm && x.ideRx && x.ideTx && x.link == .up then
      updPort port (fun y => { y with ide := if containment then 2 else 1 }) s
    else s)

/-- Zeroises the IDE slots of a port. -/
def zeroIde (port : Nat) (s : State) : State :=
  forEach [false, true] (fun d t => match ideSlot t port d with
    | some n => zeroSlot n t
    | none => t) s

/-- IDE_FAIL (R275): Insecure, slots zeroised, event +3 with IDE_FAIL, and the link DOWN. -/
def execIdeFail (port : Nat) (s : State) : Host.Outcome State Fault Refusal :=
  onUnit (decide (port < 16)) s
    (let x := portOf s port
    if (x.ide = 1 || x.ide = 2) && x.link == .up then
      hostDown port (portEvent port 3 (setBit .hostCause port 3 (zeroIde port
        (updPort port (fun y => { y with ide := 3, ideRx := false, ideTx := false, ideErr := true })
          (send (.ideTerminated port) s)))))
    else s)

/-! ## Fabric manager and Dynamic Capacity -/

/-- A fabric-manager command over MCTP, which the I3C target carries at READY (R403, R484). -/
def onFm (f : State → State) (s : State) : State := if isReady s then f s else s

/-- A mailbox command of an LD: the mailbox is ready at READY (R279). -/
def onMailbox (port ld : Nat) (f : State → State) (s : State) : State :=
  if pathUp s (.mailbox port ld) then f s else s

/-- A result of the CXL-defined command sets that the spec calls a refusal without its code: 1, 2 or 3. -/
def fmOpen (s : State) : Nat := 1 + Config.choose s.free 3 % 3

/-- An extent covers a block. -/
def covers (e : DcExtent) (k : Nat) : Bool := decide (e.dpaExtent ≤ k) && decide (k < e.dpaExtent + e.blocks)

/-- R267: the DC region of an LD that contains an extent. -/
def inRegion (s : State) (src region : Nat) (e : DcExtent) : Bool :=
  s.tier.md.regions.any (fun r => r.ld = src && r.region = region
    && decide (r.base ≤ e.dpaExtent) && decide (e.dpaExtent + e.blocks ≤ r.base + r.len))

/-- The entry of a DPA extent is mapped. -/
def mapped (s : State) (src k : Nat) : Bool :=
  match SMap.find s.tier.md.map (mapKey src k) with
  | some x => x.valid
  | none => false

/-- R267: the checks of an add: 0 passes, 1 Invalid Input, 2 Resources Exhausted. -/
def addCheck (s : State) (port ld region : Nat) (es : List DcExtent) : Nat :=
  let src := 16 * port + ld
  let bad (e : DcExtent) : Bool :=
    e.blocks = 0 || !(match groveOf s e.grove with
      | some r => decide (e.grove < 1023) && decide (e.groveExtent + e.blocks ≤ r.extents)
      | none => false)
    || !inRegion s src region e || (List.range e.blocks).any (fun k => mapped s src (e.dpaExtent + k))
  if !(ldOf s port ld).present then 1
  else if es.any (fun e => decide (ldEntries s port ld < e.dpaExtent + e.blocks))
      || 4096 < (ldOf s port ld).extents.length + (ldOf s port ld).offered.length + es.length then 2
  else if es.any bad then 1 else 0

/-- INITIATE_DYNAMIC_CAPACITY_ADD (R267): checked, then offered by an Add Capacity record. -/
def execInitiateDynamicCapacityAdd (tag port ld region : Nat) (es : List DcExtent) (s : State) :
    Host.Outcome State Fault Refusal :=
  onUnit (decide (port < 16)) s (onFm (fun t =>
    let c := addCheck t port ld region es
    if c != 0 then send (.fmDone tag c []) t
    else
      send (.fmDone tag 0 []) (postRec port ld 4 2 (es.flatMap (fun e => [e.dpaExtent, e.blocks, e.grove, e.groveExtent]))
        (updLd port ld (fun d => { d with offered := d.offered ++ es.map (fun e => (region, e)) }) t))) s)

/-- A logical input of management, stamped under 311, or held with every other (R20, R267). -/
def stampMgmt (op : InOp) (ack : AckTo) (origin : Nat) (s : State) : State :=
  if holdAll s then
    let i : Input :=
      { src := 311, gtc := now s, lane := 311, op := op, ack := ack, origin := origin, key := 0, raddr := 0, seq := 0 }
    { s with seqr := { s.seqr with held := s.seqr.held ++ [.mgmt i] } }
  else stampInput 311 op ack origin 0 0 s

/-- The map entry of block `k` of an added extent; the spec states no permission bits of its own (log 14). -/
def dcEntry (region : Nat) (e : DcExtent) (k : Nat) : MapEntry :=
  { valid := true, rd := true, wr := true, dyn := true, dcRegion := region, grove := e.grove, extent := e.groveExtent + k }

/-- An entry that maps nothing. -/
def noEntry : MapEntry :=
  { valid := false, rd := false, wr := false, dyn := false, dcRegion := 0, grove := 0, extent := 0 }

/-- Stamps one MAP input per block of each extent (R46, R267). -/
def stampMaps (src : Nat) (es : List (DcExtent × (Nat → MapEntry))) (ack : AckTo) (s : State) : State :=
  forEach es (fun e t => forEach (List.range e.1.blocks) (fun k u =>
    stampMgmt (.log (.mapOp src (e.1.dpaExtent + k) (e.2 k))) ack src u) t) s

/-- Blocks of a list of extents. -/
def blocksOf (es : List DcExtent) : Nat := es.foldl (fun n e => n + e.blocks) 0

/-- A response waits for its inputs, or completes at once when it has none. -/
def awaitDcd (tag port ld n : Nat) (s : State) : State :=
  if n = 0 then mboxDone port ld tag 0 [] s
  else updLd port ld (fun d => { d with dcdLeft := d.dcdLeft ++ [(tag, n)] }) s

/-- ADD_DYNAMIC_CAPACITY_RESPONSE (R267): what was offered is mapped; anything else is Invalid Input. -/
def execAddDynamicCapacityResponse (tag port ld : Nat) (es : List DcExtent) (s : State) : Host.Outcome State Fault Refusal :=
  onUnit (decide (port < 16)) s (onMailbox port ld (fun t =>
    let off := (ldOf t port ld).offered
    let regionOf (e : DcExtent) : Nat := ((off.find? (fun x => x.2 = e)).map (·.1)).getD 0
    if !serving t || !es.all (fun e => off.any (fun x => x.2 = e)) then mboxDone port ld tag 1 [] t
    else
      let t1 := updLd port ld (fun d => { d with
        offered := d.offered.filter (fun x => !es.contains x.2)
        extents := d.extents ++ es }) t
      stampMaps (16 * port + ld) (es.map (fun e => (e, dcEntry (regionOf e) e))) (.dcd tag port ld)
        (awaitDcd tag port ld (blocksOf es) t1)) s)

/-- R267: a release names listed extents. -/
def listed (s : State) (port ld : Nat) (es : List DcExtent) : Bool :=
  es.all (fun e => (ldOf s port ld).extents.contains e)

/-- The extents leave the list. -/
def unlist (port ld : Nat) (es : List DcExtent) (s : State) : State :=
  updLd port ld (fun d => { d with extents := d.extents.filter (fun e => !es.contains e) }) s

/-- RELEASE_DYNAMIC_CAPACITY (R267): stamped, and complete when its inputs are emitted. -/
def execReleaseDynamicCapacity (tag port ld : Nat) (es : List DcExtent) (s : State) : Host.Outcome State Fault Refusal :=
  onUnit (decide (port < 16)) s (onMailbox port ld (fun t =>
    if !serving t || !listed t port ld es then mboxDone port ld tag 1 [] t
    else
      stampMaps (16 * port + ld) (es.map (fun e => (e, fun _ => noEntry))) (.dcd tag port ld)
        (awaitDcd tag port ld (blocksOf es) (unlist port ld es t))) s)

/-- FORCED_DYNAMIC_CAPACITY_RELEASE (R267): stamped at once, then a Release Capacity record. -/
def execForcedDynamicCapacityRelease (tag port ld : Nat) (es : List DcExtent) (s : State) :
    Host.Outcome State Fault Refusal :=
  onUnit (decide (port < 16)) s (onFm (fun t =>
    if !serving t || !listed t port ld es then send (.fmDone tag 1 []) t
    else
      send (.fmDone tag 0 []) (postRec port ld 4 3 (es.flatMap (fun e => [e.dpaExtent, e.blocks]))
        (stampMaps (16 * port + ld) (es.map (fun e => (e, fun _ => noEntry))) .none (unlist port ld es t)))) s)

/-- LDs present on a port. -/
def ldCount (s : State) (port : Nat) : Nat := ((List.range 16).filter (fun l => (ldOf s port l).present)).length

/-- GET_LD_INFO (R484): the LDs present, and the size of the whole allocation in extents. -/
def execGetLdInfo (tag : Nat) (s : State) : Host.Outcome State Fault Refusal :=
  done (onFm (fun t =>
    let ls := t.host.lds.filter (fun p => p.2.present)
    send (.fmDone tag 0 [ls.length, ls.foldl (fun n p => n + p.2.entries) 0]) t) s)

/-- GET_LD_ALLOCATIONS (R484): entries of each LD of a port. -/
def execGetLdAllocations (tag port : Nat) (s : State) : Host.Outcome State Fault Refusal :=
  onUnit (decide (port < 16)) s (onFm (fun t =>
    send (.fmDone tag 0 ((List.range (ldCount t port)).map (ldEntries t port))) t) s)

/-- GET_MULTI_HEADED_INFO (R259, R484): heads formed, and LDs. -/
def execGetMultiHeadedInfo (tag : Nat) (s : State) : Host.Outcome State Fault Refusal :=
  done (onFm (fun t =>
    send (.fmDone tag 0 [(t.host.ports.filter (fun p => p.2.formed)).length,
      (t.host.lds.filter (fun p => p.2.present)).length]) t) s)

/-- Binds or releases an LD and stores the binding (R264, R466). -/
def setBind (port ld : Nat) (b : Bool) (s : State) : State :=
  let k := 16 * port + ld
  let s1 := updLd port ld (fun d => { d with bound := b }) s
  putNode (fun n => { n with binds := if b then insertNat k n.binds else n.binds.filter (· ≠ k) }) s1

/-- BIND_LD (R264). -/
def execBindLd (tag port ld : Nat) (s : State) : Host.Outcome State Fault Refusal :=
  onUnit (decide (port < 16)) s (onFm (fun t =>
    if (ldOf t port ld).present && ld < 16 then send (.fmDone tag 0 []) (setBind port ld true t)
    else send (.fmDone tag 1 []) t) s)

/-- UNBIND_LD (R264). -/
def execUnbindLd (tag port ld : Nat) (s : State) : Host.Outcome State Fault Refusal :=
  onUnit (decide (port < 16)) s (onFm (fun t =>
    if (ldOf t port ld).present && ld < 16 then send (.fmDone tag 0 []) (setBind port ld false t)
    else send (.fmDone tag 1 []) t) s)

/-- SET_LD_ALLOCATIONS (R484): refused with Unsupported. -/
def execSetLdAllocations (tag port : Nat) (s : State) : Host.Outcome State Fault Refusal :=
  onUnit (decide (port < 16)) s (onFm (send (.fmDone tag 3 [])) s)

/-! ## Mailbox -/

/-- Static grove-map entries of an LD. -/
def staticEntries (s : State) (src : Nat) : Nat :=
  (s.tier.md.map.filter (fun p => p.1 / 2 ^ 22 = src && (match p.2 with
    | some x => x.valid && !x.dyn
    | none => false))).length

/-- IDENTIFY_MEMORY_DEVICE (R266). -/
def execIdentifyMemoryDevice (tag port ld : Nat) (s : State) : Host.Outcome State Fault Refusal :=
  onUnit (decide (port < 16)) s (onMailbox port ld (fun t =>
    mboxDone port ld tag 0 [staticEntries t (16 * port + ld) * 16777216, 0, 131072] t) s)

/-- SET_PARTITION_INFO (R266): refused. -/
def execSetPartitionInfo (tag port ld : Nat) (s : State) : Host.Outcome State Fault Refusal :=
  onUnit (decide (port < 16)) s (onMailbox port ld (fun t => useFree (mboxDone port ld tag (fmOpen t) [] t)) s)

/-- SET_LSA (R266): a stamped management input on the label storage area. -/
def execSetLsa (tag port ld off : Nat) (data : List Byte) (s : State) : Host.Outcome State Fault Refusal :=
  onUnit (decide (port < 16)) s (onMailbox port ld (fun t =>
    if !serving t || 131072 < off + data.length then mboxDone port ld tag 1 [] t
    else
      stampMgmt (.log (.lsa (16 * port + ld) off data)) (.dcd tag port ld) (16 * port + ld)
        (awaitDcd tag port ld 1 t)) s)

/-- The poisoned lines that the tier poison log and the UE logs name: grove and line (R276). -/
def namedPoison (s : State) : List (Nat × Nat) :=
  let byTile := s.tier.plog.flatMap (fun r =>
    (bitsSet (poisonMask s r.grove r.tile)).map (fun i => (r.grove, r.tile * 1024 + i)))
  let byUe := s.dram.chs.flatMap (fun c => c.2.ueLog.filterMap (fun r =>
    (SMap.find s.tier.owner (r.addr / 1024)).bind (fun k =>
      let g := k / 2 ^ 32
      let line := k % 2 ^ 32 * 1024 + r.addr % 1024
      if (t1Line s (r.addr / 1024) (r.addr % 1024)).isNone then some (g, line) else none)))
  (byTile ++ byUe).dedup

/-- GET_POISON_LIST (R276): the named lines of a DPA range, each as a DPA; none remains beyond them. -/
def execGetPoisonList (tag port ld dpa len : Nat) (s : State) : Host.Outcome State Fault Refusal :=
  onUnit (decide (port < 16)) s (onMailbox port ld (fun t =>
    let src := 16 * port + ld
    let mine := (t.tier.md.map.filter (fun p => p.1 / 2 ^ 22 = src)).flatMap (fun p => match p.2 with
      | some x =>
        if x.valid then
          ((namedPoison t).filter (fun l => l.1 = x.grove && l.2 / 2 ^ 18 = x.extent)).map
            (fun l => p.1 % 2 ^ 22 * 2 ^ 24 + l.2 % 2 ^ 18 * 64)
        else []
      | none => [])
    mboxDone port ld tag 0 (0 :: mine.filter (fun a => decide (dpa ≤ a) && decide (a < dpa + len))) t) s)

/-- CLEAR_POISON (R276): a full-line write stamped under 311. -/
def execClearPoison (tag port ld dpa : Nat) (data : LineData) (s : State) : Host.Outcome State Fault Refusal :=
  onUnit (decide (port < 16)) s (onMailbox port ld (fun t =>
    match SMap.find t.tier.md.map (mapKey (16 * port + ld) (dpa / 2 ^ 24)) with
    | some x =>
      if x.valid && x.wr && groveKeyed t x.grove && serving t && !tileReadOnly t x.grove (tileOf (x.extent * 2 ^ 18 + dpa % 2 ^ 24 / 64))
          && !groveReadOnly t x.grove then
        stampMgmt (.log (.write x.grove [⟨x.extent * 2 ^ 18 + dpa % 2 ^ 24 / 64, data, fullMask⟩])) (.dcd tag port ld)
          (16 * port + ld) (awaitDcd tag port ld 1 t)
      else mboxDone port ld tag 1 [] t
    | none => mboxDone port ld tag 1 [] t) s)

/-- INJECT_POISON (R259): Unsupported. -/
def execInjectPoison (tag port ld _dpa : Nat) (s : State) : Host.Outcome State Fault Refusal :=
  onUnit (decide (port < 16)) s (onMailbox port ld (mboxDone port ld tag 3 []) s)

end Sys2Proof.Machine
end

