-- ==== Sys2Proof/Machine/VrmpOps.lean ====
section
/-!
DEFINITION. What VRMP's commands share: classes and peers (R289, R290), credit (R308 to R311), acknowledgement
(R305), queue pairs and their end (R291 to R293, R303), translation (R314), holds (R20, R58), and the order of
checks of R300.
-/

namespace Sys2Proof.Machine

open Sys2Proof

/-! ## Classes, peers, charges -/

/-- R289: the address lies under the prefix. -/
def inPrefix (ip pfx : BitVec 128) (len : Nat) : Bool := ip.toNat / 2 ^ (128 - len) == pfx.toNat / 2 ^ (128 - len)

/-- R289: the class of an address: the longest of the matching ones. -/
def classFor (s : State) (ip : BitVec 128) : Option (Nat × PeerClass) :=
  s.net.classes.zipIdx.foldl (fun (b : Option (Nat × PeerClass)) x =>
    if !inPrefix ip x.1.pfx x.1.pfxLen then b
    else match b with
      | none => some (x.2, x.1)
      | some y => if y.2.pfxLen < x.1.pfxLen then some (x.2, x.1) else some y) none

/-- R336: the class key can be used, or the class has none. -/
def classKeyed (s : State) (c : PeerClass) : Bool :=
  match c.keySlot with
  | some n => slotUsable s n
  | none => true

/-- R308: what a request charges. -/
def chargeFor (isWrite : Bool) (size : Nat) : Nat :=
  if !isWrite || size ≤ 256 then 256 else if size ≤ 2048 then 2048 else 9728

/-- The body is a WRITE. -/
def isWriteBody : ReqBody → Bool
  | .write _ => true
  | _ => false

/-- The charge of a request. -/
def chargeOf (h : Pkt) (b : ReqBody) : Nat := chargeFor (isWriteBody b) h.size

/-- Agreed feature of a queue pair's peer (R302). -/
def qpFeature (s : State) (q n : Nat) : Bool :=
  match qpOf s q with
  | some x => bitOf (((peerOf s x.peer).map (·.feats)).getD 0) n
  | none => false

/-! ## Grants (R309, R310) -/

/-- NET_CREDIT_OUT: granted bytes not yet freed, of every peer. -/
def sumCredit (s : State) : State :=
  copSettle { s with net := { s.net with
    creditOut := (SMap.present s.net.peers).foldl (fun n p => n + (p.2.limit - p.2.freed)) 0 } }

/-- Bytes that may still be granted (R310, R448). -/
def grantRoom (s : State) : Nat :=
  min (fld s .netReserve 5 0 * 2 ^ 20 - s.net.creditOut) (freeBlocks s * 38912 - unclaimed s)

/-- The limit after `n` bytes are freed: up to the grant ahead of what is freed; half at BACKPRESSURE, none at
RESERVE_ONLY. -/
def raisedLimit (s : State) (limit freed grant n : Nat) : Nat :=
  let top := freed + grant * 4096
  match grantState s with
  | 3 => limit
  | 2 => max limit (min top (limit + n / 2))
  | _ => max limit top

/-- QP limit and peer limit in 4 KiB units. -/
def limitsOf (s : State) (q : Nat) : Nat × Nat :=
  match qpOf s q with
  | some x => (x.limit / 4096 % 2 ^ 16, ((peerOf s x.peer).map (·.limit)).getD 0 / 4096 % 2 ^ 32)
  | none => (0, 0)

/-- The class of a queue pair's peer. -/
def qpClass (s : State) (q : Nat) : Option PeerClass :=
  match qpOf s q with
  | some x => (match peerOf s x.peer with
    | some p => s.net.classes[p.cls]?
    | none => none)
  | none => none

/-- Grant of a queue pair in 4 KiB units. -/
def qpGrant (s : State) (q : Nat) : Nat := min (fld s .netQpCredit 15 0) (((qpClass s q).map (·.qpCreditMax)).getD 0)

/-- The limits a packet has just told (R309). -/
def toldLimits (q : Nat) (s : State) : State :=
  match qpOf s q with
  | some x =>
    updPeer x.peer (fun p => { p with lastLimit := p.limit }) (updQp q (fun y => { y with lastLimit := y.limit }) s)
  | none => s

/-- A limit has risen by a quarter of its grant of 4 KiB units (R309). -/
def risen (grant limit told : Nat) : Bool := decide (told < limit) && decide (grant * 1024 ≤ limit - told)

/-- Sends an ACK of everything in order and accepted (R305). -/
def sendAck (q : Nat) (s : State) : State :=
  match qpOf s q with
  | none => s
  | some x =>
    let l := limitsOf s q
    let s1 := toldLimits q (updQp q (fun y => { y with unacked := 0 }) s)
    if canAnswer s then sendQp q (.ack q ((ackEnd s q x.expPsn + (2 ^ 32 - 1)) % 2 ^ 32) l.1 l.2) s1 else s1

/-- R309: a CREDIT packet, when a limit has risen by a quarter of its grant and no ACK is due within 2 µs. -/
def maybeCredit (q : Nat) (s : State) : State :=
  match qpOf s q with
  | none => s
  | some x =>
    let due := x.unacked != 0 && decide (x.unackedAt + fld s .netAckCfg 7 0 * 100 ≤ now s + 2000)
    let peerUp := match peerOf s x.peer with
      | some p => risen (((qpClass s q).map (·.peerCredit)).getD 0) p.limit p.lastLimit
      | none => false
    if !due && canAnswer s && (risen (qpGrant s q) x.limit x.lastLimit || peerUp) then
      sendQp q (.creditPkt q (limitsOf s q).1 (limitsOf s q).2) (toldLimits q s)
    else s

/-- R309: the buffer of a request is freed: limits rise. -/
def freeCharge (q n : Nat) (s : State) : State :=
  match qpOf s q with
  | none => s
  | some x =>
    let s1 := sumCredit (updPeer x.peer (fun p => { p with freed := p.freed + n })
      (updQp q (fun y => { y with freed := y.freed + n }) s))
    let cls := qpClass s q
    let s2 := updQp q (fun y => { y with limit := raisedLimit s1 y.limit y.freed (qpGrant s q) n }) s1
    let room := grantRoom s2
    let s3 := updPeer x.peer (fun p =>
      { p with limit := max p.limit (min (p.limit + room) (raisedLimit s2 p.limit p.freed ((cls.map (·.peerCredit)).getD 0) n)) }) s2
    maybeCredit q (sumCredit s3)

/-- A request is charged to its queue pair and its peer. -/
def takeCharge (q n : Nat) (s : State) : State :=
  match qpOf s q with
  | none => s
  | some x => updPeer x.peer (fun p => { p with used := p.used + n }) (updQp q (fun y => { y with used := y.used + n }) s)

/-! ## Arrival buffers of packets that wait -/

/-- A waiting packet keeps its arrival buffer (R293, R310). -/
def keepBuffer (q n : Nat) (s : State) : State :=
  let s1 := { s with cop := { s.cop with arrival := s.cop.arrival + n } }
  match poolFor n with
  | some p => (copAlloc p (engineOf s q) true s1).getD s1
  | none => s1

/-- The buffer of a packet that waited is freed (R444). -/
def freeBuffer (q n : Nat) (s : State) : State :=
  let s1 := { s with cop := { s.cop with arrival := s.cop.arrival - n } }
  match poolFor n with
  | some p => copFree p (engineOf s q) s1
  | none => s1

/-! ## The end of queue pairs and peers -/

/-- Bytes of the buffers that held or waiting requests of a queue pair keep. -/
def dropWaiting (q : Nat) (s : State) : State :=
  let mineH (h : HeldReq) : Bool := match h with
    | .vrmp n _ _ _ _ _ _ => n = q
    | _ => false
  let bytes := (s.seqr.held.filter mineH).map (fun h => match h with
    | .vrmp _ _ _ _ _ _ n => n
    | _ => 0)
  let s1 := forEach bytes (freeBuffer q) { s with seqr := { s.seqr with
    held := s.seqr.held.filter (fun h => !mineH h), jobs := s.seqr.jobs.filter (fun j => j.qpn ≠ q) } }
  let pk := s1.net.waiting.filter (fun w => w.2.1.qpn = q)
  forEach pk (fun w t => freeBuffer q (chargeOf w.2.1 w.2.2) t)
    { s1 with net := { s1.net with waiting := s1.net.waiting.filter (fun w => w.2.1.qpn ≠ q) } }

/-- A queue pair's context is freed: NOTIFYs to it are undelivered (R318), its charges return to the peer. -/
def freeQp (q : Nat) (s : State) : State :=
  match qpOf s q with
  | none => s
  | some x =>
    let s1 := dropWaiting q s
    let lost := s1.net.notes.filter (fun n => n.target = q && n.qpn ≠ q)
    let s2 := forEach lost (fun n t => sendNak n.qpn n.psn 0x0D n.target t)
      { s1 with net := { s1.net with
        qps := SMap.set s1.net.qps none q none
        cached := s1.net.cached.filter (· ≠ q)
        notes := s1.net.notes.filter (fun n => n.target ≠ q && n.qpn ≠ q) } }
    sumCredit (updPeer x.peer (fun p => { p with freed := p.freed + (x.used - x.freed) }) s2)

/-- Queue pairs of a peer. -/
def qpsOfPeer (s : State) (p : Nat) : List Nat := ((SMap.present s.net.qps).filter (fun q => q.2.peer = p)).map (·.1)

/-- A peer context is freed. -/
def freePeer (p : Nat) (s : State) : State :=
  sumCredit { s with net := { s.net with peers := SMap.set s.net.peers none p none } }

/-- R322: the engine that sends a peer-level packet is not stated. -/
def freeEngine (s : State) : Nat := 256 + Config.choose s.free (if isSmall s then 8 else 16) % (if isSmall s then 8 else 16)

/-- A peer-level CLOSE in progress ends with the last queue pair (R303). -/
def finishPeer (p : Nat) (s : State) : State :=
  match peerOf s p with
  | some x =>
    if x.closing && (qpsOfPeer s p).isEmpty then
      useFree (freePeer p (if canAnswer s then sendPeer p (freeEngine s) (.peerClose x.ip 0) s else s))
    else s
  | none => s

/-- The controller closes a queue pair with a reason (R303). -/
def closeQpWith (reason q : Nat) (s : State) : State :=
  match qpOf s q with
  | none => s
  | some x => finishPeer x.peer (freeQp q (if canAnswer s then sendQp q (.close q reason) s else s))

/-! ## Acceptance -/

/-- A request in order is accepted: its PSN is consumed and it is charged. ACK when COUNT is reached or asked for
(R305). -/
def acceptReq (h : Pkt) (b : ReqBody) (s : State) : State :=
  let s1 := takeCharge h.qpn (chargeOf h b) (updQp h.qpn (fun x => { x with
    expPsn := (x.expPsn + 1) % 2 ^ 32
    nakAt := none
    unacked := x.unacked + 1
    unackedAt := if x.unacked = 0 then now s else x.unackedAt }) s)
  match qpOf s1 h.qpn with
  | some x => if h.solicit || fld s1 .netAckCfg 15 8 ≤ x.unacked then sendAck h.qpn s1 else s1
  | none => s1

/-- R304: a request refused at step 7 or 8: its PSN is consumed, its charge is taken and freed at once. -/
def refuseReq (h : Pkt) (b : ReqBody) (code addr : Nat) (s : State) : State :=
  let c := chargeOf h b
  sendNak h.qpn h.psn code addr (freeCharge h.qpn c (takeCharge h.qpn c (updQp h.qpn (fun x => { x with
    expPsn := (x.expPsn + 1) % 2 ^ 32, nakAt := none }) s)))

/-! ## Translation (R314) -/

/-- What the key check and the windows give. -/
inductive Trans
  | nak (code addr : Nat)
  | ok (grove off : Nat)
  deriving DecidableEq, Repr

/-- R293: the key is looked up; a miss fetches it, and which key leaves a full cache of 16,384 is not stated. -/
def touchKey (k : BitVec 64) (s : State) : State :=
  if (keyOf s k).isNone || s.net.dropped.contains k || s.net.keyCache.contains k then s
  else
    let l := s.net.keyCache
    let kept := if l.length < 16384 then l else l.eraseIdx (Config.choose s.free l.length % l.length)
    bumpRc .netKeyMiss 0 31 0 1 (useFree { s with net := { s.net with keyCache := kept ++ [k] } })

/-- R319: the engine translates with the key no more. -/
def keyDropped (s : State) (k : BitVec 64) : Bool := s.net.dropped.contains k || (keyOf s k).isNone

/-- R300 step 8: key, window and permission. `need` picks the permission. -/
def translate (s : State) (h : Pkt) (len : Nat) (need : Window → Bool) : Trans :=
  match qpOf s h.qpn with
  | none => .nak 0x0C 0
  | some q =>
    if h.key ≠ q.key then .nak 0x03 0
    else if keyDropped s h.key then .nak 0x02 h.addr
    else
      match keyOf s h.key with
      | none => .nak 0x02 h.addr
      | some k =>
        match k.windows.find? (fun w => decide (w.base ≤ h.addr) && decide (h.addr < w.base + w.len)) with
        | none => .nak 0x04 h.addr
        | some w =>
          if w.base + w.len < h.addr + len then .nak 0x04 h.addr
          else if !need w || !groveKeyed s w.grove then .nak 0x05 h.addr
          else .ok w.grove (w.off + (h.addr - w.base))

/-- R314: FLUSH and NOTIFY need any window of the key. -/
def keyCheck (s : State) (h : Pkt) : Option (Nat × Nat) :=
  match qpOf s h.qpn with
  | none => some (0x0C, 0)
  | some q =>
    if h.key ≠ q.key then some (0x03, 0)
    else if keyDropped s h.key then some (0x02, h.addr)
    else none

/-! ## Stamping and holds -/

/-- Line pieces of a run of bytes at an offset of a grove (R63). -/
def piecesOf (off : Nat) (d : List Byte) : List Piece :=
  let n := (off % 64 + d.length + 63) / 64
  (List.range n).map (fun k =>
    let line := off / 64 + k
    let lo := if k = 0 then off % 64 else 0
    let src := if k = 0 then 0 else k * 64 - off % 64
    let bytes := slice d src (64 - lo)
    { line := line, data := (lineOf bytes) <<< (8 * lo), mask := maskRun lo bytes.length })

/-- Lines whose banks an operation needs room in. -/
def needsBanks (s : State) (op : InOp) : Bool :=
  match op with
  | .log (.write g ps) => ps.any (fun p => bankFull s g p.line || sliceHeld s g p.line)
  | .fadd g o _ => bankFull s g (o / 64) || sliceHeld s g (o / 64)
  | .cas g o _ _ => bankFull s g (o / 64) || sliceHeld s g (o / 64)
  | _ => false

/-- A write of a VOLATILE grove (R20). -/
def volWrite (s : State) (op : InOp) : Bool :=
  match op with
  | .log (.write g _) => levelOf s g == .vol
  | _ => false

/-- The request would pass the held one: the inputs of one engine keep their order (R58, R61), but a VOLATILE write
passes what another queue pair's full banks hold (R20, log 87). -/
def passes (s : State) (q : Nat) (op : InOp) (h : HeldReq) : Bool :=
  match h with
  | .vrmp n _ _ _ _ _ _ => if volWrite s op then n = q else engineOf s n = engineOf s q
  | _ => false

/-- R20, R58, R61: the request is held: every input is, a bank is full, or it would pass an earlier one. -/
def holdVrmp (s : State) (q : Nat) (op : InOp) : Bool :=
  holdAll s || needsBanks s op || s.seqr.held.any (passes s q op)

/-- An accepted write, atomic or FLUSH is stamped, and its buffer freed, or held with its buffer (R18, R310). -/
def stampVrmp (h : Pkt) (b : ReqBody) (op : InOp) (s : State) : State :=
  let c := chargeOf h b
  if holdVrmp s h.qpn op then
    keepBuffer h.qpn c { s with seqr := { s.seqr with
      held := s.seqr.held ++ [.vrmp h.qpn h.psn op h.key (now s) h.addr c] } }
  else
    freeCharge h.qpn c
      (stampInput (engineOf s h.qpn) op (.vrmp h.qpn h.psn) (engineOf s h.qpn) h.key h.addr s)

/-! ## The checks of R300 -/

/-- A packet of a queue pair whose context is not cached waits for the fetch, as do those behind it (R293). -/
def mustFetch (s : State) (q : Nat) : Bool := !s.net.cached.contains q || s.net.waiting.any (fun w => w.2.1.qpn = q)

/-- R292, R293: the context becomes the most recently used one: it is read from the cache, or written into it. -/
def touchCtx (q : Nat) (s : State) : State :=
  let s1 := { s with net := { s.net with cached := s.net.cached.filter (· ≠ q) ++ [q] } }
  if s.net.cached.contains q then protGet 2 q s1 else protPut 2 q s1

/-- R296, R309: every packet of a host carries its limit for the notify sequence, modulo 2^16. -/
def noteLimit (h : Pkt) (s : State) : State :=
  updQp h.qpn (fun x =>
    let d := (h.credit + 2 ^ 16 - x.hostLimit / 4096 % 2 ^ 16) % 2 ^ 16
    if d < 2 ^ 15 then { x with hostLimit := (x.hostLimit / 4096 + d) * 4096 } else x) s

/-- R300 step 1: the port carries frames and the packet passes; a failure is dropped and counted. A packet buffer
that cannot be read drops the packet as well (R451). -/
def step1 (h : Pkt) (f : State → State) (s : State) : State :=
  if !(netOf s h.port).up || !isReady s || s.pwr.state != .on then s
  else
    let drop (t : State) : State := bumpRc .netRxDrop h.port 31 0 1 t
    match h.wireOk, classFor s h.srcIp with
    | true, some _ =>
      if !h.tagOk then raise 394 (drop s)
      else
        let m := copRead h.mem s
        if m.2 then f m.1 else m.1
    | _, _ => drop s

/-- R296, R298: VER is the peer's agreed version, and EXT the words of the opcode, if it has any rule, after the SEC word
of a peer that agreed GCM. -/
def extOk (s : State) (h : Pkt) (words : Option Nat) : Bool :=
  match peerAt s h.srcIp with
  | some (_, p) => h.ver = p.ver && (match words with
    | some n => h.ext = n + b2n (bitOf p.feats 0)
    | none => true)
  | none => true

/-- R300 steps 1 to 4 for a packet of a queue pair. -/
def gate (h : Pkt) (hdr : Bool) (words : Option Nat) (f : State → State) (s : State) : State :=
  step1 h (fun t =>
    if !serving t then sendNakTo h.srcIp h.qpn h.psn 0x08 0 false t
    else if !h.hdrOk || !hdr || !extOk t h words || 4194303 < h.qpn then sendNakTo h.srcIp h.qpn h.psn 0x0A 0 false t
    else
      match qpOf t h.qpn with
      | none => sendNakTo h.srcIp h.qpn h.psn 0x0C 0 false t
      | some _ =>
        if qpIp t h.qpn ≠ h.srcIp then sendNakTo h.srcIp h.qpn h.psn 0x0C 0 false t
        else f (noteLimit h t)) s

/-- Fields of a request that can be malformed whatever the queue pair (R296, R299). -/
def bodyOk (h : Pkt) (b : ReqBody) : Bool :=
  match b with
  | .write d => d.length = h.length && decide (1 ≤ h.length) && decide (h.length ≤ 8192)
  | .read => decide (1 ≤ h.length) && decide (h.length ≤ 1048576)
  | .flush l => (l = 1 || l = 2) && h.length = 0
  | .fadd _ => h.length = 8 && h.addr % 8 = 0
  | .cas _ _ => h.length = 8 && h.addr % 8 = 0
  | .notify _ _ => h.length = 0
  | .close _ => h.length = 0
  | .badOpcode _ => true

/-- R298: extension words of an opcode; a reserved one is not held against EXT (R300 step 7). -/
def extWords : ReqBody → Option Nat
  | .write _ => some 0
  | .read => some 0
  | .flush _ => some 1
  | .fadd _ => some 1
  | .cas _ _ => some 2
  | .notify _ _ => some 1
  | .close _ => some 0
  | .badOpcode _ => none

/-- Fields that the agreed payload and features bound (R301, R302). -/
def agreedOk (s : State) (h : Pkt) (b : ReqBody) : Bool :=
  match b with
  | .write _ =>
    (match qpOf s h.qpn with
      | some q => decide (h.length ≤ ((peerOf s q.peer).map (·.payload)).getD 0)
      | none => false)
  | .read => decide (h.length ≤ 65536) || qpFeature s h.qpn 5
  | _ => true

/-- R311: a credit violation; the third in 1 ms closes the queue pair. -/
def violation (h : Pkt) (s : State) : State :=
  let s1 := raise 392 (sendNak h.qpn h.psn 0x09 0 (updQp h.qpn (fun x => { x with
    viols := (x.viols.filter (fun t => decide (now s < t + 1000000))) ++ [now s] }) s))
  match qpOf s1 h.qpn with
  | some x => if 3 ≤ x.viols.length then closeQpWith 5 h.qpn s1 else s1
  | none => s1

/-- R308: the request lies within both grants. -/
def inGrant (s : State) (h : Pkt) (b : ReqBody) : Bool :=
  match qpOf s h.qpn with
  | some x =>
    let c := chargeOf h b
    decide (x.used + c ≤ x.limit / 4096 * 4096)
      && (match peerOf s x.peer with
        | some p => decide (p.used + c ≤ p.limit / 4096 * 4096)
        | none => false)
  | none => false

/-- R304: NAK SEQUENCE, once for a gap and again after 10 µs. -/
def nakSequence (h : Pkt) (exp : Nat) (at_ : Option Nat) (s : State) : State :=
  let again := match at_ with
    | some t => decide (t + 10000 ≤ now s)
    | none => true
  if again then sendNak h.qpn exp 0x01 0 (updQp h.qpn (fun x => { x with nakAt := some (now s) }) s) else s

/-- R300 step 7: refusal of the opcode or by a limit. -/
def opRefusal (s : State) (h : Pkt) (b : ReqBody) : Option Nat :=
  let q := qpOf s h.qpn
  let atomics := (q.map (fun x => x.atomics.length)).getD 0
  let flushes := (q.map (fun x => (x.flushes.filter (fun f => !f.acked)).length)).getD 0
  match b with
  | .badOpcode _ => some 0x0B
  | .fadd _ => if !qpFeature s h.qpn 1 then some 0x0B else if 8 ≤ atomics then some 0x0E else none
  | .cas _ _ => if !qpFeature s h.qpn 1 then some 0x0B else if 8 ≤ atomics then some 0x0E else none
  | .flush l => if l = 2 && !qpFeature s h.qpn 3 then some 0x0B else if 16 ≤ flushes then some 0x0E else none
  | .notify _ _ => if !qpFeature s h.qpn 2 then some 0x0B else none
  | _ => none

end Sys2Proof.Machine
end

