-- ==== Sys2Proof/Machine/Vrmp.lean ====
section
/-!
DEFINITION. VRMP: HELLO (R301, R302), requests of a queue pair (R304 to R306, R315 to R318), credit and
acknowledgement packets, context fetches (R293), notifications, keys and revocation (R312, R319), and closing (R303).
-/

namespace Sys2Proof.Machine

open Sys2Proof

/-! ## What an accepted request does -/

/-- READ_REQ is translated and read, without a stamp (R316). -/
def startJob (h : Pkt) (g off : Nat) (s : State) : State :=
  let j : ReadJob :=
    { id := s.ids, qpn := h.qpn, psn := h.psn, grove := g, off := off, addr := h.addr, len := h.length,
      key := h.key, got := [], gtc := now s }
  let src := engineOf s h.qpn
  let lines := (List.range ((off + h.length - 1) / 64 + 1 - off / 64)).map (off / 64 + ·)
  let s1 := perfAdd (readReqOf src g (off / 64)) 0x02 lines.length (perfAdd (readReqOf src g (off / 64)) 0x01 1
    (bumpId { s with seqr := { s.seqr with jobs := s.seqr.jobs ++ [j] } }))
  forEach lines (fun a t => readAt g a (.vrmpRead j.id) (readReqOf src g a) t) s1

/-- A READ_REQ, first or repeated (R306). -/
def doRead (h : Pkt) (first : Bool) (s : State) : State :=
  match translate s h h.length (fun w => w.rd) with
  | .nak c a =>
    let s1 := if first then refuseReq h .read c a s else sendNak h.qpn h.psn c a s
    perfAdd ⟨engineOf s h.qpn, 0, none⟩ 0x0A 1 s1
  | .ok g off => startJob h g off (if first then freeCharge h.qpn 256 (acceptReq h .read s) else s)

/-- A write is refused at once where its tile is read-only (R18, R67). -/
def readOnlyNow (s : State) (g : Nat) (lines : List Nat) : Bool :=
  groveReadOnly s g || lines.any (fun a => tileReadOnly s g (tileOf a))

/-- A write or atomic that passed every check is stamped or held. -/
def doData (h : Pkt) (b : ReqBody) (g : Nat) (lines : List Nat) (op : InOp) (atomic : Bool) (s : State) : State :=
  if readOnlyNow s g lines then perfAdd ⟨engineOf s h.qpn, 1, none⟩ 0x0A 1 (refuseReq h b 0x06 h.addr s)
  else
    let r := writeReqOf (engineOf s h.qpn) g (lines.headD 0)
    let s1 := perfAdd r 0x02 lines.length (perfAdd r 0x01 1 s)
    let s2 := updQp h.qpn (fun x => { x with
      unplaced := x.unplaced + 1
      atomics := if atomic then x.atomics ++ [h.psn] else x.atomics }) s1
    let t := stampVrmp h b op s2
    acceptReq h b t

/-- R315: WRITE. -/
def doWrite (h : Pkt) (d : List Byte) (s : State) : State :=
  match translate s h h.length (fun w => w.wr) with
  | .nak c a => perfAdd ⟨engineOf s h.qpn, 1, none⟩ 0x0A 1 (refuseReq h (.write d) c a s)
  | .ok g off =>
    let ps := piecesOf off d
    doData h (.write d) g (ps.map (·.line)) (.log (.write g ps)) false s

/-- R317: an atomic. -/
def doAtomic (h : Pkt) (b : ReqBody) (op : Nat → Nat → InOp) (s : State) : State :=
  match translate s h 8 (fun w => w.atomic) with
  | .nak c a => perfAdd ⟨engineOf s h.qpn, 1, none⟩ 0x0A 1 (refuseReq h b c a s)
  | .ok g off => doData h b g [off / 64] (op g off) true s

/-- R58: FLUSH. -/
def doFlush (h : Pkt) (l : Nat) (s : State) : State :=
  match keyCheck s h with
  | some (c, a) => refuseReq h (.flush l) c a s
  | none =>
    let lv := if l = 2 then Level.mir else Level.loc
    let s1 := perfAdd ⟨engineOf s h.qpn, 2, none⟩ 0x01 1 (updQp h.qpn (fun x => { x with
      flushes := x.flushes ++ [⟨h.psn, lv, now s, false, false, x.lowest⟩] }) s)
    acceptReq h (.flush l) (stampVrmp h (.flush l) (.log (.flush h.qpn lv)) s1)

/-- Groves that the windows of a key name. -/
def keyGroves (s : State) (k : BitVec 64) : List Nat := ((keyOf s k).map (fun r => r.windows.map (·.grove))).getD []

/-- R318: NOTIFY: accepted where the target's key names a grove that the sender's key names. -/
def doNotify (h : Pkt) (target value : Nat) (s : State) : State :=
  let b : ReqBody := .notify target value
  match keyCheck s h with
  | some (c, a) => refuseReq h b c a s
  | none =>
    let common := match qpOf s target with
      | some t => (keyGroves s h.key).any (fun g => (keyGroves s t.key).contains g)
      | none => false
    if !common then refuseReq h b 0x05 h.addr s
    else
      let n : Note :=
        { id := s.ids, qpn := h.qpn, psn := h.psn, target := target, value := value, src := engineOf s h.qpn,
          gtc := stampNow s (engineOf s h.qpn), key := h.key }
      freeCharge h.qpn 256 (acceptReq h b (useFree (bumpId { s with net := { s.net with notes := s.net.notes ++ [n] } })))

/-- R303: a host's CLOSE waits for every earlier request. -/
def doClose (h : Pkt) (reason : Nat) (s : State) : State :=
  freeCharge h.qpn 256 (acceptReq h (.close reason) (updQp h.qpn (fun x => { x with closing := true }) s))

/-- An in-order request that passed steps 5 to 7. -/
def doReq (h : Pkt) (b : ReqBody) (s : State) : State :=
  match b with
  | .write d => doWrite h d s
  | .read => doRead h true s
  | .flush l => doFlush h l s
  | .fadd k => doAtomic h b (fun g o => .fadd g o k) s
  | .cas c w => doAtomic h b (fun g o => .cas g o c w) s
  | .notify t v => doNotify h t v s
  | .close r => doClose h r s
  | .badOpcode _ => refuseReq h b 0x0B 0 s

/-- A level as a FLUSH_ACK carries it. -/
def levelOfRank (n : Nat) : Level := if n = 0 then .vol else if n = 1 then .loc else .mir

/-- R306: a duplicate. -/
def duplicate (h : Pkt) (b : ReqBody) (s : State) : State :=
  match qpOf s h.qpn with
  | none => s
  | some x =>
    match b with
    | .read => doRead h false s
    | .flush _ =>
      (match x.flushes.find? (fun f => f.psn = h.psn) with
        | some f => if f.acked && canAnswer s then sendQp h.qpn (.flushAck h.qpn h.psn (levelRank f.level)) s else s
        | none => s)
    | .fadd _ => again x
    | .cas _ _ => again x
    | .badOpcode _ => sendNak h.qpn h.psn 0x0B 0 s
    | _ => sendAck h.qpn s
where
  /-- An atomic: the cached response, or nothing. -/
  again (x : Qp) : State :=
    match x.cache.find? (fun c => c.1 = h.psn) with
    | some c => if canAnswer s then sendQp h.qpn (.atomicResp h.qpn h.psn c.2) s else s
    | none => s

/-- R300 steps 5 to 8. -/
def serveReq (h : Pkt) (b : ReqBody) (s0 : State) : State :=
  let s := touchKey h.key s0
  match qpOf s h.qpn with
  | none => s
  | some x =>
    let d := (x.expPsn + 2 ^ 32 - h.psn % 2 ^ 32) % 2 ^ 32
    if d = 0 then
      if !inGrant s h b then violation h s
      else
        match opRefusal s h b with
        | some c => refuseReq h b c 0 s
        | none => doReq h b s
    else if d ≤ 2 ^ 31 then duplicate h b s
    else nakSequence h x.expPsn x.nakAt s

/-- A request packet: checked, then served, or it waits for its context (R293, R300). -/
def request (h : Pkt) (b : ReqBody) (s : State) : State :=
  gate h (bodyOk h b) (extWords b) (fun t =>
    if !agreedOk t h b then sendNakTo h.srcIp h.qpn h.psn 0x0A 0 false t
    else if mustFetch t h.qpn then
      let first := !t.net.waiting.any (fun w => w.2.1.qpn = h.qpn)
      let t1 := if first then bumpRc .netCtxMiss 0 31 0 1 t else t
      keepBuffer h.qpn (chargeOf h b) { t1 with net := { t1.net with waiting := t1.net.waiting ++ [(now t, h, b)] } }
    else if !protOk t 2 h.qpn then touchCtx h.qpn t
    else serveReq h b (touchCtx h.qpn t)) s

/-! ## Requests -/

/-- WRITE (R315). -/
def execWrite (h : Pkt) (data : List Byte) (s : State) : Host.Outcome State Fault Refusal :=
  onUnit (decide (h.port < 8)) s (request h (.write data) s)

/-- READ_REQ (R316). -/
def execReadReq (h : Pkt) (s : State) : Host.Outcome State Fault Refusal :=
  onUnit (decide (h.port < 8)) s (request h .read s)

/-- FLUSH (R58). -/
def execFlush (h : Pkt) (level : Nat) (s : State) : Host.Outcome State Fault Refusal :=
  onUnit (decide (h.port < 8)) s (request h (.flush level) s)

/-- ATOMIC_FADD (R317). -/
def execAtomicFadd (h : Pkt) (addend : BitVec 64) (s : State) : Host.Outcome State Fault Refusal :=
  onUnit (decide (h.port < 8)) s (request h (.fadd addend) s)

/-- ATOMIC_CAS (R317). -/
def execAtomicCas (h : Pkt) (compare swap : BitVec 64) (s : State) : Host.Outcome State Fault Refusal :=
  onUnit (decide (h.port < 8)) s (request h (.cas compare swap) s)

/-- NOTIFY (R318). -/
def execNotify (h : Pkt) (target value : Nat) (s : State) : Host.Outcome State Fault Refusal :=
  onUnit (decide (h.port < 8)) s (request h (.notify target value) s)

/-- CLOSE (R303). -/
def execClose (h : Pkt) (reason : Nat) (s : State) : Host.Outcome State Fault Refusal :=
  onUnit (decide (h.port < 8)) s (request h (.close reason) s)

/-- RESERVED_OPCODE (R299, R300): NAK UNSUPPORTED at step 7. -/
def execReservedOpcode (h : Pkt) (code : Nat) (s : State) : Host.Outcome State Fault Refusal :=
  onUnit (decide (h.port < 8)) s (request h (.badOpcode code) s)

/-- ACK (R305, R307): a host's ACK; with NTF it acknowledges a notify delivery. A node that does not serve
ignores it (R320). -/
def execAck (h : Pkt) (ntf : Bool) (s : State) : Host.Outcome State Fault Refusal :=
  onUnit (decide (h.port < 8)) s (step1 h (fun t =>
    if !serving t then t
    else gate h true (some 0) (fun u =>
      if ntf then updQp h.qpn (fun x => { x with notifs := x.notifs.filter (fun n => n.seq ≠ h.psn) }) u else u) t) s)

/-- CREDIT (R308): the host's limit for notify deliveries. -/
def execCredit (h : Pkt) (s : State) : Host.Outcome State Fault Refusal :=
  onUnit (decide (h.port < 8)) s (gate h true (some 0) (fun t => t) s)

/-! ## Timers and completions of a queue pair -/

/-- A held request is an earlier one of the queue pair. -/
def heldBefore (q psn : Nat) (h : HeldReq) : Bool :=
  match h with
  | .vrmp n p _ _ _ _ _ => n = q && psnBefore p psn
  | _ => false

/-- R59: every covered write is placed: the record is at level MIRROR or waits for the peer no more than the
FLUSH asks for. -/
def flushCovered (s : State) (q : Nat) (f : FlushP) : Bool :=
  !s.seqr.inputs.any (fun i => ackBefore q f.psn i.ack) && !s.seqr.held.any (heldBefore q f.psn)
    && !s.seqr.placing.any (fun x => ackBefore q f.psn x.ack && (x.left ≠ 0 || (f.level = .mir && x.mirror.isSome)))

/-- R59: level of a covered write that is in its landing entry and still waits for the peer. -/
def waitingRank (s : State) (q : Nat) (f : FlushP) : Nat :=
  if f.level = .mir then 3
  else if s.seqr.placing.any (fun x => ackBefore q f.psn x.ack) then 1 else 3

/-- FLUSH_ACK (R59): sent once the FLUSH is emitted and every covered write is placed. -/
def execFlushAck (qpn psn : Nat) (s : State) : Host.Outcome State Fault Refusal :=
  done (match qpOf s qpn with
    | none => s
    | some x =>
      match x.flushes.find? (fun f => f.psn = psn && f.emitted && !f.acked) with
      | none => s
      | some f =>
        if !flushCovered s qpn f || !canAnswer s then s
        else
          let low := min f.low (waitingRank s qpn f)
          let lv := min (levelRank f.level) low
          let last := decide ((x.expPsn + (2 ^ 32 - 1)) % 2 ^ 32 = psn)
          recSample 6 (now s - f.gtc) (sendQp qpn (.flushAck qpn psn lv) (updQp qpn (fun y => { y with
            flushes := mapIf (fun z => z.psn = psn) (fun z => { z with acked := true, level := levelOfRank lv }) y.flushes
            unacked := if last then 0 else y.unacked }) s)))

/-- ACK_DELAY_EXPIRY (R305). -/
def execAckDelayExpiry (qpn : Nat) (s : State) : Host.Outcome State Fault Refusal :=
  done (match qpOf s qpn with
    | some x => if x.unacked = 0 then s else sendAck qpn s
    | none => s)

/-- R293: contexts the engine caches. -/
def cacheSize (s : State) : Nat := if isSmall s then 16384 else 65536

/-- The least recently used context that has no packet queued leaves a full cache. -/
def evictCtx (s : State) : State :=
  if s.net.cached.length < cacheSize s then s
  else
    match s.net.cached.find? (fun q => !s.net.waiting.any (fun w => w.2.1.qpn = q)) with
    | some q => { s with net := { s.net with cached := s.net.cached.filter (· ≠ q) } }
    | none => s

/-- QP_CONTEXT_FETCH (R293): the context is ready; the queued packets proceed in order. -/
def execQpContextFetch (qpn : Nat) (s : State) : Host.Outcome State Fault Refusal :=
  done (if (qpOf s qpn).isNone then s
    else
      let mine := s.net.waiting.filter (fun w => w.2.1.qpn = qpn)
      let s1 := touchCtx qpn (evictCtx { s with net := { s.net with waiting := s.net.waiting.filter (fun w => w.2.1.qpn ≠ qpn) } })
      let s2 := match mine with
        | w :: _ => recSample 13 (now s - w.1) s1
        | [] => s1
      forEach mine (fun w t => serveReq w.2.1 w.2.2 (freeBuffer qpn (chargeOf w.2.1 w.2.2) t)) s2)

/-- Every earlier request of a closing queue pair has been answered (R303). -/
def allAnswered (s : State) (q : Nat) (x : Qp) : Bool :=
  x.flushes.all (fun f => f.acked) && x.atomics.isEmpty && !s.seqr.jobs.any (fun j => j.qpn = q)
    && !s.seqr.held.any (fun h => match h with
      | .vrmp n _ _ _ _ _ _ => n = q
      | _ => false)
    && !s.net.waiting.any (fun w => w.2.1.qpn = q)

/-- CLOSE_COMPLETE (R303): CLOSE with reason 0, and the context is freed. -/
def execCloseComplete (qpn : Nat) (s : State) : Host.Outcome State Fault Refusal :=
  done (match qpOf s qpn with
    | none => s
    | some x =>
      if x.closing && allAnswered s qpn x then
        finishPeer x.peer (freeQp qpn (if canAnswer s then sendQp qpn (.close qpn 0) s else s))
      else s)

/-- PEER_CLOSE (R303): every queue pair of the peer closes; the answer follows the last. -/
def execPeerClose (h : Pkt) (s : State) : Host.Outcome State Fault Refusal :=
  onUnit (decide (h.port < 8)) s (step1 h (fun t =>
    if !serving t then sendNakTo h.srcIp 0 h.psn 0x08 0 false t
    else if !h.hdrOk || h.qpn ≠ 0 || !extOk t h (some 0) then sendNakTo h.srcIp h.qpn h.psn 0x0A 0 false t
    else
      match peerAt t h.srcIp with
      | none => sendNakTo h.srcIp 0 h.psn 0x0C 0 false t
      | some (n, _) =>
        finishPeer n (forEach (qpsOfPeer t n) (fun q u => updQp q (fun x => { x with closing := true }) u)
          (updPeer n (fun p => { p with closing := true }) t))) s)

/-- PEER_IDLE_TIMEOUT (R290): a peer with no open queue pair for 60 s is freed. -/
def execPeerIdleTimeout (peer : Nat) (s : State) : Host.Outcome State Fault Refusal :=
  done (if (peerOf s peer).isSome && (qpsOfPeer s peer).isEmpty then freePeer peer s else s)

/-! ## Notifications -/

/-- R66: an earlier write of the sending queue pair has not been emitted. -/
def writesPending (s : State) (n : Note) : Bool :=
  s.seqr.inputs.any (fun i => ackBefore n.qpn n.psn i.ack) || s.seqr.held.any (heldBefore n.qpn n.psn)

/-- Removes a note. -/
def dropNote (id : Nat) (s : State) : State :=
  { s with net := { s.net with notes := s.net.notes.filter (fun n => n.id ≠ id) } }

/-- NOTIFY_DELIVERY (R66, R318): refused where a revocation of its key came before it (R319). -/
def execNotifyDelivery (id : Nat) (s : State) : Host.Outcome State Fault Refusal :=
  done (match s.net.notes.find? (fun n => n.id = id) with
    | none => s
    | some n =>
      let revoked := (keyOf s n.key).isNone || s.net.revokes.any (fun r => r.key = n.key && decide (r.gtc < n.gtc))
      if revoked then sendNak n.qpn n.psn 0x02 0 (dropNote id s)
      else if writesPending s n then s
      else
        match qpOf s n.target with
        | none => sendNak n.qpn n.psn 0x0D n.target (dropNote id s)
        | some t =>
          if t.hostLimit < t.hostUsed + 256 || !canAnswer s then s
          else
            sendQp n.target (.notifyDeliver n.target t.notSeq n.qpn n.value)
              (updQp n.target (fun x => { x with
                hostUsed := x.hostUsed + 256
                notSeq := (x.notSeq + 1) % 2 ^ 32
                notifs := x.notifs ++ [⟨t.notSeq, n.qpn, n.value, 0, now s⟩] }) (dropNote id s)))

/-- R307: the delivery sent longest ago. -/
def oldest (l : List NotDel) : Option NotDel :=
  l.foldl (fun (b : Option NotDel) n => match b with
    | none => some n
    | some m => if n.at_ < m.at_ then some n else some m) none

/-- NOTIFY_RETRANSMIT (R307): resent up to RETRIES times; then the queue pair is closed, reason 3, event 393. -/
def execNotifyRetransmit (qpn : Nat) (s : State) : Host.Outcome State Fault Refusal :=
  done (match qpOf s qpn with
    | none => s
    | some x =>
      match oldest x.notifs with
      | none => s
      | some n =>
        if fld s .netRto 19 16 ≤ n.tries then raise 393 (closeQpWith 3 qpn s)
        else if !canAnswer s then s
        else
          sendQp qpn (.notifyDeliver qpn n.seq n.sender n.value) (updQp qpn (fun y => { y with
            notifs := mapIf (fun z => z.seq = n.seq) (fun z => { z with tries := z.tries + 1, at_ := now s }) y.notifs }) s))

/-- NOTIFY_UNDELIVERED (R318). -/
def execNotifyUndelivered (id : Nat) (s : State) : Host.Outcome State Fault Refusal :=
  done (match s.net.notes.find? (fun n => n.id = id) with
    | none => s
    | some n => sendNak n.qpn n.psn 0x0D n.target (dropNote id s))

/-! ## HELLO -/

/-- R302: features of a version. -/
def verFeatures (v : Nat) : Nat := if v = 1 then 0x03 else 0x3F

/-- R301: a permitted payload. -/
def payloadOf (n : Nat) : Nat := if 8192 ≤ n then 8192 else if 4096 ≤ n then 4096 else if 2048 ≤ n then 2048 else 1024

/-- Peers and queue pairs the node holds (R290, R291). -/
def maxPeers (s : State) : Nat := if isSmall s then 2048 else 4096

/-- Queue-pair numbers (R291). -/
def maxQpns (s : State) : Nat := if isSmall s then 1048576 else 4194304

/-- The refusal of a HELLO: 396, and 397 for a full table (R323). -/
def helloRefused (ip : BitVec 128) (cookie status : Nat) (full : Bool) (s : State) : State :=
  raise 396 (onlyIf full (raise 397) (sendIp ip (freeEngine s) (.hello ip 0 cookie status (fld s .netCfg 11 8) 0 0 0 0 0) (useFree s)))

/-- R118, R322: a key or salt of a peer's session, from the class key, a label that names the use and the direction (5 and 6
the keys from and to the host, 7 and 8 the salts, 9 the key of HELLO packets) and both RAND values. -/
def peerKey (s : State) (slot label : Nat) (host node : BitVec 256) : BitVec 256 :=
  Config.kdf (slotOf s slot).key label (leBytes 32 host.toNat ++ leBytes 32 node.toNat)

/-- R322: a HELLO answer: under the key of HELLO packets where the peer agreed GCM; its nonce is not stated. -/
def sendHello (slot : Option Nat) (gcm : Bool) (o : Out) (s : State) : State :=
  match slot with
  | some n =>
    if gcm then send (.secured (Config.kdf (slotOf s n).key 9 []) ((Config.drbg s.free).setWidth 96) o) (useFree s) else send o s
  | none => send o s

/-- A COOKIE's answer is kept for 10 ms, the last 16 (R301). -/
def keepCookie (n cookie : Nat) (o : Out) (s : State) : State :=
  updPeer n (fun p => { p with
    cookies := ((cookie, now s, o) :: p.cookies.filter (fun c => decide (now s < c.2.1 + 10000000))).take 16 }) s

/-- R301, R302, R322: a peer HELLO. A peer that opens again is keyed anew: its queue pairs are freed. -/
def helloPeer (h : Pkt) (b : HelloBody) (n : Nat) (c : PeerClass) (s : State) : State :=
  let v := min b.maxVer (fld s .netCfg 11 8)
  let gcmHere := c.keySlot.isSome
  let feats := (BitVec.ofNat 32 b.features &&& BitVec.ofNat 32 (verFeatures v)).toNat
  let agreed := if gcmHere then feats else feats / 2 * 2
  let old := peerAt s h.srcIp
  let id := match old with
    | some (k, _) => some k
    | none => firstIdx (maxPeers s) (fun k => (peerOf s k).isNone)
  if v = 0 || v < b.minVer then helloRefused h.srcIp b.cookie 1 false s
  else if c.gcm && !bitOf agreed 0 then helloRefused h.srcIp b.cookie 2 false s
  else if b.maxPayload < 1024 then helloRefused h.srcIp b.cookie 7 false s
  else
    match id with
    | none => helloRefused h.srcIp b.cookie 3 true s
    | some k =>
      let s1 := if old.isSome then freePeer k (forEach (qpsOfPeer s k) freeQp s) else s
      let s2 := sumCredit s1
      let lim := min (c.peerCredit * 4096) (grantRoom s2) / 4096 * 4096
      let rand := (Config.drbg s.free).setWidth 256
      let gcm := bitOf agreed 0
      let slot := c.keySlot.getD 0
      let key (label : Nat) : BitVec 256 := if gcm then peerKey s slot label b.rand rand else 0
      let derived (t : State) : State := if gcm then useSlot slot 5 t else t
      let p : Peer :=
        { ip := h.srcIp, cls := n, ver := v, feats := agreed, payload := payloadOf b.maxPayload,
          used := 0, limit := lim, lastLimit := lim, freed := 0, txKey := key 6, rxKey := key 5,
          txSalt := (key 8).setWidth 32, rxSalt := (key 7).setWidth 32, nonces := [], cookies := [], closing := false }
      let o : Out := .hello h.srcIp 0 b.cookie 0 v (payloadOf b.maxPayload) agreed (lim / 4096) 0 rand
      keepCookie k b.cookie o (sendHello c.keySlot gcm o (derived (sumCredit (useFree { s2 with net := { s2.net with
        peers := SMap.set s2.net.peers none k (some p) } }))))

/-- R301: a queue-pair HELLO. -/
def helloQp (h : Pkt) (b : HelloBody) (c : PeerClass) (s : State) : State :=
  match peerAt s h.srcIp with
  | none => helloRefused h.srcIp b.cookie 5 false s
  | some (n, p) =>
    match keyOf s h.key with
    | none => helloRefused h.srcIp b.cookie 4 false s
    | some k =>
      let pick := Config.choose s.free (maxQpns s)
      let qpn := if pick < maxQpns s && (qpOf s pick).isNone then some pick
        else firstIdx (maxQpns s) (fun q => (qpOf s q).isNone)
      if !keyLive s h.key then helloRefused h.srcIp b.cookie 4 false s
      else if !k.any && k.peerClass ≠ p.cls then helloRefused h.srcIp b.cookie 6 false s
      else if c.maxQps ≤ (qpsOfPeer s n).length then helloRefused h.srcIp b.cookie 3 true s
      else
        match qpn with
        | none => helloRefused h.srcIp b.cookie 3 true s
        | some q =>
          let lim := min (fld s .netQpCredit 15 0) c.qpCreditMax * 4096
          let init := Config.initPsn s.free % 2 ^ 32
          let x : Qp :=
            { peer := n, key := h.key, expPsn := b.initPsn % 2 ^ 32, nakAt := none, unacked := 0, unackedAt := 0,
              flushes := [], atomics := [], cache := [], lowest := 3, used := 0, limit := lim, lastLimit := lim,
              freed := 0, viols := [], notSeq := init, notifs := [], hostLimit := 0, hostUsed := 0, closing := false,
              unplaced := 0 }
          let o : Out := .hello h.srcIp q b.cookie 0 p.ver p.payload p.feats (lim / 4096) init 0
          keepCookie n b.cookie o (sendHello c.keySlot (bitOf p.feats 0) o (touchCtx q (evictCtx (useFree { s with net := { s.net with
            qps := SMap.set s.net.qps none q (some x) } }))))

/-- HELLO (R301): a repeated COOKIE is answered as before. -/
def execHello (h : Pkt) (b : HelloBody) (s : State) : Host.Outcome State Fault Refusal :=
  onUnit (decide (h.port < 8)) s (step1 h (fun t =>
    match classFor t h.srcIp with
    | none => t
    | some (n, c) =>
      if !classKeyed t c then bumpRc .netRxDrop h.port 31 0 1 t
      else if !serving t then sendNakTo h.srcIp h.qpn h.psn 0x08 0 false t
      else if !h.hdrOk || (b.peerFlag && (h.qpn ≠ 0 || h.ver ≠ b.maxVer)) || (!b.peerFlag && (h.qpn ≠ 0xFFFFFF || !extOk t h none))
          || h.length ≠ 64 then
        sendNakTo h.srcIp h.qpn h.psn 0x0A 0 false t
      else
        let kept := (peerAt t h.srcIp).bind (fun p =>
          p.2.cookies.find? (fun k => k.1 = b.cookie && decide (now t < k.2.1 + 10000000)))
        match kept with
        | some k =>
          let gcm := (peerAt t h.srcIp).any (fun p => bitOf p.2.feats 0)
          sendHello c.keySlot gcm k.2.2 t
        | none => if b.peerFlag then helloPeer h b n c t else helloQp h b c t) s)

/-! ## Keys (R312, R319) -/

/-- A stamped management command; a node that does not serve refuses it. -/
def stampCmd (p : Path) (tag code : Nat) (op : RecOp) (s : State) : State :=
  belvorMgmt p tag code (fun t =>
    if !serving t then refuseOpen p tag code t else stampMgmt (.log op) (.cmd p tag code) (srcOf p) t) s

/-- KEY_REGISTER (R312). -/
def execKeyRegister (p : Path) (tag : Nat) (ws : List Window) (any : Bool) (cls : Nat) (s : State) : Host.Outcome State Fault Refusal :=
  done (stampCmd p tag 0x30 (.keyReg { key := 0, windows := ws, any := any, peerClass := cls }) s)

/-- KEY_REVOKE (R319). -/
def execKeyRevoke (p : Path) (tag : Nat) (key : BitVec 64) (s : State) : Host.Outcome State Fault Refusal :=
  done (stampCmd p tag 0x31 (.keyRevoke key) s)

/-- R319: every write and atomic bearing the key and stamped before is placed, and every read is answered. -/
def revokeDone (s : State) (r : Revoke) : Bool :=
  !s.seqr.inputs.any (fun i => i.key = r.key && decide (i.gtc ≤ r.gtc))
    && !s.seqr.placing.any (fun x => x.key = r.key) && !s.seqr.jobs.any (fun j => j.key = r.key)

/-- REVOCATION_COMPLETE (R319): the index is free, the command completes, and bound queue pairs close, reason 1. -/
def execRevocationComplete (key : BitVec 64) (s : State) : Host.Outcome State Fault Refusal :=
  done (match s.net.revokes.find? (fun r => r.key = key) with
    | none => s
    | some r =>
      if !revokeDone s r then s
      else
        let bound := ((SMap.present s.net.qps).filter (fun q => q.2.key = key)).map (·.1)
        forEach bound (closeQpWith 1) (answerAck r.ack .loc r.gtc 311 (freeKey key s)))

/-- CLOSE_QP (R303, R325): reason 4. -/
def execCloseQp (p : Path) (qpn : Nat) (s : State) : Host.Outcome State Fault Refusal :=
  done (ctlWrite p (regAddr .netCmd) (closeQpWith 4 qpn) s)

/-- CLOSE_PEER (R303, R325): every queue pair of the peer, and the peer, reason 4. -/
def execClosePeer (p : Path) (peer : Nat) (s : State) : Host.Outcome State Fault Refusal :=
  done (ctlWrite p (regAddr .netCmd) (fun t =>
    match peerOf t peer with
    | none => t
    | some x =>
      let t1 := forEach (qpsOfPeer t peer) (closeQpWith 4) t
      freePeer peer (if canAnswer t1 then sendPeer peer (freeEngine t1) (.peerClose x.ip 4) (useFree t1) else t1)) s)

end Sys2Proof.Machine
end

