-- ==== Sys2Proof/Machine/Seqr.lean ====
section
/-!
DEFINITION. The sequencer's commands (R33, R34, R36), the release of held writes (R20), and the landing drain
(R20, R53, R54, R159, R220, R227, R534).
-/

namespace Sys2Proof.Machine

open Sys2Proof

/-- Background work goes on: the node is up from stage 8, and no Cellar action or Clearing has begun (R143,
R165, R409). -/
def working (s : State) : Bool :=
  s.pwr.state == .on && !s.pwr.stopped && decide (8 ≤ s.pwr.stage) && decide (s.pwr.stage ≤ 10)

/-! ## The merge -/

/-- SOURCE_HEARTBEAT (R33): the source's local GTC copy, at most 2 ns behind (R29), becomes its watermark. -/
def execSourceHeartbeat (src lag : Nat) (s : State) : Host.Outcome State Fault Refusal :=
  onUnit (decide (src ≤ 315)) s (if s.seqr.mergeSet.contains src then setMark src (now s - min lag 2) s else s)

/-- SEQUENCER_EMIT (R34, R196): up to 16 inputs in stamp order; `errs` are errors that the arrays have taken. -/
def execSequencerEmit (errs : List (Nat × Nat × ArrayCheck)) (s : State) : Host.Outcome State Fault Refusal :=
  done (emitLoop 16 (addErrs errs s))

/-- MERGE_STALL (R36): event 53; every logical input is held until the source is heard again. -/
def execMergeStall (src : Nat) (s : State) : Host.Outcome State Fault Refusal :=
  onUnit (decide (src ≤ 315)) s
    (if inMerge s src && !s.seqr.stalled.contains src then
      raise 53 { s with seqr := { s.seqr with stalled := s.seqr.stalled ++ [src] } }
    else s)

/-! ## Held writes -/

/-- A held input can be stamped now, `earlier` being the ones held before it. -/
def releasable (s : State) (earlier : List HeldReq) (h : HeldReq) : Bool :=
  match h with
  | .cxl r g p _ =>
    !bankFull s g p.line && !sliceHeld s g p.line && !earlier.any (fun x => heldBank s x == some (r.port, sliceOf s g p.line))
  | .vrmp q _ op _ _ _ _ =>
    !needsBanks s op && !earlier.any (passes s q op)
  | .mgmt _ => true

/-- The oldest held input that can be stamped. -/
def firstFree (s : State) (earlier : List HeldReq) : List HeldReq → Option HeldReq
  | [] => none
  | h :: rest => if releasable s earlier h then some h else firstFree s (earlier ++ [h]) rest

/-- A held input is stamped: a CXL write is decoded again, since its stamp orders it against map changes (R46).
The recorder takes how long it was held. -/
def releaseHeld (h : HeldReq) (s : State) : State :=
  match h with
  | .cxl r _ p gtc =>
    let c := checkReq (recSample 14 (now s - gtc) s) r true false
    (match c.2 with
      | .refuse k dpa g => refuseCxl r k true dpa g c.1
      | .lost => c.1
      | .go g line => stampCxl r g ⟨line, p.data, p.mask⟩ ((dpaOf s r).getD 0) c.1)
  | .vrmp q psn op key gtc raddr size =>
    let s1 := freeBuffer q size (recSample 14 (now s - gtc) s)
    let s2 := freeCharge q size (stampInput (engineOf s q) op (.vrmp q psn) (engineOf s q) key raddr s1)
    updQp q (fun x => { x with unacked := max 1 x.unacked, unackedAt := if x.unacked = 0 then now s else x.unackedAt }) s2
  | .mgmt i => stampInput i.src i.op i.ack i.origin i.key i.raddr (recSample 14 (now s - i.gtc) s)

/-- HELD_WRITE_RELEASE (R20): the oldest held input with room is admitted. -/
def execHeldWriteRelease (s : State) : Host.Outcome State Fault Refusal :=
  done (if holdAll s then s
    else match firstFree s [] s.seqr.held with
      | some h => releaseHeld h { s with seqr := { s.seqr with held := s.seqr.held.erase h } }
      | none => s)

/-! ## The landing drain -/

/-- R159: the drain would make a clean sector dirty while D stands at the ceiling. -/
def ceilingHolds (s : State) (g a : Nat) : Bool :=
  atCeiling s && durable s g && !(tile s g (tileOf a)).sdirty.getLsbD (secOf a)

/-- Changes a landing entry that exists. -/
def updLand (g a : Nat) (f : LandEntry → LandEntry) (s : State) : State :=
  match landOf s g a with
  | some e => setLand g a (some (f e)) s
  | none => s

/-- LANDING_DRAIN (R20, R53, R136, R159, R205, R211 to R213): the entry starts toward its frame, as a request to the
channel; a tile without one is promoted first, and a move, a promotion, the ceiling, an unusable slot or the port
holds it. -/
def execLandingDrain (grove line : Nat) (s : State) : Host.Outcome State Fault Refusal :=
  let t := tileOf line
  done (if !working s then s
    else match landOf s grove line with
    | none => s
    | some e =>
      if e.draining || promoting s grove t || moving s grove t || !groveKeyed s grove || ceilingHolds s grove line then s
      else if !landOk s grove line then landGet grove line s
      else if tileBlank (tile s grove t) then firstFrame grove t s
      else if (tile s grove t).frame.isNone then (startPromo grove t 2 line false s).getD (noFrame s)
      else match passReq .drain grove line (if e.mask = fullMask then 1 else 2) (qosOf s grove) s with
        | none => s
        | some u =>
          updLand grove line (fun x => { x with draining := true, remerged := false })
            (markDirty grove t (secOf line) (touchAge grove t (landGet grove line u))))

/-- R221: a write that a FAILED channel discards raises the access event of its host's port. -/
def discarded (src : Nat) (s : State) : State := if src < 256 then portEvent (src / 16) 0 s else s

/-- R218, R220: a partial write reads its line first: `o` is what the channel returns. -/
def readBefore (f i : Nat) (m : Mask) (o : DramRead) (s : State) : State :=
  if m = fullMask then s else corrected f i (noteRead f i o s)

/-- The entry's bytes reach the frame: a marked entry as a poison marker (R534), a partial one by
read-modify-write (R220); a FAILED channel discards them (R221). -/
def drainInto (g a : Nat) (e : LandEntry) (o : DramRead) (s : State) : State :=
  match (tile s g (tileOf a)).frame with
  | none => s
  | some f =>
    if chFailed s f (a % 1024) then discarded e.src s
    else
      let k := if e.mask = fullMask then 1 else 2
      let s1 := useGrove g (tileOf a) k (wakeLine f (a % 1024) s)
      if e.poison then markDirty g (tileOf a) (secOf a) (markT1 f (a % 1024) s1)
      else writeT1 g a e.data e.mask (readBefore f (a % 1024) e.mask o s1)

/-- An L line becomes C when its entry is released (R177). -/
def landedToClean (g a : Nat) (s : State) : State :=
  let s1 := updLine g a (fun x => { x with st := if x.st = .landed then .clean else x.st }) s
  let sl := sliceOf s1 g a
  if (wfOf s1 sl).any (fun x => x.grove = g && x.line = a) then
    setWf sl (mapIf (fun x => x.grove = g && x.line = a) (fun x => { x with st := .clean }) (wfOf s1 sl)) s1
  else s1

/-- LANDING_DRAIN_DONE (R20, R54, R211, R220): the channel reports the write; the entry is released, or stays and drains
again when a write merged. -/
def execLandingDrainDone (grove line : Nat) (o : DramRead) (s : State) : Host.Outcome State Fault Refusal :=
  done (match landOf s grove line with
    | none => s
    | some e =>
      if !e.draining || !working s then s
      else if ceilingHolds s grove line || (tile s grove (tileOf line)).frame.isNone then
        updLand grove line (fun x => { x with draining := false, remerged := false }) s
      else match finishReq .drain grove line s with
      | none => s
      | some s0 =>
        let s1 := drainInto grove line e o s0
        if e.remerged then updLand grove line (fun x => { x with draining := false, remerged := false }) s1
        else runQueue (landedToClean grove line (setLand grove line none s1)))

end Sys2Proof.Machine
end

