-- ==== Sys2Proof/Machine/CanopyMaint.lean ====
section
/-!
DEFINITION. Canopy's own commands: fills (R17, R183, R184, R218, R219, R221), tracker entries written (R186,
R188, R196, R220), the maintenance range engine (R189 to R192), and disabling and enabling (R193, R194).
-/

namespace Sys2Proof.Machine

open Sys2Proof

/-! ## Fills -/

/-- R221: a request of a host to a FAILED channel raises its port's access event. -/
def failedAccess (w : Waiter) (s : State) : State :=
  match w with
  | .cxlRead id =>
    (match s.seqr.reads.find? (fun r => r.id = id) with
      | some r => portEvent r.req.port 0 s
      | none => s)
  | _ => s

/-- What the channel returns for a line of a frame, behind the tracker's writes: `none` is poison (R204, R219,
R221). -/
def channelRead (s : State) (g a f : Nat) (o : DramRead) : Option LineData :=
  if chFailed s f (a % 1024) then none
  else match o with
    | .uncorr _ => none
    | _ => behindTrk s g a (lineContent s g a)

/-- R218, R219, R221: counts and events of a demand read of a line. -/
def readEvents (g a f src : Nat) (o : DramRead) (s0 : State) : State :=
  let s := wakeLine f (a % 1024) s0
  let n := chanOf s f (a % 1024)
  if chFailed s f (a % 1024) then demandUe f (a % 1024) src 3 s
  else match o with
    | .uncorr c => demandUe f (a % 1024) src c s
    | .corrected =>
      let s1 := dramEvent n 0 (bumpRc .dramCeCount n 31 0 1 s)
      if (t1Line s f (a % 1024)).isNone && !linePoisoned s g a then demandUe f (a % 1024) src 1 s1 else s1
    | .clean => if (t1Line s f (a % 1024)).isNone && !linePoisoned s g a then demandUe f (a % 1024) src 1 s else s

/-- The line as a joiner finds it now: installed, or as the fill brought it. -/
def joinerData (s : State) (g a : Nat) (d : Option LineData) : Option LineData :=
  match hitWay s g a with
  | some (_, y) => if y.fill then d else some y.data
  | none => if d.isNone then overLanding s g a (behindTrk s g a none) else fillData s g a

/-- The fill's line is installed in the way that waited for it, under the bytes written meanwhile; a poisoned
line is not installed. -/
def installFill (g a : Nat) (d : Option LineData) (s : State) : State :=
  match hitWay s g a with
  | none => s
  | some (w, y) =>
    if !y.fill then s
    else match d with
      | none => dropWay (setKey s g a) w s
      | some x =>
        updLine g a (fun z => { z with
          fill := false, data := mergeLine x z.data z.have_, have_ := fullMask,
          st := if z.st = .clean && (landOf s g a).isSome then .landed else z.st }) s

/-- The miss-file entry of a line is freed. -/
def freeMiss (g a : Nat) (s : State) : State :=
  let sl := sliceOf s g a
  setMiss sl ((missOf s sl).filter (fun x => !(x.grove = g && x.line = a))) s

/-- A T1 fill from line `i` of frame `f` answers the joiners in arrival order and installs the line (R17, R184). -/
def takeFill (g a f : Nat) (m : Miss) (o : DramRead) (chk : ArrayCheck) (s0 : State) : State :=
  let s := noteRead f (a % 1024) o s0
  let met := SMap.get s.tier.t1bad .clean (f * 1024 + a % 1024)
  let src := (m.joiners.head?.map (waiterSrc s)).getD 288
  let s1 := useGrove g (tileOf a) 1 (recSample 15 (now s - m.gtc) (readEvents g a f src met s))
  let s2 := if chFailed s f (a % 1024) then forEach m.joiners failedAccess s1 else s1
  let d := overLanding s g a (channelRead s g a f met)
  let s3 := (checkTags (· = setKey s g a) (addErr g a chk (freeMiss g a s2))).1
  let s4 := match hitWay s3 g a with
    | some (w, x) => (dataCheck (setKey s g a) w x s3).1
    | none => s3
  let s5 := installFill g a d s4
  runQueue (forEach m.joiners (fun w t => deliver g a (joinerData t g a d) false w t) s5)

/-- CANOPY_FILL (R183, R184, R211, R213): the channel answers the read of a miss, which its port must have passed. -/
def execCanopyFill (grove line : Nat) (o : DramRead) (chk : ArrayCheck) (s : State) : Host.Outcome State Fault Refusal :=
  done (match missLine s grove line, (tile s grove (tileOf line)).frame with
    | some m, some f =>
      if s.pwr.state != .on then s
      else match finishReq .fill grove line (passMiss (sliceOf s grove line) s) with
        | none => s
        | some u => takeFill grove line f m o chk u
    | some m, none =>
      if promoting s grove (tileOf line) then s else
      let s1 := freeMiss grove line s
      let s2 := match hitWay s1 grove line with
        | some (w, x) => if x.fill then dropWay (setKey s1 grove line) w s1 else s1
        | none => s1
      forEach m.joiners (fun w t => readAt grove line w (waiterReq t grove line w) t) s2
    | none, _ => s)

/-! ## The tracker -/

/-- A tracker entry reaches its frame (R136, R186, R220): enciphered, a partial one by read-modify-write, discarded by
a FAILED channel (R221). -/
def writeEntry (x : TrkEntry) (o : DramRead) (s : State) : State :=
  let t := tileOf x.line
  let i := x.line % 1024
  match (tile s x.grove t).frame with
  | none => s
  | some f =>
    if chFailed s f i then discarded (x.src.getD 288) s
    else
      writeT1 x.grove x.line x.data x.mask (readBefore f i x.mask o
        (useGrove x.grove t (if x.mask = fullMask then 1 else 2) (touchAge x.grove t (wakeLine f i s))))

/-- The oldest entry of a line is written by its channel and freed; `none` while the channel does not hold it. -/
def writeOldest (g a : Nat) (o : DramRead) (s : State) : Option State :=
  let sl := sliceOf s g a
  (finishReq .evict g a (passTrk sl s)).bind (fun u =>
    (trkLine u g a).head?.map (fun x => writeEntry x o (setTrk sl ((trkOf u sl).erase x) u)))

/-- R186: a slice's tracker is made to take `n` entries: channels write the oldest entries they hold (log 92). -/
def makeRoom (fuel g a n : Nat) (s : State) : State :=
  match fuel with
  | 0 => s
  | k + 1 =>
    if trkFree s g a n then s
    else match (trkOf s (sliceOf s g a)).find? (·.issued) with
      | some x => (writeOldest x.grove x.line .clean s).elim s (makeRoom k g a n)
      | none => s

/-! ## The range engine -/

/-- R189, R196: one way under a walk: `none` while a write-back of it waits for the tracker. A disable takes pinned
lines too (R193). -/
def walkWay (op : MaintOp) (all : Bool) (k w : Nat) (x : Way) (s : State) : Option State :=
  let skip (t : State) : State := { t with can := { t.can with skipped := satAdd 32 t.can.skipped 1 } }
  let pin := x.pin && !all
  let dirty := x.st = .dirty
  if op = .invalidate then some (if dirty || pin then skip s else dropWay k w s)
  else if dirty && !trkFree s x.grove x.line 1 then none
  else
    let c := if dirty then dataCheck k w x s else (s, some true)
    let s1 := if dirty && c.2 = some true then pushTrk x.grove x.line x.data x.have_ true none c.1 else c.1
    if (wayAt s1 k w).isNone then some s1
    else if op = .clean then some (if dirty then putWay k w { x with st := .clean } s1 else s1)
    else if pin then some (skip (if dirty then putWay k w { x with st := .clean } s1 else s1))
    else some (dropWay k w s1)

/-- The walk covers the line. -/
def walks (x : Walk) (g a : Nat) : Bool :=
  match x.grove with
  | none => true
  | some h => h = g && decide (x.first ≤ a) && decide (a < x.last)

/-- Where a way stands in its slice's walk: its set, or its line (R190). -/
def walkPos (x : Walk) (k : Nat) (y : Way) : Nat := if x.sets then k % 16384 else y.line

/-- Inserts by position. -/
def insertPos (x : Nat × Nat × Nat × Way) : List (Nat × Nat × Nat × Way) → List (Nat × Nat × Nat × Way)
  | [] => [x]
  | y :: rest => if x.1 < y.1 then x :: y :: rest else y :: insertPos x rest

/-- The ways still to walk of the slices that `here` admits from a position on: position, set, way, line. -/
def walkLeft (x : Walk) (here : Nat → Option Nat) (s : State) : List (Nat × Nat × Nat × Way) :=
  (s.can.sets.flatMap (fun p => (p.2.ways.filter (fun q =>
    walks x q.2.grove q.2.line && (match here (p.1 / 16384) with
      | some n => decide (n ≤ walkPos x p.1 q.2)
      | none => false))).map (fun q => (walkPos x p.1 q.2, p.1, q.1, q.2)))).foldl (fun l e => insertPos e l) []

/-- R190: the walk goes on in the slices that `here` admits, until a slice's tracker is full; at its end Windfall is
walked, and the lines in range discarded. A disable ends with nothing held (R193). -/
def walkOn (x : Walk) (here : Nat → Option Nat) (s : State) : State :=
  let inSet (k : Nat) : Bool := (here (k / 16384)).isSome && (x.sets || (List.range (x.last - x.first)).any (fun i =>
    decide (setKey s (x.grove.getD 0) (x.first + i) = k)))
  let s1 := (checkTags inSet s).1
  let r := (walkLeft x here s1).foldl (fun (acc : State × SMap (Option Nat)) e =>
    let sl := e.2.1 / 16384
    if (SMap.find acc.2 sl).isSome then acc
    else match wayAt acc.1 e.2.1 e.2.2.1 with
      | none => acc
      | some y =>
        match walkWay x.op x.grove.isNone e.2.1 e.2.2.1 y acc.1 with
        | some t => (t, acc.2)
        | none => (acc.1, SMap.put acc.2 sl (some e.1))) (s1, [])
  if !r.2.isEmpty then { r.1 with can := { r.1.can with walk := some { x with at_ := r.2 } } }
  else
    let s2 := { r.1 with can := { r.1.can with walk := none } }
    if x.op = .clean then s2
    else forEach (SMap.keys s2.can.wf) (fun sl t => setWf sl ((wfOf t sl).filter (fun y => !walks x y.grove y.line)) t) s2

/-- A walk that waits for the tracker goes on where it can. -/
def walkMore (s : State) : State :=
  match s.can.walk with
  | some x => walkOn x (fun sl => SMap.find x.at_ sl) s
  | none => s

/-- CANOPY_MAINT_LEFT (R200): lines or sets still to walk in the slowest slice. -/
def maintLeft (s : State) : Nat :=
  match s.can.walk with
  | none => 0
  | some x => (SMap.present x.at_).foldl (fun n p => max n (if x.sets then 16384 - p.2
      else ((List.range (x.last - p.2)).filter (fun i => sliceOf s (x.grove.getD 0) (p.2 + i) = p.1)).length)) 0

/-- A walk's write-backs have all been issued, and its last line walked (R190, R193). -/
def walkDone (s : State) : Bool := s.can.walk.isNone && !s.can.trk.any (fun p => p.2.any (fun x => x.walk && !x.issued))

/-- EVICTION_WRITTEN (R186, R211): the oldest entry of the line is written and freed; an entry that cannot be read forces
Clearing (R196, R197). -/
def execEvictionWritten (grove line : Nat) (chk : ArrayCheck) (o : DramRead) (s : State) : Host.Outcome State Fault Refusal :=
  done (if s.pwr.state != .on || (trkLine s grove line).isEmpty then s
    else
      let c := trkCheck grove line (if chk = .ok then s else { s with can := { s.can with errs := s.can.errs ++ [⟨.trk grove line, chk⟩] } })
      if c.2 then c.1
      else match writeOldest grove line o c.1 with
        | none => s
        | some u => walkMore (runQueue u))

/-- START and LEN as software wrote them. -/
def maintStart (s : State) : Nat := regWord s .canStartLo + fld s .canStartHi 15 0 * 2 ^ 32

/-- LEN. -/
def maintLen (s : State) : Nat := regWord s .canLenLo + fld s .canLenHi 15 0 * 2 ^ 32

/-- R192, R199: RESULT of a refused command; 0 is accepted. `zero` is OP ZERO, `op` a known one. -/
def maintRefusal (s : State) (g : Nat) (op zero : Bool) : Nat :=
  if s.can.busy || s.can.disabling then 1
  else if !op || !(match groveOf s g with
      | some r => g != 1023 && decide (maintStart s + maintLen s ≤ r.extents * 2 ^ 24)
      | none => false) || maintStart s % 64 ≠ 0 || maintLen s % 64 ≠ 0 then 2
  else if zero && !serving s then 3 else 0

/-- A write of CANOPY_MAINT_CMD by management: `num` is OP, and `f` starts the operation. -/
def maintCmd (p : Path) (g num : Nat) (f : State → State) (s : State) : State :=
  ctlWrite p (regAddr .canMaintCmd) (fun t =>
    let r := maintRefusal t g (decide (1 ≤ num) && decide (num ≤ 4)) (num = 4)
    let t1 := setRegWord .canMaintCmd 0 0 (g % 1024 * 65536 + num % 16)
      { t with can := { t.can with skipped := 0 } }
    if r ≠ 0 then raise 449 { t1 with can := { t1.can with result := r } }
    else f { t1 with can := { t1.can with
      busy := true, setWalk := num ≠ 4 && decide (2 ^ 24 < maintLen t), zeroLeft := 0 } }) s

/-- A walk of the range that the registers name; `errs` are errors that the arrays have taken. -/
def maintWalk (p : Path) (g num : Nat) (op : MaintOp) (errs : List (Nat × Nat × ArrayCheck)) (s : State) : State :=
  maintCmd p g num (fun t => walkOn
    { op := op, grove := some g, first := maintStart t / 64, last := (maintStart t + maintLen t) / 64,
      sets := decide (2 ^ 24 < maintLen t), at_ := [] } (fun _ => some 0) (addErrs errs t)) s

/-- CLEAN (R189). -/
def execClean (p : Path) (grove : Nat) (errs : List (Nat × Nat × ArrayCheck)) (s : State) : Host.Outcome State Fault Refusal :=
  done (maintWalk p grove 1 .clean errs s)

/-- INVALIDATE (R189). -/
def execInvalidate (p : Path) (grove : Nat) (errs : List (Nat × Nat × ArrayCheck)) (s : State) : Host.Outcome State Fault Refusal :=
  done (maintWalk p grove 2 .invalidate errs s)

/-- CLEAN_INVALIDATE (R189). -/
def execCleanInvalidate (p : Path) (grove : Nat) (errs : List (Nat × Nat × ArrayCheck)) (s : State) : Host.Outcome State Fault Refusal :=
  done (maintWalk p grove 3 .cleanInvalidate errs s)

/-- R191: the pieces of a range, split at 4 KiB boundaries, as first byte and length. -/
def zeroPieces (fuel start stop : Nat) : List (Nat × Nat) :=
  match fuel with
  | 0 => []
  | n + 1 =>
    if stop ≤ start then []
    else
      let e := min stop ((start / 4096 + 1) * 4096)
      (start, e - start) :: zeroPieces n e stop

/-- One piece of zeros, stamped under 311. -/
def stampZero (g : Nat) (x : Nat × Nat) (s : State) : State :=
  let ps := (List.range (x.2 / 64)).map (fun k => (⟨x.1 / 64 + k, 0, fullMask⟩ : Piece))
  stampMgmt (.log (.write g ps)) .zeroPiece 311
    { s with can := { s.can with zeroLeft := s.can.zeroLeft + 1 } }

/-- The start of a ZERO. -/
def startZero (g : Nat) (s : State) : State :=
  forEach (zeroPieces (maintLen s / 4096 + 2) (maintStart s) (maintStart s + maintLen s)) (stampZero g) s

/-- ZERO (R191). -/
def execZeroRange (p : Path) (grove : Nat) (s : State) : Host.Outcome State Fault Refusal :=
  done (maintCmd p grove 4 (startZero grove) s)

/-- MAINT_COMPLETE (R190, R191, R199): the last line is walked and the last write-back issued; RESULT 0, or 4 with lines
left in place; events 448 and 450. -/
def execMaintComplete (s0 : State) : Host.Outcome State Fault Refusal :=
  let s := walkMore s0
  done (if !s.can.busy || s.can.disabling || s.can.zeroLeft ≠ 0 || !walkDone s then s
    else
      onlyIf (s.can.skipped != 0) (raise 450) (raise 448 { s with can := { s.can with
        busy := false, setWalk := false, result := if s.can.skipped = 0 then 0 else 4 } }))

/-! ## Disabling and enabling -/

/-- R193: Windfall is emptied, and every line written back and invalidated, pinned ones included. -/
def cleanAll (errs : List (Nat × Nat × ArrayCheck)) (s : State) : State :=
  let s1 := addErrs errs { s with can := { s.can with wf := [] } }
  walkOn { op := .cleanInvalidate, grove := none, first := 0, last := 0, sets := true, at_ := [] } (fun _ => some 0) s1

/-- R193: ENABLE is written 0: a disable starts while lines are held; an empty Canopy is off at once. -/
def canopyOff (p : Path) (errs : List (Nat × Nat × ArrayCheck)) (s : State) : State :=
  if s.can.busy then refuseWrite p (regAddr .canCtl) s
  else if !s.can.enabled then s
  else if s.can.sets.all (fun c => c.2.ways.isEmpty) && s.can.wf.isEmpty then
    { s with can := { s.can with enabled := false } }
  else cleanAll errs { s with can := { s.can with disabling := true, busy := true, setWalk := true } }

/-- R194: ENABLE is written 1: on, with every tag invalid. -/
def canopyOn (p : Path) (s : State) : State :=
  if s.can.busy then refuseWrite p (regAddr .canCtl) s
  else if s.can.enabled then s
  else { s with can := { s.can with enabled := true, sets := [], wf := [] } }

/-- CANOPY_DISABLE (R193). -/
def execCanopyDisable (p : Path) (errs : List (Nat × Nat × ArrayCheck)) (s : State) : Host.Outcome State Fault Refusal :=
  done (ctlWrite p (regAddr .canCtl) (canopyOff p errs) s)

/-- CANOPY_ENABLE (R194). -/
def execCanopyEnable (p : Path) (s : State) : Host.Outcome State Fault Refusal :=
  done (ctlWrite p (regAddr .canCtl) (canopyOn p) s)

/-- DISABLE_COMPLETE (R193): the last write-back has been issued: event 451. -/
def execDisableComplete (s0 : State) : Host.Outcome State Fault Refusal :=
  let s := walkMore s0
  done (if s.can.disabling && walkDone s then
      raise 451 { s with can := { s.can with enabled := false, disabling := false, busy := false, setWalk := false, sets := [] } }
    else s)

end Sys2Proof.Machine
end

