-- ==== Sys2Proof/Machine/TierWork.lean ====
section
/-!
DEFINITION. What the tier manager's commands share: programs of whole tiles to T2 (R131, R158, R243), the wear
quota (R161), freeing frames (R141, R188), pins (R148, R149, R182), promotions that end (R137), the sealed copy
(R145), and the choices among tiles.
-/

namespace Sys2Proof.Machine

open Sys2Proof

/-! ## Lines above the frame -/

/-- Canopy or the tracker holds bytes that the tile's frame lacks. -/
def unwritten (s : State) (g t : Nat) : Bool :=
  s.can.sets.any (fun c => c.2.ways.any (fun w => w.2.grove = g && tileOf w.2.line = t && w.2.st == .dirty))
    || s.can.trk.any (fun q => q.2.any (fun x => x.grove = g && tileOf x.line = t))

/-! ## Programs -/

/-- R161: trickle and dirty demotions spend the millisecond's quota; every other program is ungoverned. -/
def governed (k : ProgKind) : Bool := k == .trickle || k == .demotion

/-- The quota has room for a program of this kind; demotion below a quarter of the watermark ignores it (R142). -/
def quotaOk (s : State) (k : ProgKind) (forced : Bool) : Bool :=
  !governed k || forced || decide (tileBytes ≤ s.tier.wearQuota)

/-- A program's bytes come off the quota, or count as ungoverned. -/
def spend (k : ProgKind) (forced : Bool) (s : State) : State :=
  if governed k && !forced then { s with tier := { s.tier with wearQuota := s.tier.wearQuota - tileBytes } }
  else if k == .relocation then s
  else { s with tier := { s.tier with ungoverned := s.tier.ungoverned + tileBytes } }

/-- A program of the tile other than a relocation is in flight. -/
def programming (s : State) (g t : Nat) : Bool :=
  s.tier.progs.any (fun p => p.grove = g && p.tile = t && p.kind != .relocation)

/-- The source number of a program's work (R143). -/
def progSrc (k : ProgKind) : Nat :=
  match k with
  | .trickle => 304
  | .drain => 304
  | _ => 288

/-- The regulator of a program's reads (R212). -/
def progReg (s : State) (k : ProgKind) : Nat := regFor s (if k == .trickle || k == .drain then 2 else 1)

/-- R243: a T2 write whose source is no frame holds a staging buffer of Coppice's pool 3 until it succeeds; `none` while
the pool has none. -/
def takeBuf (need : Bool) (s : State) : Option State := if need then copAlloc 3 288 false s else some s

/-- The tile has a frame that holds the source of a T2 write. -/
def framed (s : State) (g t : Nat) : Bool := (tile s g t).frame.isSome

/-- R327: the copier's reads of a tile: the lines of its frame, or the sectors of its copy. -/
def readUse (g t : Nat) (s u : State) : State :=
  if framed s g t then useGrove g t 1024 u else useSlot (groveSlot s g) 16 u

/-- Starts a whole-tile write to T2 (R131, R243): the copier reads the tile (R219), the write is placed and the sectors are
enciphered; `none` where T2 is full, the grove's slot cannot be used, grove 1,023 is at its bound, or the reads wait at
their port (R213). -/
def startProg (k : ProgKind) (g t : Nat) (forced : Bool) (s : State) : Option State :=
  if metaHeld s || !groveKeyed s g || programming s g t || !quotaOk s k forced || !portOpen s (progReg s k) 1024 || !t2Room s then none
  else
    let s1 := copierScan g t (progSrc k) (wakeTile g t (dropReloc g t s))
    let p : Prog :=
      { id := s1.ids, kind := k, grove := g, tile := t, t2 := 0, lines := tileLines s1 g t, written := 0
        prio := progPrio k forced, buf := !framed s g t }
    ((takeBuf p.buf s1).bind (placeProg p none)).map (fun u =>
      localPass (if k == .trickle then 304 else migrSrc s1) (moved 3 (if k == .trickle then 304 else 288) g (t * 1024) 1024 <| spend k forced
        (chargeLines (progReg s k) 1024 (readUse g t s1 (useSlot (groveSlot s g) 16 (bumpId u))))))

/-- KIND of a tile's owner record (R237). -/
def ownerKind (s : State) (g t : Nat) : Nat := if tileReadOnly s g t then 1 else 0

/-- Superblocks with a programmed slot. -/
def usedSupers (s : State) : List Nat := (s.nand.owners.map (fun p => superOf p.1)).dedup

/-- Key of the superblock of a stripe. -/
def superOfStripe (key : Nat) : Nat := superOf (stripeSlot key 0)

/-- A superblock that T2 writes fill. -/
def superOpen (s : State) (k : Nat) : Bool :=
  SMap.find s.nand.opens (k / 2 ^ 12) = some (k % 2 ^ 12)
    || s.tier.progs.any (fun p => decide (superOf p.t2 = k)) || (SMap.keys s.nand.stripes).any (fun x => decide (superOfStripe x = k))

/-- R140: the T2 copy of a T1-resident tile can be released. -/
def t2Releasable (s : State) (g t : Nat) : Bool :=
  let e := tile s g t
  e.frame.isSome && !e.sealed_ && !e.sealing && !(durable s g && cellarMode s == 1) && !programming s g t

/-- The superblocks reclaim can take: programmed, not open, not being erased. -/
def idleSupers (s : State) : List Nat :=
  (usedSupers s).filter (fun k => !superOpen s k && !(superBlocks k).any s.nand.erasing.contains)

/-- R244: some superblock can be freed: its live copies can move, or can all be released. -/
def canFree (s : State) : Bool :=
  (idleSupers s).any (fun k =>
    let live := liveSlots s (fun n => decide (superOf n = k))
    !(t2Cands s none).isEmpty || live.all (fun n => match liveSlot s n with
      | some (g, t) => t2Releasable s g t
      | none => true))
  || !s.nand.erasing.isEmpty

/-- R244, R256, R258: T2 is full while no superblock can be freed: event 226 with T2_FULL, as it becomes so. -/
def t2Pressure (s : State) : State :=
  let full := !t2Room s || ((t2Cands s none).isEmpty && !canFree s)
  if full = s.nand.t2Full then s
  else
    let s1 := { s with nand := { s.nand with t2Full := full } }
    if full then ftlCause 5 s1 else s1

/-- Starts a program, or notes that T2 is full. -/
def tryProg (k : ProgKind) (g t : Nat) (forced : Bool) (s : State) : State := (startProg k g t forced s).getD (t2Pressure s)

/-! ## Frames -/

/-- Frees a tile's frame. -/
def freeFrame (g t : Nat) (s : State) : State :=
  match (tile s g t).frame with
  | none => s
  | some f => runQueue (updTile g t (fun e => { e with frame := none }) (dropFrame f (unsend g t s)))

/-- R110, R141: the tile can be demoted at all. A tile whose copy from the peer has begun stays. -/
def demoteOk (s : State) (g t : Nat) (e : Tile) : Bool :=
  decide (g < 1023) && e.frame.isSome && !e.pinned && !promoting s g t && !moving s g t && !programming s g t
    && !tileLanded s g t && !s.twin.begun.contains (g, t)

/-- Every line of the tile's frame reads zero. -/
def allZero (s : State) (g t : Nat) : Bool :=
  match (tile s g t).frame with
  | none => false
  | some f => !s.tier.t1.any (fun p => decide (p.1 / 1024 = f)) && !s.tier.t1poison.any (fun k => decide (k / 1024 = f))
    && !s.tier.t1bad.any (fun p => decide (p.1 / 1024 = f))

/-- R141: the class of a tile for demotion: 1 clean with a copy, 2 all zero without one, 3 dirty. -/
def demoteClass (s : State) (g t : Nat) (e : Tile) : Nat :=
  if e.sdirty = 0 && e.t2.isSome && !unwritten s g t then 1
  else if allZero s g t && e.t2.isNone && e.poison.isNone && !unwritten s g t then 2 else 3

/-- The tile demotion takes next, of those `ok` admits: lowest class, oldest AGE, first in the table. -/
def pickDemotion (s : State) (ok : Nat → Nat → Bool) : Option (Nat × Nat × Nat) :=
  let c := ((tiles s).filter (fun p => demoteOk s p.1 p.2.1 p.2.2 && ok p.1 p.2.1)).map (fun p =>
    (demoteClass s p.1 p.2.1 p.2.2, p.2.2.age, p.1, p.2.1))
  (c.foldl (fun (b : Option (Nat × Nat × Nat × Nat)) x => match b with
    | none => some x
    | some y => if x.1 < y.1 || (x.1 = y.1 && y.2.1 < x.2.1) then some x else some y) none).map (fun x => (x.1, x.2.2.1, x.2.2.2))

/-- R141, R188: one tile is demoted: its lines are invalidated, and a clean or zero frame freed at once; a dirty
tile is programmed first. It waits while the tracker cannot take its D lines. -/
def demoteTile (cls g t : Nat) (k : ProgKind) (forced : Bool) (s : State) : State :=
  let s1 := settleTile g t s
  if !settleReady s g t then s
  else if cls = 1 then (if (tile s1 g t).sdirty = 0 then freeFrame g t s1 else s1)
  else if cls = 2 then freeFrame g t (updTile g t (fun e => { e with sdirty := 0, cellar := false }) s1)
  else tryProg k g t forced s1

/-! ## Pins (R149, R182) -/

/-- Marks an entry's pin overflow: event 452 once. -/
def pinOverflow (id : Nat) (s : State) : State :=
  match s.tier.md.queue.find? (fun q => q.id = id) with
  | some q =>
    if q.overflow then s
    else
      let mark (x : QEntry) : QEntry := { x with overflow := true }
      raise 452 (modMeta (fun m => { m with queue := mapIf (fun x => x.id = id) mark m.queue }) s)
  | none => s

/-- R182: one line of a staged tile is installed under class 31 with PIN; a D victim's write-back waits for the tracker
(R186). -/
def pinLine (id g a : Nat) (s0 : State) : State :=
  let s := makeRoom 128 g a 1 s0
  let k := setKey s g a
  let held := hitWay s g a
  match held with
  | some (w, _) =>
    if (wayMask s 31).getLsbD w then updLine g a (fun x => { x with pin := true }) s
    else
      (match victim s g a 31 with
        | some v => (match hitWay s g a with
          | some (w, x) => putWay k v { x with pin := true } (dropWay k w (evict k v s))
          | none => s)
        | none => pinOverflow id s)
  | none =>
    match fillData s g a with
    | none => s
    | some d =>
      let st : LineState := if (landOf s g a).isSome then .landed else .clean
      let s0 := dropWf g a s
      if (victim s0 g a 31).isSome && trkReady s0 g a 31 0 then install g a 31 st true false d fullMask s0
      else pinOverflow id (if canAlloc s0 g a (classOf s0 g) && trkReady s0 g a (classOf s0 g) 0 then install g a (classOf s0 g) st false false d fullMask s0 else s)

/-- R148, R182, R194: TARGET 1 pins the lines of a staged tile, where Canopy is on and class 31 has ways. -/
def pinTile (id g t : Nat) (s : State) : State :=
  if !s.can.enabled || s.can.disabling || wayMask s 31 = 0 then s
  else forEach (List.range 1024) (fun i u => pinLine id g (t * 1024 + i) u) s

/-- The entry that stages a tile: the one of earliest deadline that names it (R148). -/
def stagingEntry (s : State) (g t : Nat) : Option QEntry :=
  (s.tier.md.queue.filter (fun q => names q g t)).foldl (fun (b : Option QEntry) q => match b with
    | none => some q
    | some x => if q.e.deadline < x.e.deadline then some q else some x) none

/-! ## The end of a promotion -/

/-- R132, R137: the sector of a promotion comes from its Cellar record. -/
def fromCellar (s : State) (g t sec : Nat) : Bool :=
  (tile s g t).cellar && (tile s g t).sdirty.getLsbD sec

/-- R137, R240: what a promotion needs of a sector from NAND has been read. -/
def sectorCame (s : State) (p : Promo) (sec : Nat) : Bool :=
  if fromCellar s p.grove p.tile sec || (tile s p.grove p.tile).t2.isSome then p.read.getLsbD sec else true

/-- R137, R155: every line is written into the frame; a poisoned one as a marker. -/
def fillFrame (g t f : Nat) (s : State) : State :=
  forEach (List.range 1024) (fun i u =>
    match lineContent s g (t * 1024 + i) with
    | some d => putT1 f i d u
    | none => markT1 f i u) s

/-- R150: an entry whose last tile became resident after its deadline: 572, and the overrun for the recorder. -/
def noteResident (g t : Nat) (s : State) : State :=
  forEach (s.tier.md.queue.filter (fun q => names q g t)) (fun q u =>
    if q.missed || now u ≤ q.e.deadline || !entryResident u q then u
    else
      let mark (x : QEntry) : QEntry := { x with missed := true }
      raise 572 (recSample 10 (now u - q.e.deadline)
        (modMeta (fun m => { m with queue := mapIf (fun x => x.id = q.id) mark m.queue }) u))) s

/-- Serves the waiters of a promotion that `here` admits; their lines are installed where they may be. -/
def serveWaiters (g t : Nat) (here : Nat → Bool) (s : State) : State :=
  match promoOf s g t with
  | none => s
  | some p =>
    let mine := p.waiters.filter (fun w => here w.1)
    let s1 := updPromo g t (fun x => { x with waiters := x.waiters.filter (fun w => !here w.1) }) s
    forEach mine (fun w u =>
      let v := passLine g w.1 u
      let d := match hitWay v g w.1 with
        | some (_, y) => if y.fill then fillData v g w.1 else some y.data
        | none => fillData v g w.1
      deliver g w.1 d false w.2 v) s1

/-- The promotion ends: the frame is the tile's, its waiters are served (R137, R138, R148). -/
def endPromo (g t : Nat) (s : State) : State :=
  match promoOf s g t with
  | none => s
  | some p =>
    let pin := p.pin && !(tile s g t).pinned
    let s1 := fillFrame g t p.frame (wakeFrame p.frame s)
    let s2 := setTile g t { tile s1 g t with frame := some p.frame, age := 0, pinned := (tile s1 g t).pinned || p.pin } s1
    let s3 := if pin then { s2 with tier := { s2.tier with pinCount := s2.tier.pinCount + 1 } } else s2
    let s4 := useGrove g t 1024 (useSlot (groveSlot s g) (16 - (bitsSet p.arrived).length)
      (moved 3 288 g (t * 1024) 1024 (chargeLines (regFor s 1) 1024 s3)))
    let s5 := serveWaiters g t (fun _ => true) s4
    let s6 := { s5 with tier := { s5.tier with promos := s5.tier.promos.filter (fun x => !(x.grove = g && x.tile = t)) } }
    let s7 := serveLates g t s6
    let s8 := match stagingEntry s7 g t with
      | some q => if (p.kind = 1 || p.pin) && q.target then pinTile q.id g t s7 else s7
      | none => s7
    let s9 := if p.kind = 1 then copFree 3 288 s8 else s8
    runQueue (noteResident g t s9)

/-! ## Seals -/

/-- R145, steps 3 and 4: the tile's entry goes to NAND, and SEALED is set. -/
def finishSeal (g t : Nat) (s : State) : State :=
  let s1 := updTile g t (fun e => { e with sealing := false, sealed_ := true }) s
  let e := tile s1 g t
  sealProgress { s1 with tier := { s1.tier with
    snap := { s1.tier.snap with tiles := SMap.set s1.tier.snap.tiles {} (tkey g t) e }
    ungoverned := s1.tier.ungoverned + 4096
    nandBytes := s1.tier.nandBytes + 4096 } }

/-! ## The order of work (R143) -/

/-- The low watermark (R171). -/
def freeLow (s : State) : Nat := fld s .tierFreeLow 26 0

/-- The dirtiest tile a trickle may write, the one dirty longest among equals (R146, R158). -/
def pickTrickle (s : State) : Option (Nat × Nat) :=
  let c := (tiles s).filter (fun p => decide (p.1 < 1023) && durable s p.1 && !p.2.2.sealed_ && p.2.2.sdirty != 0
    && !promoting s p.1 p.2.1 && !programming s p.1 p.2.1 && groveKeyed s p.1)
  (c.foldl (fun (b : Option (Nat × Nat × Tile)) x => match b with
    | none => some x
    | some y =>
      let nx := popCount x.2.2.sdirty
      let ny := popCount y.2.2.sdirty
      if ny < nx || (nx = ny && x.2.2.dirtyAt < y.2.2.dirtyAt) then some x else some y) none).map (fun x => (x.1, x.2.1))

/-- The next tile an entry stages: the first without a frame that is not being promoted (R148). -/
def nextTile (s : State) (q : QEntry) : Option Nat :=
  ((List.range q.e.count).find? (fun k =>
    (tile s q.e.grove (q.e.firstTile + k)).frame.isNone && !promoting s q.e.grove (q.e.firstTile + k))).map (q.e.firstTile + ·)

/-- The entry of earliest deadline that has a tile to stage (R148), of equals the one queued first (log 90). -/
def nextEntry (s : State) : Option (QEntry × Nat) :=
  s.tier.md.queue.foldl (fun (b : Option (QEntry × Nat)) q =>
    let earlier : Bool := match b with
      | none => true
      | some x => decide (q.e.deadline < x.1.e.deadline)
    if earlier && groveKeyed s q.e.grove then
      match nextTile s q with
      | some t => some (q, t)
      | none => b
    else b) none

/-- Tiles that still have Cellar records to drain (R167). -/
def cellarTiles (s : State) : List (Nat × Nat) :=
  ((tiles s).filter (fun p => p.2.2.cellar)).map (fun p => (p.1, p.2.1))

/-- A sealing tile whose copy can start (R145). -/
def sealReady (s : State) (g t : Nat) (e : Tile) : Bool :=
  e.sealing && !tileLanded s g t && !promoting s g t && !moving s g t && !programming s g t && groveKeyed s g

/-- R110: a serving node has chunks to read. -/
def resyncReady (s : State) : Bool :=
  isReady s && s.twin.role == .solo && s.twin.resync != 0 && linkOpen s && s.seqr.unsent.isEmpty && poolState s 3 != 3
    && portOpen s (regFor s 5) 128
    && !(s.twin.toSend.isEmpty && s.twin.metaSend.isEmpty)

/-- R143: demotion is at demand priority. -/
def demandDemotion (s : State) : Bool := decide (freeFrames s * 4 < freeLow s)

/-- R143: the metadata trickle is at priority 4. -/
def metaUrgent (s : State) : Bool := decide (metaBound s * 3 ≤ s.tier.metaDirty.length * 4)

/-- R143: work of a priority that could be served now. Work of priority 1 is a Cellar action, in which all other work
stops; promotions and repairs in flight are work until they end. -/
def workReady (s : State) (k : Nat) : Bool :=
  match k with
  | 2 => s.tier.promos.any (fun p => p.kind = 0)
  | 3 => demandDemotion s && !metaHeld s && (match pickDemotion s (fun _ _ => true) with
    | some x => settleReady s x.2.1 x.2.2 && (x.1 != 3 || (t2Can s && groveKeyed s x.2.1 && portOpen s (regFor s 1) 1024))
    | none => false)
  | 4 => metaUrgent s && groveKeyed s 1023
  | 5 => !s.tier.repairs.isEmpty
  | 6 => serving s && isReady s && !metaHeld s && (copAlloc 3 288 false s).isSome && (nextEntry s).isSome
    && (pickFrame s (fun _ => true)).isSome
  | 7 => resyncReady s
  | 8 => isReady s && s.tier.draining && !metaHeld s && t2Can s && portOpen s (regFor s 2) 1024
    && (cellarTiles s).any (fun x => !programming s x.1 x.2 && !promoting s x.1 x.2 && groveKeyed s x.1)
  | 9 => !metaHeld s && t2Can s && portOpen s (regFor s 1) 1024 && (tiles s).any (fun p => sealReady s p.1 p.2.1 p.2.2)
  | 10 => cellarMode s = 1 && !metaHeld s && t2Can s && quotaOk s .trickle false && portOpen s (regFor s 2) 1024
    && (pickTrickle s).isSome
  | _ => false

/-- R143: work of a priority is served only while none of a higher one could be. -/
def turn (k : Nat) (s : State) : Bool := (List.range k).all (fun j => !workReady s j)

end Sys2Proof.Machine
end

