-- ==== Sys2Proof/Machine/Tiers.lean ====
section
/-!
DEFINITION. The tier manager's commands: promotions (R137 to R139, R151), demotion and ageing (R136, R141, R142),
the trickles and the wear governor (R156, R158, R160, R161), seals (R144 to R146), schedules (R147 to R150),
repairs (R152 to R155), the Cellar drain (R167) and POISON_CLEAR (R172).
-/

namespace Sys2Proof.Machine

open Sys2Proof

/-! ## Promotions -/

/-- A sector of the tile waits for a repair (R153). -/
def repairing (s : State) (g t sec : Nat) : Bool :=
  s.tier.repairs.any (fun r => r.grove = g && r.tile = t && r.sectors.getLsbD sec)

/-- PROMOTION_LINE_ARRIVAL (R137 to R139): the critical sector is here and what waits in it is served. -/
def execPromotionLineArrival (grove tile : Nat) (s : State) : Host.Outcome State Fault Refusal :=
  done (match promoOf s grove tile with
    | none => s
    | some p =>
      let sec := secOf p.line
      if !working s || repairing s grove tile sec || p.arrived.getLsbD sec || !sectorCame s p sec then s
      else
        let s1 := useSlot (groveSlot s grove) 1 (updPromo grove tile (fun x => { x with
          arrived := x.arrived ||| BitVec.ofNat 16 (2 ^ sec) }) s)
        let s2 := recSample 12 (now s - p.gtc) (recSample 11 (now s - p.gtc) (passLine grove p.line s1))
        serveLates grove tile (serveWaiters grove tile (fun a => secOf a = sec) s2))

/-- PROMOTION_COMPLETE (R137, R213): the frame is written whole, once its port passes the writes, and the tile has it. -/
def execPromotionComplete (grove tile : Nat) (s : State) : Host.Outcome State Fault Refusal :=
  done (match promoOf s grove tile with
    | none => s
    | some p =>
      if !working s || s.tier.repairs.any (fun r => r.grove = grove && r.tile = tile) || !portOpen s (regFor s 1) 1024
        || !(List.range 16).all (sectorCame s p) then s
      else endPromo grove tile s)

/-- LATE_BOUND_EXPIRY (R151): event 571, and the access takes the DIRECT path. -/
def execLateBoundExpiry (id : Nat) (s : State) : Host.Outcome State Fault Refusal :=
  done (match s.tier.lates.find? (fun l => l.id = id) with
    | none => s
    | some l =>
      if l.bound = 0 then s
      else
        let mark (x : LateTouch) : LateTouch := { x with bound := 0, direct := true }
        let s1 := raise 571 { s with tier := { s.tier with lates := mapIf (fun x => x.id = id) mark s.tier.lates } }
        if (tile s1 l.grove (tileOf l.line)).frame.isSome then serveLates l.grove (tileOf l.line) s1
        else directRead l.grove l.line s1)

/-! ## Demotion and ageing -/

/-- DEMOTION (R141 to R143, R188): below the low watermark one tile is demoted; below a quarter of it, at demand
priority and whatever the quota, with event 568. `errs` is what the copier's reads of DRAM meet (R219). -/
def execDemotion (errs : List LineRead) (s0 : State) : Host.Outcome State Fault Refusal :=
  let s := noteReads errs s0
  done (if !working s || freeLow s ≤ freeFrames s || metaHeld s then s
    else
      let forced := demandDemotion s
      if !turn (if forced then 3 else 11) s then s
      else match pickDemotion s (fun _ _ => true) with
      | none => s
      | some (c, g, t) =>
        demoteTile c g t .demotion forced (onlyIf (forced && c = 3) (raise 568) s))

/-- AGE_SWEEP (R136). -/
def execAgeSweep (s : State) : Host.Outcome State Fault Refusal :=
  done (if !working s then s
    else modMeta (fun m => { m with tiles := SMap.mapVals m.tiles {} (fun e =>
      if e.frame.isSome then { e with age := min 255 (e.age + 1) } else e) }) s)

/-! ## Trickles and the governor -/

/-- TRICKLE (R143, R157, R158): under CEILING, within the quota. -/
def execTrickle (errs : List LineRead) (s0 : State) : Host.Outcome State Fault Refusal :=
  let s := noteReads errs s0
  done (if !working s || cellarMode s ≠ 1 || !turn 10 s then s
    else match pickTrickle s with
      | some (g, t) => tryProg .trickle g t false s
      | none => s)

/-- METADATA_TRICKLE (R143, R156, R160): the dirty sectors of grove 1,023 are programmed, and the anchor names them. -/
def execMetadataTrickle (s : State) : Host.Outcome State Fault Refusal :=
  done (if !working s || !groveKeyed s 1023 || !turn (if metaUrgent s then 4 else 11) s then s
    else
      let n := s.tier.metaDirty.length
      runQueue (anchorWrite (.root (Config.freeT2 s.free s.nand.t2Tiles)) <| useSlot (groveSlot s 1023) n (useFree { s with tier := { s.tier with
        snap := { s.tier.md with layoutId := s.cfg.layoutId }
        metaDirty := [], metaFull := false
        nandBytes := s.tier.nandBytes + 4096 * n
        ungoverned := s.tier.ungoverned + 4096 * n } })))

/-- Raw bytes of the T2 region (R161, R239). -/
def t2Raw (s : State) : Nat :=
  (s.nand.dies.filter (fun d => d.2.state != .absent)).length * t2Blocks s * (img s).nand.pages * tileBytes

/-- GTC at which the lifetime ends (R161); before the first READY it begins now. -/
def lifeEnd (s : State) : Nat := (s.tier.lifeStart.getD (now s)) + fld s .tierWearCfg 7 0 * 31557600 * 1000000000

/-- WEAR_GOVERNOR_TICK (R161): the allowance and the quota, in bytes per ms. -/
def execWearGovernorTick (s : State) : Host.Outcome State Fault Refusal :=
  done (if !working s then s
    else
      let floor := fld s .tierWearCfg 31 16 * 1000
      let total := (img s).nand.peRating * t2Raw s
      let allow := if s.tier.nandBytes < total && now s < lifeEnd s then
        (total - s.tier.nandBytes) * 1000000 / (lifeEnd s - now s) else floor
      let atFloor := decide (allow ≤ floor)
      let a := max floor allow
      onlyIf (atFloor && !s.tier.wearLimit) (raise 567) { s with tier := { s.tier with
        wearAllow := a / 1000, wearQuota := a - s.tier.ungoverned, ungoverned := 0, wearLimit := atFloor } })

/-! ## Seal and schedule commands -/

/-- A logical input of a source, stamped or held with every other (R20). -/
def stampFrom (src : Nat) (op : InOp) (ack : AckTo) (origin : Nat) (s : State) : State :=
  if holdAll s then
    let i : Input :=
      { src := src, gtc := now s, lane := src, op := op, ack := ack, origin := origin, key := 0, raddr := 0, seq := 0 }
    { s with seqr := { s.seqr with held := s.seqr.held ++ [.mgmt i] } }
  else stampInput src op ack origin 0 0 s

/-- R144, R485: a seal or schedule command: stamped under 311 for management, by a migration or tier
engine for a mailbox: the spec does not say by which of the 16, so it is free (R31, log 57). A node that does not serve completes it with an open code. -/
def postCmd (v1 : Bool) (p : Path) (tag code : Nat) (op : RecOp) (s : State) : State :=
  belvor p tag code (fromV2 v1 p tag code fun t =>
    if !serving t then refuseOpen p tag code t
    else match p with
      | .mailbox _ _ => useFree (stampFrom (288 + Config.choose t.free 16 % 16) (.log op) (.cmd p tag code) (srcOf p) t)
      | _ => stampFrom 311 (.log op) (.cmd p tag code) (srcOf p) t) s

/-- SEAL (R144). -/
def execSeal (p : Path) (tag grove first count : Nat) (s : State) : Host.Outcome State Fault Refusal :=
  done (postCmd false p tag 0x10 (.sealOp grove first count) s)

/-- UNSEAL (R146). -/
def execUnseal (p : Path) (tag grove first count : Nat) (s : State) : Host.Outcome State Fault Refusal :=
  done (postCmd false p tag 0x11 (.unsealOp grove first count) s)

/-- A SCHEDULE body as posted: ORIGIN is the poster (R147). -/
def schedBody (p : Path) (cmd : Nat) (c : SchedCmd) : RecOp := .sched { c with cmd := cmd, origin := srcOf p }

/-- POST (R147). -/
def execPost (p : Path) (tag : Nat) (v1 : Bool) (c : SchedCmd) (s : State) : Host.Outcome State Fault Refusal :=
  done (postCmd v1 p tag 0x12 (schedBody p 0 c) s)

/-- APPEND (R147). -/
def execAppend (p : Path) (tag : Nat) (v1 : Bool) (c : SchedCmd) (s : State) : Host.Outcome State Fault Refusal :=
  done (postCmd v1 p tag 0x12 (schedBody p 1 c) s)

/-- CANCEL (R150). -/
def execCancel (p : Path) (tag : Nat) (v1 : Bool) (c : SchedCmd) (s : State) : Host.Outcome State Fault Refusal :=
  done (postCmd v1 p tag 0x12 (schedBody p 2 c) s)

/-- SEAL_COPY (R143, R145, R160): once its landing entries are drained, a sealing tile is written to T2, or is SEALED at once
where its copy is current. -/
def execSealCopy (grove tile : Nat) (errs : List LineRead) (s0 : State) : Host.Outcome State Fault Refusal :=
  let s := noteReads errs s0
  done (if !working s || metaHeld s || !turn 9 s || !(Machine.tile s grove tile).sealing || tileLanded s grove tile
      || promoting s grove tile || moving s grove tile || programming s grove tile || !settleReady s grove tile then s
    else
      let s1 := settleTile grove tile s
      let e := Machine.tile s1 grove tile
      if e.sdirty != 0 || e.t2.isNone then tryProg .sealCopy grove tile false s1 else finishSeal grove tile s1)

/-! ## Staging -/

/-- One tile is staged: promoted, and pinned within the limit (R148, R149). -/
def stageTile (q : QEntry) (t : Nat) (s : State) : State :=
  let p := pinNow s
  (startPromo q.e.grove t 1 (t * 1024) p.1 p.2).getD (copFree 3 288 (noFrame p.2))

/-- SCHEDULE_STAGE (R84, R143, R148, R444): a serving node stages the next tile through a buffer of pool 3. -/
def execScheduleStage (s : State) : Host.Outcome State Fault Refusal :=
  done (if !working s || !serving s || !isReady s || !turn 6 s then s
    else match nextEntry s with
      | none => s
      | some (q, t) =>
        match copAlloc 3 288 false s with
        | some u => stageTile q t u
        | none =>
          if s.cop.waiting.any (fun w => w.1 = 3) then s
          else { s with cop := { s.cop with waiting := s.cop.waiting ++ [(3, tileBytes, 288, false)] } })

/-- ALLOCATION_GRANT (R444): the oldest waiting allocation of the pool takes a buffer, and its staging goes on. -/
def execAllocationGrant (pool : Nat) (s : State) : Host.Outcome State Fault Refusal :=
  onUnit (decide (pool < 4)) s (match s.cop.waiting.find? (fun w => w.1 = pool) with
    | none => s
    | some w =>
      match copAlloc pool w.2.2.1 w.2.2.2 s with
      | none => s
      | some u =>
        let u1 := { u with cop := { u.cop with waiting := u.cop.waiting.erase w } }
        match (if serving u1 then nextEntry u1 else none) with
        | some (q, t) => stageTile q t u1
        | none => copFree pool w.2.2.1 u1)

/-- SCHEDULE_ENTRY_RETIRE (R150). -/
def execScheduleEntryRetire (entry : Nat) (s : State) : Host.Outcome State Fault Refusal :=
  done (match s.tier.md.queue.find? (fun q => q.id = entry) with
    | some q => if working s then retireEntry q s else s
    | none => s)

/-! ## Repairs and poison -/

/-- The lines of a T2 copy with the lines of the repaired sectors replaced, in ascending order. -/
def repairedLines (s : State) (n : Nat) (sectors : BitVec 16) (l : List LineData) : List LineData :=
  let secs := bitsSet sectors
  (List.range 1024).map (fun i =>
    match secs.findIdx? (fun k => k = i / 64) with
    | some k => (l[k * 64 + i % 64]?).getD 0
    | none => SMap.get s.tier.t2 0 (n * 1024 + i))

/-- R152: the repaired lines of sectors that came from the Cellar are recorded there anew. -/
def putCellar (r : Repair) (l : List LineData) (s : State) : State :=
  let secs := bitsSet r.sectors
  forEach ((List.range secs.length).zip secs) (fun x u =>
    if !fromCellar u r.grove r.tile x.2 then u
    else
      let v := (u.tier.vault.map (fun (w : Vault) => w.num)).getD 0
      celWrite v .sectors (some (skey r.grove r.tile x.2)) { u with tier := { u.tier with
        cel := SMap.writeRun u.tier.cel 0 (tkey r.grove r.tile * 1024 + 64 * x.2) (slice l (64 * x.1) 64) } }) s

/-- R131, R152, R243: repaired data waits, outside the quota, for the program of a new copy, which the tile's entry then
names; `none` while no slot or staging buffer is free. -/
def putRepair (r : Repair) (l : List LineData) (s : State) : Option State :=
  match (tile s r.grove r.tile).t2 with
  | none => some (putCellar r l s)
  | some n =>
    let p : Prog :=
      { id := s.ids, kind := .repair, grove := r.grove, tile := r.tile, t2 := 0, lines := repairedLines s n r.sectors l,
        written := 0, prio := 5, buf := true }
    ((takeBuf true (dropReloc r.grove r.tile s)).bind (placeProg p none)).map (fun u =>
      putCellar r l (useSlot (groveSlot s r.grove) 16 (spend .repair false (bumpId u))))

/-- R152: the peer can be asked for the tile: T2_REPAIR agreed, the UTL UP, and the tile SEALED or MIRROR. -/
def peerRepair (s : State) (g t : Nat) : Bool :=
  feature s 2 && linkOpen s && ((tile s g t).sealed_ || levelOf s g == .mir)

/-- The repair is over: what waited on it is served, and its promotion goes on (R153). -/
def endRepair (r : Repair) (s : State) : State :=
  let s1 := { s with tier := { s.tier with repairs := s.tier.repairs.erase r } }
  let s2 := updPromo r.grove r.tile (fun p => { p with arrived := p.arrived ||| r.sectors, read := p.read ||| r.sectors }) s1
  let s3 := forEach r.waiters (fun w u =>
    let v := passLine r.grove w.1 u
    deliver r.grove w.1 (fillData v r.grove w.1) false w.2 v) s2
  serveLates r.grove r.tile (serveWaiters r.grove r.tile (fun a => r.sectors.getLsbD (secOf a)) s3)

/-- R152 to R155: a repair ends: 575, 576, or, when no source is left, the lines are poisoned. Without a free slot, or
at the metadata bound (R160), the new copy waits. -/
def repairDone (g t : Nat) (r : RepairResult) (s : State) : State :=
  match s.tier.repairs.find? (fun x => x.grove = g && x.tile = t) with
  | none => s
  | some x =>
    let good (ev : Nat) (l : List LineData) : State :=
      if metaHeld s then s
      else match putRepair x l s with
        | some u => endRepair x (raise ev u)
        | none => t2Pressure s
    if !working s then s
    else if tileBlank (tile s g t) then endRepair x s
    else match r with
      | .parity l => if parityOn s && (tile s g t).t2.isSome then good 575 l else s
      | .peer l => if peerRepair s g t then good 576 l else s
      | .failed =>
        if !x.asked && peerRepair s g t then
          let ask (r : Repair) : Repair := { r with asked := true }
          sendUtl (.repairReq g t x.sectors) { s with tier := { s.tier with repairs := mapIf (fun r => r = x) ask s.tier.repairs } }
        else endRepair x (poisonLines g t (linesOf x.sectors) x.origin s)

/-- T2_REPAIR_DONE (R152 to R155). -/
def execT2RepairDone (grove tile : Nat) (r : RepairResult) (s : State) : Host.Outcome State Fault Refusal :=
  done (repairDone grove tile r s)

/-- POISON_CLEAR (R172). -/
def execPoisonClear (p : Path) (s : State) : Host.Outcome State Fault Refusal :=
  done (ctlWrite p (regAddr .tierPoisonCount)
    (fun t => { t with tier := { t.tier with plog := [], plogFull := false } }) s)

/-! ## The Cellar drain -/

/-- R167: the drain is over: earlier vaults' records are released, event 581. -/
def endDrain (s : State) : State :=
  if s.tier.draining && (cellarTiles s).isEmpty then
    raise 581 { s with tier := { s.tier with draining := false, celRecs := [], cel := [] } }
  else s

/-- CELLAR_DRAIN (R143, R167): the next tile with CELLAR is written to T2 whole. -/
def execCellarDrain (errs : List LineRead) (s0 : State) : Host.Outcome State Fault Refusal :=
  let s := noteReads errs s0
  done (if !isReady s || !working s || !s.tier.draining || !turn 8 s then s
    else match (cellarTiles s).find? (fun x => !programming s x.1 x.2 && !promoting s x.1 x.2 && groveKeyed s x.1) with
      | some (g, t) => tryProg .drain g t false s
      | none => endDrain s)

end Sys2Proof.Machine
end

