-- ==== Sys2Proof/Machine/TwinWork.lean ====
section
/-!
DEFINITION. Receiving on the twin link and the network path (R78, R94, R117, R118, R121), promotion (R77, R98),
and the election of stage 9 (R79, R102).
-/

namespace Sys2Proof.Machine

open Sys2Proof

/-! ## The node takes part in the twin -/

/-- From stage 9 on, a node whose image configures a twin runs the UTL and the network path (R120). -/
def twLive (s : State) : Bool :=
  hasTwin s && s.pwr.state == .on && (s.pwr.stage == 9 || s.pwr.stage == 10) && !s.pwr.stopped

/-- The node is in stage 9 and has no role yet (R79, R107). -/
def ownStage9 (s : State) : Bool := s.pwr.stage == 9 && s.twin.role == .unset

/-! ## Promotion (R77, R98) -/

/-- The received input with the lowest sequence number. -/
def nextReceived (s : State) : Option Input :=
  (s.seqr.inputs.filter (fun i => decide (i.seq ≠ 0))).foldl (fun (b : Option Input) i =>
    match b with
    | none => some i
    | some x => if i.seq < x.seq then some i else some x) none

/-- R98 step 1: every received input is applied, in sequence; one that cannot be replayed ends it (R122, R375). -/
def applyReceived (fuel : Nat) (s : State) : State :=
  match fuel with
  | 0 => s
  | n + 1 =>
    match nextReceived s with
    | none => s
    | some i => applyReceived n (applyReplay i.seq (replayRec i) i.lane (takeInput i s))

/-- A promotion to an epoch (R77, R98): 418, SOLO, EPOCH on both paths and the resync bitmap open (R109). At the
epoch limit nothing changes and 428 is raised. -/
def promoteTo (e : Nat) (s : State) : State :=
  if 2 ^ 32 ≤ e then raise 428 s
  else
    let s1 := applyReceived (s.seqr.inputs.length + 1) s
    if s1.twin.role != s.twin.role then s1
    else
      let last := s1.seqr.nextSeq - 1
      let start := if s1.twin.retained.isEmpty then last else min last s1.twin.peerApplied
      let s2 := openBitmap start (setRole .solo (setEpoch e (modTwin (fun t => { t with
        endSeq := last, unrep := [], lag := 0, lagHold := false, handover := 0, resync := 0
        needBulk := false, recopyOut := [], doneSeq := none, digSpan := true
        dropped := [], installed := [], begun := [], sealWait := [], oldGroves := [], oldSeals := [] }) (dropRx s1))))
      sendBoth (.epoch last .solo) (raise 418 s2)

/-- A promotion that increments the epoch (R77). The link's state tells that the peer, which has not been reset, holds
its T1 (R108). -/
def promote (s : State) : State :=
  promoteTo (s.twin.epoch + 1) (modTwin (fun t => { t with peerT1 := true }) s)

/-! ## Joining from stage 9 (R79, R104, R108) -/

/-- The loser takes the winner's epoch and joins; at the epoch limit there is no winner (R77). A node that holds
writes the peer had not reported as applied waits, JOINING, for the EPOCH frame whose END_SEQ decides which of them
diverge (R104); where the peer's epoch is not above its own, so that none comes, the peer's last number `last` does
(log 21). -/
def joinUnder (epoch last : Nat) (s : State) : State :=
  if 2 ^ 32 ≤ epoch then s
  else
    let bulk := !s.twin.t1Intact
    if s.twin.retained.isEmpty then toJoining bulk s.twin.recopyOut (setEpoch epoch s)
    else if s.twin.epoch < epoch then setRole .joining s
    else modTwin (fun t => { t with needBulk := t.needBulk || bulk, t1Intact := !bulk }) (diverge last epoch s)

/-! ## The election (R79) -/

/-- The node would rank with a LOST or INCOMPLETE grove, or as a JOINING one. -/
def ranksLow (s : State) : Bool := s.twin.lostAtUp || s.twin.role == .joining

/-- R79: this node ranks higher than the sender. -/
def outranks (s : State) (n : NegRec) : Bool :=
  let low := n.incomplete || (!n.stage9 && n.lastRole == .joining)
  let last := s.seqr.nextSeq - 1
  if ranksLow s != low then low
  else if s.twin.epoch ≠ n.epoch then decide (n.epoch < s.twin.epoch)
  else if last ≠ n.lastSeq then decide (n.lastSeq < last)
  else !s.pwr.nodeB

/-- The ranking decides. -/
def rank_ (n : NegRec) (s : State) : State :=
  let e := max s.twin.epoch n.epoch + 1
  if outranks s n then promoteTo e s else joinUnder e n.lastSeq s

/-- R79: the outcome of a NEGOTIATE that brought the link UP. -/
def elect (n : NegRec) (s : State) : State :=
  if ownStage9 s then
    if n.stage9 then rank_ n s
    else
      match n.lastRole with
      | .solo => joinUnder n.epoch n.lastSeq s
      | .leader => joinUnder n.epoch n.lastSeq s
      | .fenced => if s.twin.epoch ≤ n.epoch then joinUnder (n.epoch + 1) n.lastSeq s else promoteTo (s.twin.epoch + 1) s
      | .standby => rank_ n s
      | .joining => rank_ n s
      | .unset => s
  else if n.stage9 then
    match s.twin.role with
    | .fenced => if n.epoch ≤ s.twin.epoch then promoteTo (s.twin.epoch + 1) s else s
    | .standby => rank_ n s
    | .joining => rank_ n s
    | _ => s
  else if s.twin.role = .joining then toJoining false s.twin.recopyOut s
  else s

/-! ## Epochs of received frames (R78) -/

/-- R78: a frame of a lower epoch is answered with EPOCH; a higher one is taken as the role has it; the frame then
acts at a node that is at its epoch and not FENCED. `ack` is HANDOVER_ACK, which acts under the new epoch. -/
def epochGate (h : FrameHdr) (endSeq : Option Nat) (ack : Bool) (f : State → State) (s : State) : State :=
  let e := s.twin.epoch
  if s.twin.role = .unset then s
  else if h.epoch < e then
    (if h.net then sendNet else sendUtl) (.epoch s.twin.endSeq s.twin.role) s
  else if h.epoch = e then f s
  else if s.twin.role = .leader && s.twin.handover = 2 && h.epoch = e + 1 && (ack || h.net) then
    if ack then f s else s
  else
    let s1 := higherEpoch h.epoch endSeq s
    if s1.twin.epoch = h.epoch && s1.twin.role != .fenced then f s1 else s1

/-! ## Receiving -/

/-- R117: frames the peer has received in order leave the retry buffer. -/
def ackFrames (upto : Nat) (s : State) : State :=
  let s1 := modTwin (fun t => { t with
    retryBuf := t.retryBuf.filter (fun x => decide (2 ^ 31 ≤ (upto + 2 ^ 32 - x.1.linkSeq) % 2 ^ 32)) }) s
  pumpTx (s1.twin.txQueue.length + 1) s1

/-- R117, R118, R121, R451: a frame on the UTL. One that fails FEC or its tag, or is out of sequence, is discarded
with RETRY_REQ; one whose buffer cannot be read is a stream error at a node that replays. -/
def onUtl (h : FrameHdr) (endSeq : Option Nat) (ack : Bool) (f : State → State) (s : State) : State :=
  if !twLive s || h.net || !linkOpen s then s
  else
    let s0 := if h.ok then modTwin (fun t => { t with heardUtl := now s, utlLost := false }) s else s
    if !h.ok || h.linkSeq ≠ s.twin.rxSeq % 2 ^ 32 then sendUtl (.retryReq (s.twin.rxSeq % 2 ^ 32)) s0
    else
      let s1 := ackFrames h.linkAck (modTwin (fun t => { t with rxSeq := (t.rxSeq + 1) % 2 ^ 64 }) s0)
      let m := copRead h.mem s1
      if !m.2 then
        (if s.twin.role = .standby || s.twin.role = .joining then streamError m.1 else m.1)
      else epochGate h endSeq ack f m.1

/-- R94: a frame on the network path, where NET_HEARTBEAT is agreed. -/
def onNet (h : FrameHdr) (endSeq : Option Nat) (f : State → State) (s : State) : State :=
  if !twLive s || !feature s 3 || !h.ok then s
  else
    let m := copRead h.mem s
    if !m.2 then m.1
    else epochGate h endSeq false f
      (modTwin (fun t => { t with heardNet := now s, netLost := false, netRx := h.linkSeq }) m.1)

/-- One of the frames that both paths carry (R94). -/
def onEither (h : FrameHdr) (endSeq : Option Nat) (f : State → State) (s : State) : State :=
  if h.net then onNet h endSeq f s else onUtl h endSeq false f s

/-- The link goes DOWN with an event. -/
def dropLink (e : Nat) (s : State) : State := raise e (utlDown s)

/-! ## Positions the peer reports (R89, R90, R103, R123) -/

/-- R123: a cumulative CREDIT limit, modulo 2^32, moves the limit forward. -/
def takeCredit (c : Nat) (s : State) : State :=
  let d := (c + 2 ^ 32 - s.twin.credLimit % 2 ^ 32) % 2 ^ 32
  let s1 := if d < 2 ^ 31 then modTwin (fun t => { t with credLimit := t.credLimit + d }) s else s
  pumpTx (s1.twin.txQueue.length + 1) s1

/-- R90: a LANDING_ACK of a peer that is fed commits the MIRROR writes up to its ACK_SEQ. -/
def takeAck (ackSeq : Nat) (s : State) : State :=
  if !serving s then s
  else
    let s1 := modTwin (fun t => { t with peerAck := max t.peerAck ackSeq }) s
    mirrorAcked s1.twin.peerAck s1

/-- R89, R103, R129: the position a LANDING_ACK or HEARTBEAT of a peer that is fed reports as applied. -/
def takeReport (applied : Nat) (s : State) : State :=
  if !serving s then s
  else
    let old := s.twin.unrep
    let s1 := modTwin (fun t => { t with
      peerApplied := applied
      retained := t.retained.filter (fun r => decide (applied < r.seq))
      unrep := t.unrep.filter (fun x => decide (applied < x.1)) }) s
    let done := old.filter (fun x => decide (x.1 ≤ applied))
    let s2 := forEach done (fun x t =>
      let ns := min 65535 (now t - x.2)
      recSample 8 (now t - x.2) (maxRc .twinLag 0 31 16 ns (modTwin (fun w => { w with lag := ns }) t))) s1
    let late := s2.twin.unrep.any (fun x => decide (2000 < now s2 - x.2))
    modTwin (fun t => { t with lagHold := t.lagHold && late }) s2

end Sys2Proof.Machine
end

