-- ==== Sys2Proof/Machine/Resync.lean ====
section
/-!
DEFINITION. Resynchronisation (R107 to R113) and repairs from the peer (R154): what the serving node copies and in
which order, and how the joiner installs it.
-/

namespace Sys2Proof.Machine

open Sys2Proof

/-! ## What a line reads as -/

/-- R21, R132: a line as a read would see it now; `none` is poison. -/
def seenLine (s : State) (g a : Nat) : Option LineData :=
  let base := fillData s g a
  let behind := match hitWf s g a with
    | some x => some x.data
    | none => base
  match hitWay s g a with
  | some (_, x) => if x.have_ = fullMask then some x.data else overlay behind x.data x.have_
  | none => behind

/-- R219: a line for a copy to the peer: one that cannot be read comes from the T2 copy, or is `none`. -/
def copyLine (g a src : Nat) (s : State) : State × Option LineData :=
  match seenLine s g a with
  | some d => (s, some d)
  | none => copierLine g (tileOf a) (a % 1024) src s

/-- R218: the errors that a chunk's reads of T1 correct. -/
def chunkCorrected (g t c : Nat) (s : State) : State :=
  match (tile s g t).frame with
  | none => s
  | some f => forEach (s.tier.t1bad.filter (fun p => decide (p.1 / 128 = f * 8 + c))) (fun p => corrected f (p.1 % 1024)) s

/-- The 128 lines of a chunk, ascending (R110). -/
def chunkLines (g t c src : Nat) (s0 : State) : State × List (Option LineData) :=
  let s := chunkCorrected g t c s0
  let r := (List.range 128).foldl (fun (x : State × List (Option LineData)) k =>
    let y := copyLine g (t * 1024 + c * 128 + k) src x.1
    (y.1, y.2 :: x.2)) (s, [])
  (if (tile s g t).frame.isSome then useGrove g t 128 r.1 else useSlot (groveSlot s g) 2 r.1, r.2.reverse)

/-! ## The serving node -/

/-- Tiles with content: T1-resident, T2-valid, in the Cellar, or in landing entries (R111). -/
def heldTiles (s : State) : List (Nat × Nat) :=
  let inTable := ((tiles s).filter (fun p => decide (p.1 < 1023) && !tileBlank p.2.2)).map (fun p => (p.1, p.2.1))
  let landed := s.can.land.map (fun p => (p.1 / 2 ^ 42, tileOf (p.1 % 2 ^ 42)))
  (inTable ++ landed).dedup

/-- The chunks of a tile to copy: its seal stamp alone where SEALED_SKIP allows it (R111). Chunk 8 names that. -/
def chunksOf (s : State) (bulk : Bool) (asked : List (Nat × Nat)) (x : Nat × Nat) : List (Nat × Nat × Nat) :=
  if bulk && feature s 5 && (tile s x.1 x.2).sealed_ && !asked.contains x then [(x.1, x.2, 8)]
  else (List.range 8).map (fun c => (x.1, x.2, c))

/-- R81, R108, R124: what is copied of the logical metadata: groves, map entries and keys, and beside them the seal
stamp of each sealed tile and each schedule (log 88). -/
def metaRecords (s : State) : List StampRec :=
  ((SMap.present s.tier.md.groves).map (fun p => ⟨0, 0, .grove { p.2 with op := 1 }⟩))
    ++ ((SMap.present s.tier.md.map).map (fun p => ⟨0, 0, .mapOp (p.1 / 2 ^ 22) (p.1 % 2 ^ 22) p.2⟩))
    ++ ((SMap.present s.tier.md.keys).map (fun p => ⟨0, 0, .keyReg p.2⟩))
    ++ (((tiles s).filter (fun p => p.2.2.sealed_)).map (fun p => ⟨p.2.2.sealGtc, p.2.2.sealSrc, .sealOp p.1 p.2.1 1⟩))
    ++ ((s.tier.md.queue.map (·.sched)).dedup.map (fun n => ⟨0, 0, .sched ⟨0, n, false, false, 0, 0, 0, []⟩⟩))

/-- The entries of a schedule as commands: POST of the first, APPEND of the others. -/
def schedRecords (s : State) (id : Nat) : List StampRec :=
  (entriesOf s id).zipIdx.map (fun x =>
    ⟨0, 0, .sched ⟨if x.2 = 0 then 0 else 1, id, x.1.target, x.1.late, 0, x.1.lateBound, x.1.hold, [x.1.e]⟩⟩)

/-- A piece of metadata as it stands when its chunk is read; none where it has gone since (R110). -/
def metaNow (s : State) (r : StampRec) : List StampRec :=
  match r.op with
  | .grove g => ((groveOf s g.grove).map (fun x => StampRec.mk 0 0 (.grove { x with op := 1 }))).toList
  | .mapOp l d _ => ((SMap.find s.tier.md.map (mapKey l d)).map (fun x => StampRec.mk 0 0 (.mapOp l d x))).toList
  | .keyReg k => ((keyOf s k.key).map (fun x => StampRec.mk 0 0 (.keyReg x))).toList
  | .sealOp g t _ =>
    let e := tile s g t
    if e.sealed_ then [⟨e.sealGtc, e.sealSrc, .sealOp g t 1⟩] else []
  | .sched c => schedRecords s c.id
  | _ => []

/-- R108, R109: RESYNC_START: a bitmap resync where the peer's T1 is intact and its position at or above the
bitmap's start, else a bulk one. The stream starts with the next record to be sent. -/
def startResync (s : State) : State :=
  let asked := s.twin.recopyReq
  let bulk := !(s.twin.peerT1 && s.twin.bmOpen && decide (s.twin.bmStart ≤ s.twin.peerApplied))
  let ts := ((if bulk then heldTiles s else s.twin.bmTiles) ++ asked).dedup
  let start := (match s.seqr.unsent with
    | x :: _ => x.1
    | [] => s.seqr.nextSeq) - 1
  sendUtl (.resyncStart bulk start)
    (modTwin (fun t => { t with
      resync := if bulk then 2 else 1
      recopyGot := false
      recopyReq := []
      toSend := ts.flatMap (chunksOf s bulk asked)
      metaSend := metaRecords s
      lastAsOf := start
      bmTiles := (t.bmTiles ++ asked).dedup }) s)

/-- Starts a resync that the peer has asked for. -/
def resyncIfAsked (s : State) : State :=
  if s.twin.role = .solo && s.twin.recopyGot && linkOpen s then startResync s else s

/-- RECOPY (R109, R111, R113): tiles are marked; LAST starts the resync; tiles named while one runs are added to
it. -/
def execRecopy (h : FrameHdr) (last : Bool) (ts : List (Nat × Nat)) (s : State) : Host.Outcome State Fault Refusal :=
  done (onUtl h none false (fun t =>
    if !serving t then t
    else if t.twin.resync ≠ 0 && !ts.isEmpty then
      modTwin (fun w => { w with
        toSend := w.toSend ++ ts.flatMap (fun x => (List.range 8).map (fun c => (x.1, x.2, c)))
        bmTiles := if w.bmOpen then (w.bmTiles ++ ts).dedup else w.bmTiles }) t
    else
      resyncIfAsked (modTwin (fun w => { w with
        recopyReq := (w.recopyReq ++ ts).dedup
        recopyGot := w.recopyGot || last }) t)) s)

/-- An input emitted for the tile has not reached its content yet, so a read now would miss it (R110). -/
def tileBusy (s : State) (g t : Nat) : Bool :=
  let late (a : Nat) (w : Waiter) : Bool := tileOf a = t && (match w with
    | .vwrite _ _ => true
    | .atomic _ _ _ => true
    | _ => false)
  s.can.queue.any (fun q => match q with
      | .write _ h p => h = g && tileOf p.line = t
      | .read h a w => h = g && late a w)
    || s.can.miss.any (fun q => q.2.any (fun m => m.grove = g && m.joiners.any (late m.line)))
    || s.tier.promos.any (fun p => p.grove = g && p.waiters.any (fun w => late w.1 w.2))
    || s.tier.repairs.any (fun p => p.grove = g && p.waiters.any (fun w => late w.1 w.2))
    || s.tier.lates.any (fun l => l.grove = g && late l.line l.waiter)

/-- R124: the body of a chunk: zeros without data where ZERO_CHUNK is agreed, KIND 4 with poisoned lines. -/
def chunkBody (s : State) (l : List (Option LineData)) : ChunkBody :=
  let ds := l.map (fun x => x.getD 0)
  if l.any (·.isNone) then
    .poisoned ds (ofBits 128 ((List.range 128).filter (fun k => ((l[k]?).getD none).isNone)))
  else if feature s 1 && ds.all (· == 0) then .zero
  else .data ds

/-- Sends a chunk under the last number emitted before its read. -/
def sendChunk (g t c : Nat) (b : ChunkBody) (s : State) : State :=
  let n := s.seqr.nextSeq - 1
  sendUtl (.resyncData ⟨g, t, c, n, b⟩) (modTwin (fun w => { w with lastAsOf := n }) s)

/-- After the last chunk (R113). -/
def doneIfLast (s : State) : State :=
  if s.twin.toSend.isEmpty && s.twin.metaSend.isEmpty then sendUtl (.resyncDone s.twin.lastAsOf) s else s

/-- RESYNC_CHUNK_READ (R110 to R113, R219, R449): metadata first, then the next chunk, read as a local input. A tile
of a grove that this node lacks is sent as zeros (R109). GROVE 1,023, TILE 0 and CHUNK 0 of a metadata chunk are the
model's choice (log 88). -/
def execResyncChunkRead (errs : List LineRead) (s0 : State) : Host.Outcome State Fault Refusal :=
  let s := noteReads errs s0
  done (if !isReady s || s.twin.role != .solo || s.twin.resync = 0 || !linkOpen s then s
    else
      match s.twin.metaSend with
      | r :: rest =>
        doneIfLast (forEach (metaNow s r) (fun x t => sendChunk 1023 0 0 (.metaRec x) t)
          (modTwin (fun t => { t with metaSend := rest }) s))
      | [] =>
        match s.twin.toSend with
        | [] => s
        | (g, t, c) :: rest =>
          let next (u : State) : State := modTwin (fun w => { w with toSend := rest }) u
          if c = 8 then
            let e := tile s g t
            if e.sealed_ then doneIfLast (sendChunk g t 0 (.sealStamp e.sealGtc e.sealSrc) (next s))
            else modTwin (fun w => { w with toSend := ((List.range 8).map (fun k => (g, t, k))) ++ rest }) s
          else if tileBusy s g t || poolState s 3 = 3 || !s.seqr.unsent.isEmpty || !turn 7 s
              || !portOpen s (regFor s 5) 128 then s
          else
            let src := migrSrc s
            let r := if (groveOf s g).isNone then (useFree s, List.replicate 128 (some 0)) else chunkLines g t c src (wakeTile g t (useFree s))
            let s1 := moved 3 288 g (t * 1024 + c * 128) 128
              (if (tile s g t).frame.isSome then chargeLines (regFor s 5) 128 r.1 else r.1)
            doneIfLast (localPass src (sendChunk g t c (chunkBody s r.2) (next s1))))

/-! ## The joiner -/

/-- Every schedule goes, and the tiles it named lose SCHED and PINNED. -/
def clearSchedules (s : State) : State :=
  let ts := (tiles s).filter (fun p => p.2.2.sched.isSome || p.2.2.pinned)
  forEach ts (fun p t => unschedule p.1 p.2.1 t) (modMeta (fun m => { m with queue := [] }) s)

/-- RESYNC_START (R81, R108, R110): the joiner takes the position the stream starts at; a bulk copy drops what is not
sealed, and metadata is copied again. A seal that no metadata chunk names is one the serving node has not. -/
def execResyncStart (h : FrameHdr) (bulk : Bool) (start : Nat) (s : State) : Host.Outcome State Fault Refusal :=
  done (onUtl h none false (fun t =>
    if t.twin.role != .joining then t
    else
      let old := if bulk then ((tiles t).filter (fun p => decide (p.1 < 1023) && !p.2.2.sealed_)).map (fun p => (p.1, p.2.1))
        ++ (t.can.land.map (fun p => (p.1 / 2 ^ 42, tileOf (p.1 % 2 ^ 42)))).dedup else []
      let t1 := dropRx { t with seqr := { t.seqr with
        inputs := t.seqr.inputs.filter (fun i => decide (i.seq = 0)), nextSeq := start + 1 } }
      let t2 := forEach old (fun x u => releaseTile x.1 x.2 u) t1
      let gs := (SMap.present t.tier.md.groves).map (·.1)
      let ss := ((tiles t2).filter (fun p => p.2.2.sealed_)).map (fun p => (p.1, p.2.1))
      let part := if bulk then [] else t.tier.md.partGroves
      clearSchedules (touchMeta (tkey 1023 20480) (modMeta (fun m => { m with map := [], keys := [], partGroves := part })
        (modTwin (fun w => { w with
          applied := start, ackSeq := start, resync := if bulk then 2 else 1, needBulk := w.needBulk || bulk
          doneSeq := none, installed := [], begun := [], sealWait := [], oldGroves := gs, oldSeals := ss
          dropped := (w.dropped ++ old).dedup, digSpan := true }) t2)))) s)

/-- RESYNC_DONE (R113). -/
def execResyncDone (h : FrameHdr) (last : Nat) (s : State) : Host.Outcome State Fault Refusal :=
  done (onUtl h none false (fun t =>
    if t.twin.role = .joining && t.twin.resync ≠ 0 then modTwin (fun w => { w with doneSeq := some last }) t else t) s)

/-- The serving node has the tile's seal. -/
def confirmSeal (g t : Nat) (s : State) : State :=
  modTwin (fun w => { w with oldSeals := w.oldSeals.filter (· ≠ (g, t)) }) s

/-- The tile is to be sealed under this stamp, once its content is here. -/
def waitSeal (g t gtc src : Nat) (s : State) : State :=
  modTwin (fun w => { w with sealWait := w.sealWait.filter (fun x => !(x.1 = g && x.2.1 = t)) ++ [(g, t, gtc, src)] })
    (confirmSeal g t s)

/-- R81: the tile takes the seal stamp that the serving node gave it. -/
def sealAs (x : Nat × Nat × Nat × Nat) (s : State) : State :=
  if (tile s x.1 x.2.1).sealed_ then
    updTile x.1 x.2.1 (fun e => { e with sealGtc := x.2.2.1, sealSrc := x.2.2.2 }) s
  else applySeal x.1 x.2.1 1 x.2.2.1 x.2.2.2 .none s

/-- R111: a seal stamp is compared with the joiner's own; a tile that is not sealed under it is asked for. -/
def compareSeal (g t gtc src : Nat) (s : State) : State :=
  let e := tile s g t
  if e.sealed_ && e.sealGtc = gtc && e.sealSrc = src then
    modTwin (fun w => { w with installed := (w.installed ++ [(g, t)]).dedup }) (confirmSeal g t s)
  else
    sendUtl (.recopy false [(g, t)]) (modTwin (fun w => { w with recopyOut := (w.recopyOut ++ [(g, t)]).dedup })
      (waitSeal g t gtc src s))

/-- The lines a repair's sectors take from the chunks the peer sent, ascending. -/
def repairLines (r : Repair) : List LineData :=
  (bitsSet r.sectors).flatMap (fun k =>
    match r.got.find? (fun x => x.1 = k / 2) with
    | some (_, some l) => (l.drop (k % 2 * 64)).take 64
    | _ => [])

/-- R154: a repair chunk is kept until every failed sector is covered; then the repair ends. -/
def takeRepair (c : Chunk) (l : Option (List LineData)) (s : State) : State :=
  let add (r : Repair) : Repair := { r with got := r.got.filter (fun x => x.1 ≠ c.chunk) ++ [(c.chunk, l)] }
  let s1 := { s with tier := { s.tier with repairs := mapIf (fun r => r.grove = c.grove && r.tile = c.tile) add s.tier.repairs } }
  match s1.tier.repairs.find? (fun r => r.grove = c.grove && r.tile = c.tile) with
  | none => s1
  | some r =>
    if !(bitsSet r.sectors).all (fun k => r.got.any (fun x => x.1 = k / 2)) then s1
    else if (bitsSet r.sectors).any (fun k => r.got.any (fun x => x.1 = k / 2 && x.2.isNone)) then
      repairDone c.grove c.tile .failed s1
    else repairDone c.grove c.tile (.peer (repairLines r)) s1

/-- RESYNC_DATA (R110, R111, R154): a chunk is queued for installation, compared as a seal stamp, or taken as
repair data. -/
def execResyncData (h : FrameHdr) (c : Chunk) (s : State) : Host.Outcome State Fault Refusal :=
  done (onUtl h none false (fun t =>
    match c.body with
    | .repair l => takeRepair c l (grantCredit true (creditBytes (.resyncData c)) t)
    | .sealStamp g src =>
      if t.twin.role = .joining && t.twin.resync ≠ 0 then
        compareSeal c.grove c.tile g src (grantCredit true (creditBytes (.resyncData c)) t)
      else t
    | _ =>
      if t.twin.role = .joining && t.twin.resync ≠ 0 then
        holdRx 273 (creditBytes (.resyncData c)) (modTwin (fun w => { w with chunks := w.chunks ++ [c] }) t)
      else t) s)

/-- The first chunk of a tile takes the place of all that the tile held, and the tile has a frame. -/
def beginTile (g t : Nat) (s : State) : State :=
  if s.twin.begun.contains (g, t) then s
  else
    let e := tile s g t
    let s1 := releaseTile g t s
    let s2 := if e.pinned then { s1 with tier := { s1.tier with pinCount := s1.tier.pinCount - 1 } } else s1
    firstFrame g t (updTile g t (fun x => { x with sched := e.sched })
      (modTwin (fun w => { w with begun := w.begun ++ [(g, t)], installed := w.installed.filter (· ≠ (g, t)) }) s2))

/-- What the die holds of the chunk's lines above the frame gives way to it. -/
def forgetLines (g lo : Nat) (s : State) : State :=
  forget (fun h a => h = g && decide (lo ≤ a) && decide (a < lo + 128)) s

/-- Writes the lines of a chunk into the tile's frame, and poisons those marked (R124, R155). -/
def fillChunk (g t c : Nat) (ls : List LineData) (m : BitVec 128) (s : State) : State :=
  match (tile s g t).frame with
  | none => s
  | some f =>
    let s1 := forgetLines g (t * 1024 + c * 128) s
    let s2 := forEach (List.range 128) (fun k u =>
      if m.getLsbD k then markT1 f (c * 128 + k) u
      else putT1 f (c * 128 + k) ((ls[k]?).getD 0) (clearPoison g (t * 1024 + c * 128 + k) u)) s1
    useGrove g t 128 (poisonLines g t (m.setWidth 1024 <<< (c * 128)) 3 (markDirty g t (c * 2 + 1) (markDirty g t (c * 2) s2)))

/-- A tile copied whole is installed, and sealed under the stamp the serving node gave it (R111). -/
def tileInstalled (g t : Nat) (s : State) : State :=
  let s1 := modTwin (fun w => { w with
    installed := (w.installed ++ [(g, t)]).dedup
    begun := w.begun.filter (· ≠ (g, t))
    recopyOut := w.recopyOut.filter (· ≠ (g, t))
    sealWait := w.sealWait.filter (fun x => !(x.1 = g && x.2.1 = t)) }) s
  match s.twin.sealWait.find? (fun x => x.1 = g && x.2.1 = t) with
  | some x => sealAs x s1
  | none => s1

/-- A metadata chunk: a grove that stands already keeps its content and takes the record; a tile sealed under the
stamp stays so, and another is sealed once its content is here. -/
def installMeta (m : StampRec) (s : State) : State :=
  match m.op with
  | .grove r =>
    let s1 := modTwin (fun w => { w with oldGroves := w.oldGroves.filter (· ≠ r.grove) }) s
    if (groveOf s1 r.grove).isSome then setGrove r.grove (some r) s1
    else if spareSlot s1 r.keySlot then applyCreate r s1 else streamError s1
  | .sealOp g t _ =>
    let e := tile s g t
    if e.sealed_ && e.sealGtc = m.gtc && e.sealSrc = m.src then confirmSeal g t s else waitSeal g t m.gtc m.src s
  | op => applyMeta op 0 0 .none s

/-- A chunk is installed. -/
def installChunk (c : Chunk) (s : State) : State :=
  let put (ls : List LineData) (m : BitVec 128) : State :=
    let s1 := if (groveOf s c.grove).isNone then s
      else fillChunk c.grove c.tile c.chunk ls m (beginTile c.grove c.tile s)
    if c.chunk = 7 then tileInstalled c.grove c.tile s1 else s1
  match c.body with
  | .data l => put l 0
  | .zero => put [] 0
  | .poisoned l m => put l m
  | .metaRec op => installMeta op s
  | _ => s

/-- RESYNC_CHUNK_INSTALL (R110): the oldest chunk queued, once the applied position is its AS_OF_SEQ. A tile waits
for a free frame. -/
def execResyncChunkInstall (s : State) : Host.Outcome State Fault Refusal :=
  done (match s.twin.chunks with
    | [] => s
    | c :: rest =>
      let waits := match c.body with
        | .metaRec _ => false
        | _ => (groveOf s c.grove).isSome && (tile s c.grove c.tile).frame.isNone && (pickFrame s (fun _ => true)).isNone
      if !working s || s.twin.role != .joining || s.twin.applied < c.asOf || waits then s
      else
        let s1 := freeRx 273 true (creditBytes (.resyncData c)) (modTwin (fun w => { w with chunks := rest }) s)
        if s.twin.applied = c.asOf then installChunk c s1 else s1)

/-- RESYNC_COMPLETE (R113): every chunk installed, the last position passed, every tile asked for copied, and the
clock within 4 ns (R92). Groves, seals and sealed tiles that the copy did not confirm go; the seals it named stand; and
431 (R126). -/
def execResyncComplete (s : State) : Host.Outcome State Fault Refusal :=
  done (match s.twin.doneSeq with
    | none => s
    | some n =>
      if !isReady s || s.twin.role != .joining || s.twin.resync = 0 || !s.twin.chunks.isEmpty || s.twin.applied < n
          || !s.twin.recopyOut.isEmpty || !s.twin.timeLocked || !linkOpen s then s
      else
        let stale := if s.twin.resync = 2 then
            ((tiles s).filter (fun p => decide (p.1 < 1023) && p.2.2.sealed_ && !s.twin.installed.contains (p.1, p.2.1))).map
              (fun p => (p.1, p.2.1))
          else []
        let s1 := forEach stale (fun x u => releaseTile x.1 x.2 u) s
        let s2 := forEach s.twin.oldGroves applyDelete s1
        let s3 := forEach s.twin.oldSeals (fun x u => if (tile u x.1 x.2).sealed_ then
          updTile x.1 x.2 (fun e => { e with sealed_ := false }) u else u) s2
        let s4 := forEach s.twin.sealWait sealAs s3
        raise 431 (setRole .standby (modTwin (fun w => { w with
          resync := 0, needBulk := false, doneSeq := none, installed := [], begun := [], sealWait := [], dropped := []
          oldGroves := [], oldSeals := [], t1Intact := true, digSpan := true }) s4)))

/-! ## Repairs for the peer (R154) -/

/-- REPAIR_REQ (R154): the chunks of the failed sectors, each from the node's own content, or empty where it cannot
supply one. A JOINING node supplies none, for its copy is incomplete. -/
def execRepairReq (h : FrameHdr) (grove tile : Nat) (mask : BitVec 16) (s : State) : Host.Outcome State Fault Refusal :=
  done (onUtl h none false (fun t =>
    if !feature t 2 || t.twin.role = .fenced then t
    else
      let cs := ((bitsSet mask).map (· / 2)).dedup
      forEach cs (fun c u =>
        let r := chunkLines grove tile c 311 u
        let bad := u.twin.role == .joining || (groveOf u grove).isNone || tileBlank (Machine.tile u grove tile)
          || r.2.any (·.isNone)
        sendUtl (.resyncData ⟨grove, tile, c, 0, .repair (if bad then none else some (r.2.map (fun x => x.getD 0)))⟩) r.1) t) s)

end Sys2Proof.Machine
end

