-- ==== Sys2Proof/Machine/Twin.lean ====
section
/-!
DEFINITION. The frames of the twin (R84 to R125), its timers, and the twin commands (R97, R102, R106, R114, R128).
-/

namespace Sys2Proof.Machine

open Sys2Proof

/-! ## The stamped input stream -/

/-- R122: a record whose OP is reserved. -/
def reservedRec (r : StampRec) : Bool :=
  match r.op with
  | .reserved _ => true
  | _ => false

/-- R88: a record waits in the merge entries of the replay engines with its own stamp. -/
def queueReplay (seq : Nat) (r : StampRec) (s : State) : State :=
  let lane := 272 + r.src % 16
  let i : Input :=
    { src := r.src, gtc := r.gtc, lane := lane, op := .log r.op, ack := .none, origin := 0, key := 0, raddr := 0, seq := seq }
  { s with
    seqr := { s.seqr with inputs := s.seqr.inputs ++ [i] }
    twin := { s.twin with ackSeq := seq, unrep := s.twin.unrep ++ [(seq, now s)] } }

/-- R88, R90: the records of a frame that continue what was received are committed, and acknowledged before they are
applied. -/
def takeRecords (first : Nat) (recs : List StampRec) (s : State) : State :=
  let want := s.twin.ackSeq + 1
  let new := if first ≤ want then recs.drop (want - first) else []
  if new.any reservedRec then streamError s
  else
    let s1 := (new.zipIdx).foldl (fun u x => queueReplay (want + x.2) x.1 u) s
    let top := new.foldl (fun m r => max m r.gtc) 0
    let s2 := forEach (List.range 16) (fun k u => setMark (272 + k) top u) s1
    let bytes := creditBytes (.stampedInput first recs)
    sendLandingAck (if new.isEmpty then grantCredit false bytes s2
      else holdRx 272 bytes (modTwin (fun t => { t with rxHeld := t.rxHeld ++ [(want + new.length - 1, bytes)] }) s2))

/-- STAMPED_INPUT (R83, R84, R88, R90, R122): taken by a STANDBY, and by a JOINING node once its resync runs. -/
def execStampedInput (h : FrameHdr) (first : Nat) (recs : List StampRec) (s : State) : Host.Outcome State Fault Refusal :=
  done (onUtl h none false (fun t =>
    if t.twin.role = .standby || (t.twin.role = .joining && t.twin.resync ≠ 0) then takeRecords first recs t else t) s)

/-- LANDING_ACK (R89, R90, R103, R117, R123). -/
def execLandingAck (h : FrameHdr) (credit ackSeq applied : Nat) (s : State) : Host.Outcome State Fault Refusal :=
  done (onUtl h none false (fun t => takeReport applied (takeAck ackSeq (takeCredit credit t))) s)

/-! ## Heartbeats and epochs -/

/-- What the role a peer reports changes (R86, R102, R107, R113). A STANDBY whose leader has become SOLO at the same
epoch learns by that of a digest that did not match. -/
def peerReports (r : Role) (net : Bool) (s : State) : State :=
  let old := s.twin.peerRole
  let s1 := modTwin (fun t => { t with peerRole := r }) s
  match s1.twin.role, r with
  | .leader, .joining => resyncIfAsked (modTwin (fun t => { t with peerT1 := false }) (toSolo s1))
  | .solo, .standby =>
    if s1.twin.resync ≠ 0 then
      raise 431 (setRole .leader (modTwin (fun t => { t with
        resync := 0, toSend := [], metaSend := [], bmOpen := false, bmTiles := [] }) s1))
    else s1
  | .fenced, .standby => if net then s1 else promote s1
  | .fenced, .joining => if net then s1 else promote s1
  | .standby, .solo => if old = .leader then toJoining true [] s1 else s1
  | _, _ => s1

/-- HEARTBEAT (R78, R89, R94, R102, R103, R107, R113, R123): it reports what is applied; only LANDING_ACK commits a
MIRROR write (R90). -/
def execHeartbeat (h : FrameHdr) (role : Role) (credit _ackSeq applied : Nat) (s : State) : Host.Outcome State Fault Refusal :=
  done (onEither h none (fun t => peerReports role h.net (takeReport applied (takeCredit credit t))) s)

/-- EPOCH (R78, R102, R104): a higher epoch with the END_SEQ that decides what diverged. -/
def execEpochFrame (h : FrameHdr) (endSeq : Nat) (role : Role) (s : State) : Host.Outcome State Fault Refusal :=
  done (onEither h (some endSeq) (fun t => modTwin (fun w => { w with peerRole := role }) t) s)

/-- RESERVED_FRAME_TYPE (R121): discarded with 430. -/
def execReservedFrameType (h : FrameHdr) (type : Nat) (s : State) : Host.Outcome State Fault Refusal :=
  done (if (1 ≤ type && type ≤ 8) || 256 ≤ type then s else onEither h none (raise 430) s)

/-- DIGEST (R85, R86): the standby's window against the leader's own. -/
def execDigest (h : FrameHdr) (first : Nat) (value : BitVec 128) (s : State) : Host.Outcome State Fault Refusal :=
  done (onUtl h none false (fun t =>
    match t.twin.digDone with
    | some (f, v) =>
      if t.twin.role = .leader && f = first && v ≠ value then
        modTwin (fun w => { w with peerT1 := false }) (toSolo (raise 421 t))
      else t
    | none => t) s)

/-- LEAVING (R99, R102, R107): the leader goes on alone; a FENCED node promotes; a resync stops. -/
def execLeaving (h : FrameHdr) (lastSeq : Nat) (s : State) : Host.Outcome State Fault Refusal :=
  done (onEither h none (fun t =>
    match t.twin.role with
    | .leader => toSolo (modTwin (fun w => { w with peerApplied := lastSeq }) t)
    | .fenced => promote t
    | .solo => modTwin (fun w => { w with resync := 0, toSend := [], metaSend := [], recopyGot := false }) t
    | _ => t) s)

/-- RELEASE (R97, R107): a STANDBY answers RELEASE_ACK on the path it came by, and joins. -/
def execRelease (h : FrameHdr) (s : State) : Host.Outcome State Fault Refusal :=
  done (onEither h none (fun t =>
    if t.twin.role = .standby then
      toJoining false [] (modTwin (fun w => { w with t1Intact := true }) ((if h.net then sendNet else sendUtl) .releaseAck t))
    else t) s)

/-- RELEASE_ACK (R97, R107). -/
def execReleaseAck (h : FrameHdr) (s : State) : Host.Outcome State Fault Refusal :=
  done (onEither h none (fun t =>
    if t.twin.role = .leader then modTwin (fun w => { w with peerT1 := true }) (toSolo t) else t) s)

/-! ## Time (R28, R92) -/

/-- R92: the correction a TIME exchange gives. In stage 9 a node behind steps forward, and one more than 1 ms ahead
steps back once; any other correction slews. An offset above 4 ns raises 427. -/
def takeTime (off : Int) (s : State) : State :=
  let near := decide (-4 ≤ off) && decide (off ≤ 4)
  let s1 := { s with
    twin := { s.twin with timeLocked := near, timeDone := true }
    clk := { s.clk with disc := 3, locked := near, offset := off } }
  let step (t : State) : State :=
    { t with clk := { t.clk with gtc := (t.clk.gtc + off).toNat, corr := 0, stepped := true } }
  onlyIf (!near) (raise 427)
    (if s.pwr.stage = 9 && decide (0 < off) then step s1
    else if s.pwr.stage = 9 && decide (off < -1000000) && !s.twin.backStep then
      logPwr 0x13 0 (step (modTwin (fun t => { t with backStep := true }) s1))
    else { s1 with clk := { s1.clk with corr := off } })

/-- TIME (R92, R120, R128): answered by the master; its answer corrects the other node's GTC and measures the round
trip, and one above 1.5 µs takes the link DOWN until management acts. -/
def execTimeFrame (h : FrameHdr) (t1 t2 t3 : Nat) (s : State) : Host.Outcome State Fault Refusal :=
  done (onUtl h none false (fun t =>
    if serving t then sendUtl (.time t1 (now t) (now t)) t
    else if t2 = 0 then t
    else
      let rtt := (now t - t1) - (t3 - t2)
      let t4 := takeTime (((t2 : Int) - t1 + (t3 - (now t : Int))) / 2) (modTwin (fun w => { w with rtt := rtt }) t)
      if 1500 < rtt then dropLink 426 (modTwin (fun w => { w with noRetry := true }) t4) else t4) s)

/-- TIME_TIMER (R92): every 10 µs the node that does not serve asks. -/
def execTimeTimer (s : State) : Host.Outcome State Fault Refusal :=
  done (if twLive s && !serving s && s.twin.role != .unset then sendUtl (.time (now s) 0 0) s else s)

/-! ## Keys (R118) -/

/-- R118: the session keys change, and the frame counters go on from their low 32 bits, so that LINK_SEQ does. -/
def newKeys (own peer : BitVec 256) (s : State) : State :=
  modTwin (fun t => { t with
    rekeying := false, txSeq := t.txSeq % 2 ^ 32, rxSeq := t.rxSeq % 2 ^ 32, netTx := t.netTx % 2 ^ 32 })
    (sessionKeys own peer s)

/-- REKEY (R118): both nodes send a random value, and the session keys change. -/
def execRekey (h : FrameHdr) (rand : BitVec 256) (s : State) : Host.Outcome State Fault Refusal :=
  done (onUtl h none false (fun t =>
    if t.twin.rekeying then newKeys t.twin.sessionRand rand t
    else
      let r := (Config.drbg t.free).setWidth 256
      newKeys r rand (sendUtl (.rekey r) (useFree t))) s)

/-- REKEY_COUNT (R118): the frame counter reaches 2^48. -/
def execRekeyCount (s : State) : Host.Outcome State Fault Refusal :=
  done (if !twLive s || !linkOpen s || s.twin.rekeying || (s.twin.txSeq < 2 ^ 48 && s.twin.netTx < 2 ^ 48) then s
    else
      let r := (Config.drbg s.free).setWidth 256
      sendUtl (.rekey r) (modTwin (fun w => { w with rekeying := true, sessionRand := r }) (useFree s)))

/-! ## Planned handover (R114) -/

/-- HANDOVER_FRAME (R114): the STANDBY leads at the next epoch, and HANDOVER_ACK is its first frame (R78). At the epoch
limit it does not promote, raises 428 and sends no answer (R77, log 89). -/
def execHandoverFrame (h : FrameHdr) (lastSeq : Nat) (s : State) : Host.Outcome State Fault Refusal :=
  done (onUtl h none false (fun t =>
    if t.twin.role != .standby || !feature t 4 then t
    else if 2 ^ 32 ≤ t.twin.epoch + 1 then raise 428 t
    else
      let t1 := applyReceived (t.seqr.inputs.length + 1) t
      if t1.twin.role != .standby then t1
      else
        let e := t1.twin.epoch + 1
        raise 418 (sendUtl (.handoverAck e) (setRole .leader (setEpoch e (modTwin (fun w => { w with
          endSeq := lastSeq, unrep := [], lag := 0, peerApplied := lastSeq, peerAck := lastSeq, retained := []
          bmOpen := false, bmTiles := [], digSpan := true }) t1))))) s)

/-- HANDOVER_ACK (R76, R78, R114, R320): the old leader becomes STANDBY with no fence and no resync. -/
def execHandoverAck (h : FrameHdr) (epoch : Nat) (s : State) : Host.Outcome State Fault Refusal :=
  done (onUtl h none true (fun t =>
    if t.twin.role = .leader && t.twin.handover = 2 && epoch = t.twin.epoch + 1 then
      let last := t.seqr.nextSeq - 1
      let rds := t.seqr.reads
      let t1 := setRole .standby (setEpoch epoch (modTwin (fun w => { w with
        handover := 0, retained := [], unrep := [], lag := 0, lagHold := false, applied := last, ackSeq := last
        peerRole := .leader, cmdBusy := false, cmdResult := 0, digSpan := true }) (cleanDirty t)))
      let t2 := refuseAllHeld { t1 with seqr := { t1.seqr with reads := [] } }
      let t3 := forEach rds (fun r u => refuseCxl r.req 5 false r.req.hpa (some r.grove) u) t2
      dropQps 2 t3
    else t) s)

/-- HANDOVER_SEND (R114): the peer has applied the last number, and nothing is left to be emitted. -/
def execHandoverSend (s : State) : Host.Outcome State Fault Refusal :=
  done (if s.twin.role = .leader && s.twin.handover = 1 && linkOpen s && s.seqr.unsent.isEmpty
      && !s.seqr.inputs.any (fun i => i.seq = 0 && !isLocal i.op) && s.twin.peerApplied = s.seqr.nextSeq - 1 then
      sendUtl (.handover (s.seqr.nextSeq - 1)) (modTwin (fun w => { w with handover := 2 }) s)
    else s)

/-! ## Timers -/

/-- T_hb in ns (R95). -/
def thb (s : State) : Nat := fld s .twinTimers 9 0 * 1000

/-- The network path has been silent for T_hb. -/
def netSilent (s : State) : Bool := decide (s.twin.heardNet + thb s ≤ now s)

/-- R126: the loss of the peer on the UTL, once until it is heard again. -/
def loseUtl (s : State) : State :=
  if s.twin.utlLost then s else raise 416 (modTwin (fun t => { t with utlLost := true }) s)

/-- R126: the loss of the peer on the network path, once until it is heard again. -/
def loseNet (s : State) : State :=
  if !feature s 3 || !netSilent s || s.twin.netLost then s else raise 417 (modTwin (fun t => { t with netLost := true }) s)

/-- R126: what has been silent for T_hb since a session began is lost. -/
def noteSilence (s : State) : State :=
  if s.twin.negotiated then loseNet (onlyIf (decide (s.twin.heardUtl + thb s ≤ now s)) loseUtl s) else s

/-- HEARTBEAT_TIMER (R94, R126): a heartbeat on each path, and a look at what the peer's have become. -/
def execHeartbeatTimer (s : State) : Host.Outcome State Fault Refusal :=
  done (if !twLive s || s.twin.role = .unset then s
    else
      let r := report s
      noteSilence (sendBoth (.heartbeat s.twin.role s.twin.lagHold (s.twin.resync ≠ 0) r.1 r.2.1 r.2.2) s))

/-- THB_EXPIRY (R96, R97, R126): 416; a STANDBY promotes under AUTO, or under WITNESS where the network path is
silent too (417). -/
def execThbExpiry (s : State) : Host.Outcome State Fault Refusal :=
  done (if !isReady s || s.twin.role != .standby then s
    else
      let s1 := loseNet (loseUtl s)
      if fld s .twinTimers 21 21 = 0 || (feature s 3 && netSilent s) then promote s1 else s1)

/-- LEADER_UTL_SILENCE (R97, R126): under WITNESS, with the network path alive, the leader sends RELEASE on it. -/
def execLeaderUtlSilence (s : State) : Host.Outcome State Fault Refusal :=
  done (if !isReady s || s.twin.role != .leader then s
    else
      let s1 := loseNet (loseUtl s)
      if !feature s 3 || netSilent s then s1
      else if fld s .twinTimers 21 21 = 1 then sendNet .release s1 else s1)

/-- FENCE_EXPIRY (R100): no frame from the peer on any path for T_fence. -/
def execFenceExpiry (s : State) : Host.Outcome State Fault Refusal :=
  done (if isReady s && s.twin.role = .leader then fence s else s)

/-- TJOIN_EXPIRY (R79, R80): the last stored role decides. -/
def execTjoinExpiry (s : State) : Host.Outcome State Fault Refusal :=
  done (if !twLive s || !ownStage9 s || s.twin.sameNode || fld s .twinTimers 31 22 = 0 then s
    else if s.cfg.node.lastRole = .leader || s.cfg.node.lastRole = .solo then promote s else raise 428 s)

/-- LAG_HOLD_START (R89): the oldest input not reported as applied was emitted more than 2 µs ago. -/
def execLagHoldStart (s : State) : Host.Outcome State Fault Refusal :=
  done (if s.twin.role = .leader && !s.twin.unrep.isEmpty && !s.twin.lagHold then
      modTwin (fun w => { w with lagHold := true }) s
    else s)

/-- LAG_HOLD_LONG (R126): held for more than 10 µs. -/
def execLagHoldLong (s : State) : Host.Outcome State Fault Refusal :=
  done (if s.twin.lagHold then raise 422 s else s)

/-! ## Twin commands (R128, R129) -/

/-- A write of TWIN_CMD: ignored with an access event while a command runs; any other lets a link that waits for
management train again (R120). -/
def twinCmd (p : Path) (f : State → State) (s : State) : State :=
  ctlWrite p (regAddr .twinDivData3) (fun t =>
    if t.twin.cmdBusy then refuseWrite p (regAddr .twinDivData3) t
    else f (modTwin (fun w => { w with noRetry := false, cmdResult := 0 }) t)) s

/-- The command's result. -/
def twinResult (n : Nat) (s : State) : State := modTwin (fun w => { w with cmdResult := n }) s

/-- HANDOVER (R114): at a LEADER whose peer is a converged STANDBY. -/
def execHandover (p : Path) (s : State) : Host.Outcome State Fault Refusal :=
  done (twinCmd p (fun t =>
    if t.twin.role != .leader || t.twin.peerRole != .standby || !linkOpen t then twinResult 1 t
    else if !feature t 4 then twinResult 2 t
    else modTwin (fun w => { w with handover := 1, cmdBusy := true }) t) s)

/-- A promotion by command: refused at the epoch limit. -/
def promoteCmd (s : State) : State :=
  let s1 := promote s
  if s1.twin.role = .solo then s1 else twinResult 1 s1

/-- RESUME (R102): a FENCED node serves again, but not with the device key blocked. -/
def execResume (p : Path) (s : State) : Host.Outcome State Fault Refusal :=
  done (twinCmd p (fun t =>
    if t.twin.role != .fenced || t.cipher.dukBlocked then twinResult 1 t else promoteCmd t) s)

/-- R107: INCOMPLETE on every LOCAL and MIRROR grove, with one data-loss event (R74). -/
def setIncomplete (s : State) : State :=
  let gs := ((SMap.present s.tier.md.groves).filter (fun p => p.2.level != .vol)).map (·.1)
  onlyIf (!gs.isEmpty) (raise 561) (forEach gs (fun g t => setBit .groveStatus g 11 t) s)

/-- R107, R113: a tile that the copy had not installed reads as poison. -/
def poisonTile (x : Nat × Nat) (s : State) : State :=
  let s1 := forgetTile x.1 x.2 s
  let s2 := match (tile s1 x.1 x.2).frame with
    | some f => forEach (List.range 1024) (fun i t => markT1 f i t) s1
    | none => s1
  poisonLines x.1 x.2 (BitVec.allOnes 1024) 3 s2

/-- R107, R113: where the whole image was to be copied, every tile of every grove that is not installed is missing. -/
def missingFrom (have_ : List (Nat × Nat)) (s : State) : State :=
  modMeta (fun m => { m with
    partGroves := (SMap.present m.groves).map (fun p => (p.1, groveTiles p.2)), partHave := have_ }) s

/-- Tiles a JOINING node knows of and has not installed. -/
def notInstalled (s : State) : List (Nat × Nat) :=
  let all := s.twin.dropped ++ s.twin.begun ++ s.twin.recopyOut ++ (if s.twin.needBulk then heldTiles s else [])
  all.dedup.filter (fun x => !s.twin.installed.contains x && (groveOf s x.1).isSome)

/-- FORCE_LEAD (R79, R80, R107, R113): from stage 9 or JOINING, with INCOMPLETE set. -/
def execForceLead (p : Path) (s : State) : Host.Outcome State Fault Refusal :=
  done (twinCmd p (fun t =>
    if !hasTwin t then twinResult 1 t
    else if ownStage9 t then
      let u := promoteCmd t
      if u.twin.role = .solo then setIncomplete u else u
    else if t.twin.role = .joining then
      let bad := notInstalled t
      let u := promoteCmd t
      if u.twin.role != .solo then u
      else
        let v := forEach bad poisonTile u
        setIncomplete (if t.twin.needBulk then missingFrom t.twin.installed v else v)
    else twinResult 1 t) s)

/-- WITNESS_GRANT (R97, R102): carries an epoch in TWIN_CMD_ARG. The order of the checks, and the result at a STANDBY
under AUTO, are the model's choice (log 89). -/
def execWitnessGrant (p : Path) (s : State) : Host.Outcome State Fault Refusal :=
  done (twinCmd p (fun t =>
    let same := regWord t .twinCmdArg = t.twin.epoch
    match t.twin.role with
    | .fenced => if t.cipher.dukBlocked then twinResult 1 t else if !same then twinResult 3 t else promoteCmd t
    | .standby =>
      if fld t .twinTimers 21 21 = 0 || now t < t.twin.heardUtl + thb t then twinResult 1 t
      else if !same then twinResult 3 t else promoteCmd t
    | _ => twinResult 1 t) s)

/-- DIV_CLEAR (R106): the divergence list is empty. -/
def execDivClear (p : Path) (s : State) : Host.Outcome State Fault Refusal :=
  done (twinCmd p (fun t =>
    touchMeta (tkey 1023 8192) (modMeta (fun m => { m with divs := [] })
      (modTwin (fun w => { w with divLost := 0, divFull := false }) t))) s)

end Sys2Proof.Machine
end

