-- ==== Sys2Proof/Machine/Link.lean ====
section
/-!
DEFINITION. The twin link (R115 to R120): training, NEGOTIATE, retry, and lane groups.
-/

namespace Sys2Proof.Machine

open Sys2Proof

/-! ## Lane groups (R115, R116) -/

/-- Lanes of the part. -/
def allLanes (s : State) : BitVec 16 := if isSmall s then 0x00FF else 0xFFFF

/-- The groups a link can run on, widest first. -/
def laneGroups (s : State) : List (BitVec 16) :=
  (if isSmall s then [] else [0xFFFF]) ++ ([0x00FF, 0xFF00, 0x000F, 0x00F0, 0x0F00, 0xF000].filter
    (fun m => m &&& allLanes s = m))

/-- R116, R119: a group that may be used: 4 lanes only with LANES4. -/
def laneOk (s : State) (m : BitVec 16) : Bool :=
  (laneGroups s).contains m && (decide (8 ≤ popCount m) || feature s 0)

/-- R116: the widest healthy group other than the one in use. -/
def narrower (s : State) (healthy : BitVec 16) : Option (BitVec 16) :=
  (laneGroups s).find? (fun m => laneOk s m && m &&& healthy = m && m ≠ s.twin.lanes && popCount m ≤ min 8 (popCount s.twin.lanes))

/-! ## Training (R120) -/

/-- UTL_RETRY_TIMER (R120): stage 9 is reached, or a retry timer expires. -/
def execUtlRetryTimer (s : State) : Host.Outcome State Fault Refusal :=
  done (if twLive s && s.twin.link = .down && !s.twin.noRetry then modTwin (fun t => { t with link := .train }) s else s)

/-- UTL_TRAIN_LOCK (R120): a lane group of R116 locks. -/
def execUtlTrainLock (mask : BitVec 16) (s : State) : Host.Outcome State Fault Refusal :=
  done (if twLive s && s.twin.link = .train && (laneGroups s).contains mask then
      modTwin (fun t => { t with
        link := .negotiate, lanes := mask, negCount := t.negCount + 1, sessionRand := (Config.drbg s.free).setWidth 256 }) (useFree s)
    else s)

/-- UTL_TRAIN_TIMEOUT (R120). -/
def execUtlTrainTimeout (s : State) : Host.Outcome State Fault Refusal :=
  done (if s.twin.link = .train then dropLink 425 s else s)

/-- UTL_NEGOTIATE_TIMEOUT (R120). -/
def execUtlNegotiateTimeout (s : State) : Host.Outcome State Fault Refusal :=
  done (if s.twin.link = .negotiate then dropLink 425 s else s)

/-! ## NEGOTIATE (R79, R118 to R120, R125) -/

/-- Features this node offers: every one, NET_HEARTBEAT where the image enables it (R119, R371). -/
def ownFeatures (s : State) : Nat :=
  match (img s).twin with
  | some t => if t.netHb then 0x3F else 0x37
  | none => 0

/-- This node's NEGOTIATE body (R79, R125). -/
def ownNeg (s : State) : NegRec :=
  { maxVer := 3, minVer := 2, nodeB := s.pwr.nodeB
    lastRole := if ownStage9 s then s.cfg.node.lastRole else s.twin.role
    features := ownFeatures s, epoch := s.twin.epoch, lastSeq := s.seqr.nextSeq - 1
    incomplete := s.twin.lostAtUp, t1Survived := s.twin.t1Intact && !s.twin.needBulk
    policy := fld s .twinTimers 21 21, thb := fld s .twinTimers 9 0, fence := fld s .twinTimers 15 10
    layoutId := s.cfg.layoutId, rand := s.twin.sessionRand, gtc := now s, stage9 := ownStage9 s }

/-- NEGOTIATE_TIMER (R118, R120): every 10 µs in NEGOTIATE, VER at the sender's maximum (R121), under the key of
negotiation frames. -/
def execNegotiateTimer (s : State) : Host.Outcome State Fault Refusal :=
  done (if twLive s && s.twin.link = .negotiate then
      send (.frame { utlHdr 3 s with key := negKey s } (.negotiate (ownNeg s)))
        (modTwin (fun t => { t with txSeq := (t.txSeq + 1) % 2 ^ 64 }) s)
    else s)

/-- R95, R119, R120: a common version, and equal timers, policy and LAYOUT_ID. -/
def negMatches (s : State) (n : NegRec) : Bool :=
  decide (max 2 n.minVer ≤ min 3 n.maxVer) && n.policy == fld s .twinTimers 21 21
    && n.thb == fld s .twinTimers 9 0 && n.fence == fld s .twinTimers 15 10 && n.layoutId == s.cfg.layoutId

/-- R336: the pair key's slot can be used. -/
def linkKeyed (s : State) : Bool :=
  match (img s).twin with
  | some t => slotUsable s t.linkSlot
  | none => false

/-- R118, R119: the link is UP under a new session. The CREDIT it first grants is the node's own choice (log 22).
LAST_ROLE is not taken for a role the peer reports (R127, log 89). -/
def linkStarts (n : NegRec) (rtt : Nat) (s : State) : State :=
  let ver := min 3 n.maxVer
  let mask := if ver = 2 then 0x19 else 0x3F
  derive 2 <| sessionKeys s.twin.sessionRand n.rand (useFree (modTwin (fun t => { t with
    link := .up, sameNode := false, version := ver, features := (n.features &&& ownFeatures s) &&& mask, rtt := rtt
    txSeq := 0, rxSeq := 0, netTx := 0, netRx := 0, utlLost := false, netLost := false, negotiated := true, retryBuf := [], txQueue := [], credUsed := 0, credLimit := 0
    credGrant := (Config.anyWord s.free).toNat, heardUtl := now s, heardNet := now s
    peerApplied := if t.role = .leader then t.peerApplied else n.lastSeq, peerT1 := n.t1Survived }) s))

/-- NEGOTIATE (R79, R95, R115, R118 to R120, R336). A link of fewer than 8 lanes on which LANES4 is not agreed goes
DOWN (R119). -/
def execNegotiate (h : FrameHdr) (n : NegRec) (rtt : Nat) (s : State) : Host.Outcome State Fault Refusal :=
  done (if !twLive s || h.net || s.twin.link != .negotiate || !h.ok then s
    else if n.nodeB = s.pwr.nodeB then
      dropLink 425 (if ownStage9 s then modTwin (fun t => { t with sameNode := true }) s else s)
    else if !negMatches s n || !linkKeyed s then dropLink 425 (modTwin (fun t => { t with sameNode := false }) s)
    else if 1500 < rtt then
      dropLink 426 (modTwin (fun t => { t with rtt := rtt, noRetry := true, sameNode := false }) s)
    else
      let t := linkStarts n rtt s
      if laneOk t t.twin.lanes then elect n t else dropLink 424 t)

/-! ## Retry (R117) -/

/-- Sends again the frames from the one the peer expects, each as it was sent (R118) with RETRY set (R121). -/
def resend (expected : Nat) (s : State) : State :=
  let fs := s.twin.retryBuf.filter (fun x => decide ((x.1.linkSeq + 2 ^ 32 - expected) % 2 ^ 32 < 2 ^ 31))
  forEach fs (fun x t => send (.frame { x.1 with retry := true } x.2) t) s

/-- RETRY_REQ (R117): go-back-N. -/
def execRetryReq (h : FrameHdr) (expected : Nat) (s : State) : Host.Outcome State Fault Refusal :=
  done (onUtl h none false (fun t => resend expected t) s)

/-! ## Lanes (R116, R120) -/

/-- The link runs on a group: UP, and 423 where it is narrower than the part's lanes; frames are replayed. -/
def useLanes (m : BitVec 16) (s : State) : State :=
  let s1 := modTwin (fun t => { t with link := .up, lanes := m, proposed := none }) s
  let s2 := onlyIf (m ≠ allLanes s) (raise 423) s1
  match s2.twin.retryBuf with
  | x :: _ => resend x.1.linkSeq s2
  | [] => s2

/-- LANE_CHANGE (R116): a proposal of a usable group is confirmed and taken; a confirmation of this node's own
proposal takes it, and ends a REWIDEN. -/
def execLaneChange (h : FrameHdr) (mask : BitVec 16) (confirm : Bool) (s : State) : Host.Outcome State Fault Refusal :=
  done (onUtl h none false (fun t =>
    if !laneOk t mask then t
    else if confirm then
      (if t.twin.proposed = some mask then
        let wide := t.twin.link = .up
        modTwin (fun w => { w with cmdBusy := if wide then false else w.cmdBusy }) (useLanes mask t)
      else t)
    else useLanes mask (sendUtl (.laneChange mask true) t)) s)

/-- UTL_LANE_FAULT (R116, R120): a lane fault, or a frame failing 16 times. -/
def execUtlLaneFault (healthy : BitVec 16) (s : State) : Host.Outcome State Fault Refusal :=
  done (if !linkOpen s then s
    else match narrower s healthy with
      | none => dropLink 424 s
      | some m => sendUtl (.laneChange m false) (modTwin (fun t => { t with link := .degrade, proposed := some m }) s))

/-- LANE_CHANGE_TIMEOUT (R116, R120): no narrower group confirmed within 3 µs; a REWIDEN not confirmed leaves the
lanes as they were. -/
def execLaneChangeTimeout (s : State) : Host.Outcome State Fault Refusal :=
  done (if s.twin.link = .degrade then dropLink 424 s
    else if s.twin.proposed.isSome then modTwin (fun t => { t with proposed := none, cmdBusy := false, cmdResult := 1 }) s
    else s)

/-- REWIDEN (R116): the whole width is proposed. -/
def execRewiden (p : Path) (s : State) : Host.Outcome State Fault Refusal :=
  done (twinCmd p (fun t =>
    if t.twin.link != .up then twinResult 1 t
    else if t.twin.lanes = allLanes t then t
    else sendUtl (.laneChange (allLanes t) false)
      (modTwin (fun w => { w with proposed := some (allLanes t), cmdBusy := true }) t)) s)

end Sys2Proof.Machine
end

