-- ==== Sys2Proof/Machine/Dram.lean ====
section
/-!
DEFINITION. The commands of the DDR5 channels: calibration (R208), refresh (R214 to R216), self-refresh (R217),
CA parity (R221), the UE log (R222), patrol scrub (R224, R225) and evacuation (R226 to R228).
-/

namespace Sys2Proof.Machine

open Sys2Proof

/-- The part has the channel (R10). -/
def hasCh (s : State) (n : Nat) : Bool := decide (n < nSlices s)

/-- The channel's clocks run and it takes commands (R208, R217). -/
def chOnline (s : State) (n : Nat) : Bool := (chOf s n).state == .online || (chOf s n).state == .evacuating

/-- ZQ_CALIBRATION (R208). -/
def execZqCalibration (ch : Nat) (s : State) : Host.Outcome State Fault Refusal :=
  onUnit (hasCh s ch) s (if (chOf s ch).state = .online then updCh ch (fun c => { c with zqRuns := c.zqRuns + 1 }) s else s)

/-- DQS_DRIFT_COMPENSATION (R208). -/
def execDqsDriftCompensation (ch : Nat) (s : State) : Host.Outcome State Fault Refusal :=
  onUnit (hasCh s ch) s (if (chOf s ch).state = .online then updCh ch (fun c => { c with dqsRuns := c.dqsRuns + 1 }) s else s)

/-! ## Refresh -/

/-- A refresh of a whole rank closes its rows. -/
def closeRows (ch rank : Nat) (s : State) : State :=
  forEach [0, 1] (fun b => updSub (ch * 2 + b) (fun x => { x with rows := SMap.filterKeys x.rows (fun k => decide (k / 32 ≠ rank)) })) s

/-- REFRESH_DUE (R214 to R216): issued with what was postponed, postponed during a real-time burst, or forced
with 4 postponed; SAME-BANK postpones nothing. A burst over its declaration raises +6 once. -/
def execRefreshDue (ch rank : Nat) (s : State) : Host.Outcome State Fault Refusal :=
  onUnit (hasCh s ch) s (
    if !chOnline s ch || decide ((chOf s ch).lranks ≤ rank) then s
    else
      let x := rankOf s ch rank
      let late := burstOver s x && !x.overSaid
      let s1 := onlyIf late (dramEvent ch 6) (updRank ch rank (fun y => { y with overSaid := y.overSaid || late }) s)
      if fld s .dramNodeCfg 1 0 = 2 then updRank ch rank (fun y => { y with issued := y.issued + 1 }) s1
      else if x.since.isNone then
        closeRows ch rank (updRank ch rank (fun y => { y with issued := y.issued + y.postponed + 1, postponed := 0 }) s1)
      else if x.postponed < 4 then localPass (scrubSrc s1) (updRank ch rank (fun y => { y with postponed := y.postponed + 1 }) s1)
      else
        closeRows ch rank (dramEvent ch 6 (bumpRc .dramRtSplits ch 31 0 1
          (updRank ch rank (fun y => { y with issued := y.issued + 1 }) s1))))

/-- MR4_POLL (R214): the ranks with a device above 85 °C. -/
def execMr4Poll (ch : Nat) (hotRanks : List Nat) (s : State) : Host.Outcome State Fault Refusal :=
  onUnit (hasCh s ch) s (
    if !chOnline s ch then s
    else forEach (List.range (chOf s ch).lranks) (fun r t => updRank ch r (fun y => { y with hot := hotRanks.contains r }) t) s)

/-- A device of the channel reports above 85 °C (R231, HOT). -/
def chHot (s : State) (ch : Nat) : Bool := (chOf s ch).ranks.any (fun p => p.2.hot)

/-! ## Patrol -/

/-- The channel belongs to its set (R209). -/
def inItsSet (s : State) (n : Nat) : Bool :=
  let x := setOf s (chOf s n).set
  x.valid && decide (x.first ≤ n) && decide (n < x.first + 2 ^ x.log2)

/-- Lines of a channel: its share of its set's frames, or its capacity where it has no set. -/
def chLines (s : State) (n : Nat) : Nat :=
  let x := setOf s (chOf s n).set
  if inItsSet s n then x.frames * 1024 / 2 ^ x.log2 else (chOf s n).capGib * 2 ^ 24

/-- R224: the lap's time at the rate that finishes it in TARGET, scaled by the lap's lines: what patrol has read, and
what it may have read by now. -/
def patrolPace (s : State) (n : Nat) : Nat × Nat :=
  let c := chOf s n
  (c.patrol * (fld s .dramPatrolCfg 7 0 * 3600000000000), (now s - c.lapStart) * chLines s n)

/-- R224: patrol stands behind the rate that finishes the lap in TARGET. -/
def patrolBehind (s : State) (n : Nat) : Bool := decide ((patrolPace s n).1 < (patrolPace s n).2)

/-- The line lies on the channel, in the frame its tile has. -/
def onChannel (s : State) (n g a : Nat) : Bool :=
  match (tile s g (tileOf a)).frame with
  | some f => decide (chanOf s f (a % 1024) = n)
  | none => false

/-- Requests in a channel's queues, or at a port on their way to it. -/
def chQueued (s : State) (n : Nat) : Bool :=
  chBusy s n || s.can.miss.any (fun q => q.2.any (fun m => onChannel s n m.grove m.line))
    || s.can.trk.any (fun q => q.2.any (fun x => onChannel s n x.grove x.line))

/-- SELF_REFRESH_ENTRY (R217). -/
def execSelfRefreshEntry (ch : Nat) (s : State) : Host.Outcome State Fault Refusal :=
  onUnit (hasCh s ch) s (
    if (chOf s ch).state != .online || fld s .dramSrIdle 19 0 = 0 || patrolBehind s ch || chQueued s ch
        || !(chOf s ch).caRec.isEmpty then s
    else updCh ch (fun c => { c with state := .selfRefresh }) s)

/-- The line patrol reads at position `k` of a channel's lap: the channel's lines in ascending set-relative
address (R210). -/
def patrolAt (s : State) (n k : Nat) : Nat × Nat :=
  let x := setOf s (chOf s n).set
  let lo := if x.map = 3 then 10 else if x.gran then 6 else 2
  let a := k % 2 ^ lo + (n - x.first) * 2 ^ lo + k / 2 ^ lo * 2 ^ (lo + x.log2)
  (x.base + a / 1024, a % 1024)

/-- R135, R223: a line of grove 1,023 is lost in both copies: the tiles whose entries it held are poisoned in full. -/
def loseMetaLine (t i : Nat) (s : State) : State :=
  let x := Config.metaEntry t i
  forEach (List.range 4) (fun k u =>
    match groveOf u x.1 with
    | some r =>
      if x.2 + k < groveTiles r then
        raiseAt 577 x.1 (logPoison x.1 (x.2 + k) (BitVec.allOnes 16) 1 (updTile x.1 (x.2 + k) (fun e => { e with poison := some 0xFFFFF }) u))
      else u
    | none => u) s

/-- R223: an uncorrectable line of a copy of grove 1,023 takes the partner's; with both lost, the entries it held are. -/
def repairMeta (n f i cls src : Nat) (m : Nat × Nat) (s : State) : State :=
  if chFailed s m.2 i || (t1Line s m.2 i).isNone then
    dramEvent n 3 (logUe f i src cls 3 (loseMetaLine m.1 i (putT1 m.2 i 0 (putT1 f i 0 s))))
  else dramEvent n 2 (logUe f i src cls 1 (putT1 f i ((t1Line s m.2 i).getD 0) s))

/-- R225: an uncorrectable line that patrol found: the T2 copy of a clean sector, the peer, or a poison marker; a
free frame's line is written with zeros; grove 1,023's takes its partner's (R223). -/
def patrolRepair (n f i cls : Nat) (peer : Option LineData) (s0 : State) : State :=
  let src := scrubSrc s0
  let s := localPass src s0
  match metaOf s f, SMap.find s.tier.owner f with
  | some m, _ => repairMeta n f i cls src m s
  | none, some k =>
    let g := k / 2 ^ 32
    let t := k % 2 ^ 32
    let e := tile s g t
    if e.frame ≠ some f then putT1 f i 0 s
    else
      let copy : Option LineData := if (e.sdirty.getLsbD (i / 64)) = true then none else t2Line s g (t * 1024 + i)
      (match copy with
        | some d => dramEvent n 2 (logUe f i src cls 1 (putT1 f i d s))
        | none =>
          let s1 := if peerGives s g then sendUtl (.repairReq g t (BitVec.ofNat 16 (2 ^ (i / 64)))) s else s
          match peer, peerGives s g with
          | some d, true => dramEvent n 2 (logUe f i src cls 2 (putT1 f i d s1))
          | _, _ => dramEvent n 3 (logUe f i src cls 3 (markT1 f i s1)))
  | none, none => putT1 f i 0 s

/-- R225: a corrected line is rewritten clean. -/
def rewriteClean (f i : Nat) (s : State) : State :=
  { s with tier := { s.tier with t1bad := SMap.set s.tier.t1bad .clean (f * 1024 + i) .clean } }

/-- The lap goes on; at its end its duration is kept, and a lap longer than MAX raises +7 once (R224). -/
def patrolStep (n : Nat) (s : State) : State :=
  let c := chOf s n
  let late := decide (fld s .dramPatrolCfg 15 8 * 3600000000000 < now s - c.lapStart) && !c.lateLap
  let s1 := onlyIf late (dramEvent n 7) s
  if chLines s n ≤ c.patrol + 1 then
    updCh n (fun c => { c with patrol := 0, lap := (now s - c.lapStart) / 1000000000, lapStart := now s, lateLap := false }) s1
  else updCh n (fun c => { c with patrol := c.patrol + 1, lateLap := c.lateLap || late }) s1

/-- R213, R217, R224: patrol may read: the channel serves, or sleeps while patrol is behind; its queues are empty, its
port passes, and the lap keeps within TARGET's rate. -/
def patrolMay (s : State) (n : Nat) : Bool :=
  isReady s && ((chOf s n).state == .online || ((chOf s n).state == .selfRefresh && patrolBehind s n)) && chLines s n != 0
    && !chBusy s n && (chOf s n).caRec.isEmpty && portOpen s (regFor s 3) 1 && decide ((patrolPace s n).1 ≤ (patrolPace s n).2)

/-- PATROL_READ (R218, R224, R225): the next line of the channel's lap. -/
def execPatrolRead (ch : Nat) (o : DramRead) (peerData : Option LineData) (s : State) : Host.Outcome State Fault Refusal :=
  onUnit (hasCh s ch) s (
    if !patrolMay s ch then s
    else
      let s1 := perfAdd ⟨305, 5, none⟩ 0x02 1 (perfAdd ⟨305, 5, none⟩ 0x01 1 (chargeLines (regFor s 3) 1 (wakeCh ch s)))
      let ce (t : State) : State := dramEvent ch 0 (bumpRc .dramCeCount ch 31 0 1 t)
      if !inItsSet s ch then patrolStep ch (if o == .corrected then ce s1 else s1)
      else
        let x := patrolAt s ch (chOf s ch).patrol
        let s2 := noteRead x.1 x.2 o s1
        patrolStep ch (match SMap.get s2.tier.t1bad .clean (x.1 * 1024 + x.2) with
          | .clean => s2
          | .corrected => rewriteClean x.1 x.2 (ce s2)
          | .uncorr c => patrolRepair ch x.1 x.2 c peerData s2))

/-! ## CA parity and the UE log -/

/-- CA_PARITY_ALERT (R221): the replay succeeds and is counted, or CA recovery stops the subchannel. -/
def execCaParityAlert (ch sub : Nat) (replayOk : Bool) (s : State) : Host.Outcome State Fault Refusal :=
  onUnit (hasCh s ch) s (
    if !chOnline s ch || 2 ≤ sub then s
    else if replayOk then bumpRc .dramCaCount ch 15 0 1 s
    else updCh ch (fun c => { c with caRec := insertNat sub c.caRec }) s)

/-- CA_RECOVERY_COMPLETE (R221): the subchannel resumes with +4, or the channel is FAILED with +5 and its set
evacuated. -/
def execCaRecoveryComplete (ch sub : Nat) (ok : Bool) (s : State) : Host.Outcome State Fault Refusal :=
  onUnit (hasCh s ch) s (
    if !(chOf s ch).caRec.contains sub then s
    else if ok then
      runQueue (dramEvent ch 4 (bumpRc .dramCaCount ch 31 16 1
        (updCh ch (fun c => { c with caRec := c.caRec.filter (· ≠ sub) }) s)))
    else
      let s2 := dramEvent ch 5 (updCh ch (fun c => { c with state := .failed, caRec := [] }) s)
      let n := (chOf s2 ch).set
      if (setOf s2 n).degraded = 0 then s2 else tryEvac n s2)

/-- UE_CLEAR (R222, R231). -/
def execUeClear (p : Path) (ch : Nat) (s : State) : Host.Outcome State Fault Refusal :=
  done (ctlWrite p (regAddr .dramChCmd ch) (fun t =>
    if hasCh t ch then updCh ch (fun c => { c with ueLog := [], ueFull := false }) t
    else accessEvent true 0 p (regAddr .dramChCmd ch) t) s)

/-! ## Evacuation -/

/-- The command register's own refusal: the result, with the set of the command (R232). -/
def evacResult (n r : Nat) (s : State) : State := { s with dram := { s.dram with evSet := n, evResult := r } }

/-- EVACUATE (R226). -/
def execEvacuate (p : Path) (set : Nat) (s : State) : Host.Outcome State Fault Refusal :=
  done (ctlWrite p (regAddr .dramEvacCmd) (fun t => finishEvac (tryEvac (set % 16) t)) s)

/-- Tiles of a set that a move or a demotion can take now. -/
def setMovable (s : State) (n : Nat) : List (Nat × Nat) :=
  ((setTiles s n).filter (fun x => (tile s x.2.1 x.2.2).frame = some x.1 && !moving s x.2.1 x.2.2
    && !promoting s x.2.1 x.2.2 && !programming s x.2.1 x.2.2)).map (·.2)

/-- The frame of a degraded set that a moved frame takes (R226, R536). -/
def evacTarget (s : State) (n : Nat) : Option Nat := pickFrame s (fun k => (degradedSets s n).contains k)

/-- A tile's frame starts to move (R227). -/
def startMove (g t dst : Nat) (s : State) : State :=
  match (tile s g t).frame with
  | none => s
  | some src =>
    let s1 := takeFrame g t dst s
    localPass (migrSrc s) { s1 with tier := { s1.tier with moves := s1.tier.moves ++ [⟨g, t, src, dst⟩] } }

/-- The set of a frame, or 16. -/
def setNum (s : State) (f : Nat) : Nat := (setOfFrame s f).getD 16

/-- R223: a copy of the first tile of a run takes another frame; the rest of the run stays as it is. -/
def rehome (r : MetaRun) (first : Bool) (f : Nat) (s : State) : State :=
  let one : MetaRun := if first then ⟨r.tile, 1, f, r.partner⟩ else ⟨r.tile, 1, r.frame, f⟩
  let rest : List MetaRun := if r.count ≤ 1 then [] else [⟨r.tile + 1, r.count - 1, r.frame + 1, r.partner + 1⟩]
  { s with dram := { s.dram with metaRuns := one :: rest ++ s.dram.metaRuns.erase r } }

/-- R223, R536: a free frame for a copy of grove 1,023 in one of the sets admitted: in another set than the copy at `f`
where one has room. -/
def partnerFrame (s : State) (ok : Nat → Bool) (f : Nat) : Option Nat :=
  match pickFrame s (fun k => ok k && k != setNum s f) with
  | some x => some x
  | none => pickFrame s ok

/-- A frame of grove 1,023 moves to a degraded set with room (R213, R223, R226). -/
def moveMeta (n : Nat) (s : State) : Option State :=
  match s.dram.metaRuns.find? (fun r => setNum s r.frame = n || setNum s r.partner = n) with
  | none => none
  | some r =>
    let first := decide (setNum s r.frame = n)
    if !portOpen s (regFor s 1) 2048 then none
    else (partnerFrame s (fun k => (degradedSets s n).contains k) (if first then r.partner else r.frame)).map (fun f =>
      useFree (rehome r first f (chargeLines (regFor s 1) 2048 s)))

/-- A tile is demoted to free a frame, outside the quota (R226). -/
def evacDemote (ok : Nat → Nat → Bool) (s : State) : State :=
  match pickDemotion s ok with
  | some (c, g, t) => demoteTile c g t .evacDemotion true s
  | none => s

/-- The tile lies in one of the sets. -/
def tileIn (s : State) (l : List Nat) (g t : Nat) : Bool :=
  match (tile s g t).frame with
  | some f => (match setOfFrame s f with
    | some n => l.contains n
    | none => false)
  | none => false

/-- FRAME_MOVE (R226, R227): the next frame of the set being evacuated: grove 1,023's, then pinned tiles and
tiles with landing entries, then others while the degraded sets have room, and demotions after. -/
def execFrameMove (errs : List LineRead) (s0 : State) : Host.Outcome State Fault Refusal :=
  let s := noteReads errs s0
  done (match evacuating s with
    | none => s
    | some n =>
      if !isReady s || !working s || metaHeld s then s
      else
        let l := setMovable s n
        let first := l.find? (fun x => moveFirst s x.1 x.2)
        let room := !(degradedSets s n).isEmpty
        let freeUp : State := if room then evacDemote (tileIn s (degradedSets s n)) s else s
        if 0 < metaFrames s n then finishEvac ((moveMeta n s).getD freeUp)
        else match first, evacTarget s n with
          | some x, some f => startMove x.1 x.2 f s
          | some _, none => freeUp
          | none, some f => (match l.head? with
            | some x => startMove x.1 x.2 f s
            | none => finishEvac s)
          | none, none => finishEvac (evacDemote (fun g t => l.contains (g, t)) s))

/-- FRAME_MOVE_COMPLETE (R160, R213, R219, R227): every line is in the new frame, a lost one as a marker, and the tile-table
entry names it. -/
def execFrameMoveComplete (grove tile : Nat) (errs : List LineRead) (s0 : State) : Host.Outcome State Fault Refusal :=
  let s := noteReads errs s0
  done (match s.tier.moves.find? (fun m => m.grove = grove && m.tile = tile) with
    | none => s
    | some m =>
      if !working s || metaHeld s || !portOpen s (regFor s 1) 2048 then s
      else
        let s1 := wakeFrame m.dst (wakeFrame m.src s)
        let s2 := forEach (List.range 1024) (fun i u =>
          let r := copierLine grove tile i 288 u
          match r.2 with
          | some d => putT1 m.dst i d r.1
          | none => markT1 m.dst i r.1) s1
        let s3 := updTile grove tile (fun e => { e with frame := some m.dst }) (dropFrame m.src (unsend grove tile s2))
        let s4 := moved 3 288 grove (tile * 1024) 1024 <| chargeLines (regFor s 1) 2048 { s3 with tier := { s3.tier with moves := s3.tier.moves.erase m } }
        finishEvac (runQueue s4))

/-- RETURN (R206, R228): the set's channels train; only an OFFLINE set, with no evacuation or RETURN running. -/
def execReturnSet (p : Path) (set : Nat) (s : State) : Host.Outcome State Fault Refusal :=
  done (ctlWrite p (regAddr .dramEvacCmd) (fun t =>
    let n := set % 16
    if !(setOf t n).valid || (setOf t n).state != 2 || t.dram.evBusy then evacResult n 2 t
    else
      setChannels n (powerUp .training) (updSet n (fun x => { x with state := 3 })
        { t with dram := { t.dram with evBusy := true, evSafe := t.dram.evSafe.filter (· ≠ n), evSet := n, evResult := 0 } })) s)

/-- R206: what the trained values of a channel are keyed by. -/
def trainKey (s : State) (c : Nat) (t : DramTrain) : TrainKey := ⟨t.serials, fld s .dramNodeCfg 23 16, c⟩

/-- R206: the trained values of a channel are saved, and held in the PHY. -/
def saveTrain (c : Nat) (t : DramTrain) (s : State) : State :=
  let k := trainKey s c t
  updCh c (fun x => { x with phy := some k }) { s with cfg := { s.cfg with savedDram := SMap.put s.cfg.savedDram c (some k) } }

/-- RETURN_TRAINING_COMPLETE (R202, R206, R228, R231): what the set's channels give, in order; ONLINE with every frame
free, or OFFLINE with result 4. -/
def execReturnTrainingComplete (set : Nat) (dram : List DramTrain) (s : State) : Host.Outcome State Fault Refusal :=
  done (if !(setOf s set).valid || (setOf s set).state != 3 then s
    else
      let x := setOf s set
      let chs := List.range (2 ^ x.log2)
      let ok := chs.all (fun k => ((dram[k]?).map (fun t => t.matchesImage && t.trained)).getD false)
      let s1 := forEach chs (fun k u => match dram[k]? with
        | some t => updCh (x.first + k) (fun c => { c with trainMs := t.msTaken, trained := 0 }) u
        | none => u) { s with dram := { s.dram with evBusy := false } }
      if ok then
        let s2 := forEach chs (fun k u => match dram[k]? with
          | some t => saveTrain (x.first + k) t u
          | none => u) s1
        runQueue (setChannels set (fun c => { powerUp .online c with patrol := 0, lapStart := now s, lateLap := false })
          (updSet set (fun x => { x with state := 0 }) s2))
      else
        setChannels set powerDown (updSet set (fun x => { x with state := 2 })
          { s1 with dram := { s1.dram with evSafe := insertNat set s1.dram.evSafe, evSet := set, evResult := 4 } }))

/-- ABORT (R228): the running evacuation stops; frames already moved stay. -/
def execAbortEvac (p : Path) (set : Nat) (s : State) : Host.Outcome State Fault Refusal :=
  done (ctlWrite p (regAddr .dramEvacCmd) (fun t =>
    match evacuating t with
    | some n =>
      setChannels n (fun c => if c.state == .evacuating then { c with state := .online } else c)
        (updSet n (fun x => { x with state := 0 })
          { t with dram := { t.dram with evBusy := false, evSet := set % 16, evResult := 5 } })
    | none => evacResult (set % 16) 2 t) s)

end Sys2Proof.Machine
end

