-- ==== Sys2Proof/Machine/Nand.lean ====
section
/-!
DEFINITION. The commands of the NAND tier: reads and the ladder (R241, R247, R253), programs (R131, R158, R243),
erases (R250), reclaim and relocation (R244, R245, R249), wear levelling (R246), stripe parity (R238), dead dies
(R253, R254), the background scan (R255) and the Cellar region (R251).
-/

namespace Sys2Proof.Machine

open Sys2Proof

/-- The part has the die (R10, R236). -/
def hasDie (s : State) (ch die : Nat) : Bool := decide (ch < nNand s) && decide (die < 32)

/-! ## Repairs and relocations -/

/-- R152, R153: sectors of a tile are to be repaired; a tile has one repair, which others join. The peer is asked
where parity cannot serve. -/
def startRepair (g t : Nat) (sectors : BitVec 16) (origin : Nat) (s : State) : State :=
  if s.tier.repairs.any (fun r => r.grove = g && r.tile = t) then
    let add (r : Repair) : Repair := { r with sectors := r.sectors ||| sectors }
    { s with tier := { s.tier with repairs := mapIf (fun r => r.grove = g && r.tile = t) add s.tier.repairs } }
  else
    let ask := peerRepair s g t && !parityOn s
    let s1 := { s with tier := { s.tier with repairs := s.tier.repairs ++
      [{ grove := g, tile := t, sectors := sectors, waiters := [], origin := origin, asked := ask }] } }
    onlyIf ask (sendUtl (.repairReq g t sectors)) s1

/-! ## Reads -/

/-- Retry-table entries in use (R241, R258). -/
def retryMax (s : State) : Nat := fld s .nandNodeCfg 15 11

/-- R241: what the ladder counts and raises on a channel; `entries` retry entries were read. -/
def ladder (ch : Nat) (o : Ladder) (s : State) : State :=
  let soft (t : State) : State := nandEvent ch 0 (bumpRc .nandLadder ch 31 16 1 t)
  let retry (n : Nat) (t : State) : State := bumpRc .nandLadder ch 15 0 n t
  let most := retryMax s
  match o with
  | .hard => s
  | .soft1 => soft s
  | .retry k => retry (min k most) (soft s)
  | .soft2 => retry most (soft s)
  | .uncorr => nandEvent ch 1 (bumpRc .nandUeCount ch 31 0 1 (retry most (soft s)))

/-- R241: the ladder reached step 3. -/
def reached3 : Ladder → Bool
  | .hard => false
  | .soft1 => false
  | _ => true

/-- R241, R247: page reads that a codeword's ladder adds to its slot's. -/
def ladderReads (s : State) (o : Ladder) : Nat :=
  match o with
  | .hard => 0
  | .soft1 => 2
  | .retry k => 2 + min k (retryMax s)
  | .soft2 => 4 + retryMax s
  | .uncorr => 4 + retryMax s

/-- R241, R247: a slot is read whole; the listed codewords climb the ladder. -/
def readWhole (n : Nat) (reads : List (Nat × Ladder)) (s : State) : State :=
  forEach reads (fun r u => countReads n (ladderReads u r.2) (ladder (t2Ch n) r.2 u)) (countReads n 1 s)

/-- R247, R253: the other 15 members of a slot's stripe are read. -/
def readStripe (n : Nat) (s : State) : State :=
  forEach (((List.range 16).map (stripeSlot (stripeKey n))).filter (fun m => m != n && !dieGone s m)) (fun m u => countReads m 1 u) s

/-- The sectors a list of codewords names as uncorrectable. -/
def badSectors (reads : List (Nat × Ladder)) : BitVec 16 :=
  ofBits 16 ((reads.filter (fun r => r.2 == .uncorr)).map (fun r => r.1 % 16))

/-- A codeword of a T2 slot was read: the ladder, and what it leads to; a slot on a DEAD die comes from its stripe
or goes to repair (R152, R241, R253). -/
def readSlot (g t n sec origin : Nat) (o : Ladder) (s : State) : State :=
  let bit := BitVec.ofNat 16 (2 ^ (sec % 16))
  if !protOk s 5 n then protGet 5 n s
  else if dieGone s n then (if stripeGives s n && o != .uncorr then readStripe n s else startRepair g t bit origin s)
  else
    let s1 := countReads n (ladderReads s o) (ladder (t2Ch n) o (protGet 5 n s))
    match o with
    | .uncorr => startRepair g t bit origin s1
    | x => if reached3 x then queueReloc n s1 else s1

/-- R249, R253: the slot a promotion reads: the one a die reads for it, be it relocated since, or one that its DEAD die
leaves to the stripe. -/
def slotRead (s : State) (g t : Nat) : Option Nat :=
  match s.nand.dies.findSome? (fun p => match p.2.rd with
    | some ⟨_, .read h x n⟩ => if h = g && x = t then some n else none
    | _ => none) with
  | some n => some n
  | none => (tile s g t).t2.filter (dieGone s)

/-- R240: this codeword can come: the critical one is transferred first, so it follows another only where it climbed the
ladder. -/
def codewordDue (p : Promo) (sec : Nat) (o : Ladder) : Bool := !(sec = secOf p.line && p.read != 0 && o == .hard)

/-- A codeword of a promotion's tile has been read. -/
def cwRead (g t sec : Nat) (s : State) : State :=
  updPromo g t (fun x => { x with read := x.read ||| BitVec.ofNat 16 (2 ^ sec) }) s

/-- NAND_READ_COMPLETE (R137, R240, R241): a codeword of a promotion's T2 copy, or a Cellar record, was read. -/
def execNandReadComplete (grove tile sector : Nat) (o : Ladder) (s : State) : Host.Outcome State Fault Refusal :=
  done (match promoOf s grove tile with
    | none => s
    | some p =>
      let origin := if p.kind = 1 then 2 else 0
      let bit := BitVec.ofNat 16 (2 ^ sector)
      if !working s || 16 ≤ sector || p.read.getLsbD sector then s
      else if fromCellar s grove tile sector then
        let s1 := match celBlkOf s (skey grove tile sector) with
          | some b => countBlock b (1 + ladderReads s o) (ladder (b / 2 ^ 17) o s)
          | none => s
        cwRead grove tile sector (if o = .uncorr then startRepair grove tile bit origin s1 else s1)
      else match slotRead s grove tile with
        | none => s
        | some n =>
          if !codewordDue p sector o then s
          else
            let s1 := if p.read = 0 && !dieGone s n then countReads n 1 s else s
            cwRead grove tile sector (readSlot grove tile n sector origin o s1))

/-- R255: what the scan finds in a codeword: of a live slot, with ORIGIN 1; of a parity member; of a Cellar block; anchor
records are read too. -/
def scanAt (t2 sector : Nat) (o : Ladder) (s : State) : State :=
  let counted (u : State) : State := countReads t2 (1 + ladderReads u o) (ladder (t2Ch t2) o u)
  match liveSlot s t2 with
  | some (g, t) => readSlot g t t2 sector 1 o (countReads t2 1 s)
  | none =>
    if isParity s t2 && (SMap.find s.nand.owners t2).isSome then
      onlyIf (o == .uncorr) (fun u => ftlCause 1 { u with tier := { u.tier with
        unprotected := insertNat (stripeKey t2) u.tier.unprotected } }) (counted s)
    else match (SMap.find s.nand.cellar (t2Blk t2)).bind (fun b => ((b.recs[t2Slot t2 * 16 + sector]?).getD none)) with
      | some key =>
        let g := key / 2 ^ 36
        let t := key / 16 % 2 ^ 32
        onlyIf (o == .uncorr && fromCellar s g t (key % 16)) (startRepair g t (BitVec.ofNat 16 (2 ^ (key % 16))) 1) (counted s)
      | none => s

/-- R255: codewords of a lap: live slots, Cellar records and anchor records. -/
def scanTotal (s : State) : Nat :=
  16 * liveT2 s + (SMap.present s.nand.cellar).foldl (fun n p => n + p.2.recs.length) 0
    + s.nand.anchors.foldl (fun n p => n + p.2.length) 0

/-- The die has nothing to do. -/
def dieIdle (s : State) (k : Nat) : Bool := dieLoad s k = 0

/-- BACKGROUND_SCAN (R255): the next codeword of the lap, in idle time of its die. -/
def execBackgroundScan (t2 sector : Nat) (o : Ladder) (s : State) : Host.Outcome State Fault Refusal :=
  done (if !isReady s || !working s || 16 ≤ sector || !dieIdle s (t2 / 2 ^ 22) then s
    else
      let s1 := scanAt t2 sector o s
      let took := now s - s1.nand.scanStart
      let late := decide (fld s .nandScanCfg 15 8 * 86400000000000 < took)
      let s2 := onlyIf (late && !s1.nand.scanLate) (ftlCause 3) { s1 with nand := { s1.nand with scanLate := late } }
      if scanTotal s ≤ s1.nand.scanPos + 1 then
        { s2 with nand := { s2.nand with scanLap := took / 3600000000000, scanPos := 0, scanStart := now s, scanLate := false } }
      else { s2 with nand := { s2.nand with scanPos := s2.nand.scanPos + 1 } })

/-! ## Programs -/

/-- A demoted tile that is clean again frees its frame (R141, R188, R243). -/
def freeIfClean (g t : Nat) (s : State) : State :=
  let s1 := if settleReady s g t then settleTile g t s else s
  let e := tile s1 g t
  if settleReady s g t && e.sdirty = 0 && !e.pinned && !tileLanded s1 g t && !moving s1 g t && !promoting s1 g t then freeFrame g t s1 else s1

/-- What follows a program of its kind (R141, R145, R158, R167, R226). -/
def afterProg (p : Prog) (s : State) : State :=
  match p.kind with
  | .trickle => s
  | .demotion => freeIfClean p.grove p.tile s
  | .evacDemotion => finishEvac (freeIfClean p.grove p.tile s)
  | .sealCopy =>
    let e := tile s p.grove p.tile
    if e.sealing && e.sdirty = 0 && !tileLanded s p.grove p.tile then finishSeal p.grove p.tile s else s
  | .drain => endDrain (updTile p.grove p.tile (fun e => { e with cellar := false }) s)
  | .repair => s
  | .relocation => s

/-- R131, R158, R243: a slot's program succeeded: the entry names the new copy, and the sectors not written while it ran
are clean. -/
def progOk (p : Prog) (s : State) : State :=
  let s0 := { s with tier := { s.tier with progs := s.tier.progs.filter (fun x => x.id ≠ p.id) } }
  let s1 := programSlot p.t2 p.grove p.tile (ownerKind s p.grove p.tile) p.lines s0
  if p.kind = .relocation || p.kind = .repair then updTile p.grove p.tile (fun x => { x with t2 := some p.t2 }) s1
  else afterProg p (updTile p.grove p.tile (fun x => { x with t2 := some p.t2, sdirty := x.sdirty &&& p.written }) s1)

/-- R237: what is left of a wordline is pad. -/
def padRest (w : Nat) (s : State) : State :=
  forEach ((wlSlots s w).filter (fun n => (SMap.find s.nand.owners n).isNone && !isParity s n)) padSlot s

/-- R243: a wordline's program succeeded. -/
def wlOk (w : Nat) (s : State) : State := padRest w (forEach (wlProgs s w) progOk s)

/-- R243: a wordline's program failed: PROG_FAIL; its slots go to another die, the block's live slots move, and the block
is retired once they have. -/
def wlFailed (w : Nat) (s : State) : State :=
  let b := w / 1024
  let k := b / 2 ^ 12
  let s1 := forEach (wlProgs s w) (rewrite k) { s with nand := { s.nand with failing := insertNat b s.nand.failing } }
  let s2 := forEach ((wlSlots s w).filter (fun n => (SMap.find s.nand.owners n).isNone)) (fun n u => putOwner n 0 0 5 [] u) s1
  dieFail k (forEach (liveSlots s2 (fun n => decide (n / 1024 = b))) queueReloc (mediaFault (k / 32) 0 (addBytes tileBytes s2)))

/-- R243: a wordline that is not full, reported programmed, was begun with the slots it had, nothing else running on its die
(log 96). -/
def wlBegin (w : Nat) (s : State) : State :=
  let k := w / 2 ^ 22
  let d := dieAt s k
  match d.queue.find? (fun o => o.job == .wordline w) with
  | some o =>
    if d.cur.isSome || d.rd.isSome || s.pwr.state == .cellar then s
    else updDieAt k (fun x => { x with queue := x.queue.erase o, cur := some o, susp := 0, held := false }) s
  | none => s

/-- R249: a program that completes within a Cellar action counts for the vault, which META has not closed. -/
def inVault (s : State) : State :=
  if s.pwr.state = .cellar then modVault (fun v => { v with meta_ := s.tier.md, index := cellarIndex s }) s else s

/-- NAND_PROGRAM_DONE (R131, R243, R249): the wordline of a T2 write reports. -/
def execNandProgramDone (id : Nat) (ok : Bool) (s : State) : Host.Outcome State Fault Refusal :=
  done (match s.tier.progs.find? (fun p => p.id = id) with
    | none => s
    | some p =>
      let w := wlOf s p.t2
      let k := p.t2 / 2 ^ 22
      let s1 := wlBegin w s
      if (!working s && s.pwr.state != .cellar) || ((dieAt s1 k).cur.map (·.job)) != some (.wordline w) then s
      else inVault (endCur k (if ok then wlOk w s1 else wlFailed w s1)))

/-! ## Erases and reclaim -/

/-- R236: superblocks of T2. -/
def allSupers (s : State) : Nat :=
  (((s.nand.dies.filter (fun p => p.2.state != .absent)).map (fun p => rowOf p.1)).dedup).length * t2Blocks s

/-- Superblocks free to be opened. -/
def freeSupers (s : State) : Nat := allSupers s - (usedSupers s).length

/-- R244: free superblocks stand below a limit in units of 0.1 %. -/
def supersBelow (s : State) (tenths : Nat) : Bool := decide (freeSupers s * 1000 < allSupers s * tenths)

/-- R244: the superblock reclaim takes: unprotected ones first, then fewest live slots. -/
def pickSuper (s : State) : Option Nat :=
  let un := s.tier.unprotected.map superOfStripe
  let c := (idleSupers s).map (fun k =>
    (if un.contains k || (celShort s && k % 2 ^ 12 + 1 = t2Blocks s) then 0 else 1, (liveSlots s (fun n => decide (superOf n = k))).length, k))
  (c.foldl (fun (b : Option (Nat × Nat × Nat)) x => match b with
    | none => some x
    | some y => if x.1 < y.1 || (x.1 = y.1 && x.2.1 < y.2.1) then some x else some y) none).map (·.2.2)

/-- R244: below CRIT the copies of the superblock that R140 does not protect are released. -/
def releaseSuper (k : Nat) (s : State) : State :=
  forEach (liveSlots s (fun n => decide (superOf n = k))) (fun n u => match liveSlot u n with
    | some (g, t) => if t2Releasable u g t then dropT2 g t u else u
    | none => u) s

/-- R244, R258: RECLAIM_CRIT, as free superblocks fall below CRIT. -/
def noteCrit (s : State) : State :=
  let crit := supersBelow s (fld s .nandReclaimCfg 23 16)
  onlyIf (crit && !s.nand.crit) (ftlCause 4) { s with nand := { s.nand with crit := crit } }

/-- RECLAIM (R140, R244, R249): below LOW a superblock's live slots wait for relocation, or it is erased when it has none
and no read to it is in flight. -/
def execReclaim (s : State) : Host.Outcome State Fault Refusal :=
  done (if !working s || !isReady s then s
    else if !supersBelow s (fld s .nandReclaimCfg 7 0) && s.tier.unprotected.isEmpty && !celShort s then noteCrit s
    else match pickSuper s with
      | none => t2Pressure (noteCrit s)
      | some k =>
        let s0 := noteCrit s
        let s1 := if s0.nand.crit then releaseSuper k s0 else s0
        let live := liveSlots s1 (fun n => decide (superOf n = k))
        if live.isEmpty then (if superRead s1 k then s1 else forEach (superBlocks k) startErase s1)
        else forEach live queueReloc s1)

/-- R329, R341: a relocation copies ciphertext, but in a roll a copy under the old generation is enciphered anew. -/
def rollReloc (g n : Nat) (s : State) : State :=
  let x := slotOf s (groveSlot s g)
  match SMap.find s.nand.owners n with
  | some o => if x.state = .rolling && decide (o.wseq < x.rollWseq) then useSlot (groveSlot s g) 16 s else s
  | none => s

/-- RELOCATION (R241, R244, R245): a live slot is read, the listed codewords climbing the ladder, and its content waits for
a program elsewhere; it goes on waiting while no slot, buffer or die can serve it. -/
def relocate (n : Nat) (reads : List (Nat × Ladder)) (s : State) : State :=
  let drop (u : State) : State := { u with nand := { u.nand with relocs := u.nand.relocs.filter (· ≠ n) } }
  match liveSlot s n with
  | none => drop s
  | some (g, t) =>
    if metaHeld s || s.tier.progs.any (fun p => p.grove = g && p.tile = t) || dieGone s n
        || (dieAt s (n / 2 ^ 22)).rd.isSome || (dieAt s (n / 2 ^ 22)).cur.isSome then s
    else if badSectors reads != 0 then drop (startRepair g t (badSectors reads) 0 (readWhole n reads s))
    else
      let p : Prog :=
        { id := s.ids, kind := .relocation, grove := g, tile := t, t2 := 0
          lines := SMap.readRun s.tier.t2 0 (n * 1024) 1024, written := 0, buf := true }
      match (takeBuf true s).bind (placeProg p none) with
      | some u => drop (readWhole n reads (rollReloc g n (bumpId u)))
      | none => t2Pressure s

/-- RELOCATION (R245). -/
def execRelocation (t2 : Nat) (reads : List (Nat × Ladder)) (s : State) : Host.Outcome State Fault Refusal :=
  done (if !working s then s else relocate t2 reads s)

/-- R247, R250: a block is erased: blank, with its counts. -/
def erased (b : Nat) (s : State) : State :=
  { s with
    tier := { s.tier with t2 := SMap.filterKeys s.tier.t2 (fun k => decide (k / 2 ^ 20 ≠ b)) }
    nand := { s.nand with
      owners := SMap.filterKeys s.nand.owners (fun n => decide (n / 1024 ≠ b))
      parityOwn := SMap.filterKeys s.nand.parityOwn (fun n => decide (n / 1024 ≠ b))
      half := s.nand.half.filter (· ≠ physBlk s b)
      reads := SMap.del s.nand.reads (physBlk s b)
      erases := SMap.upd s.nand.erases 0 (physBlk s b) (· + 1) } }

/-- R238: stripes of a superblock whose blocks are being erased are no longer counted. -/
def dropUnprotected (b : Nat) (s : State) : State :=
  { s with tier := { s.tier with unprotected := s.tier.unprotected.filter (fun k => decide (superOfStripe k ≠ superOf (b * 1024))) } }

/-- R236: an erased superblock is no longer the open one of its dies. -/
def closeSuper (b : Nat) (s : State) : State :=
  let r := rowOf (b / 2 ^ 12)
  if SMap.find s.nand.opens r = some (b % 2 ^ 12) then { s with nand := { s.nand with opens := SMap.del s.nand.opens r } } else s

/-- NAND_ERASE_DONE (R243, R247, R250): the block is free and its record cleared, or it is retired with ERASE_FAIL and its
record stays. -/
def execNandEraseDone (ch die block : Nat) (ok : Bool) (s : State) : Host.Outcome State Fault Refusal :=
  onUnit (hasDie s ch die) s (
    let k := ch * 32 + die
    let b := k * 4096 + block
    if ((dieAt s k).cur.map (·.job)) != some (.erase b) || !working s then s
    else
      let s1 := { s with nand := { s.nand with erasing := s.nand.erasing.filter (· ≠ b) } }
      let s2 := if ok then
          touchMeta (tkey 1023 8192) (modMeta (fun m => { m with
            erasePending := m.erasePending.filter (· ≠ physBlk s b) }) (erased b s1))
        else dieFail k (retireBlock b (mediaFault ch 1 s1))
      t2Pressure (noteCrit (dropUnprotected b (closeSuper b (endCur k s2)))))

/-! ## Wear levelling and read disturb -/

/-- R236, R246: the physical block serves T2 on its die. -/
def t2Phys (s : State) (k p : Nat) : Bool :=
  let m := (dieAt s k).remap
  (decide (p < t2Blocks s) && (SMap.find m p).isNone) || m.any (fun x => decide (x.1 < t2Blocks s) && x.2 = some p)

/-- Erase counts of a die's T2 blocks that have been erased, by physical block. -/
def dieErases (s : State) (k : Nat) : List (Nat × Nat) :=
  s.nand.erases.filter (fun p => decide (p.1 / 2 ^ 12 = k) && t2Phys s k (p.1 % 2 ^ 12))

/-- The highest. -/
def dieTop (s : State) (k : Nat) : Nat := (dieErases s k).foldl (fun m p => max m p.2) 0

/-- The lowest. -/
def dieLow (s : State) (k : Nat) : Nat :=
  let l := dieErases s k
  if l.length < t2Blocks s then 0 else l.foldl (fun m p => min m p.2) (dieTop s k)

/-- R246: the live slots of the superblock whose member on the die has the lowest erase count of those that hold any. -/
def leastWorn (s : State) (k : Nat) : Option Nat :=
  let c := ((liveSlots s (fun n => decide (n / 2 ^ 22 = k))).map t2Blk).dedup
  let wear (b : Nat) : Nat := SMap.get s.nand.erases 0 (physBlk s b)
  c.foldl (fun (m : Option Nat) b => match m with
    | none => some b
    | some x => if wear b < wear x then some b else some x) none

/-- STATIC_WEAR_LEVEL (R246): a die whose erase counts spread too far has its least-worn superblock relocated. -/
def execStaticWearLevel (ch die : Nat) (s : State) : Host.Outcome State Fault Refusal :=
  onUnit (hasDie s ch die) s (
    let k := ch * 32 + die
    if !working s || dieTop s k - dieLow s k ≤ fld s .nandWlDelta 15 0 then s
    else match leastWorn s k with
      | some b => if superOpen s (superOf (b * 1024)) then s
        else forEach (liveSlots s (fun n => decide (superOf n = superOf (b * 1024)))) queueReloc s
      | none => s)

/-- READ_DISTURB_LIMIT (R247): the block's live slots are queued for relocation. -/
def execReadDisturbLimit (ch die block : Nat) (s : State) : Host.Outcome State Fault Refusal :=
  onUnit (hasDie s ch die) s (
    let b := (ch * 32 + die) * 4096 + block
    if !working s || SMap.get s.nand.reads 0 (physBlk s b) < fld s .nandRdLimit 13 0 * 100 then s
    else forEach (liveSlots s (fun n => decide (t2Blk n = b))) queueReloc s)

/-- STRIPE_PARITY_TIMEOUT (R238): 10 ms after its first slot a stripe closes, once no member is being programmed. -/
def execStripeParityTimeout (grp die vblock slot : Nat) (s : State) : Host.Outcome State Fault Refusal :=
  onUnit (decide (grp * 16 < nNand s) && decide (die < 32)) s (
    let key := grp * 2 ^ 27 + die * 2 ^ 22 + vblock * 2 ^ 10 + slot
    match SMap.find s.nand.stripes key with
    | none => s
    | some x =>
      if !working s then s
      else if stripeBusy s key then { s with nand := { s.nand with stripes := SMap.put s.nand.stripes key (some { x with due := true }) } }
      else closeStripe key s)

/-! ## Rebuild -/

/-- R254: the walk is over: the die is RETIRED when its last slot has moved, and the next DEAD die follows. -/
def endRebuild (s : State) : State :=
  if s.nand.rbBusy && s.nand.rbLeft.isEmpty then
    startRebuild (settleDie s.nand.rbDie (updDieAt s.nand.rbDie (fun d => { d with state := .retiring })
      { s with nand := { s.nand with rbBusy := false } }))
  else s

/-- R254: the rate admits one more slot: rebuilt bytes since the rebuild began, in units of 100 MB/s. -/
def rebuildMay (s : State) : Bool :=
  decide (s.nand.rbDone * tileBytes * 10 ≤ fld s .nandRebuildCfg 15 0 * (now s - s.nand.rbStart))

/-- DIE_REBUILD (R253, R254): the next live slot of the die is reconstructed from its stripe and waits for a program at
priority 5, or, its stripe having lost a second member, goes to repair. `reads` names the members whose read climbed the
ladder. It waits for the rate, a slot, a staging buffer, and while grove 1,023 is at its bound (R160). -/
def execDieRebuild (reads : List (Nat × Ladder)) (s : State) : Host.Outcome State Fault Refusal :=
  done (if !working s || !s.nand.rbBusy || metaHeld s || !rebuildMay s then s
    else match s.nand.rbLeft with
      | [] => endRebuild s
      | n :: rest =>
        let s1 := { s with nand := { s.nand with rbLeft := rest, rbDone := s.nand.rbDone + 1 } }
        match liveSlot s n with
        | none => endRebuild s1
        | some (g, t) =>
          let member (r : Nat × Ladder) : Nat := stripeSlot (stripeKey n) (r.1 % 16)
          let climbed (u : State) : State := forEach reads (fun r v =>
            countReads (member r) (ladderReads v r.2) (ladder (t2Ch (member r)) r.2 v)) (readStripe n u)
          if !stripeGives s n || reads.any (fun r => r.2 == .uncorr) then
            let s2 := if stripeGives s n then climbed s1 else s1
            endRebuild (startRepair g t (BitVec.allOnes 16) 0 { s2 with nand := { s2.nand with rbResult := 1 } })
          else
            let p : Prog :=
              { id := s1.ids, kind := .repair, grove := g, tile := t, t2 := 0
                lines := SMap.readRun s1.tier.t2 0 (n * 1024) 1024, written := 0, prio := 5, buf := true }
            match (takeBuf true (dropReloc g t s1)).bind (placeProg p none) with
            | some u => endRebuild (climbed (spend .repair false (bumpId u)))
            | none => t2Pressure s)

/-- DIE_DEAD (R253). -/
def execDieDead (ch die : Nat) (s : State) : Host.Outcome State Fault Refusal :=
  onUnit (hasDie s ch die) s (killDie (ch * 32 + die) s)

/-! ## The Cellar region (R251) -/

/-- The latest vault's records: what the Cellar holds live (R251). -/
def celLive (s : State) : List Nat :=
  match s.tier.vault with
  | some v => s.tier.celRecs.filter (fun k => v.index.contains k)
  | none => []

/-- R251: the room one vault needs: D_bound + L + M, half of the region. -/
def celNeeded (s : State) : Nat :=
  ((SMap.keys s.nand.dies).filter (dieOnline s)).length * s.tier.celBlocks * slcBlock s / 2

/-- R251: the block with the fewest live records, whose records are written anew at the log's end before its erase. -/
def celCompact (s : State) : State :=
  let live (p : Nat × CelBlock) : List Nat := (p.2.recs.filterMap id).filter (fun k => (celLive s).contains k)
  let c := ((SMap.present s.nand.cellar).map (fun p => (p.1, live p, p.2)))
  match c.foldl (fun (m : Option (Nat × List Nat × CelBlock)) x => match m with
    | none => some x
    | some y => if x.2.1.length < y.2.1.length then some x else some y) none with
  | none => s
  | some (b, l, y) => celErase b (forEach l (fun k t => celWrite y.vault .sectors (some k) t) s)

/-- CELLAR_BLOCK_ERASE (R143, R251): blocks without a live record are erased; when erased space falls below one vault's
room, live records are compacted; CELLAR_LOW while that is not enough. -/
def execCellarBlockErase (s : State) : Host.Outcome State Fault Refusal :=
  done (if !isReady s || !working s || s.tier.celBlocks = 0 || !turn 8 s then s
    else
      let recs := celLive s
      let dead := ((SMap.present s.nand.cellar).filter (fun p => !(p.2.recs.any (fun k => match k with
        | some x => recs.contains x
        | none => false)))).map (·.1)
      let s1 := forEach dead celErase { s with tier := { s.tier with
        celRecs := recs, cel := SMap.filterKeys s.tier.cel (fun a => recs.contains (a / 1024 * 16 + a % 1024 / 64)) } }
      let s2 := if celFree s1 < celNeeded s1 then celCompact s1 else s1
      let low := decide (celFree s2 < celNeeded s2)
      onlyIf (low && !s2.nand.celLow) (ftlCause 0) { s2 with nand := { s2.nand with celLow := low } })

end Sys2Proof.Machine
end

