-- ==== Sys2Proof/Machine/Cipher.lean ====
section
/-!
DEFINITION. The Cipher engine's commands: key slots (R331 to R341), the request queue (R345 to R348), lane self-test
(R349) and saturation (R344).
-/

namespace Sys2Proof.Machine

open Sys2Proof

/-! ## Slots -/

/-- Slots of the part (R331). -/
def nKeySlots (s : State) : Nat := if isSmall s then 2048 else 4096

/-- R338: session keys derived from a slot are discarded with it. -/
def dropSessions (n : Nat) (s : State) : State :=
  let x := slotOf s n
  match x.bind with
  | 3 =>
    let mine := match (img s).twin with
      | some t => t.linkSlot = n
      | none => false
    if mine && s.twin.link != .down then raise 424 (utlDown s) else s
  | 4 =>
    let cs := (List.range s.net.classes.length).filter (fun c => match s.net.classes[c]? with
      | some k => k.keySlot = some n
      | none => false)
    let ps := ((SMap.present s.net.peers).filter (fun p => cs.contains p.2.cls && bitOf p.2.feats 0)).map (·.1)
    forEach ps (fun p t => freePeer p (forEach (qpsOfPeer t p) freeQp t)) s
  | _ => s

/-- The command's result. -/
def cipherResult (n : Nat) (s : State) : State := { s with cipher := { s.cipher with cmdResult := n } }

/-- ZEROISE (R333): refused for the slot of a grove that exists. -/
def execZeroise (p : Path) (slot : Nat) (s : State) : Host.Outcome State Fault Refusal :=
  done (ctlWrite p (regAddr .ciphCmd) (fun t =>
    if nKeySlots t ≤ slot then cipherResult 2 t
    else
      let x := slotOf t slot
      if x.bind = 1 && (x.target = 1023 || (groveOf t x.target).any (fun r => r.keySlot = slot)) then cipherResult 1 t
      else cipherResult 0 (zeroSlot slot (dropSessions slot t))) s)

/-- ROLL (R333, R340): of a LOADED GROVE slot. -/
def execRoll (p : Path) (slot : Nat) (s : State) : Host.Outcome State Fault Refusal :=
  done (ctlWrite p (regAddr .ciphCmd) (fun t =>
    let x := slotOf t slot
    if nKeySlots t ≤ slot || x.bind ≠ 1 then cipherResult 2 t
    else if x.state = .rolling then cipherResult 3 t
    else if x.state != .loaded || t.cipher.dukBlocked then cipherResult 2 t
    else cipherResult 0 (startRoll slot t)) s)

/-- The lowest T1-resident tile of the slot's grove at or above ROLL_TILE. -/
def nextRollTile (s : State) (n : Nat) : Option Nat :=
  let g := (slotOf s n).target
  let from_ := SMap.get s.tier.rollTile 0 n
  (((tiles s).filter (fun p => p.1 = g && decide (from_ ≤ p.2.1) && p.2.2.frame.isSome)).map (fun p => p.2.1)).foldl
    (fun (b : Option Nat) t => match b with
      | none => some t
      | some m => some (min m t)) none

/-- Tiles of the slot's grove. -/
def rollEnd (s : State) (n : Nat) : Nat :=
  match groveOf s (slotOf s n).target with
  | some r => r.extents * 256
  | none => 0

/-- R341: live copies of the slot's grove that the old generation still covers. -/
def oldCopies (s : State) (n : Nat) : List Nat :=
  let x := slotOf s n
  ((tiles s).filter (fun p => p.1 = x.target)).filterMap (fun p => p.2.2.t2.filter (fun m =>
    match SMap.find s.nand.owners m with
    | some o => decide (o.wseq < x.rollWseq)
    | none => false))

/-- R219, R341: a frame's lines pass from the old key to the new; one that cannot be read becomes a marker. -/
def recrypt (g t : Nat) (s : State) : State :=
  match (tile s g t).frame with
  | none => s
  | some f =>
    forEach (badLines s g t) (fun i u =>
      let r := copierLine g t i 311 u
      match r.2 with
      | some d => putT1 f i d r.1
      | none => markT1 f i r.1) s

/-- ROLL_WALK (R341): the next resident tile is re-encrypted; after the last, copies under the old key wait for
relocation. -/
def execRollWalk (slot : Nat) (errs : List LineRead) (s0 : State) : Host.Outcome State Fault Refusal :=
  let s := noteReads errs s0
  let g := (slotOf s slot).target
  let setAt (k : Nat) (t : State) : State := { t with tier := { t.tier with rollTile := SMap.set t.tier.rollTile 0 slot k } }
  done (if !working s || (slotOf s slot).state != .rolling then s
    else match nextRollTile s slot with
      | none => forEach (oldCopies s slot) queueReloc (setAt (max (SMap.get s.tier.rollTile 0 slot) (rollEnd s slot)) s)
      | some t =>
        if moving s g t || promoting s g t || !portOpen s (regFor s 1) 2048 then s
        else
          let s1 := useGrove g t 1024 (recrypt g t (wakeTile g t s))
          setAt (t + 1) (moved 3 288 g (t * 1024) 1024 (chargeLines (regFor s 1) 2048 (useSlot slot 1024 s1))))

/-- ROLL_COMPLETE (R341): the walk and the relocations are over: one generation, 477. -/
def execRollComplete (slot : Nat) (s : State) : Host.Outcome State Fault Refusal :=
  let x := slotOf s slot
  done (if !working s || x.state != .rolling || (nextRollTile s slot).isSome || SMap.get s.tier.rollTile 0 slot < rollEnd s slot
      || !(oldCopies s slot).isEmpty || (tiles s).any (fun p => p.1 = x.target && p.2.2.cellar) then s
    else raise 477 (storeSlot slot (setSlot slot { x with state := .loaded, oldKey := 0, oldCtr := 0, rollWseq := 0 } s)))

/-- R335: a key may enter the slot. -/
def keyTakes (s : State) (n : Nat) : Bool :=
  decide (n < nKeySlots s) && (slotOf s n).state == .empty && (slotOf s n).bind != 0 && (slotOf s n).bind != 2
    && !s.cipher.dukBlocked && s.cfg.dbg != .opening

/-- R335: the command is refused with 475 and a code the spec does not state. -/
def refuseKey (p : Path) (tag code : Nat) (s : State) : State := raise 475 (refuseOpen p tag code s)

/-- A pair key imported anew lets the link train again (R339). -/
def keyEntered (n : Nat) (s : State) : State :=
  if (slotOf s n).bind = 3 then modTwin (fun t => { t with noRetry := false }) s else s

/-- KEY_GENERATE (R335). -/
def execKeyGenerate (p : Path) (tag : Nat) (v1 : Bool) (slot : Nat) (s : State) : Host.Outcome State Fault Refusal :=
  done (belvor p tag 0x32 (fromV2 v1 p tag 0x32 (mgmtOnly p tag 0x32 (fun t =>
    if !keyTakes t slot then refuseKey p tag 0x32 t
    else complete p tag 0x32 0 [] (keyEntered slot (generateKey slot t))))) s)

/-- KEY_IMPORT (R335). -/
def execKeyImport (p : Path) (tag : Nat) (v1 : Bool) (slot : Nat) (unwrapOk : Bool) (key : BitVec 512) (s : State) : Host.Outcome State Fault Refusal :=
  done (belvor p tag 0x33 (fromV2 v1 p tag 0x33 (mgmtOnly p tag 0x33 (fun t =>
    if !keyTakes t slot || !unwrapOk then refuseKey p tag 0x33 t
    else
      let x := slotOf t slot
      complete p tag 0x33 0 [] (keyEntered slot (storeSlot slot
        (setSlot slot { x with state := .loaded, key := key, ctr := 0, floor := 0, warn := false, usedEmpty := false } t)))))) s)

/-! ## The request queue -/

/-- Descriptors of the ring (R345). -/
def ringSize (s : State) : Nat := 2 ^ fld s .ciphRqSize 3 0

/-- CIPHER_RQ_BASE. -/
def ringBase (s : State) : Nat := fld s .ciphRqBaseLo 31 0 + fld s .ciphRqBaseHi 31 0 * 2 ^ 32

/-- The ring is stopped: event 483 (R345). -/
def stopRing (s : State) : State := raise 483 (setBit .ciphRqStatus 0 31 s)

/-- RQ_TAIL_WRITE (R345): a tail beyond the ring stops it. -/
def execRqTailWrite (p : Path) (tail : Nat) (s : State) : Host.Outcome State Fault Refusal :=
  done (ctlWrite p (regAddr .ciphRqTail) (fun t =>
    let t1 := setFld .ciphRqTail 0 11 0 (tail % 4096) t
    if ringSize t ≤ tail % 4096 then stopRing t1 else t1) s)

/-- RING_RESTART (R352). -/
def execRingRestart (p : Path) (s : State) : Host.Outcome State Fault Refusal :=
  done (ctlWrite p (regAddr .ciphRqStatus) (fun t => setFld .ciphRqStatus 0 31 31 0 t) s)

/-- `n` bytes of the service processor's data memory. -/
def spBytes (s : State) (a n : Nat) : List Byte := (List.range n).map (fun k => SMap.get s.cipher.spMem 0 (a + k))

/-- Writes bytes to it. -/
def spPut (a : Nat) (bs : List Byte) (s : State) : State :=
  { s with cipher := { s.cipher with spMem := SMap.writeRun s.cipher.spMem 0 a bs } }

/-- R346: a descriptor. -/
structure Desc where
  mode  : Nat
  inv   : Bool
  irq   : Bool
  slot  : Nat
  len   : Nat
  src   : Nat
  dst   : Nat
  aad   : Nat
  aadLen : Nat
  iv    : List Byte
  /-- every reserved field is 0 -/
  clean : Bool
  deriving DecidableEq, Repr

/-- Reads a descriptor's 64 bytes. -/
def descOf (b : List Byte) : Desc :=
  let m := leAt b 0 1 / 16
  let zeros (lo n : Nat) : Bool := leAt b lo n = 0
  { mode := m, inv := bitOf (leAt b 0 1) 0, irq := bitOf (leAt b 1 1) 0, slot := leAt b 2 2 % 4096
    len := leAt b 4 4, src := leAt b 8 8, dst := leAt b 16 8, aad := leAt b 24 8, aadLen := leAt b 32 4
    iv := slice b 40 16
    clean := leAt b 0 1 / 2 % 8 = 0 && leAt b 1 1 < 2 && leAt b 2 2 < 4096 && zeros 36 4
      && (m ≠ 2 || zeros 52 4) && (m < 3 || zeros 40 16) }

/-- R347: the input length is in the mode's range. -/
def lenOk (d : Desc) : Bool :=
  match d.mode with
  | 1 => decide (16 ≤ d.len) && decide (d.len ≤ 16777216) && d.aadLen = 0
  | 2 => decide (d.len ≤ 16777216) && decide (d.aadLen ≤ 65536)
  | 3 => decide (d.len ≤ 16777216) && d.aadLen = 0
  | _ => d.aadLen = 0 && (if d.inv then decide (16 ≤ d.len) && decide (d.len ≤ 4104) && d.len % 8 = 0
      else decide (1 ≤ d.len) && decide (d.len ≤ 4096))

/-- Bytes read at SRC, with the tag an inverse reads after them (R347). -/
def readLen (d : Desc) : Nat := d.len + (if d.inv && (d.mode = 2 || d.mode = 3) then 16 else 0)

/-- Bytes that can be written at DST. -/
def writeLen (d : Desc) : Nat :=
  match d.mode with
  | 1 => d.len
  | 2 => if d.inv then d.len else d.len + 16
  | 3 => if d.inv then 0 else 16
  | _ => if d.inv then d.len - 8 else if d.len ≤ 8 then 16 else 8 * ceilDiv d.len 8 + 8

/-- R348: CODE before the operation runs, in the order of length, addresses and slot that the model takes. -/
def descCode (s : State) (d : Desc) : Nat :=
  let fits (a n : Nat) : Bool := decide (a + n ≤ s.cipher.spSize)
  let x := slotOf s d.slot
  if d.mode < 1 || 4 < d.mode || !d.clean then 6
  else if !lenOk d then 4
  else if !fits d.src (readLen d) || !fits d.dst (writeLen d) || (d.mode = 2 && d.aadLen ≠ 0 && !fits d.aad d.aadLen) then 5
  else if x.state = .exhausted && x.bind = 5 then 3
  else if x.bind ≠ 5 || !slotUsable s d.slot || x.pair ≠ (d.mode == 1) then 2 else 0

/-- Exactly `n` bytes of a result. -/
def fitBytes (n : Nat) (l : List Byte) : List Byte := (List.range n).map (fun k => (l[k]?).getD 0)

/-- R347: what an operation writes at DST, and whether its check passed. -/
def cipherOp (d : Desc) (key : BitVec 512) (inp aad : List Byte) : List Byte × Bool :=
  let text := inp.take d.len
  let pars := d.iv ++ aad
  let op := d.mode * 2 + b2n d.inv
  let res := Config.aes op key pars text
  match d.mode with
  | 1 => (fitBytes d.len res, true)
  | 2 =>
    let out := fitBytes d.len res
    if d.inv then (out, fitBytes 16 (Config.tag 2 key pars text) == inp.drop d.len)
    else (out ++ fitBytes 16 (Config.tag 2 key pars out), true)
  | 3 =>
    let t := fitBytes 16 (Config.tag 3 key [] text)
    if d.inv then ([], t == inp.drop d.len) else (t, true)
  | _ =>
    if d.inv then (fitBytes (min res.length (d.len - 8)) res, (Config.tag 4 key [] text).isEmpty)
    else (fitBytes (writeLen d) res, true)

/-- The descriptor's completion fields, and HEAD (R345, R346, R348). -/
def finishDesc (at_ outLen code : Nat) (irq : Bool) (s : State) : State :=
  let h := s.cipher.head
  let s1 := spPut (at_ + 62) [BitVec.ofNat 8 code, 1] (spPut (at_ + 56) (leBytes 4 outLen) s)
  let s2 := { s1 with cipher := { s1.cipher with head := (h + 1) % ringSize s } }
  let s3 := if code = 0 then s2 else raise 479 (bumpRc .ciphRqStatus 0 15 0 1 s2)
  if irq then send (.spIrq h) s3 else s3

/-- The descriptor at HEAD is processed, if it is of the mode; one of a reserved mode fails whichever engine takes
it. -/
def runDesc (mode : Nat) (s : State) : State :=
  let at_ := ringBase s + s.cipher.head * 64
  if !isReady s || fld s .ciphRqStatus 31 31 = 1 || s.cipher.head = fld s .ciphRqTail 11 0 then s
  else if s.cipher.spSize < ringBase s + ringSize s * 64 then stopRing s
  else
    let d := descOf (spBytes s at_ 64)
    if d.mode ≠ mode && 1 ≤ d.mode && d.mode ≤ 4 then s
    else
      let c := descCode s d
      if c ≠ 0 then finishDesc at_ 0 c d.irq s
      else
        let r := cipherOp d (slotOf s d.slot).key (spBytes s d.src (readLen d)) (spBytes s d.aad d.aadLen)
        let s1 := useSlot d.slot 1 s
        if r.2 then finishDesc at_ r.1.length 0 d.irq (spPut d.dst r.1 s1)
        else finishDesc at_ 0 1 d.irq (spPut d.dst (List.replicate (writeLen d) 0) s1)

/-- DESCRIPTOR_XTS (R347). -/
def execDescriptorXts (s : State) : Host.Outcome State Fault Refusal := done (runDesc 1 s)

/-- DESCRIPTOR_GCM (R347). -/
def execDescriptorGcm (s : State) : Host.Outcome State Fault Refusal := done (runDesc 2 s)

/-- DESCRIPTOR_CMAC (R347). -/
def execDescriptorCmac (s : State) : Host.Outcome State Fault Refusal := done (runDesc 3 s)

/-- DESCRIPTOR_KWP (R347). -/
def execDescriptorKwp (s : State) : Host.Outcome State Fault Refusal := done (runDesc 4 s)

/-! ## Lanes and saturation -/

/-- LANE_SELF_TEST (R349). -/
def execLaneSelfTest (lane : Nat) (ok : Bool) (s : State) : Host.Outcome State Fault Refusal :=
  onUnit (decide (lane < nLanes s)) s (
    if !isReady s || ok || s.cipher.badLanes.contains lane then s
    else raise 480 { s with cipher := { s.cipher with badLanes := s.cipher.badLanes ++ [lane] } })

/-- CIPHER_SATURATION (R344, R352): a class has waited so many µs; above 10 µs is saturation. -/
def execCipherSaturation (cls us : Nat) (s : State) : Host.Outcome State Fault Refusal :=
  onUnit (decide (cls < 9)) s (
    if !s.cipher.lanesUp then s
    else
      let s1 := bumpRc .ciphClassWait cls 31 0 us s
      let l := if 10 < us then insertNat cls s.cipher.sat else s.cipher.sat.filter (· ≠ cls)
      onlyIf (s.cipher.sat.isEmpty && !l.isEmpty) (raise 478) { s1 with cipher := { s1.cipher with sat := l } })

end Sys2Proof.Machine
end

