-- ==== Sys2Proof/Machine/Power.lean ====
section
/-!
DEFINITION. The commands of the power supervisor: VDD_AON, stage 1, the rails of stage 2, the input pins,
power-down, the power log, the power commands, and Clearing.
-/

namespace Sys2Proof.Machine

open Sys2Proof

/-! ## VDD_AON and stage 1 -/

/-- R386: the silicon default table. -/
def siliconTable : PTable :=
  { steps := (List.range 12).map (fun n => { en := n, pgMs := 20, lowMs := 20, settle := 1 })
    retries := 2
    stretch := [100, 100, 100, 100]
    depends := [0xFFF, 0xFFF, 0xFFF, 0xFFF]
    throttle := 100
    restartHold := false
    checked := true
    estoreReq := false }

/-- What the supervisor keeps without VDD_AON: the sector and the ring, which stand in the store. -/
def freshPwr (s : State) : Pwr := { sector := s.pwr.sector, ring := s.pwr.ring, ringAt := s.pwr.ringAt, recSeq := s.pwr.recSeq }

/-- VDD_AON_VALID (R382): the AON domain comes out of reset and a cold bring-up starts. -/
def execVddAonValid (s : State) : Host.Outcome State Fault Refusal :=
  done (if s.pwr.aon then s
    else startStage1 0
      { s with pwr := { freshPwr s with aon := true }
               regs := []
               clk := { s.clk with running := 0x1000000 }
               therm := { s.therm with tripAnalog := false, tripSensor := 0, tripTemp := 0 } })

/-- VDD_AON_LOSS (R388): the supervisor, its buffer and its registers are lost, with everything else. A vault in
progress ends at a place the spec does not give (log 3). -/
def execVddAonLoss (s : State) : Host.Outcome State Fault Refusal :=
  let cut : VaultCut :=
    if Config.choose s.free 2 = 1 then .afterLm (Config.choose (s.free + 1) (vaultTodo s).length) else .beforeLm
  let s1 := if s.pwr.state = .cellar then useFree (useFree (cutVault cut s)) else s
  let s2 := powerLoss (cutKeyErase (abandonStore s1))
  done (if s.pwr.aon then { s2 with pwr := freshPwr s, regs := [], flt := {}, clk := {} } else s)

/-- R474: half-erased sectors among those given are erased again, with event 585 for each. -/
def reErase (l : List Nat) (s : State) : State :=
  forEach l (fun n t =>
    if sectorWhole (SMap.get t.cfg.hdrs {} n) then t else raisePwr 585 (eraseSector n t)) s

/-- R478: everything in both banks is erased and level 0 is programmed. -/
def massErase (s : State) : State :=
  { s with
    cfg := { s.cfg with
      flash := []
      hdrs := (List.range 1024).map (fun n =>
        (n, { SMap.get s.cfg.hdrs {} n with started := true, done := true, erases := (SMap.get s.cfg.hdrs {} n).erases + 1 }))
      copies := (List.range 6).map (fun k => (k, { ok := false }))
      node := { provMark := false }, rdp := 0, lowering := false }
    cipher := { s.cipher with wrapped := [], logUsed := [] }
    integ := { s.integ with pending := [] }
    pwr := { s.pwr with sector := none, ring := [], ringAt := 0, recSeq := 0 } }

/-- STAGE_1 (R385, R396, R401, R404, R406, R466, R474, R478): crystal, straps, the power table, and the first step of
the rails. -/
def execStage1 (i : Stage1In) (s : State) : Host.Outcome State Fault Refusal :=
  done (if s.pwr.state != .powerUp || s.pwr.stage != 1 || s.pwr.waitSupply || s.pwr.stopped then s
    else if !i.crystalOk then stopNode s
    else
      let s0 := if s.cfg.lowering then raisePwr 591 (raisePwr 590 (massErase s)) else s
      let s1 := modPwr (fun p => { p with nodeB := i.nodeB, boot := i.boot % 4, i3cAddr := i.i3cAddr % 8, unstable := i.unstable }) s0
      let s2 := onlyIf i.unstable (raisePwr 628) s1
      let s3 := readCopies 2 (readCopies 0 (reErase [0x100, 0x103, 0x300, 0x303] (markCopies 2 (markCopies 0 s2))))
      let s4 := match s3.pwr.sector with
        | some t => modPwr (fun p => { p with table := some t, dflt := false }) s3
        | none => raisePwr 8 (logPwr 0x10 1032 (modPwr (fun p => { p with table := some siliconTable, dflt := true }) s3))
      beginStep 0 s4)

/-! ## Rails -/

/-- The rail that stage 2 is waiting for. -/
def stepRail (s : State) : Option Nat := ((tableOf s).steps[s.pwr.step]?).map (·.en)

/-- PG_GOOD (R384, R387): a rail's PG rises; the step's settle time starts. -/
def execPgGood (n : Nat) (s : State) : Host.Outcome State Fault Refusal :=
  onUnit (decide (n < 12)) s (if !s.pwr.aon then s
    else
      let s1 := setPg n true s
      if s.pwr.stage = 2 && s.pwr.sub = 0 && !s.pwr.retrying && stepRail s == some n then
        modPwr (fun p => { p with sub := 1 }) s1
      else s1)

/-- PG_TIMEOUT (R388): the step's PG did not rise in time. -/
def execPgTimeout (n : Nat) (s : State) : Host.Outcome State Fault Refusal :=
  onUnit (decide (n < 12)) s (
    if s.pwr.stage = 2 && s.pwr.sub = 0 && !s.pwr.retrying && stepRail s == some n && !s.pwr.pg.getLsbD n then stepFails n s
    else s)

/-- SETTLE_EXPIRY (R387): the next step begins, or stage 3. -/
def execSettleExpiry (s : State) : Host.Outcome State Fault Refusal :=
  done (if s.pwr.stage = 2 && s.pwr.sub = 1 && !s.pwr.retrying then beginStep (s.pwr.step + 1) s else s)

/-- RAIL_RETRY_EXPIRY (R388): a new attempt from the first step. -/
def execRailRetryExpiry (s : State) : Host.Outcome State Fault Refusal :=
  done (if s.pwr.stage = 2 && s.pwr.sub = 2 && s.pwr.retrying then
      beginStep 0 (modPwr (fun p => { p with attempt := p.attempt + 1, retrying := false, sub := 0 }) s)
    else s)

/-- RSTO_STRETCH_EXPIRY (R389): RSTO_N[i] goes high when the rails it depends on are good. -/
def execRstoStretchExpiry (i : Nat) (s : State) : Host.Outcome State Fault Refusal :=
  let mask := ((tableOf s).depends[i]?).getD 0xFFF
  onUnit (decide (i < 4)) s (
    if (s.pwr.state = .powerUp || s.pwr.state = .on) && !s.pwr.retrying && s.pwr.pg &&& mask = mask && 2 ≤ s.pwr.stage then
      modPwr (fun p => { p with rsto := p.rsto ||| BitVec.ofNat 4 (2 ^ i) }) s
    else s)

/-- PG_LOSS (R391, R71): a rail lost while enabled; a vault in progress is cut where it stands. -/
def execPgLoss (n : Nat) (cut : VaultCut) (s : State) : Host.Outcome State Fault Refusal :=
  onUnit (decide (n < 12)) s (
    if !s.pwr.en.getLsbD n || !s.pwr.pg.getLsbD n then s
    else if s.pwr.state = .powerDown || s.pwr.retrying then setPg n false s
    else
      let s1 := raisePwr 2 (logPwr 0x08 1026 (setPg n false s))
      let hold := s.pwr.state == .cellar && s.pwr.toHold
      let s2 := if s.pwr.state = .cellar then cutVault cut s1 else sendLeaving s1
      startDown hold s2)

/-- The rails still to fall after the one at the head. -/
def nextRails (s : State) : State := dropRails 13 (s.pwr.downSteps.drop 1) s

/-- PG_FALL (R390): the awaited rail is down; the next one follows. -/
def execPgFall (n : Nat) (s : State) : Host.Outcome State Fault Refusal :=
  onUnit (decide (n < 12)) s (
    let s1 := if s.pwr.pg.getLsbD n then setPg n false s else s
    if s.pwr.downSteps.head? == some n && !s.pwr.flushWait && !s.pwr.en.getLsbD n then nextRails s1 else s1)

/-- PG_LOW_TIMEOUT (R390): a rail that does not fall is recorded, and the next one follows. -/
def execPgLowTimeout (n : Nat) (s : State) : Host.Outcome State Fault Refusal :=
  onUnit (decide (n < 12)) s (
    if s.pwr.downSteps.head? == some n && !s.pwr.flushWait && s.pwr.pg.getLsbD n && !s.pwr.en.getLsbD n then
      nextRails (raisePwr 3 (logPwr 0x07 1027 (railFail n s)))
    else s)

/-! ## The power log (R399) -/

/-- R399, R465: the bank whose sector of the ring takes the next record: bank 0's first. -/
def ringBank (s : State) : Nat := s.pwr.ringAt / 1024 % 2

/-- A record enters the ring; when it wraps the older sector's 1,024 records go. -/
def pushRing (r : PwrRec) (s : State) : State :=
  let s1 := if s.pwr.ring.length < 2048 then s
    else eraseSector (ringBank s * 512 + 0x101) (modPwr (fun p => { p with ring := p.ring.drop 1024 }) s)
  modPwr (fun p => { p with ring := p.ring ++ [r], ringAt := p.ringAt + 1 }) s1

/-- Every buffered record is programmed, unless a register-issued command runs on the ring's bank (R471). -/
def flushLog (s : State) : State :=
  if s.cfg.eng.busy && s.cfg.eng.bank == ringBank s then s
  else modPwr (fun p => { p with buf := [] }) (forEach s.pwr.buf pushRing s)

/-- The store's rails are good. -/
def storeUp (s : State) : Bool := s.pwr.pg.getLsbD 0 && s.pwr.pg.getLsbD 8

/-- POWER_LOG_PROGRAM (R399): the buffer is programmed, or a collapse tears the oldest record, which stays. -/
def execPowerLogProgram (torn : Bool) (s : State) : Host.Outcome State Fault Refusal :=
  done (if !storeUp s then s
    else if torn then
      match s.pwr.buf with
      | r :: _ => pushRing { r with torn := true } s
      | [] => s
    else flushLog s)

/-- LOG_FLUSH_DONE (R390): the buffer is programmed and the store's rails are released. -/
def execLogFlushDone (s : State) : Host.Outcome State Fault Refusal :=
  done (if s.pwr.flushWait then
      let s1 := modPwr (fun p => { p with flushWait := false }) (flushLog s)
      dropRails 13 s1.pwr.downSteps s1
    else s)

/-- R399, R400: the records that read-out shows, newest first: in CHECKED mode, those whose CRC holds. -/
def readable (s : State) : List PwrRec :=
  (if (tableOf s).checked then s.pwr.ring.filter (fun r => !r.torn) else s.pwr.ring).reverse

/-! ## Input pins -/

/-- INFAIL_N_ASSERT (R393, R397): the filtered input acts on the node's state; a further assertion before a
re-arm does nothing. -/
def execInfailNAssert (s : State) : Host.Outcome State Fault Refusal :=
  done (if !s.pwr.aon || s.pwr.infail then s
    else
      let s1 := raisePwr 4 (logPwr 0x04 1028 (modPwr (fun p => { p with infail := true, infailUps := p.infailUps + 1 }) s))
      let s2 := onlyIf (decide (0 < s.pwr.infailUps)) (raisePwr 629) s1
      if s.pwr.stage = 0 || s.pwr.stage = 0xB || s.pwr.stage = 0xC then s2
      else if s.pwr.stage = 1 then modPwr (fun p => { p with waitSupply := true }) s2
      else if isReady s || (s.pwr.warm && !s.pwr.stopped && (s.pwr.stage = 8 || s.pwr.stage = 9)) then
        if canVault s then cellarAction (modPwr (fun p => { p with toHold := false }) s2)
        else startDown false (raisePwr 5 (sendLeaving s2))
      else startDown false (sendLeaving s2))

/-- INFAIL_N_DEASSERT (R392, R393, R395). -/
def execInfailNDeassert (s : State) : Host.Outcome State Fault Refusal :=
  done (if !s.pwr.infail then s
    else
      let s1 := modPwr (fun p => { p with infail := false }) s
      if s.pwr.stage = 0xB || s.pwr.stage = 0xC then raisePwr 6 (logPwr 0x09 1030 s1)
      else if s.pwr.stage = 1 then modPwr (fun p => { p with waitSupply := false }) s1
      else tryAuto s1)

/-- ESTORE_OK_ASSERT (R392, R394). -/
def execEstoreOkAssert (s : State) : Host.Outcome State Fault Refusal :=
  done (if !s.pwr.aon || s.pwr.estore then s
    else tryAuto (logPwr 0x11 0 (modPwr (fun p => { p with estore := true }) s)))

/-- ESTORE_OK_DEASSERT (R394): event 7 while the node serves; a vault goes on. -/
def execEstoreOkDeassert (s : State) : Host.Outcome State Fault Refusal :=
  done (if !s.pwr.estore then s
    else onlyIf (isReady s && serving s) (raise 7) (logPwr 0x11 1031 (modPwr (fun p => { p with estore := false }) s)))

/-! ## Control outputs (R405, R411) -/

/-- The control outputs; `none` is high impedance, or an open-drain output that is released. -/
structure CtlPins where
  en        : List (Option Bool)
  rsto      : List (Option Bool)
  ready     : Option Bool
  stage     : Option Nat
  faultN    : Option Bool
  alertN    : Option Bool
  thermtrip : Option Bool
  deriving DecidableEq, Repr

/-- R411: every rail down: AON standby, the off time and GAVE_UP. -/
def railsDown (s : State) : Bool := !s.pwr.aon || s.pwr.stage == 0

/-- R405, R411: what the control outputs show. -/
def ctlPins (s : State) : CtlPins :=
  let up {α} (x : α) : Option α := if railsDown s then none else some x
  { en := (List.range 12).map (fun n =>
      if railsDown s || (SMap.find s.pwr.enAt n).isNone then none else some (s.pwr.en.getLsbD n))
    rsto := (List.range 4).map (fun i => if railsDown s || s.pwr.stage == 1 then none else some (s.pwr.rsto.getLsbD i))
    ready := up (s.pwr.stage == 0xA)
    stage := up s.pwr.stage
    faultN := if s.pwr.aon && s.pwr.state == .gaveUp then some false else up (!s.pwr.faultN)
    alertN := if s.flt.alert && !railsDown s then some false else none
    thermtrip := if s.pwr.aon && s.pwr.trip then some false else none }

/-! ## Power commands -/

/-- MIN_OFF_TIME_EXPIRY (R392): the restart policy decides. -/
def execMinOffTimeExpiry (s : State) : Host.Outcome State Fault Refusal :=
  done (if s.pwr.state != .offWait || s.pwr.offPast then s
    else if s.pwr.toHold || (tableOf s).restartHold then raisePwr 10 (modPwr (fun p => { p with state := .hold }) s)
    else tryAuto (modPwr (fun p => { p with offPast := true }) s))

/-- POWER_ON is accepted: in HOLD, once a thermal trip has cooled, and in GAVE_UP (R391, R414, R529). -/
def powerOnOk (s : State) : Bool := (s.pwr.state == .hold && !s.pwr.trip) || s.pwr.state == .gaveUp

/-- POWER_OFF is accepted (R414). -/
def powerOffOk (s : State) : Bool := s.pwr.state != .cellar && s.pwr.state != .powerDown

/-- R391, R414: what an accepted POWER_OFF does. -/
def powerOffNow (p : Path) (s : State) : State :=
  let s1 := logPwr 0x0C (srcOf p) s
  match s.pwr.state with
  | .hold => s1
  | .gaveUp => s1
  | .standby => s1
  | .offWait => modPwr (fun q => { q with toHold := true }) s1
  | _ => vaultDown true s1

/-- POWER_ON (R388, R414). -/
def execPowerOn (p : Path) (tag : Nat) (s : State) : Host.Outcome State Fault Refusal :=
  done (belvorPower p tag 0x60 (fun t =>
    if powerOnOk t then startStage1 2 (logPwr 0x0B (srcOf p) (complete p tag 0x60 0 [] t))
    else refuseOpen p tag 0x60 (refuseWrite p (regAddr .pwrCmd) t)) s)

/-- POWER_OFF (R391, R414). -/
def execPowerOff (p : Path) (tag : Nat) (s : State) : Host.Outcome State Fault Refusal :=
  done (belvorPower p tag 0x61 (fun t =>
    if powerOffOk t then powerOffNow p (complete p tag 0x61 0 [] t)
    else refuseOpen p tag 0x61 (refuseWrite p (regAddr .pwrCmd) t)) s)

/-- R413: PWR_SEQ_STATUS as it reads. -/
def seqStatus (s : State) : Nat :=
  let st := match s.pwr.state with
    | .standby => 0
    | .powerUp => 1
    | .on => 2
    | .cellar => 3
    | .powerDown => 4
    | .offWait => 5
    | .hold => 6
    | .gaveUp => 7
  st * 2 ^ 28 + s.pwr.step % 16 * 2 ^ 24 + s.pwr.attempt % 8 * 2 ^ 21 + b2n s.pwr.dflt * 2 ^ 20
    + b2n s.pwr.infail * 2 ^ 19 + b2n s.pwr.estore * 2 ^ 18 + b2n (tableOf s).estoreReq * 2 ^ 17
    + b2n (tableOf s).restartHold * 2 ^ 16 + s.pwr.pg.toNat

/-- POWER_STATUS (R403): the supervisor's status, as PWR_SEQ_STATUS gives it (log 12). -/
def execPowerStatus (p : Path) (tag : Nat) (s : State) : Host.Outcome State Fault Refusal :=
  done (belvorPower p tag 0x62 (fun t => complete p tag 0x62 0 [seqStatus t] t) s)

/-- The record that PWR_LOG_INDEX selects, as bytes; zeros where there is none. -/
def logRecord (s : State) : List Byte :=
  match (readable s)[fld s .pwrLogIndex 10 0]? with
  | some r => r.bytes (tableOf s).checked
  | none => List.replicate 64 0

/-- POWER_LOG_READ (R400, R485): outside READY the AON buffer, at READY the selected record. -/
def execPowerLogRead (p : Path) (tag : Nat) (s : State) : Host.Outcome State Fault Refusal :=
  done (belvorPower p tag 0x63 (fun t =>
    let bytes := if isReady t then logRecord t
      else (t.pwr.buf.map (fun r => r.bytes (tableOf t).checked)).flatten
    complete p tag 0x63 0 (bytes.map (·.toNat)) t) s)

/-! ## Clearing and the end of a vault -/

/-- CLEAR (R414): a Clearing at READY. -/
def execClear (p : Path) (s : State) : Host.Outcome State Fault Refusal :=
  done (ctlWrite p (regAddr .pwrCmd) (fun t =>
    if isReady t then raiseClearing 0x3FF t else refuseWrite p (regAddr .pwrCmd) t) s)

/-- CLEARING (R407 to R410): a trigger, with the event that carries it. -/
def execClearing (event : Nat) (s : State) : Host.Outcome State Fault Refusal :=
  onUnit (eventListed s event || event == 0x3FF) s (raiseClearing event s)

/-- CLEARING_ENTRY_DONE (R408, R409, R217): DIMMs in self-refresh, slots zeroised, the reset applied; stage 3. -/
def execClearingEntryDone (s : State) : Host.Outcome State Fault Refusal :=
  done (if s.pwr.stage != 0xD then s
    else allSelfRefresh (clearReset s))

/-- VAULT_COMPLETE (R162, R165, R251): the sections are written, `fails` naming sectors whose first program fails; FOOTER is written, the DIMMs enter self-refresh, and the power-down follows. -/
def execVaultComplete (fails : List Nat) (s : State) : Host.Outcome State Fault Refusal :=
  done (if s.pwr.state != .cellar then s
    else
      let s1 := writeSectors (cellarIndex s).length fails (writeLm s)
      let s2 := endVault (noteRecords (modVault (fun v => { v with
        cut := 2, count := (vaultTodo s).length, crc := crc32c (Config.cellarIndex v.index) }) (celWrite (vaultNum s1) .footer none s1)))
      startDown s.pwr.toHold (allSelfRefresh (logPwr 0x05 0 (raise 563 s2))))

end Sys2Proof.Machine
end

