-- ==== Sys2Proof/Machine/Bringup.lean ====
section
/-!
DEFINITION. Bring-up stages 3 to 6 (R401, R404): repairs and self-tests, the clocks, the image bank, and the
structure apply. Each stage is one command that ends it; a stage that fails stops the node.
-/

namespace Sys2Proof.Machine

open Sys2Proof

/-- A bring-up stage runs now: the supply is up, the node is not stopped and JTAG does not hold it. -/
def inStage (s : State) (n : Nat) : Bool := s.pwr.state == .on && s.pwr.stage == n && !s.pwr.stopped && !s.pwr.jtagHold

/-- STAGE[3:0] moves on (R405). -/
def toStage (n : Nat) (s : State) : State := modPwr (fun p => { p with stage := n }) s

/-! ## Stage 3 (R349, R393, R420) -/

/-- R420: a repair is counted against the array's spares: 4 rows, 2 columns. -/
def useSpare (m : Nat) (col : Bool) (s : State) : State :=
  let f (x : Nat × Nat) : Nat × Nat := if col then (x.1, min 2 (x.2 + 1)) else (min 4 (x.1 + 1), x.2)
  { s with integ := { s.integ with spares := SMap.upd s.integ.spares (0, 0) m f } }

/-- R420: a class whose repairs wait for a cold bring-up, because a Clearing keeps its contents. -/
def coldOnly (m : Nat) : Bool := macClass m == some 3 || macClass m == some 4

/-- R420, R430: the fuse map's repairs, then those of the pending list, with event 515. A warm bring-up counts no repair of a landing
array again, since it did not lose it. -/
def applyRepairs (s : State) : State :=
  let runs (m : Nat) : Bool := !s.pwr.warm || !coldOnly m
  let s0 := { s with integ := { s.integ with spares := SMap.filterKeys s.integ.spares (fun m => !runs m) } }
  let s1 := forEach s0.fuse.repairs (fun r t => if runs r.1 then useSpare r.1 r.2 t else t) s0
  let s2 := forEach s1.integ.pending (fun r t => if runs r.mac then useSpare r.mac r.isCol t else t) s1
  let mark (r : RepairRec) : RepairRec := if runs r.mac then { r with applied := true } else r
  onlyIf (s2.integ.pending.any (fun r => runs r.mac)) (raise 515)
    (putRepairs (s2.integ.pending.map mark) s2)

/-- R393: the deferred events are taken first, in stamp order. -/
def takeDeferred (s : State) : State :=
  let l := s.flt.deferred.mergeSort (fun a b => decide (a.1 ≤ b.1))
  { s with flt := { s.flt with deferred := []
                               raised := l.map (fun x => ⟨x.2, 0, 0, some x.1⟩) ++ s.flt.raised } }

/-- R399: under CHECKED, torn records found in the ring are counted, with event 11. -/
def tornFound (s : State) : State :=
  let n := (s.pwr.ring.filter (·.torn)).length
  if !(tableOf s).checked || n = 0 then s else raise 11 (bumpRc .pwrLogTorn 0 15 0 n s)

/-- R349: the lanes whose self-test fails are disabled, each with event 480. -/
def disableLanes (l : List Nat) (s : State) : State :=
  let bad := (l.filter (fun n => decide (n < nLanes s))).dedup
  forEach bad (fun _ t => raise 480 t) { s with cipher := { s.cipher with badLanes := bad, lanesUp := true } }

/-- STAGE_3 (R349, R393, R399, R401, R404, R420): the deferred events, the buffered power-log records, the fuse map, the
repairs, and at a cold bring-up BIST and the lane self-test. -/
def execStage3 (fuseOk bistOk : Bool) (badLanes : List Nat) (s : State) : Host.Outcome State Fault Refusal :=
  done (if !inStage s 3 then s
    else
      let s1 := flushLog (tornFound (takeDeferred s))
      if !fuseOk || !s.fuse.calOk then stopNode s1
      else
        let s2 := applyRepairs s1
        if s.pwr.warm then toStage 4 s2
        else if !bistOk then stopNode s2
        else toStage 4 (disableLanes badLanes s2))

/-! ## Stage 4 (R382, R505) -/

/-- R505: bits of CLK_RUNNING that stage 4 sets: every clock but MCLK, and the two that come from outside. -/
def clocksOn (s : State) : BitVec 28 :=
  let q := List.range (nQuads s)
  ofBits 28 ([0, 1, 2] ++ q.map (7 + ·) ++ q.map (11 + ·) ++ q.map (15 + ·) ++ [19, 20, 21, 22, 23, 24, 25])

/-- STAGE_4 (R382, R401, R404, R505): the PLLs lock within three attempts; a cold bring-up loads the GTC from the AON time count. -/
def execStage4 (locked : Bool) (s : State) : Host.Outcome State Fault Refusal :=
  done (if !inStage s 4 then s
    else if !locked then stopNode s
    else
      let s1 := { s with clk := { s.clk with running := clocksOn s, gtc := if s.pwr.warm then s.clk.gtc else s.pwr.aonTime } }
      toStage 5 s1)

/-! ## Stage 5 (R353 to R355, R474) -/

/-- R353: the banks in the order in which they are tried; none under STRAP_BOOT 0b11. -/
def bankOrder (s : State) : List Nat :=
  match s.pwr.boot with
  | 0 => if s.cfg.node.active = 2 then [2, 1] else [1, 2]
  | 1 => [1, 2]
  | 2 => [2, 1]
  | _ => []

/-- R380: a bank's failure is recorded. -/
def noteFail (bank : Nat) (f : ImgFail) (s : State) : State :=
  let c := if bank = 2 then { s.cfg with stageB := f.stage, reasonB := f.reason }
    else { s.cfg with stageA := f.stage, reasonA := f.reason }
  { s with cfg := { c with detail := if f.stage = 6 then (f.typ, f.off) else c.detail } }

/-- What the checks outside the image found for a bank. -/
def verdictOf (s : State) (bank : Nat) : BankVerdict := if bank = 2 then s.cfg.verdictB else s.cfg.verdictA

/-- A bank found half-erased stays unreadable for this bring-up, though it is erased again (R474). -/
def noteWhole (bank : Nat) (v : BankVerdict) (s : State) : BankVerdict := { v with fwReadable := v.fwReadable && bankWhole s bank }

/-- R354: the banks are tried in order; the first that passes is read. The firmware it holds runs from then on. -/
def tryBanks (fwVersion : Word) : List Nat → State → State
  | [], s => stopNode s
  | b :: rest, s =>
    match stage5Fail s b (verdictOf s b) with
    | some f => tryBanks fwVersion rest (onlyIf (f.reason == 7 && !(verdictOf s b).fwSigOk) (raise 597) (noteFail b f s))
    | none =>
      toStage 6 { s with cfg := { s.cfg with
        running := b, cand := some (parseImage (readRaw s b)), toTry := rest, fwVersion := fwVersion, spRun := true } }

/-- R380: the image registers at the start of a bring-up. -/
def clearImageRegs (s : State) : State :=
  { s with cfg := { s.cfg with
      running := 0, fallback := false, relayout := false, reformat := false, stageA := 0, reasonA := 0, stageB := 0,
      reasonB := 0, detail := (0, 0), cand := none, img := none, layoutId := 0, cmdStage := 0, cmdReason := 0 } }

/-- R466, R467, R474: sector headers are checked in stage 5, but for the copies of stage 1: a half-erased sector of the
wrapped-key areas has lost its records. -/
def checkSectors (s : State) : State :=
  readCopies 1 (reErase ((s.cfg.hdrs.map (·.1)).filter (fun n => !([0x100, 0x103, 0x300, 0x303] : List Nat).contains n)) (markCopies 1 s))

/-- STAGE_5 (R353 to R355, R404, R474): the first bank that passes its checks is read; after a bank failed stage 6
the other is tried. -/
def execStage5 (va vb : BankVerdict) (fwVersion : Word) (s : State) : Host.Outcome State Fault Refusal :=
  done (if !inStage s 5 then s
    else if s.pwr.boot = 3 then stopNode { clearImageRegs s with cfg := { (clearImageRegs s).cfg with spRun := true } }
    else if s.cfg.cand.isSome then
      tryBanks fwVersion s.cfg.toTry
        { s with cfg := { s.cfg with cand := none, fallback := true
                                     verdictA := { va with fwReadable := va.fwReadable && s.cfg.verdictA.fwReadable }
                                     verdictB := { vb with fwReadable := vb.fwReadable && s.cfg.verdictB.fwReadable } } }
    else
      let s1 := clearImageRegs s
      let s2 := { s1 with cfg := { s1.cfg with verdictA := noteWhole 1 va s1, verdictB := noteWhole 2 vb s1 } }
      let s3 := tryBanks fwVersion (bankOrder s2) (checkSectors s2)
      { s3 with cfg := { s3.cfg with fallback := s3.cfg.running != 0 && some s3.cfg.running != (bankOrder s2).head? } })

/-! ## Stage 6: register fields the image sets (R361 to R374) -/

/-- Writes whole registers of a run of instances. -/
def setRegs (id : RegId) (vs : List Nat) (s : State) : State :=
  forEach vs.zipIdx (fun p t => setRegWord id p.2 0 p.1 t) s

/-- R363, R364, R369: DRAM, NAND and regulator registers. -/
def applyMediaRegs (im : Image) (s : State) : State :=
  let d := im.dram
  let x := im.nand
  let reg (r : ImgReg) : Nat := b2n r.rt * 2 ^ 31 + r.kind * 2 ^ 29 + r.rtBurst * 2 ^ 16 + r.burst
  let s1 := setRegWord .dramNodeCfg 0 0 (d.rate * 2 ^ 16 + im.modes.refresh)
    (setRegWord .dramSrIdle 0 0 d.srIdle (setRegWord .dramPatrolCfg 0 0 (d.patMax * 256 + d.patTarget) s))
  let regs := im.canopy.regs ++ List.replicate (48 - im.canopy.regs.length) { rt := false, kind := 0, rtBurst := 0, burst := 0, rate := 0 }
  let s2 := setRegs .dramRegCfg (regs.map reg) (setRegs .dramRegRate (regs.map (·.rate)) s1)
  let s3 := setRegWord .nandNodeCfg 0 0
    (x.rate * 2 ^ 24 + x.op * 2 ^ 16 + x.retryMax * 2 ^ 11 + x.sparePct * 16 + b2n x.parity * 4 + x.cell) s2
  let s4 := setRegWord .nandRdLimit 0 0 x.rdLimit (setRegWord .nandWlDelta 0 0 x.wlDelta s3)
  setRegWord .nandScanCfg 0 0 (x.scanMax * 256 + x.scanTarget)
    (setRegWord .nandReclaimCfg 0 0 (x.recCrit * 2 ^ 16 + x.recLow) (setRegWord .nandRebuildCfg 0 0 x.rebuild s4))

/-- R365, R369, R374: tier and Canopy registers; a FREE_LOW of 0 selects 1 % of the frames. -/
def applyTierRegs (im : Image) (s : State) : State :=
  let t := im.tiers
  let low := if t.freeLow = 0 then allFrames im.dram / 100 else t.freeLow
  let s1 := setRegWord .tierCellarMode 0 0 im.modes.cellar (setRegWord .tierCeiling 0 0 t.ceiling s)
  let s2 := setRegWord .tierWearCfg 0 0 (t.floor * 2 ^ 16 + t.lifeYears) (setRegWord .tierFreeLow 0 0 low s1)
  let s3 := setRegs .canWaymask (im.canopy.waymasks.take 31) (setRegWord .canWaymask31 0 0 ((im.canopy.waymasks[31]?).getD 0) s2)
  setRegWord .canCtl 0 0 (b2n im.canopy.windfall * 4 + im.modes.prot * 2) s3

/-- R362, R371: host, network, twin and recorder registers. -/
def applyPortRegs (im : Image) (s : State) : State :=
  let n := im.net.getD {}
  let w := im.twin.getD {}
  let s1 := setRegs .hostGroupCfg (im.lanes.groups.map (fun g => g.1 * 16 + g.2)) (setRegWord .hostRspWd 0 0 im.lanes.rspWd s)
  let s2 := setRegWord .netCfg 0 0 (n.udpPort * 2 ^ 16 + im.lanes.form * 2 ^ 12 + n.maxVer * 2 ^ 8)
    (setRegWord .netQpCredit 0 0 n.qpCredit (setRegWord .netReserve 0 0 n.reserve s1))
  let s3 := setRegWord .netAckCfg 0 0 (n.ackCount * 256 + n.ackDelay)
    (setRegWord .netRto 0 0 (n.rtoRetries * 2 ^ 16 + n.rtoTimeout) s2)
  let s4 := setRegWord .twinTimers 0 0 (w.tjoin * 2 ^ 22 + im.modes.policy * 2 ^ 21 + w.fence * 2 ^ 10 + w.thb) s3
  setRegWord .recEpoch 0 0 im.recEpoch (setRegWord .recPaths 0 0 im.recPaths s4)

/-- R370, R531: cipher and thermal registers; THROTTLE_C is the table's in use. -/
def applyUnitRegs (im : Image) (s : State) : State :=
  let s1 := setRegs .ciphClassCfg5 (im.cipher.floors.drop 5) (setRegs .ciphClassCfg (im.cipher.floors.take 5) (setRegWord .ciphCtl 0 0 (b2n im.cipher.autoRoll) s))
  setRegWord .thermCfg 0 0 (4 * 2 ^ 16 + 3 * 2 ^ 8 + (tableOf s).throttle) s1

/-- R372, R431: settings of the fault sources: the image's record, or the profile. Counts and levels stay. -/
def applyFaults (im : Image) (s : State) : State :=
  let put (e : Nat) (y : FltSrc) (t : State) : State :=
    let x := fltOf t e
    setFlt e { x with n := y.n, level := y.level, grace := y.grace, wUnit := y.wUnit, wVal := y.wVal } t
  let s1 := forEach (SMap.keys s.flt.src) (fun e t => put e (fltDefault e) t) s
  forEach im.faults (fun f t =>
    put f.event { fltDefault f.event with n := f.n, level := f.level, grace := f.grace, wUnit := f.wUnit, wVal := f.wVal } t) s1

/-- R373, R385: the power-table sector takes the image's table and its three values; event 9 when it is programmed. -/
def applyPower (im : Image) (s : State) : State :=
  let want := match im.power with
    | some t => t
    | none => { s.pwr.sector.getD siliconTable with
        restartHold := im.modes.restart == 1, checked := im.modes.log == 1, estoreReq := im.modes.cellar != 2 }
  if s.pwr.sector = some want then s else raise 9 (writeCopy 0 (modPwr (fun p => { p with sector := some want }) s))

/-! ## Stage 6: key slots (R331 to R337, R483) -/

/-- The grove of the image that a slot encrypts; grove 1,023's slot is META_SLOT. -/
def slotGrove (im : Image) (n : Nat) : Nat :=
  if im.tiers.metaSlot = n then 1023
  else ((im.groves.groves.find? (fun r => r.keySlot = n)).map (·.grove)).getD 0

/-- A slot with its binding and no key (R333). -/
def boundSlot (im : Image) (x : ImgSlot) : Slot :=
  { bind := x.bind, pair := x.pair, hardened := x.hardened
    target := if x.bind = 2 then x.target else if x.bind = 1 then slotGrove im x.slot else 0 }

/-- R333, R334, R337, R340: a slot's key from its record; two records make it ROLLING; a floor of all-ones leaves it
EXHAUSTED. -/
def loadedFrom (y : Slot) (old : Wrapped) (new : Option Wrapped) : Slot :=
  let full (f : Nat) (x : Slot) : Slot := if 2 ^ 64 - 1 ≤ f then { y with state := .exhausted, floor := f } else x
  match new with
  | some w => full w.floor { y with state := .rolling, key := w.key, oldKey := old.key, ctr := w.floor, oldCtr := old.floor,
                                    rollWseq := old.rollWseq, floor := w.floor }
  | none => full old.floor { y with state := .loaded, key := old.key, ctr := old.floor, floor := old.floor }

/-- R336: a bound slot is loaded, or stays EMPTY with event 474; an IDE slot waits for its host. -/
def loadSlot (im : Image) (x : ImgSlot) (s : State) : State :=
  let y := boundSlot im x
  protPut 6 x.slot (if x.bind = 2 then setSlot x.slot y s
  else match SMap.find s.cipher.wrapped (wrapKey x.slot 0) with
    | some w =>
      if s.cipher.dukBlocked then raise 474 (setSlot x.slot y s)
      else setSlot x.slot (loadedFrom y w (SMap.find s.cipher.wrapped (wrapKey x.slot 1))) s
    | none => raise 474 (setSlot x.slot y s))

/-- R483: a cold bring-up with the provisioning mark and no record of grove 1,023's slot generates the keys. -/
def provisions (im : Image) (s : State) : Bool :=
  !s.pwr.warm && s.cfg.node.provMark && (SMap.find s.cipher.wrapped (wrapKey im.tiers.metaSlot 0)).isNone

/-- R483: keys into every GROVE and QUEUE slot of the image. -/
def genSlots (im : Image) (s : State) : State :=
  let s1 := forEach (im.cipher.slots.filter (fun x => x.bind = 1 || x.bind = 5))
    (fun x t => generateKey x.slot (setSlot x.slot (boundSlot im x) t)) s
  putNode (fun n => { n with provMark := false }) { s1 with cfg := { s1.cfg with reformat := true } }

/-- R334, R483: every slot that the image binds. -/
def applySlots (im : Image) (s : State) : State :=
  let s0 := { s with cipher := { s.cipher with slots := [] } }
  if provisions im s then
    forEach (im.cipher.slots.filter (fun x => x.bind != 1 && x.bind != 5)) (loadSlot im) (genSlots im s0)
  else forEach im.cipher.slots (loadSlot im) s0

/-! ## Stage 6: ports, LDs and what is computed -/

/-- R260: lanes of a port of a group's BIF. -/
def bifWidth (form : Nat) : Nat := if form = 0 then 16 else if form = 1 then 8 else 4

/-- R260, R264: the formed host ports and their LDs; logs, bindings and a Clearing's extents stay. -/
def applyHosts (im : Image) (s : State) : State :=
  let s1 := forEach (List.range 16) (fun p t =>
    updPort p (fun x => if imgForms s im p then
        { x with formed := true, maxWidth := bifWidth (((im.lanes.groups[p / 4]?).getD (0, 0)).2) }
      else { x with formed := false }) t) s
  forEach im.lanes.lds (fun l t =>
    updLd l.1 l.2.1 (fun x => { x with
      present := true, entries := l.2.2, bound := s.cfg.node.binds.contains (16 * l.1 + l.2.1) }) t) s1

/-- R286, R287, R289: the formed network ports with their addresses, held in reset, and the peer classes. -/
def applyNets (im : Image) (s : State) : State :=
  let n := im.net.getD { addrs := [] }
  let s1 := forEach (List.range 8) (fun p t =>
    updNet p (fun x => { x with
      formed := decide (p < formedNets s im), up := false, held := true
      addrs := (n.addrs.filter (fun a => a.1 = p)).map (fun a => a.2.2) }) t) s
  { s1 with net := { s1.net with classes := n.classes } }

/-- R163: TIER_VAULT_TIME in ms, rounded up; 0 under OFF. -/
def vaultMs (s : State) (im : Image) : Nat :=
  match dBound im with
  | none => 0
  | some d => 10 + ceilDiv ((d + cellarFixed s) * 1024) (if isSmall s then 45000000 else 90000000)

/-- R163, R165, R239, R360, R364, R374: figures that stage 6 computes, and the image in force. -/
def applyFigures (im : Image) (s : State) : State :=
  let dies := allDies im.nand - (s.nand.dies.filter (fun p => p.2.state = .retired)).length
  { s with
    tier := { s.tier with celNeed := imgCellar s im, vaultTime := vaultMs s im }
    nand := { s.nand with t2Tiles := t2TilesOf im dies (imgCellar s im) }
    cfg := { s.cfg with layoutId := layoutOf im, gate := im.modes.debugGate, img := some im
                        reformat := s.cfg.reformat || willReformat s im } }

/-- R354: stage 6 applies an image that passed every check. -/
def applyImage (im : Image) (s : State) : State :=
  applyFigures im (applyNets im (applyHosts im (applySlots im (applyPower im (applyFaults im
    (applyUnitRegs im (applyPortRegs im (applyTierRegs im (applyMediaRegs im s)))))))))

/-- STAGE_6 (R334 to R336, R354, R356 to R377, R483): the checks and the structure apply; a bank that fails is
recorded and the other is tried from stage 5. -/
def execStage6 (s : State) : Host.Outcome State Fault Refusal :=
  done (if !inStage s 6 then s
    else match s.cfg.cand with
      | none => s
      | some im =>
        let b := s.cfg.running
        match stage6Fail s (readRaw s b) im with
        | some f =>
          let s1 := noteFail b f s
          let s2 := { s1 with cfg := { s1.cfg with running := 0 } }
          if s.cfg.toTry.isEmpty then stopNode s2 else toStage 5 s2
        | none =>
          let s1 := applyImage im { s with cfg := { s.cfg with cand := none } }
          if (slotOf s1 im.tiers.metaSlot).state = .empty then stopNode s1 else toStage 7 s1)

end Sys2Proof.Machine
end

