-- ==== Sys2Proof/Machine/Faults.lean ====
section
/-!
DEFINITION. The commands of the fault collector (R432 to R436, R441), of the integrity unit (R424 to R427), of the
performance monitors (R455, R463) and of the event recorder (R457 to R460).
-/

namespace Sys2Proof.Machine

open Sys2Proof

/-! ## The collector -/

/-- LEAK_TICK (R432): a count that is not severe loses 1. -/
def execLeakTick (event : Nat) (s : State) : Host.Outcome State Fault Refusal :=
  onUnit (eventListed s event) s (
    let x := fltOf s event
    if !collecting s || x.severe || x.count = 0 then s else setFlt event { x with count := x.count - 1 } s)

/-- R435, R436: the action of one level for a source; L2 without a target is taken as L1. -/
def actLevel (l e tgt : Nat) (s : State) : State :=
  match l with
  | 2 => contain e tgt (onlyIf (!hasTarget e) (notify e) s)
  | 3 => startClearing e s
  | _ => s

/-- GRACE_EXPIRY (R435): the source moves up one level and takes that level's action. -/
def execGraceExpiry (event : Nat) (s : State) : Host.Outcome State Fault Refusal :=
  onUnit (eventListed s event) s (
    let x := fltOf s event
    if !collecting s || !x.severe || x.timer.isNone then s
    else
      let y := armed { x with lvl := x.lvl + 1 } (now s)
      actLevel y.lvl event x.tgt (driveAlert (setFlt event y s)))

/-- R433: a severe source is acknowledged. -/
def acknowledge (e : Nat) (s : State) : State :=
  let x := fltOf s e
  if x.severe then driveAlert (setFlt e { x with severe := false, count := 0, timer := none, lvl := 0, tgt := 0 } s) else s

/-- SEVERE_ACKNOWLEDGE (R433, R440): a write of FLT_SEVEREk. -/
def execSevereAcknowledge (p : Path) (k : Nat) (bits : Word) (s : State) : Host.Outcome State Fault Refusal :=
  let addr := regAddr .fltSevere k
  done (ctlWrite p addr (fun t =>
    if 20 ≤ k then accessEvent true 0 p addr t
    else forEach (bitsSet bits) (fun b u => acknowledge (32 * k + b) u) t) s)

/-- ACK_ALL (R441). -/
def execAckAll (p : Path) (s : State) : Host.Outcome State Fault Refusal :=
  done (ctlWrite p (regAddr .fltCmd) (fun t => forEach (SMap.keys t.flt.src) acknowledge t) s)

/-- RELEASE_GROVE (R436, R441): READ_ONLY of L2 is lifted. -/
def execReleaseGrove (p : Path) (grove : Nat) (s : State) : Host.Outcome State Fault Refusal :=
  done (ctlWrite p (regAddr .fltCmd) (fun t =>
    { t with tier := { t.tier with readOnly := t.tier.readOnly.filter (· ≠ grove) } }) s)

/-- RELEASE_PORT (R436, R441): the port's PCS leaves reset. -/
def execReleasePort (p : Path) (port : Nat) (s : State) : Host.Outcome State Fault Refusal :=
  done (ctlWrite p (regAddr .fltCmd) (fun t =>
    if isReady t && (netOf t (port % 8)).formed then updNet (port % 8) (fun x => { x with held := false }) t else t) s)

/-! ## The integrity unit -/

/-- R417: protected arrays of the part. -/
def macCount (s : State) : Nat := (List.range 7).foldl (fun n c => n + (macRange s c).2) 0

/-- R425: an array's pointer has passed all its words; the node lap ends with the last array's. -/
def endLap (m : Nat) (s : State) : State :=
  let t := now s - max s.integ.scrubAt (SMap.get s.integ.lapStart 0 m)
  let late := decide (fld s .intScrubCfg 31 16 * 1000000 < t) && !s.integ.lapLate
  let laps := insertNat m s.integ.lapsDone
  let longest := max s.integ.lapMax t
  let fin := laps.length = macCount s
  onlyIf late (raise 513)
    { s with integ := { s.integ with
        lapStart := SMap.set s.integ.lapStart 0 m (now s)
        lapsDone := if fin then [] else laps
        lapMax := if fin then 0 else longest
        lap := if fin then longest / 1000000 else s.integ.lap
        lapLate := (s.integ.lapLate || late) && !fin } }

/-- SCRUB_READ (R418, R419, R422, R424, R425): the word at the array's pointer is read; `err` are the bits found newly
wrong, `stuck` those that stay wrong. -/
def execScrubRead (id : Nat) (err stuck : BitVec 80) (s : State) : Host.Outcome State Fault Refusal :=
  onUnit (macPresent s id) s (
    if !s.integ.scrubbing || !isReady s then s
    else
      let w := SMap.get s.integ.ptr 0 id
      let s1 := perfAdd ⟨305, 5, none⟩ 0x01 1 (protRead id w true stuck (setBad id w (badOf s id w ^^^ err) s)).1
      let s2 := { s1 with integ := { s1.integ with ptr := SMap.set s1.integ.ptr 0 id ((w + 1) % 2048) } }
      if w = 2047 then endLap id s2 else s2)

/-- FLIP_ARM (R426, R427): a write of INTEG_FLIP_SEL; ignored while armed, and an absent array is not armed. -/
def execFlipArm (p : Path) (v : Word) (s : State) : Host.Outcome State Fault Refusal :=
  done (ctlWrite p (regAddr .intFlipSel) (fun t =>
    if fld t .intFlipSel 31 31 = 1 then t
    else
      let x := v.toNat &&& 0xC0FFFFFF
      let arm := bitOf x 31 && macPresent t (bitsOf x 23 11)
      setRegWord .intFlipSel 0 0 (if arm then x else x &&& 0x7FFFFFFF) t) s)

/-! ## The monitors -/

/-- R455: every unit whose GLOBAL bit is 1. -/
def globalUnits (f : Nat → State → State) (s : State) : State :=
  forEach (List.range 24) (fun u t => if fld s .perfCtl 30 30 u = 1 then f u t else t) s

/-- R455, R463: the counters and OVF bits of a unit are 0. -/
def clearUnit (u : Nat) (s : State) : State := setFld .perfCtl u 7 0 0 { s with perf := SMap.del s.perf u }

/-- PERF_START (R455). -/
def execPerfStart (p : Path) (s : State) : Host.Outcome State Fault Refusal :=
  done (ctlWrite p (regAddr .perfGlobal) (globalUnits (fun u => setFld .perfCtl u 31 31 1)) s)

/-- PERF_STOP (R455). -/
def execPerfStop (p : Path) (s : State) : Host.Outcome State Fault Refusal :=
  done (ctlWrite p (regAddr .perfGlobal) (globalUnits (fun u => setFld .perfCtl u 31 31 0)) s)

/-- PERF_GLOBAL_CLEAR (R455). -/
def execPerfGlobalClear (p : Path) (s : State) : Host.Outcome State Fault Refusal :=
  done (ctlWrite p (regAddr .perfGlobal) (globalUnits clearUnit) s)

/-- PERF_UNIT_CLEAR (R463). -/
def execPerfUnitClear (p : Path) (unit : Nat) (s : State) : Host.Outcome State Fault Refusal :=
  let addr := regAddr .perfCtl unit
  done (ctlWrite p addr (fun t => if unit < 24 then clearUnit unit t else accessEvent true 0 p addr t) s)

/-! ## The recorder -/

/-- R458: the record of a path's span. -/
def spanRec (s : State) (p : Nat) : Rec :=
  let a := SMap.get s.recd.acc {} p
  { gtc := s.recd.spanAt, path := p, sat := a.sat, merged := s.recd.thawed, rep := 0, min := a.min, max := a.max,
    count := a.count, bins := a.bins }

/-- R459: two records are equal in every field but GTC and REPEAT, and neither is MERGED. -/
def sameRec (a b : Rec) : Bool :=
  !a.merged && !b.merged && a.path == b.path && a.sat == b.sat && a.min == b.min && a.max == b.max && a.count == b.count
    && a.bins == b.bins

/-- R459: the latest record of the path counts the repeat, when it equals the new one. -/
def repeatRec (r : Rec) : List Rec → Option (List Rec)
  | [] => none
  | x :: rest =>
    if x.path = r.path then
      if sameRec x r && decide (x.rep < 65535) then some ({ x with rep := x.rep + 1 } :: rest) else none
    else (repeatRec r rest).map (x :: ·)

/-- R459: a record is written at the next index, or counted as lost; 616 as the store becomes full. -/
def writeRec (p : Nat) (s : State) : State :=
  let r := spanRec s p
  if s.recd.full then bumpRc .recLost 0 31 0 1 s
  else match repeatRec r s.recd.store.reverse with
    | some l => { s with recd := { s.recd with store := l.reverse } }
    | none =>
      let store := s.recd.store ++ [r]
      let full := decide (4096 ≤ store.length)
      onlyIf full (raise 616) { s with recd := { s.recd with store := store, full := full } }

/-- The epoch boundary at or before now (R457). -/
def boundary (s : State) : Nat :=
  let e := fld s .recEpoch 13 0 * 1000000
  now s - now s % e

/-- EPOCH_BOUNDARY (R457, R459, R460): the first after READY starts the epochs; a frozen recorder goes on collecting. -/
def execEpochBoundary (s : State) : Host.Outcome State Fault Refusal :=
  done (if !isReady s then s
    else if !s.recd.started then { s with recd := { s.recd with started := true, spanAt := boundary s, acc := [] } }
    else if s.recd.frozen then s
    else
      let s1 := forEach (bitsSet (BitVec.ofNat 16 (fld s .recPaths 15 0))) writeRec s
      { s1 with recd := { s1.recd with acc := [], spanAt := boundary s, thawed := false } })

/-- FREEZE (R460). -/
def execFreeze (p : Path) (s : State) : Host.Outcome State Fault Refusal :=
  done (ctlWrite p (regAddr .recCmd) (fun t => { t with recd := { t.recd with frozen := true } }) s)

/-- THAW (R460): the next records are MERGED. -/
def execThaw (p : Path) (s : State) : Host.Outcome State Fault Refusal :=
  done (ctlWrite p (regAddr .recCmd) (fun t =>
    if t.recd.frozen then { t with recd := { t.recd with frozen := false, thawed := true } } else t) s)

/-- CLEAR of REC_CMD (R460): only while frozen. -/
def execRecClear (p : Path) (s : State) : Host.Outcome State Fault Refusal :=
  done (ctlWrite p (regAddr .recCmd) (fun t =>
    if t.recd.frozen then setRegWord .recLost 0 0 0 { t with recd := { t.recd with store := [], full := false } }
    else refuseWrite p (regAddr .recCmd) t) s)

end Sys2Proof.Machine
end

