-- ==== Sys2Proof/Machine/Store.lean ====
section
/-!
DEFINITION. The configuration store's command path (R468 to R473), read-out protection (R476 to R478), JTAG and the
authorization engine (R479 to R481), recovery over the UART (R482), the I3C target's address (R484), the store
commands of the Belvor set (R485), firmware update (R487), and VERIFY and SELECT (R381).
-/

namespace Sys2Proof.Machine

open Sys2Proof

/-! ## The command engine (R468 to R471, R473) -/

/-- Changes the engine. -/
def modEng (f : FlashEng → FlashEng) (s : State) : State := { s with cfg := { s.cfg with eng := f s.cfg.eng } }

/-- R465, R469: an address of the firmware, image and firmware-data regions. -/
def progRegion (a : Nat) : Bool :=
  decide (a < 0x4000000) && (decide (a % 0x2000000 < 0x1000000) || decide (0x1300000 ≤ a % 0x2000000))

/-- R465: an address of the wrapped-key areas. -/
def wrappedArea (a : Nat) : Bool :=
  decide (a < 0x4000000) && decide (0x1200000 ≤ a % 0x2000000) && decide (a % 0x2000000 < 0x1300000)

/-- R468: the unlock ends with SEQ_ERR. -/
def seqErr (s : State) : State := raise 587 (modEng (fun e => { e with unlock := 0, result := 2 }) s)

/-- R470: the service processor executes from the bank of the address, and STALL_OK is 0. -/
def rwwConflict (s : State) (a : Nat) : Bool :=
  s.cfg.spRun && s.cfg.running != 0 && a / 0x2000000 == s.cfg.running - 1 && fld s .flashCtl 0 0 == 0

/-- R468 to R471: a command starts, or RESULT says why it does not. `cmd`: 1 PROGRAM, 2 ERASE, 3 BLANK_CHECK. -/
def startStore (cmd a : Nat) (data : List Word) (owed : Option (Path × Nat)) (s : State) : State × Bool :=
  let refuse (r : Nat) (t : State) : State × Bool := (modEng (fun e => { e with unlock := 0, result := r }) t, false)
  let inStore := if cmd = 3 then decide (a < 0x4000000) else progRegion a
  if s.cfg.eng.busy then refuse 6 s
  else if s.cfg.dbg == .opening then refuse 5 s
  else if !inStore then refuse 3 (raise 589 s)
  else if rwwConflict s a then refuse 1 (raise 588 s)
  else if data.zipIdx.any (fun w => w.1.toNat &&& (0xFFFFFFFF ^^^ storeWord s (a + 4 * w.2)) != 0) then
    (modEng (fun e => { e with result := 4 }) s, false)
  else (modEng (fun e => { e with busy := true, run := cmd, runAt := a, bank := a / 0x2000000, todo := data, owed := owed }) s, true)

/-- A write of CFG_FLASH_DATA under an open sequence: it starts the command. -/
def dataWrite (cmd : Nat) (data : Word) (s : State) : State :=
  let e := s.cfg.eng
  let a := fld s .flashAddr 26 0
  if cmd = 1 then
    if a % 4 != 0 || decide (256 ≤ e.words) || (e.words != 0 && a / 1024 != e.page) then seqErr s
    else
      let r := startStore 1 a [data] none s
      if r.2 then modEng (fun x => { x with unlock := 4, cmd := 1, words := e.words + 1, page := a / 1024 }) r.1 else r.1
  else (startStore cmd a [] none (modEng (fun x => { x with unlock := 0 }) s)).1

/-- R468: a path other than the one that opened the sequence writes a CFG_FLASH register: ignored, with an access
event. -/
def flashWrite (p : Path) (id : RegId) (f : State → State) (s : State) : State :=
  ctlWrite p (regAddr id) (fun t =>
    if t.cfg.eng.unlock != 0 && t.cfg.eng.who != srcOf p then refuseWrite p (regAddr id) t else f t) s

/-- R468: a command by its DATA write. Right after the keys it stands for the CMD, ADDR and DATA writes, ADDR as it
stands (log 52). -/
def flashOp (p : Path) (cmd : Nat) (data : Word) (s : State) : State :=
  flashWrite p .flashData (fun t =>
    let e := t.cfg.eng
    if e.unlock = 2 then dataWrite cmd data (modEng (fun x => { x with words := 0 }) t)
    else if e.unlock = 4 && e.cmd = cmd then dataWrite cmd data t
    else seqErr t) s

/-- FLASH_UNLOCK (R468): both keys. -/
def execFlashUnlock (p : Path) (k1 k2 : Word) (s : State) : Host.Outcome State Fault Refusal :=
  done (flashWrite p .flashKey (fun t =>
    if t.cfg.eng.unlock = 0 && k1 = 0x4E6B21D3#32 && k2 = 0xB0A57C19#32 then
      modEng (fun e => { e with unlock := 2, who := srcOf p, words := 0, cmd := 0 }) t
    else seqErr t) s)

/-- PROGRAM (R468, R469). -/
def execFlashProgram (p : Path) (data : Word) (s : State) : Host.Outcome State Fault Refusal := done (flashOp p 1 data s)

/-- ERASE (R468, R473). -/
def execFlashErase (p : Path) (s : State) : Host.Outcome State Fault Refusal := done (flashOp p 2 0 s)

/-- BLANK_CHECK (R468). -/
def execBlankCheck (p : Path) (s : State) : Host.Outcome State Fault Refusal := done (flashOp p 3 0 s)

/-- R468: a write of CFG_FLASH_CMD. -/
def writeFlashCmd (p : Path) (v : Nat) (s : State) : State :=
  flashWrite p .flashCmd (fun t =>
    let c := v % 16
    if t.cfg.eng.unlock = 2 && 1 ≤ c && c ≤ 3 then modEng (fun e => { e with unlock := 3, cmd := c }) t
    else if t.cfg.eng.unlock = 0 then t else seqErr t) s

/-- R468: a write of CFG_FLASH_ADDR; outside a sequence it sets the address of reads. -/
def writeFlashAddr (p : Path) (v : Nat) (s : State) : State :=
  flashWrite p .flashAddr (fun t =>
    let t1 := setRegWord .flashAddr 0 0 (v % 2 ^ 27) t
    if t.cfg.eng.unlock = 3 then modEng (fun e => { e with unlock := 4, words := 0 }) t1
    else if t.cfg.eng.unlock = 0 then t1 else seqErr t) s

/-- R468: a write of CFG_FLASH_DATA, by the command selected. -/
def writeFlashData (p : Path) (v : Word) (s : State) : State :=
  flashWrite p .flashData (fun t => if t.cfg.eng.unlock = 4 then dataWrite t.cfg.eng.cmd v t else seqErr t) s

/-- R468: the words of a program, with ADDR advanced past them. -/
def programWords (a : Nat) (l : List Word) (s : State) : State :=
  setRegWord .flashAddr 0 0 (a + 4 * l.length)
    (forEach l.zipIdx (fun w t => putStore (a + 4 * w.2) (storeWord t (a + 4 * w.2) &&& w.1.toNat) t) s)

/-- R472, R473: an erase whose verify failed three times leaves the sector without ERASE_DONE. -/
def failErase (n : Nat) (s : State) : State :=
  let s1 := eraseSector n s
  raise 586 { s1 with cfg := { s1.cfg with hdrs := SMap.upd s1.cfg.hdrs {} n (fun h => { h with done := false }) } }

/-- R465, R469: what the controller writes itself: the copies, the power-log ring and the training values. How these lie
in their sectors is not stated, nor what a half-erased sector reads as (log 52). -/
def layoutFree (s : State) (a : Nat) : Bool :=
  (decide (0x1000000 ≤ a % 0x2000000) && decide (a % 0x2000000 < 0x1300000))
    || !sectorWhole (SMap.get s.cfg.hdrs {} (a / 65536))

/-- What the running command does as it completes, and its RESULT. -/
def finishStore (ok : Bool) (s : State) : State × Nat :=
  let e := s.cfg.eng
  let n := e.runAt / 65536
  match e.run with
  | 1 => (programWords e.runAt e.todo s, if ok then 0 else 4)
  | 2 => if ok then (eraseSector n s, 0) else (failErase n s, 4)
  | _ =>
    if layoutFree s e.runAt then (useFree s, if Config.choose s.free 2 = 1 then 7 else 0)
    else (s, if (s.cfg.flash.any (fun p => p.1 / 65536 = n)) then 7 else 0)

/-- FLASH_COMMAND_DONE (R468, R473, R485): the command takes effect and RESULT is set; a Belvor command completes. -/
def execFlashCommandDone (verifyOk : Bool) (s : State) : Host.Outcome State Fault Refusal :=
  done (if !s.cfg.eng.busy then s
    else
      let r := finishStore verifyOk s
      let code := if s.cfg.eng.run = 1 then 0x40 else 0x41
      let s1 := modEng (fun e => { e with busy := false, todo := [], owed := none, result := r.2 }) r.1
      match s.cfg.eng.owed with
      | none => s1
      | some (p, tag) => if r.2 = 0 then complete p tag code 0 [] s1 else refuseOpen p tag code s1)

/-- R468, R469, R475, R476: the word that a read of CFG_FLASH_DATA returns, and whether Glade's level blocks it. -/
def flashWord (p : Path) (a : Nat) (s : State) : Nat × Bool :=
  if 0x4000000 ≤ a then
    (if a < 0x4000400 then leNat (SMap.readRun s.fuse.cal 0 (a - 0x4000000) 4) else (Config.anyWord s.free).toNat, false)
  else if p = .glade && s.cfg.rdp != 0 then (0, true)
  else if wrappedArea a then (0, false)
  else if layoutFree s a then ((Config.anyWord s.free).toNat, false)
  else (storeWord s a, false)

/-- R468, R476: a read of CFG_FLASH_DATA by management access; ADDR advances, but not on a blocked read (R497). -/
def readFlashData (p : Path) (s : State) : State :=
  let a := fld s .flashAddr 26 0
  let r := flashWord p a s
  if r.2 then raise 589 (send (.readVal p (regAddr .flashData) 0) s)
  else useFree (setRegWord .flashAddr 0 0 ((a + 4) % 2 ^ 27) (send (.readVal p (regAddr .flashData) r.1) s))

/-- FLASH_DATA_READ (R468, R469, R475, R476, R486). -/
def execFlashDataRead (p : Path) (s : State) : Host.Outcome State Fault Refusal :=
  done (if !regUp s p then s
    else if isMgmt p then readFlashData p s
    else accessEvent false 1 p (regAddr .flashData) (send (.readVal p (regAddr .flashData) 0) s))

/-! ## STORE_WRITE and STORE_ERASE (R482, R485) -/

/-- R353, R482: the boot ROM serves the UART. The model gives its commands the service processor's path. -/
def uartUp (s : State) : Bool := s.pwr.boot == 3 && s.pwr.stage == 5 && s.pwr.stopped && s.cfg.spRun

/-- The command is served: as every Belvor command of management's, or over the UART. -/
def belvorStore (v1 : Bool) (p : Path) (tag code : Nat) (f : State → State) (s : State) : State :=
  if p = .sp && uartUp s then fromV2 v1 p tag code f s else belvor p tag code (fromV2 v1 p tag code (mgmtOnly p tag code f)) s

/-- R482: the UART reaches the firmware and image regions only. -/
def uartMay (s : State) (a : Nat) : Bool := !uartUp s || decide (a < 0x4000000 && a % 0x2000000 < 0x1000000)

/-- R485: a store command runs under R468 to R470, with its completion owed. -/
def storeCmd (p : Path) (tag code cmd a : Nat) (data : List Word) (s : State) : State :=
  if s.cfg.eng.busy then complete p tag code 0x83 [] s
  else if !uartMay s a then refuseOpen p tag code s
  else
    let r := startStore cmd a data (some (p, tag)) s
    if r.2 then r.1 else refuseOpen p tag code r.1

/-- STORE_WRITE (R468 to R470, R482, R485): up to 256 words within a page. -/
def execStoreWrite (p : Path) (tag : Nat) (v1 : Bool) (addr : Nat) (words : List Word) (s : State) : Host.Outcome State Fault Refusal :=
  done (belvorStore v1 p tag 0x40 (fun t =>
    if addr % 4 != 0 || words.isEmpty || decide (256 < words.length) || addr / 1024 != (addr + 4 * words.length - 1) / 1024 then
      complete p tag 0x40 0x82 [] t
    else storeCmd p tag 0x40 1 addr words t) s)

/-- STORE_ERASE (R468 to R470, R473, R482, R485): the sector that holds the address. -/
def execStoreErase (p : Path) (tag : Nat) (v1 : Bool) (addr : Nat) (s : State) : Host.Outcome State Fault Refusal :=
  done (belvorStore v1 p tag 0x41 (storeCmd p tag 0x41 2 addr []) s)

/-- PROVISION (R482): over the UART, the provisioning mark. Its code is not stated (log 53). -/
def execProvision (tag : Nat) (s : State) : Host.Outcome State Fault Refusal :=
  done (if !uartUp s then s
    else useFree (complete .sp tag (Config.choose s.free 256) 0 []
      (putNode (fun n => { n with provMark := true }) s)))

/-- GET_VERSION (R482, R485); the body is not stated (log 53). -/
def execGetVersion (p : Path) (tag : Nat) (s : State) : Host.Outcome State Fault Refusal :=
  let f (t : State) : State := useFree (complete p tag 0x01 0 [(Config.anyWord t.free).toNat] t)
  done (if p = .sp && uartUp s then f s else belvor p tag 0x01 f s)

/-! ## Images (R381, R487) -/

/-- R381: VERIFY and SELECT: every check on the bank; SELECT marks a bank that passes. -/
def imageCmd (bank : Nat) (v : BankVerdict) (sel : Bool) (s : State) : State :=
  let f := bankFail s bank v
  let s1 := { s with cfg := { s.cfg with
    cmdStage := (f.map (·.stage)).getD 0, cmdReason := (f.map (·.reason)).getD 0 } }
  if sel && f.isNone then putNode (fun n => { n with active := bank }) s1 else s1

/-- A write of CFG_IMAGE_CMD that names bank A or B; another bank is out of range. -/
def imageWrite (p : Path) (bank : Nat) (v : BankVerdict) (sel : Bool) (s : State) : State :=
  ctlWrite p (regAddr .imgCmd) (fun t =>
    if bank = 1 || bank = 2 then imageCmd bank v sel t else accessEvent true 3 p (regAddr .imgCmd) t) s

/-- VERIFY (R381). -/
def execVerifyBank (p : Path) (bank : Nat) (v : BankVerdict) (s : State) : Host.Outcome State Fault Refusal :=
  done (imageWrite p bank v false s)

/-- SELECT (R381). -/
def execSelectBank (p : Path) (bank : Nat) (v : BankVerdict) (s : State) : Host.Outcome State Fault Refusal :=
  done (imageWrite p bank v true s)

/-- R487: the sectors that start in a range of the store are erased before it is written. -/
def eraseStarts (a n : Nat) (s : State) : State :=
  forEach (((List.range (n / 65536 + 2)).map (fun k => a / 65536 + k)).filter (fun k => decide (a ≤ k * 65536) && decide (k * 65536 < a + n)))
    eraseSector s

/-- PLDM_FIRMWARE_UPDATE (R487): words of a component into the bank that neither runs nor is active; any other update
fails with event 603. -/
def execPldmFirmwareUpdate (bank off : Nat) (words : List Word) (image : Bool) (s : State) : Host.Outcome State Fault Refusal :=
  done (if !isReady s then s
    else if (bank != 1 && bank != 2) || bank = s.cfg.running || bank = s.cfg.node.active || off % 4 != 0
        || decide (0x800000 < off + 4 * words.length) then raise 603 s
    else
      let a := (bank - 1) * 0x2000000 + (if image then 0x800000 else 0) + off
      let s1 := eraseStarts a (4 * words.length) s
      let s2 := forEach words.zipIdx (fun w t => putStore (a + 4 * w.2) (storeWord t (a + 4 * w.2) &&& w.1.toNat) t) s1
      { s2 with cfg := { s2.cfg with pldmBank := bank } })

/-- PLDM_ACTIVATE (R487): SELECT on the updated bank. -/
def execPldmActivate (v : BankVerdict) (s : State) : Host.Outcome State Fault Refusal :=
  done (if !isReady s then s
    else if s.cfg.pldmBank = 0 then raise 603 s
    else
      let s1 := imageCmd s.cfg.pldmBank v true s
      onlyIf (s1.cfg.cmdReason != 0) (raise 603) s1)

/-! ## Read-out protection (R476 to R478) -/

/-- R333, R481: every key slot is EMPTY and every session is gone. -/
def zeroAllSlots (s : State) : State :=
  let ks := SMap.keys s.cipher.slots
  forEach ks zeroSlot (forEach ks dropSessions s)

/-- RDP_RAISE (R477): keyed, right after the unlock keys. -/
def execRdpRaise (p : Path) (v : Word) (s : State) : Host.Outcome State Fault Refusal :=
  let new := v.toNat % 4
  done (ctlWrite p (regAddr .cfgRdp) (fun t =>
    if 2 ≤ t.cfg.rdp || new < t.cfg.rdp then refuseWrite p (regAddr .cfgRdp) t
    else if new = 3 then accessEvent true 3 p (regAddr .cfgRdp) t
    else if v.toNat / 65536 != 0x5244 || t.cfg.eng.unlock != 2 || t.cfg.eng.who != srcOf p || new ≤ t.cfg.rdp then t
    else raise 590 (modEng (fun e => { e with unlock := 0 }) { t with cfg := { t.cfg with rdp := new } })) s)

/-- RDP_LOWER (R477, R478): with an authorization for it, to level 0: slots zeroised, the processor halted. -/
def execRdpLower (p : Path) (v : Word) (s : State) : Host.Outcome State Fault Refusal :=
  done (ctlWrite p (regAddr .cfgRdp) (fun t =>
    if v.toNat / 65536 != 0x5244 then t
    else if t.cfg.rdp != 1 || v.toNat % 4 != 0 || !t.cfg.lowerAuth then refuseWrite p (regAddr .cfgRdp) t
    else
      let u := zeroAllSlots (abandonStore t)
      { u with cfg := { u.cfg with lowering := true, lowerAuth := false, spRun := false } }) s)

/-- RDP_LOWER_ERASE_DONE (R478): both banks are erased, level 0 is programmed, and the node stops at stage 5. -/
def execRdpLowerEraseDone (s : State) : Host.Outcome State Fault Refusal :=
  done (if !s.cfg.lowering || s.pwr.state != .on then s
    else
      let u := raise 591 (raise 590 (massErase (linksDown (quiesce s))))
      stopNode (modPwr (fun q => { q with stage := 5, ready := false })
        { u with twin := { u.twin with role := .unset }, cfg := { u.cfg with running := 0, img := none, spRun := false } }))

/-! ## JTAG (R479) -/

/-- R502: the identification code, which GLB_ID holds too. -/
def idCode (s : State) : Nat := 1 * 2 ^ 28 + (if isSmall s then 0x4808 else 0x4816) * 2 ^ 12 + 0x4C3 * 2 + 1

/-- R479: an instruction is loaded; the model's own numbers but for 0x40, 0x41 and BYPASS (log 6). Another than the
three that take the pins lets a held bring-up go on. -/
def loadIr (n : Nat) (s : State) : State :=
  modPwr (fun p => { p with jtagHold := false }) { s with cfg := { s.cfg with jtagIr := n } }

/-- IDCODE (R479, R502). -/
def execIdcode (s : State) : Host.Outcome State Fault Refusal := done (send (.jtag 1 (idCode s)) (loadIr 1 s))

/-- BYPASS (R479). -/
def execBypass (s : State) : Host.Outcome State Fault Refusal := done (loadIr 0xFF s)

/-- SAMPLE_PRELOAD (R479): the pins as they are; which bits they give is a free value. -/
def execSamplePreload (s : State) : Host.Outcome State Fault Refusal :=
  done (useFree (send (.jtag 2 (Config.anyWord s.free).toNat) (loadIr 2 s)))

/-- R407, R410, R479: the pins are taken: a Clearing trigger with event 594, and the warm bring-up waits at stage 3. -/
def takePins (n : Nat) (s : State) : State :=
  let hold := clearable s || s.pwr.jtagHold
  raiseClearing 594 (modPwr (fun p => { p with jtagHold := hold }) { s with cfg := { s.cfg with jtagIr := n } })

/-- EXTEST (R479). -/
def execExtest (s : State) : Host.Outcome State Fault Refusal := done (takePins 0 s)

/-- CLAMP (R479). -/
def execClamp (s : State) : Host.Outcome State Fault Refusal := done (takePins 3 s)

/-- HIGHZ (R479). -/
def execHighz (s : State) : Host.Outcome State Fault Refusal := done (takePins 4 s)

/-! ## The authorization engine (R480, R481) -/

/-- R480: the engine refuses a CHALLENGE. -/
def noChallenge (s : State) (purpose : Nat) : Bool :=
  s.cfg.locked || s.cfg.rdp == 2 || (purpose == 1 && !s.cfg.gate)

/-- R480: a CHALLENGE of 32 random bytes. -/
def newChallenge (purpose : Nat) (s : State) : State :=
  useFree { s with cfg := { s.cfg with
    challenge := (Config.drbg s.free).setWidth 256, challengeAt := now s, pendPurpose := purpose
    dbg := if s.cfg.dbg = .closed then .challenged else s.cfg.dbg } }

/-- CHALLENGE (R480, R490). -/
def execChallenge (p : Path) (purpose : Nat) (s : State) : Host.Outcome State Fault Refusal :=
  done (ctlWrite p (regAddr .dbgCmd) (fun t =>
    if purpose != 1 && purpose != 2 then accessEvent true 3 p (regAddr .dbgCmd) t
    else if noChallenge t purpose then refuseWrite p (regAddr .dbgCmd) t
    else newChallenge purpose t) s)

/-- GLADE_AUTH (R479, R480): a CHALLENGE over JTAG, which shifts the 32 bytes out. At level 2 there is no answer. -/
def execGladeAuth (purpose : Nat) (s : State) : Host.Outcome State Fault Refusal :=
  let t := loadIr 0x40 s
  done (if (purpose != 1 && purpose != 2) || noChallenge t purpose || !gtcRuns t then t
    else
      let u := newChallenge purpose t
      send (.jtag 0x40 u.cfg.challenge.toNat) u)

/-- R480: a failed SUBMIT; the third within 60 s locks the engine. -/
def failSubmit (s : State) : State :=
  let f := s.cfg.fails.filter (fun t => decide (now s - t < 60000000000)) ++ [now s]
  raise 592 { s with cfg := { s.cfg with fails := f, locked := s.cfg.locked || decide (3 ≤ f.length) } }

/-- R480, R481: an accepted SUBMIT: a lowering may follow, or Glade opens: step 1. -/
def acceptSubmit (purpose : Nat) (s : State) : State :=
  let s1 := { s with cfg := { s.cfg with purpose := purpose } }
  if purpose = 2 then { s1 with cfg := { s1.cfg with lowerAuth := true } }
  else
    let s2 := zeroAllSlots (abandonStore s1)
    { s2 with cfg := { s2.cfg with dbg := .opening } }

/-- SUBMIT (R480, R481): over JTAG or the DBG registers; `accepted` says that the key's hash and the signature agree. -/
def execSubmit (p : Path) (accepted : Bool) (s : State) : Host.Outcome State Fault Refusal :=
  let f (t : State) : State :=
    if t.cfg.locked || t.cfg.rdp = 2 then refuseWrite p (regAddr .dbgCmd) t
    else
      let pend := t.cfg.pendPurpose
      let good := accepted && pend != 0 && decide (now t - t.cfg.challengeAt ≤ 60000000000)
      let u := { t with cfg := { t.cfg with pendPurpose := 0, dbg := if t.cfg.dbg = .challenged then .closed else t.cfg.dbg } }
      if good then acceptSubmit pend u else failSubmit u
  done (if p = .glade then (if gtcRuns s then f s else s) else ctlWrite p (regAddr .dbgCmd) f s)

/-- GLADE_OPEN_ERASE_DONE (R481): the wrapped-key areas are erased, the device-unique key is blocked, Glade is OPEN. -/
def execGladeOpenEraseDone (s : State) : Host.Outcome State Fault Refusal :=
  done (if s.cfg.dbg != .opening then s
    else raise 593 (raise 481 { s with
      cipher := { s.cipher with wrapped := [], logUsed := [], dukBlocked := true }
      cfg := { (forEach (keySectors 0 ++ keySectors 1) eraseSector s).cfg with dbg := .opened } }))

/-! ## The I3C target (R484) -/

/-- The target answers (R403, R484). -/
def i3cUp (s : State) : Bool := pathUp s .mgmt

/-- ENTDAA (R484): a target without a dynamic address takes one. -/
def execEntdaa (addr : Nat) (s : State) : Host.Outcome State Fault Refusal :=
  done (if !i3cUp s || s.cfg.i3c.isSome || 128 ≤ addr then s else { s with cfg := { s.cfg with i3c := some addr } })

/-- SETDASA (R484): from the static address 0x30 + STRAP_I3CADDR. -/
def execSetdasa (addr : Nat) (s : State) : Host.Outcome State Fault Refusal :=
  done (if !i3cUp s || s.cfg.i3c.isSome || 128 ≤ addr then s else { s with cfg := { s.cfg with i3c := some addr } })

end Sys2Proof.Machine
end

