-- ==== Sys2Proof/Machine/Thermal.lean ====
section
/-!
DEFINITION. The sensors, duty ratios and the thermal trip (R26, R527 to R531), the pulse-per-second input and GTC
corrections (R28, R396, R507, R524), and faults of clocks and crossings (R26, R429, R505, R523).
-/

namespace Sys2Proof.Machine

open Sys2Proof

/-! ## Sensors (R527) -/

/-- A sensor has its supply: those on VDD_AON always, the others while the core rails are up. -/
def sensorOn (s : State) (n : Nat) : Bool :=
  s.pwr.aon && (n % 4 == 3 || (s.pwr.pg.getLsbD (if n < 8 then 0 else 1) && s.pwr.en.getLsbD (if n < 8 then 0 else 1)))

/-- A sensor. -/
def sensorOf (s : State) (n : Nat) : Sensor := SMap.get s.therm.sensors {} n

/-- R527: a reading within −40 to 150 °C. -/
def inRange (t : Int) : Bool := decide (-160 ≤ t) && decide (t ≤ 600)

/-- Twice the median of readings; with an even number of them the two middle ones count (log 51). -/
def median2 (l : List Int) : Int :=
  let r := l.mergeSort (fun a b => decide (a ≤ b))
  (r[(r.length - 1) / 2]?).getD 0 + (r[r.length / 2]?).getD 0

/-- Readings of a quadrant within the range. -/
def quadReadings (s : State) (temps : List Int) (q : Nat) : List Int :=
  ((List.range 4).map (4 * q + ·)).filterMap (fun n => if sensorOn s n then (temps[n]?).filter inRange else none)

/-- R527: the reading is valid: in range and within 10 °C of its quadrant's median. -/
def readingOk (s : State) (temps : List Int) (n : Nat) (t : Int) : Bool :=
  let d := 2 * t - median2 (quadReadings s temps (n / 4))
  inRange t && decide (-80 ≤ d) && decide (d ≤ 80)

/-- R527 to R530: one sensor's sample; 612 as it becomes invalid, 610 as it passes 105 °C (log 51). -/
def takeSample (temps : List Int) (n : Nat) (s : State) : State :=
  if !sensorOn s n then { s with therm := { s.therm with sensors := SMap.del s.therm.sensors n } }
  else
    let x := sensorOf s n
    let t := (temps[n]?).getD 0
    let ok := readingOk s temps n t
    let y : Sensor := { valid := ok, temp := t, seen := true, hotFor := if ok && decide (480 ≤ t) then min 3 (x.hotFor + 1) else 0 }
    let s1 := { s with therm := { s.therm with sensors := SMap.set s.therm.sensors {} n y } }
    onlyIf (!ok && (x.valid || !x.seen)) (raise 612)
      (onlyIf (ok && decide (420 < t) && !(x.valid && decide (420 < x.temp))) (raise 610) s1)

/-- Valid readings of a quadrant now. -/
def quadTemps (s : State) (q : Nat) : List Int :=
  ((List.range 4).map (fun k => sensorOf s (4 * q + k))).filterMap (fun x => if x.valid then some x.temp else none)

/-- The hottest of readings. -/
def hottestOf : List Int → Option Int
  | [] => none
  | t :: l => some (l.foldl max t)

/-- R527: every sensor of the quadrant has been read and is invalid. -/
def quadBlind (s : State) (q : Nat) : Bool :=
  (List.range 4).all (fun k => (sensorOf s (4 * q + k)).seen && !(sensorOf s (4 * q + k)).valid)

/-- A quadrant. -/
def quadOf (s : State) (q : Nat) : Quad := SMap.get s.therm.quads {} q

/-- Changes a quadrant. -/
def updQuad (q : Nat) (f : Quad → Quad) (s : State) : State :=
  { s with therm := { s.therm with quads := SMap.upd s.therm.quads {} q f } }

/-- R528, R531: the hottest reading of the period, and PEAK. -/
def noteHot (q : Nat) (s : State) : State :=
  match hottestOf (quadTemps s q) with
  | none => s
  | some t =>
    maxRc .thermQuad q 15 8 (t / 4).toNat (updQuad q (fun x => { x with hot := some (max t (x.hot.getD t)) }) s)

/-- R26: the spread between the hottest quadrant and the coolest, in quarter degrees. -/
def spreadOf (s : State) : Int :=
  let l := (List.range (nQuads s)).filterMap (fun q => hottestOf (quadTemps s q))
  match l with
  | [] => 0
  | t :: r => r.foldl max t - r.foldl min t

/-- R26: above 30 °C the hottest quadrant is held, with event 54, until the spread is below 25 °C. -/
def noteSpread (s : State) : State :=
  let d := spreadOf s
  let holds := (List.range (nQuads s)).any (fun q => (quadOf s q).spread)
  if d < 100 then forEach (List.range (nQuads s)) (fun q t => updQuad q (fun x => { x with spread := false }) t) s
  else if d ≤ 120 || holds then s
  else
    let top := (hottestOf ((List.range (nQuads s)).filterMap (fun q => hottestOf (quadTemps s q)))).getD 0
    match (List.range (nQuads s)).find? (fun q => hottestOf (quadTemps s q) == some top) with
    | some q => raise 54 (updQuad q (fun x => { x with spread := true }) s)
    | none => s

/-- R529: THERMTRIP_N is released once every AON sensor reads below the throttle point. -/
def releaseTrip (s : State) : State :=
  let cool := ([3, 7, 11, 15] : List Nat).all (fun n =>
    (sensorOf s n).valid && decide ((sensorOf s n).temp < 4 * ((tableOf s).throttle : Int)))
  if s.pwr.trip && cool then modPwr (fun p => { p with trip := false }) s else s

/-- THERMAL_SAMPLE (R26, R527, R528, R529): one sample of the sixteen sensors, in quarter degrees. -/
def execThermalSample (temps : List Int) (s : State) : Host.Outcome State Fault Refusal :=
  done (if !s.pwr.aon then s
    else
      let s1 := forEach (List.range 16) (takeSample temps) s
      releaseTrip (noteSpread (forEach (List.range (nQuads s)) noteHot s1)))

/-! ## Duty (R528) -/

/-- R528: the new duty of a quadrant. -/
def nextDuty (s : State) (q : Nat) : Nat :=
  let x := quadOf s q
  let c : Int := fld s .thermCfg 7 0
  let least := fld s .thermCfg 20 16
  let hys : Int := fld s .thermCfg 11 8
  if quadBlind s q then least
  else if x.spread || (match x.hot with
      | some t => decide (4 * c ≤ t)
      | none => false) then max (x.duty - 1) least
  else match x.hot with
    | some t => if t ≤ 4 * (c - hys) then min (x.duty + 1) 16 else x.duty
    | none => x.duty

/-- R528: a quadrant at the end of a period; 609 once it has stood at MIN_DUTY for 10 s. -/
def stepDuty (q : Nat) (s : State) : State :=
  let d := nextDuty s q
  let x := quadOf s q
  let low := d < 16 && d = fld s .thermCfg 20 16
  let since := if low then some (x.minSince.getD (now s)) else none
  let long := (match since with
    | some t => decide (t + 10000000000 ≤ now s)
    | none => false) && !x.raised609
  onlyIf long (raise 609)
    (updQuad q (fun y => { y with duty := d, hot := none, minSince := since, raised609 := low && (x.raised609 || long) }) s)

/-- DUTY_UPDATE (R528): the duty of every quadrant; 608 as throttling begins. -/
def execDutyUpdate (s : State) : Host.Outcome State Fault Refusal :=
  done (if !gtcRuns s then s
    else
      let s1 := forEach (List.range (nQuads s)) stepDuty s
      let any := (List.range (nQuads s)).any (fun q => decide ((quadOf s1 q).duty < 16))
      onlyIf (any && !s.therm.began) (raise 608) { s1 with therm := { s1.therm with began := any } })

/-! ## The trip (R529) -/

/-- R391: where a trip cuts a vault in progress is not stated (log 3). -/
def cutAnywhere (s : State) : State :=
  if s.pwr.state = .cellar then
    let half := Config.choose s.free 2 = 1
    let c : VaultCut := if half then .afterLm (Config.choose (s.free + 1) (vaultTodo s).length) else .beforeLm
    useFree (useFree (cutVault c s))
  else sendLeaving s

/-- R529, R531: the trip is recorded, in GLB_THERM_TRIP and in the log; 611 waits for the next stage 3. -/
def noteTrip (n : Nat) (analog : Bool) (t : Int) (s : State) : State :=
  let s1 := modPwr (fun p => { p with trip := true }) (setBit .thermTrip 0 31
    { s with therm := { s.therm with tripAnalog := analog, tripSensor := n, tripTemp := t / 4 } })
  let s2 := logPwr 0x0E 1635 s1
  { s2 with flt := { s2.flt with deferred := s2.flt.deferred ++ [(now s, 611)] } }

/-- THERMAL_TRIP (R391, R529): three samples at 120 °C, or an AON comparator: THERMTRIP_N is low and the node powers
down without a vault, to HOLD. -/
def execThermalTrip (sensor : Nat) (analog : Bool) (temp : Int) (s : State) : Host.Outcome State Fault Refusal :=
  onUnit (decide (sensor < 16) && (!analog || sensor % 4 == 3)) s (
    if !s.pwr.aon || s.pwr.trip || (!analog && (sensorOf s sensor).hotFor < 3) then s
    else
      let s1 := noteTrip sensor analog temp s
      match s.pwr.state with
      | .standby | .hold | .gaveUp => s1
      | .offWait => modPwr (fun p => { p with toHold := true }) s1
      | .powerDown => modPwr (fun p => { p with toHold := true, retrying := false }) s1
      | _ => startDown true (cutAnywhere s1))

/-! ## Time (R28, R396, R507, R524) -/

/-- R92: a node that follows its peer's time ignores its own inputs. -/
def timeFollows (s : State) : Bool := s.twin.role == .standby || s.twin.role == .joining || s.twin.role == .fenced

/-- PPS_EDGE (R28, R92, R396, R524): the capture at the filtered edge, less the filter's 100 ns. -/
def execPpsEdge (s : State) : Host.Outcome State Fault Refusal :=
  done (if !gtcRuns s || timeFollows s then s else { s with clk := { s.clk with pps := some (s.clk.gtc - 100) } })

/-- PPS_MISSING (R92, R396): no pulse for 2 s while TIME_SRC is 1PPS. -/
def execPpsMissing (s : State) : Host.Outcome State Fault Refusal :=
  done (if s.cfg.img.isSome && !timeFollows s && (img s).clocks.timeSrc = 1 then raise 627 s else s)

/-- A 64-bit two's complement number. -/
def signed64 (n : Nat) : Int := (BitVec.ofNat 64 n).toInt

/-- R28, R507: a correction: a forward step before READY when above 1 ms; otherwise it slews, with event 57 for more
than 1 ms after READY. -/
def correct (c : Int) (s : State) : State :=
  if !isReady s && decide (1000000 < c) then
    { s with clk := { s.clk with gtc := s.clk.gtc + c.toNat, corr := 0, stepped := true } }
  else
    onlyIf (isReady s && (decide (1000000 < c) || decide (c < -1000000))) (raise 57) { s with clk := { s.clk with corr := c } }

/-- R506: OFFSET saturates at ±32,767. -/
def satOffset (c : Int) : Int := max (-32767) (min 32767 c)

/-- GTC_CORRECTION (R28, R92, R506, R507): a write of GTC_CORR_HI by the service processor of the time master. -/
def execGtcCorrection (p : Path) (hi : Word) (s : State) : Host.Outcome State Fault Refusal :=
  done (if !pathUp s p then s
    else match p with
      | .sp =>
        if !serving s then accessEvent true 4 p (regAddr .gtcCorrHi) s
        else
          let c := signed64 (regWord s .gtcCorrLo + hi.toNat * 2 ^ 32)
          let near := decide (-100 ≤ c) && decide (c ≤ 100)
          correct c { s with clk := { s.clk with disc := (img s).clocks.timeSrc, offset := satOffset c, locked := near } }
      | _ => if !regUp s p then s else accessEvent true 1 p (regAddr .gtcCorrHi) s)

/-! ## Clocks and crossings (R26, R429, R505, R523) -/

/-- R505: the part has the domain running, or it comes from outside. -/
def domainOn (s : State) (d : Nat) : Bool := s.clk.running.getLsbD d

/-- A loss is seen after stage 4, until the node powers down. -/
def lossSeen (s : State) : Bool := decide (5 ≤ s.pwr.stage) && decide (s.pwr.stage ≤ 13) && s.pwr.stage != 12

/-- R505: CLK_LOST, which Clearing keeps. -/
def clkLost (d event : Nat) (s : State) : State := raise event (setBit .clkLost 0 d s)

/-- PLL_LOCK_LOSS (R429, R505): a PLL loses lock after stage 4. -/
def execPllLockLoss (domain : Nat) (s : State) : Host.Outcome State Fault Refusal :=
  onUnit (decide (domain < 28)) s (if !lossSeen s || !domainOn s domain then s else clkLost domain 55 s)

/-- REFCLK_LOSS (R429, R505, R523): a reference clock stops after stage 4. -/
def execRefclkLoss (domain : Nat) (s : State) : Host.Outcome State Fault Refusal :=
  onUnit (decide (domain < 28)) s (if !lossSeen s || !domainOn s domain then s else clkLost domain 56 s)

/-- R429: the part has the crossing. -/
def hasCrossing (s : State) (e : Nat) : Bool :=
  decide (32 ≤ e) && decide (e ≤ 52) && !(isSmall s && ([34, 35, 38, 39, 43, 44, 47, 48] : List Nat).contains e)

/-- R277: a fault of a quadrant's host crossing is one of each port the quadrant forms (log 97). -/
def portCrossing (e : Nat) (s : State) : State :=
  if e < 36 then forEach (List.range 4) (fun k => portInternal ((e - 32) * 4 + k)) s else s

/-- CROSSING_FAULT (R26, R277, R429): its event; the image's level decides what follows. -/
def execCrossingFault (event : Nat) (s : State) : Host.Outcome State Fault Refusal :=
  onUnit (hasCrossing s event) s (if collecting s then raise event (portCrossing event s) else s)

end Sys2Proof.Machine
end

