-- ==== Sys2Proof/Machine/RegRead.lean ====
section
/-!
DEFINITION. What each register of the control space reads as (R508): stored fields as they stand, and the
fields that only hardware sets, from the state.
-/

namespace Sys2Proof.Machine

open Sys2Proof

/-- Word `j` of a record held as a number. -/
def recWord (v j : Nat) : Nat := v / 2 ^ (32 * j) % 2 ^ 32

/-- Word `j` of a record held as bytes. -/
def byteWord (b : List Byte) (j : Nat) : Nat := leNat ((b.drop (4 * j)).take 4)

/-- A count of `w` bits that saturates. -/
def sat (w n : Nat) : Nat := min n (2 ^ w - 1)

/-! ## Global, power, clocks and time (R502 to R506, R413, R414, R531) -/

/-- GLB_CAPS (R504). -/
def capsWord (s : State) : Nat :=
  let groups := if isSmall s then 3 else 15
  groups * 2 ^ 28 + nNand s * 2 ^ 22 + nSlices s * 2 ^ 17 + nHost s * 2 ^ 12 + groups * 2 ^ 8 + nLanes s

/-- GLB_STATUS (R503). -/
def glbStatusWord (s : State) : Nat :=
  b2n s.pwr.ready * 2 ^ 31 + b2n s.pwr.faultN * 2 ^ 30 + b2n s.pwr.warm * 2 ^ 29
    + b2n (s.cfg.dbg == .opened) * 2 ^ 28 + sat 16 s.pwr.upMs * 2 ^ 8 + s.pwr.stage % 16

/-- GLB_STRAPS (R503). -/
def strapsWord (s : State) : Nat :=
  b2n s.pwr.unstable * 2 ^ 12 + b2n s.pwr.nodeB * 2 ^ 8 + s.pwr.boot % 4 * 2 ^ 4 + s.pwr.i3cAddr % 8

/-- GLB_THERM_TEMPs (R531). -/
def tempWord (s : State) (n : Nat) : Nat :=
  let x := sensorOf s n
  b2n x.valid * 2 ^ 31 + b2n (n % 4 == 3) * 2 ^ 30 + twos 11 x.temp

/-- GLB_THERM_QUADq (R531). -/
def quadWord (s : State) (q : Nat) : Nat :=
  let x := quadOf s q
  let hot := match hottestOf (quadTemps s q) with
    | some t => (t / 4).toNat % 256
    | none => 0
  b2n (x.duty < 16) * 2 ^ 31 + b2n x.spread * 2 ^ 30 + x.duty % 32 * 2 ^ 16 + fld s .thermQuad 15 8 q * 2 ^ 8 + hot

/-- GLB_THERM_TRIP (R531). -/
def tripWord (s : State) : Nat :=
  fld s .thermTrip 31 31 * 2 ^ 31 + b2n s.therm.tripAnalog * 2 ^ 30 + s.therm.tripSensor % 16 * 2 ^ 16
    + twos 8 s.therm.tripTemp

/-- Registers of the GLB and PWR blocks. -/
def readGlb (s : State) (id : RegId) (i : Nat) : Nat :=
  match id with
  | .glbId => idCode s
  | .glbCaps => capsWord s
  | .glbFwVersion => s.cfg.fwVersion.toNat
  | .glbStatus => glbStatusWord s
  | .glbStraps => strapsWord s
  | .glbSerial => leNat (SMap.readRun s.fuse.cal 0 (4 * i) 4)
  | .thermTemp => tempWord s i
  | .thermQuad => quadWord s i
  | .thermTrip => tripWord s
  | .pwrSeqStatus => seqStatus s
  | .pwrRails => s.pwr.en.toNat * 2 ^ 16 + fld s .pwrRails 11 0
  | .pwrLogMode => b2n (tableOf s).checked
  | .pwrLastStart => s.pwr.startKind % 16 * 2 ^ 28 + s.pwr.startEvt % 1024
  | .pwrClearCount => sat 32 s.pwr.clears
  | .pwrLogData => byteWord (logRecord s) i
  | .pwrLogCount => min 2048 (readable s).length
  | _ => regWord s id i

/-- GTC_STATUS (R506): a node whose peer's TIME frames discipline it reads 3. -/
def gtcStatusWord (s : State) : Nat :=
  let byTime := !serving s && s.twin.timeDone
  let disc := if byTime then 3 else s.clk.disc
  let locked := if byTime then s.twin.timeLocked else s.clk.locked
  disc % 4 * 2 ^ 30 + b2n locked * 2 ^ 29 + b2n s.clk.stepped * 2 ^ 28 + twos 16 s.clk.offset

/-- Registers of the CLK and GTC blocks. -/
def readClk (s : State) (id : RegId) : Nat :=
  match id with
  | .clkRunning => s.clk.running.toNat
  | .clkMclk => if s.clk.mclk then fld s .dramNodeCfg 23 16 * 100 / 4 else 0
  | .gtcNowLo => recWord s.clk.gtc 0
  | .gtcNowHi => recWord s.clk.gtc 1
  | .gtcStatus => gtcStatusWord s
  | .gtcCorrLo => 0
  | .gtcCorrHi => 0
  | .gtcCorrLeft => twos 32 (max (-2147483648) (min 2147483647 s.clk.corr))
  | _ => regWord s id

/-! ## Canopy and tiers (R73, R170 to R172, R199, R200) -/

/-- CANOPY_CTL. -/
def canCtlWord (s : State) : Nat :=
  b2n s.can.disabling * 2 ^ 3 + fld s .canCtl 2 1 * 2 + b2n s.can.enabled

/-- CANOPY_MAINT_STATUS. -/
def maintStatusWord (s : State) : Nat :=
  b2n (s.can.busy || s.can.disabling) * 2 ^ 31 + b2n s.can.setWalk * 2 ^ 28 + s.can.result % 16 * 2 ^ 24

/-- Lines with PIN set. -/
def pinLines (s : State) : Nat := s.can.sets.foldl (fun n c => n + (c.2.ways.filter (fun w => w.2.pin)).length) 0

/-- TIER_GROVE_STATUSn (R73); 0 for a grove that does not exist. -/
def groveStatusWord (s : State) (g : Nat) : Nat :=
  if !groveLive s g then 0
  else
    let lv := levelOf s g
    fld s .groveStatus 11 10 g * 2 ^ 10 + b2n (lv != .vol && !canVault s) * 2 ^ 9
      + b2n (lv == .mir && s.twin.role == .solo) * 2 ^ 8 + b2n (groveReadOnly s g) * 2 ^ 7
      + levelRank (effLevel s g) * 2 ^ 4 + levelRank lv * 2 ^ 2 + 1

/-- A poison-log record (R172). -/
def poisonRecNum (r : PoisonRec) : Nat :=
  r.gtc % 2 ^ 64 * 2 ^ 128 + sat 32 r.reads * 2 ^ 96 + r.grove % 1024 * 2 ^ 86 + r.tile % 2 ^ 32 * 2 ^ 54
    + r.sectors.toNat * 2 ^ 38 + r.origin % 4 * 2 ^ 36

/-- TIER_CELLAR_MODE. -/
def cellarModeWord (s : State) : Nat :=
  b2n s.tier.draining * 2 ^ 7 + b2n (canVault s) * 2 ^ 6 + b2n s.tier.throttle * 2 ^ 5 + b2n s.tier.wearLimit * 2 ^ 4
    + fld s .tierCellarMode 1 0

/-- Registers of the CANOPY and TIER blocks. -/
def readTier (s : State) (id : RegId) (i : Nat) : Nat :=
  match id with
  | .canCtl => canCtlWord s
  | .canMaintStatus => maintStatusWord s
  | .canMaintSkipped => sat 32 s.can.skipped
  | .canMaintLeft => sat 32 (maintLeft s)
  | .canPinLines => pinLines s
  | .tierCellarMode => cellarModeWord s
  | .tierDirty => dirtySectors s
  | .tierMetaDirty => s.tier.metaDirty.length
  | .tierVaultTime => if cellarMode s = 2 then 0 else s.tier.vaultTime
  | .tierVaultLast => s.tier.vaultLast.1 % 4 * 2 ^ 30 + sat 30 s.tier.vaultLast.2
  | .tierWearAllow => s.tier.wearAllow
  | .tierWearUsedLo => recWord (s.tier.nandBytes / 2 ^ 20) 0
  | .tierWearUsedHi => recWord (s.tier.nandBytes / 2 ^ 20) 1
  | .tierFreeFrames => freeFrames s
  | .tierSchedCount => ((s.tier.md.queue.map (·.sched)).dedup).length
  | .tierSchedEntries => s.tier.md.queue.length
  | .tierPoisonData =>
    match s.tier.plog[fld s .tierPoisonIndex 5 0]? with
    | some r => recWord (poisonRecNum r) i
    | none => 0
  | .tierPoisonCount => s.tier.plog.length
  | .groveStatus => groveStatusWord s i
  | _ => regWord s id i

/-! ## DRAM and NAND (R231, R232, R257, R258) -/

/-- STATE of a channel. -/
def chCode : ChState → Nat
  | .absent => 0
  | .training => 1
  | .online => 2
  | .selfRefresh => 3
  | .evacuating => 4
  | .offline => 5
  | .failed => 6

/-- DRAM_CH_STATUS. -/
def chStatusWord (s : State) (n : Nat) : Nat :=
  let c := chOf s n
  chCode c.state * 2 ^ 28 + c.set % 16 * 2 ^ 24 + c.capGib % 1024 * 2 ^ 12 + c.lranks % 16 * 2 ^ 8
    + b2n (c.ranks.any (fun r => r.2.hot)) * 2 ^ 7 + c.density % 4 * 2 ^ 5 + c.trained % 4 * 2 ^ 3

/-- A UE log record (R222), with the coordinates the map gives its line (R210). -/
def ueRecNum (s : State) (r : UeRec) : Nat :=
  let c := coordOf s (r.addr / 1024) (r.addr % 1024)
  r.gtc % 2 ^ 64 * 2 ^ 64 + r.src % 4096 * 2 ^ 52 + r.cls % 4 * 2 ^ 50 + r.action % 4 * 2 ^ 48 + c.sub % 2 * 2 ^ 47
    + c.rank % 8 * 2 ^ 44 + c.bg % 8 * 2 ^ 41 + c.ba % 4 * 2 ^ 39 + c.row % 2 ^ 18 * 2 ^ 21 + c.col % 128 * 2 ^ 14

/-- Percentage of the current patrol lap done. -/
def patrolPos (s : State) (n : Nat) : Nat :=
  let all := chLines s n
  if all = 0 then 0 else min 100 ((chOf s n).patrol * 100 / all)

/-- DRAM_SETn_HI. -/
def setHiWord (s : State) (n : Nat) : Nat :=
  let x := setOf s n
  if !x.valid then 0
  else
    2 ^ 31 + x.state % 4 * 2 ^ 29 + x.log2 % 8 * 2 ^ 24 + x.first % 16 * 2 ^ 20 + x.map % 4 * 2 ^ 18
      + b2n x.gran * 2 ^ 17 + x.degraded.toNat

/-- DRAM_EVAC_STATUS. -/
def evacStatusWord (s : State) : Nat :=
  b2n s.dram.evBusy * 2 ^ 31 + b2n (s.dram.evSafe.contains s.dram.evSet) * 2 ^ 30 + s.dram.evSet % 16 * 2 ^ 8 + s.dram.evResult % 8

/-- Registers of the DRAM block. -/
def readDram (s : State) (id : RegId) (i j : Nat) : Nat :=
  match id with
  | .dramChStatus => chStatusWord s i
  | .dramChCmd => 0
  | .dramUeData =>
    match (chOf s i).ueLog[fld s .dramUeIndex 4 0 i]? with
    | some r => recWord (ueRecNum s r) j
    | none => 0
  | .dramUeCount => (chOf s i).ueLog.length
  | .dramPatrolLap => sat 32 (chOf s i).lap
  | .dramPatrolPos => patrolPos s i
  | .dramTrainTime => sat 16 (chOf s i).trainMs
  | .dramEvacCmd => 0
  | .dramEvacStatus => evacStatusWord s
  | .dramEvacLeft => if s.dram.evBusy then setUsed s s.dram.evSet else 0
  | .dramSetLo => (setOf s i).base % 2 ^ 27
  | .dramSetHi => setHiWord s i
  | _ => regWord s id i j

/-- A die that is DEAD, REBUILDING or RETIRED. -/
def dieDown (d : Die) : Bool := d.state == .dead || d.state == .rebuilding || d.state == .retired

/-- STATE of a die. -/
def dieCode : DieState → Nat
  | .absent => 0
  | .online => 1
  | .retiring => 2
  | .retired => 3
  | .dead => 4
  | .rebuilding => 5

/-- Dies of a channel that the image uses. -/
def chDies (s : State) (n : Nat) : List Die :=
  ((List.range 32).map (dieOf s n)).filter (fun d => d.state != .absent)

/-- NAND_CH_STATUS. -/
def nandStatusWord (s : State) (n : Nat) : Nat :=
  let c := SMap.get s.nand.chs {} n
  let ds := chDies s n
  let down := (ds.filter dieDown).length
  let st := if c.failed then 4 else if !c.present then 0 else if c.training then 1 else if down != 0 then 3 else 2
  if st = 0 then 0
  else st * 2 ^ 28 + ds.length * 2 ^ 16 + down * 2 ^ 10 + c.trained % 4 * 2 ^ 8 + fld s .nandNodeCfg 31 24

/-- NAND_DIEd. -/
def dieWord (s : State) (n d : Nat) : Nat :=
  let x := dieOf s n d
  if x.state = .absent then 0
  else dieCode x.state * 2 ^ 28 + sat 12 (sparesLeft s (n * 32 + d)) * 2 ^ 16
    + sat 16 (s.nand.erases.foldl (fun m p => if p.1 / 2 ^ 12 = n * 32 + d then max m p.2 else m) 0)

/-- NAND_REBUILD_STATUS. -/
def rebuildWord (s : State) : Nat :=
  b2n s.nand.rbBusy * 2 ^ 31 + s.nand.rbDie / 32 % 32 * 2 ^ 26 + s.nand.rbDie % 32 * 2 ^ 21 + s.nand.rbResult % 4

/-- Registers of the NAND block. -/
def readNand (s : State) (id : RegId) (i j : Nat) : Nat :=
  match id with
  | .nandChStatus => nandStatusWord s i
  | .nandBadBlocks => sat 16 (SMap.get s.nand.chs {} i).bad
  | .nandDie => dieWord s i j
  | .nandScanLap => sat 32 s.nand.scanLap
  | .nandFreeTiles => s.nand.t2Tiles - liveT2 s - s.tier.progs.length
  | .nandUsedTiles => liveT2 s
  | .nandRebuildStatus => rebuildWord s
  | .nandRebuildLeft => s.nand.rbLeft.length
  | .nandUnprotected => s.tier.unprotected.length
  | .nandCellarFree => celFree s / 1048576
  | .nandErasePending => sat 16 s.nand.erasedAtUp
  | _ => regWord s id i j

/-! ## Host ports, network and twin (R283 to R285, R324, R325, R127 to R129) -/

/-- HOST_PORT_STATUS; an absent or unformed port reads NOT_FORMED (R499). -/
def hostStatusWord (s : State) (p : Nat) : Nat :=
  let x := portOf s p
  if !x.formed then 4 * 2 ^ 28
  else
    let link := match x.link with
      | .down => 0
      | .training => 1
      | .up => 2
      | .l23 => 0
    (if x.isolated then 3 else link) * 2 ^ 28 + x.rate % 16 * 2 ^ 24 + x.width % 32 * 2 ^ 19 + x.flit % 4 * 2 ^ 17
      + x.ide % 4 * 2 ^ 15 + ldCount s p * 2 ^ 10 + b2n x.degraded * 2 ^ 9

/-- An access-log record (R284). -/
def accRecNum (r : AccRec) : Nat :=
  r.gtc % 2 ^ 64 * 2 ^ 64 + r.ld % 16 * 2 ^ 60 + r.reason % 16 * 2 ^ 56 + b2n r.write * 2 ^ 55
    + r.dpa / 64 % 2 ^ 34 * 64

/-- Media Status of the node (R279): 0 Not Ready, 1 Ready, 2 Disabled. -/
def mediaStatus (s : State) : Nat := if !isReady s then 0 else if serving s then 1 else 2

/-- HOST_LDn_STATUS. -/
def ldStatusWord (s : State) (p l : Nat) : Nat :=
  let x := ldOf s p l
  if !x.present then 0 else b2n x.bound * 2 ^ 31 + mediaStatus s * 2 ^ 29 + x.entries % 2 ^ 23

/-- Registers of the HOST block. -/
def readHost (s : State) (id : RegId) (i j : Nat) : Nat :=
  match id with
  | .hostStatus => hostStatusWord s i
  | .hostCmd => 0
  | .hostHold => fld s .hostHold 31 16 i * 2 ^ 16 + sat 16 (heldOf s i)
  | .hostAccData =>
    match (portOf s i).log[fld s .hostAccIndex 4 0 i]? with
    | some r => recWord (accRecNum r) j
    | none => 0
  | .hostAccCount => (portOf s i).log.length
  | .hostLdStatus => ldStatusWord s i j
  | _ => regWord s id i j

/-- NET_PORT_STATUS; an unformed port reads NOT_FORMED (R499). A formed port out of reset that is not UP trains. -/
def netStatusWord (s : State) (p : Nat) : Nat :=
  let x := netOf s p
  if !x.formed then 3 * 2 ^ 28
  else (if x.up then 2 else if x.held then 0 else 1) * 2 ^ 28 + x.speed % 16 * 2 ^ 24 + x.lanes % 16 * 2 ^ 20

/-- The oldest PTP timestamp of a port. -/
def ptpHead (s : State) (p : Nat) : PtpTs := ((netOf s p).ptp.head?).getD ⟨0, false, 0, 0⟩

/-- NET_PTP_TS_ID. -/
def ptpIdWord (x : PtpTs) : Nat := b2n x.tx * 2 ^ 31 + x.mtype % 16 * 2 ^ 24 + x.seqId % 65536

/-- Registers of the NET block. -/
def readNet (s : State) (id : RegId) (i : Nat) : Nat :=
  match id with
  | .netStatus => netStatusWord s i
  | .netPtpCount => (netOf s i).ptp.length
  | .netPtpTsLo => recWord (ptpHead s i).ts 0
  | .netPtpTsHi => recWord (ptpHead s i).ts 1
  | .netPtpTsId => ptpIdWord (ptpHead s i)
  | .netQpOpen => (SMap.present s.net.qps).length
  | .netPeers => (SMap.present s.net.peers).length
  | .netKeys => (SMap.present s.tier.md.keys).length
  | .netRevokePending => sat 16 s.net.revokes.length
  | .netCreditOut => sat 32 (s.net.creditOut / 1024)
  | .netCmd => 0
  | .netCmdArg => 0
  | _ => regWord s id i

/-- TWIN_ROLE. -/
def roleWord (s : State) : Nat :=
  roleCode s.twin.peerRole * 2 ^ 8 + b2n (s.twin.resync != 0) * 2 ^ 5 + b2n s.twin.lagHold * 2 ^ 4 + roleCode s.twin.role

/-- LINK_STATE (R128). -/
def linkCode : Link → Nat
  | .down => 0
  | .train => 1
  | .negotiate => 2
  | .up => 3
  | .degrade => 4

/-- TWIN_LINK_STATUS. -/
def twinLinkWord (s : State) : Nat :=
  sat 8 (s.twin.rtt / 10) * 2 ^ 24 + s.twin.version % 16 * 2 ^ 20 + linkCode s.twin.link * 2 ^ 12
    + popCount s.twin.lanes

/-- TWIN_SEQ: last emitted on a serving node, last applied on another. -/
def twinSeq (s : State) : Nat := if serving s then s.seqr.nextSeq - 1 else s.twin.applied

/-- A divergence record (R105). -/
def divRecNum (r : DivRec) : Nat :=
  r.gtc % 2 ^ 64 * 2 ^ 64 + r.src % 4096 * 2 ^ 52 + r.grove % 1024 * 2 ^ 42 + r.line % 2 ^ 42

/-- Word `j` of the selected divergence record. -/
def divWord (s : State) (j : Nat) : Nat :=
  match s.tier.md.divs[fld s .twinDivIndex 19 0]? with
  | some r => recWord (divRecNum r) j
  | none => 0

/-- Registers of the TWIN block. -/
def readTwin (s : State) (id : RegId) (i : Nat) : Nat :=
  let left := s.twin.toSend.length + s.twin.metaSend.length
  match id with
  | .twinRole => roleWord s
  | .twinEpoch => s.twin.epoch % 2 ^ 32
  | .twinLink => twinLinkWord s
  | .twinFeatures => s.twin.features % 2 ^ 32
  | .twinLag => fld s .twinLag 31 16 * 2 ^ 16 + sat 16 s.twin.lag
  | .twinSeqLo => recWord (twinSeq s) 0
  | .twinSeqHi => recWord (twinSeq s) 1
  | .twinLeftLo => recWord left 0
  | .twinLeftHi => recWord left 1
  | .twinDivCount => s.tier.md.divs.length
  | .twinDivLost => sat 32 s.twin.divLost
  | .twinDivData => divWord s i
  | .twinDivData3 => divWord s 3
  | .twinCmdArg => 0
  | .twinCmdStatus => b2n s.twin.cmdBusy * 2 ^ 31 + s.twin.cmdResult % 4
  | _ => regWord s id i

/-! ## Cipher, integrity and faults (R351, R352, R438 to R441) -/

/-- CIPHER_STATUS. -/
def cipherStatusWord (s : State) : Nat :=
  (if s.cipher.lanesUp then nLanes s - s.cipher.badLanes.length else 0) * 2 ^ 16 + b2n s.cipher.dukBlocked * 2 ^ 8
    + b2n (!s.cipher.sat.isEmpty)

/-- STATE of a slot. -/
def slotCode : SlotState → Nat
  | .empty => 0
  | .loaded => 1
  | .rolling => 2
  | .exhausted => 3

/-- CIPHER_SLOT_INFO of a slot. -/
def slotInfoWord (x : Slot) : Nat :=
  slotCode x.state * 2 ^ 30 + x.bind % 8 * 2 ^ 27 + b2n x.hardened * 2 ^ 26 + b2n x.pair * 2 ^ 25 + b2n x.warn * 2 ^ 24
    + x.target % 1024

/-- Registers of the CIPHER block. -/
def readCipher (s : State) (id : RegId) (i : Nat) : Nat :=
  let n := fld s .ciphSlotIndex 11 0
  match id with
  | .ciphStatus => cipherStatusWord s
  | .ciphSlotInfo => slotInfoWord (slotOf s n)
  | .ciphCtrLo => recWord (slotOf s n).ctr 0
  | .ciphCtrHi => recWord (slotOf s n).ctr 1
  | .ciphSlotRoll => sat 32 (SMap.get s.tier.rollTile 0 n)
  | .ciphCmd => 0
  | .ciphCmdStatus => s.cipher.cmdResult % 8
  | .ciphRqHead => s.cipher.head % 4096
  | _ => regWord s id i

/-- A pending-repair record (R421). -/
def repairRecNum (r : RepairRec) : Nat :=
  r.gtc % 2 ^ 64 * 2 ^ 64 + r.mac % 2 ^ 13 * 2 ^ 51 + r.row % 512 * 2 ^ 42 + r.col % 512 * 2 ^ 33
    + b2n r.isCol * 2 ^ 32 + b2n r.applied * 2 ^ 31

/-- INTEG_STATUS. -/
def integStatusWord (s : State) : Nat :=
  b2n s.integ.scrubbing * 2 ^ 31 + fld s .intFlipSel 31 31 * 2 ^ 30 + s.integ.pending.length % 2048 * 2 ^ 16
    + sat 13 s.integ.noSpare.length

/-- INTEG_MACRO_INFO of the selected array. -/
def arrayInfoWord (s : State) : Nat :=
  let m := fld s .intMacIndex 12 0
  if !macPresent s m then 0
  else
    let u := SMap.get s.integ.spares (0, 0) m
    u.1 % 8 * 2 ^ 13 + u.2 % 4 * 2 ^ 11 + 1

/-- Registers of the INTEG block. -/
def readInteg (s : State) (id : RegId) (i : Nat) : Nat :=
  match id with
  | .intStatus => integStatusWord s
  | .intScrubLap => sat 32 s.integ.lap
  | .intCeLog =>
    match s.integ.ceLog with
    | some (b, m, w) => 2 ^ 31 + b % 128 * 2 ^ 24 + m % 2 ^ 13 * 2 ^ 11 + w % 2048
    | none => 0
  | .intRepairData =>
    match s.integ.pending[fld s .intRepairIndex 9 0]? with
    | some r => recWord (repairRecNum r) i
    | none => 0
  | .intMacInfo => arrayInfoWord s
  | _ => regWord s id i

/-- Severe sources. -/
def severeList (s : State) : List (Nat × FltSrc) := (SMap.present s.flt.src).filter (fun p => p.2.severe)

/-- Whole ms until a time, rounded up. -/
def msLeft (s : State) (t : Nat) : Nat := ceilDiv (t - now s) 1000000

/-- FLT_STATUS. -/
def fltStatusWord (s : State) : Nat :=
  (severeList s).foldl (fun m p => max m (min 2 p.2.lvl)) 0 * 2 ^ 29 + b2n s.flt.alert * 2 ^ 28
    + fld s .fltStatus 27 27 * 2 ^ 27 + sat 10 (severeList s).length

/-- FLT_GRACE. -/
def graceWord (s : State) : Nat :=
  match (SMap.present s.flt.src).filterMap (fun p => p.2.timer) with
  | [] => 0
  | t :: l => 2 ^ 31 + sat 10 (l.length + 1) * 2 ^ 16 + sat 10 (msLeft s (l.foldl min t))

/-- FLT_SRC_CFG of a source. -/
def srcCfgWord (x : FltSrc) : Nat := x.n % 256 * 2 ^ 24 + x.level % 8 * 2 ^ 20 + x.grace % 1024

/-- FLT_SRC_WIN of a source. -/
def srcWinWord (x : FltSrc) : Nat := x.wUnit % 4 * 2 ^ 14 + x.wVal % 2 ^ 14

/-- FLT_SRC_STATE of a source. -/
def srcStateWord (s : State) (x : FltSrc) : Nat :=
  b2n x.severe * 2 ^ 31 + x.lvl % 8 * 2 ^ 28 + b2n x.timer.isSome * 2 ^ 27
    + (match x.timer with
      | some t => sat 10 (msLeft s t)
      | none => 0) * 2 ^ 16 + sat 8 x.count

/-- Registers of the FLT block. -/
def readFlt (s : State) (id : RegId) (i : Nat) : Nat :=
  let e := fld s .fltSrcIndex 9 0
  match id with
  | .fltStatus => fltStatusWord s
  | .fltSevere => ((severeList s).filter (fun p => p.1 / 32 = i)).foldl (fun v p => v + 2 ^ (p.1 % 32)) 0
  | .fltGrace => graceWord s
  | .fltSrcCfg => srcCfgWord (fltOf s e)
  | .fltSrcWin => srcWinWord (fltOf s e)
  | .fltSrcState => srcStateWord s (fltOf s e)
  | .fltCmd => 0
  | _ => regWord s id i

/-! ## Coppice, monitors, recorder, configuration and debug (R462 to R464, R380, R381, R489, R490) -/

/-- Registers of the COP block. -/
def readCop (s : State) (id : RegId) (i : Nat) : Nat :=
  match id with
  | .copStatus => freeBlocks s * 2 ^ 16 + (List.range 4).foldl (fun v p => v + poolState s p % 4 * 4 ^ p) 0
  | .copFree => freeBufs s i
  | .copBlocks => (copBlocksOf s i).length
  | .copUnclaimed => sat 32 (unclaimed s / 1024)
  | .copBadLast =>
    match s.cop.badLast with
    | some (own, pool, k) => b2n own * 2 ^ 31 + pool % 4 * 2 ^ 28 + k % 2 ^ 18
    | none => 0
  | .copBadWho => s.cop.badWho.1 % 4096 * 2 ^ 16 + s.cop.badWho.2 % 4096
  | _ => regWord s id i

/-- Registers of the PERF block. -/
def readPerf (s : State) (id : RegId) (i j : Nat) : Nat :=
  let u := SMap.get s.perf {} i
  match id with
  | .perfCycleLo => recWord u.cycle 0
  | .perfCycleHi => recWord u.cycle 1
  | .perfCntLo => recWord (SMap.get u.cnt 0 j) 0
  | .perfCntHi => SMap.get u.cnt 0 j / 2 ^ 32 % 65536
  | .perfGlobal => 0
  | _ => regWord s id i j

/-- A recorder record as bytes (R458). -/
def recBytes (r : Rec) : List Byte :=
  leBytes 8 r.gtc ++ leBytes 2 1640 ++ leBytes 1 r.path ++ leBytes 1 (b2n r.sat + 2 * b2n r.merged)
    ++ leBytes 2 r.rep ++ leBytes 2 0 ++ leBytes 4 r.min ++ leBytes 4 r.max ++ leBytes 4 r.count ++ leBytes 4 0
    ++ ((List.range 32).map (fun b => leBytes 4 (SMap.get r.bins 0 b))).flatten

/-- Registers of the REC block. -/
def readRec (s : State) (id : RegId) (i : Nat) : Nat :=
  match id with
  | .recStatus =>
    b2n (fld s .recPaths 15 0 != 0 && !s.recd.full) * 2 ^ 31 + b2n s.recd.frozen * 2 ^ 30 + b2n s.recd.full * 2 ^ 29
      + s.recd.store.length % 2 ^ 13
  | .recCmd => 0
  | .recData =>
    match s.recd.store[fld s .recIndex 11 0]? with
    | some r => byteWord (recBytes r) i
    | none => 0
  | _ => regWord s id i

/-- CFG_IMAGE_STATUS. -/
def imageStatusWord (s : State) : Nat :=
  let c := s.cfg
  c.running % 4 * 2 ^ 30 + c.node.active % 4 * 2 ^ 28 + b2n c.fallback * 2 ^ 27 + b2n c.relayout * 2 ^ 26
    + b2n (img s).format3 * 2 ^ 25 + b2n c.reformat * 2 ^ 24 + c.stageA % 16 * 2 ^ 20 + c.reasonA % 256 * 2 ^ 12
    + c.stageB % 16 * 2 ^ 8 + c.reasonB % 256

/-- CFG_FLASH_STATUS. -/
def flashStatusWord (s : State) : Nat :=
  let e := s.cfg.eng
  b2n e.busy * 2 ^ 31 + b2n (e.unlock != 0) * 2 ^ 30 + e.bank % 4 * 2 ^ 28 + e.result % 256

/-- DBG_STATUS. -/
def dbgWord (s : State) : Nat :=
  let st := match s.cfg.dbg with
    | .closed => 0
    | .challenged => 1
    | .opening => 2
    | .opened => 3
  let fails := (s.cfg.fails.filter (fun t => decide (now s - t < 60000000000))).length
  st * 2 ^ 30 + b2n s.cfg.gate * 2 ^ 29 + b2n s.cfg.locked * 2 ^ 28 + s.cfg.purpose % 4 * 2 ^ 26 + sat 2 fails

/-- Byte 0 of a big number first: word `j` of the challenge, as DBG_CHALLENGEj holds it. -/
def challengeWord (s : State) (j : Nat) : Nat := recWord s.cfg.challenge.toNat j

/-- Registers of the CFG and DBG blocks. -/
def readCfg (s : State) (id : RegId) (i : Nat) : Nat :=
  match id with
  | .flashKey => 0
  | .flashCmd => 0
  | .flashStatus => flashStatusWord s
  | .flashErases => sat 32 (SMap.get s.cfg.hdrs {} (fld s .flashAddr 26 0 / 65536)).erases
  | .cfgRdp => b2n s.cfg.lowering * 4 + s.cfg.rdp % 4
  | .imgStatus => imageStatusWord s
  | .imgDetail => s.cfg.detail.1 % 256 * 2 ^ 24 + s.cfg.detail.2 % 2 ^ 24
  | .imgVersion => (img s).version % 2 ^ 32
  | .imgLayoutLo => recWord s.cfg.layoutId.toNat 0
  | .imgLayoutHi => recWord s.cfg.layoutId.toNat 1
  | .imgCmd => 0
  | .imgCmdStatus => s.cfg.cmdStage % 16 * 2 ^ 8 + s.cfg.cmdReason % 256
  | .dbgStatus => dbgWord s
  | .dbgCmd => 0
  | .dbgChallenge => challengeWord s i
  | .dbgResp => 0
  | _ => regWord s id i

/-- What a register reads as: block by block of R491. -/
def hwReg (s : State) (r : RegSpec) (i j : Nat) : Nat :=
  (match r.base / 2 ^ 24 with
    | 0 => readGlb s r.id i
    | 1 => readGlb s r.id i
    | 2 => readClk s r.id
    | 3 => readClk s r.id
    | 4 => readTier s r.id i
    | 5 => readTier s r.id i
    | 6 => readDram s r.id i j
    | 7 => readNand s r.id i j
    | 8 => readHost s r.id i j
    | 9 => readNet s r.id i
    | 10 => readTwin s r.id i
    | 11 => readCipher s r.id i
    | 12 => readInteg s r.id i
    | 13 => readFlt s r.id i
    | 14 => readCop s r.id i
    | 15 => readPerf s r.id i j
    | 16 => readRec s r.id i
    | _ => readCfg s r.id i) % 2 ^ 32

end Sys2Proof.Machine
end

