-- ==== Sys2Proof/Machine/Replay.lean ====
section
/-!
DEFINITION. Bring-up stages 7 to 10: DRAM and NAND training (R201, R206, R207, R229, R234), the replay of stage 8
(R166 to R168, R223, R250, R252, R376, R377), the twin join of stage 9 (R79, R80) and READY (R401).
-/

namespace Sys2Proof.Machine

open Sys2Proof

/-! ## Stage 7: DRAM -/

/-- The set of a channel of the image; 16 for a channel of no set. -/
def setOfChan (im : Image) (c : Nat) : Nat :=
  ((im.dram.sets.zipIdx.find? (fun p => (chansOf p.1).contains c)).map (·.2)).getD 16

/-- R202, R206, R207: one channel at a cold bring-up; the training is quick where the saved values are those of these
DIMMs, this slot and this data rate. -/
def coldChan (im : Image) (c : Nat) (r : Option DramTrain) (s : State) : State :=
  let x := chanAt im.dram c
  if x.dimms = 0 then updCh c (fun _ => {}) s
  else
    let good := match r with
      | some t => t.matchesImage && t.trained
      | none => false
    let quick := match r with
      | some t => SMap.find s.cfg.savedDram c == some (trainKey s c t) && t.quickOk
      | none => false
    let s1 := updCh c (fun _ =>
      { state := if good then .online else .failed, set := setOfChan im c, capGib := chanGib x,
        lranks := x.dimms * x.ranks * x.stack, density := x.density, trained := if quick then 1 else 0
        trainMs := (r.map (·.msTaken)).getD 0, lapStart := now s, clkOn := true, resetN := true }) s
    match r with
    | some t => if good then saveTrain c t s1 else dramEvent c 5 s1
    | none => dramEvent c 5 s1

/-- R209: the image's sets; one with a channel that failed is offline with all its channels. -/
def coldSets (im : Image) (s : State) : State :=
  forEach im.dram.sets.zipIdx (fun p t =>
    let bad := (chansOf p.1).any (fun c => (chOf t c).state != .online)
    let t1 := updSet p.2 (fun _ =>
      { valid := true, state := if bad then 2 else 0, base := p.1.base, frames := imgFrames im.dram p.1, log2 := p.1.log2,
        first := p.1.first, map := p.1.map, gran := p.1.gran == 1, degraded := p.1.degraded }) t
    if bad then setChannels p.2 (serveAs .offline) t1 else t1) s

/-- Frames of a set below those of grove 1,023. -/
def metaFits (s : State) (n : Nat) : Nat := (setOf s n).frames - metaFrames s n

/-- R134, R223: tiles of grove 1,023 from `t` on take their two frames from the tops of ONLINE sets, in different sets
where two have room (log 50). -/
def placeMeta (fuel t k : Nat) (s : State) : State :=
  match fuel with
  | 0 => s
  | n + 1 =>
    let on := (List.range 16).filter (fun n => setOpen (setOf s n) && decide (0 < metaFits s n))
    let top (b k : Nat) : Nat := (setOf s b).base + metaFits s b - k
    if k = 0 then s
    else match on with
      | [] => s
      | [a] =>
        let m := min k (metaFits s a / 2)
        if m = 0 then s
        else placeMeta n (t + m) (k - m)
          { s with dram := { s.dram with metaRuns := s.dram.metaRuns ++ [⟨t, m, top a m, top a (2 * m)⟩] } }
      | a :: rest =>
        let b := rest.getLastD a
        let m := min k (min (metaFits s a) (metaFits s b))
        placeMeta n (t + m) (k - m)
          { s with dram := { s.dram with metaRuns := s.dram.metaRuns ++ [⟨t, m, top a m, top b m⟩] } }

/-- R134, R223: the frames of grove 1,023 at a cold bring-up. -/
def coldMeta (im : Image) (s : State) : State := placeMeta 32 0 (metaTiles im) s

/-- R223, R229: one tile's copies after a set was lost: the copy that is left takes a new partner; with both lost, the
entries are. -/
def keepMeta (n : Nat) (fuel : Nat) (s : State) : State :=
  match fuel with
  | 0 => s
  | k + 1 =>
    match s.dram.metaRuns.find? (fun r => setNum s r.frame = n || setNum s r.partner = n) with
    | none => s
    | some r =>
      let a := decide (setNum s r.frame = n)
      let b := decide (setNum s r.partner = n)
      let s1 := if a && b then forEach (List.range 1024) (loseMetaLine r.tile) s else s
      match partnerFrame s1 (fun m => m != n) (if a then r.partner else r.frame) with
      | some f => keepMeta n k (useFree (rehome r a f s1))
      | none => s1

/-- R229: a tile whose frame was lost: clean sectors come from the T2 copy, the others are poisoned, under a free ORIGIN (log 91). -/
def loseFrame (x : Nat × Nat × Nat) (s : State) : State :=
  let e := tile s x.2.1 x.2.2
  let s1 := poisonLines x.2.1 x.2.2 (linesOf e.sdirty) (Config.choose s.free 4 % 4) (useFree (dropFrame x.1 s))
  updTile x.2.1 x.2.2 (fun y => { y with frame := none, sdirty := 0, pinned := false }) s1

/-- R202, R207, R229: a set that a warm bring-up cannot bring online is lost. -/
def loseSet (n : Nat) (s : State) : State :=
  let s1 := forEach (setTiles s n) loseFrame s
  let s2 := setChannels n (serveAs .offline) (updSet n (fun x => { x with state := 2 }) s1)
  keepMeta n (2 * metaFrames s2 n) s2

/-- R202, R207: one channel at a warm bring-up leaves self-refresh on its retained values, where its SPD matches the
image. -/
def warmChan (c : Nat) (r : Option DramTrain) (s : State) : State :=
  let x := chOf s c
  if x.state != .selfRefresh then s
  else
    let good := (r.map (fun t => t.matchesImage && t.trained)).getD false
    let on : ChState := if (setOf s x.set).state = 1 then .evacuating else .online
    let s1 := updCh c (fun y => { y with state := if good then on else .failed, trained := 2, trainMs := (r.map (·.msTaken)).getD 0 }) s
    onlyIf (!good) (dramEvent c 5) s1

/-- Sets in service with a channel that failed. -/
def lostSets (s : State) : List Nat :=
  (List.range 16).filter (fun n => (setOf s n).valid && (setOf s n).state != 2
    && (List.range (2 ^ (setOf s n).log2)).any (fun k => (chOf s ((setOf s n).first + k)).state == .failed))

/-- Stage 7's DRAM part. -/
def trainDram (im : Image) (d : List DramTrain) (s : State) : State :=
  if s.pwr.warm then
    let s1 := forEach (List.range 16) (fun c t => warmChan c (d[c]?) t) s
    forEach (lostSets s1) loseSet s1
  else coldMeta im (coldSets im (forEach (List.range 16) (fun c t => coldChan im c (d[c]?) t)
    { s with dram := {} }))

/-! ## Stage 7: NAND -/

/-- R234: a die answers and matches, or is absent, or DEAD with its channel; a die that retired, or at a warm bring-up is
out of service, stays so. -/
def trainDie (ch die : Nat) (chOk ok : Bool) (s : State) : State :=
  updDie ch die (fun d => { d with state :=
    if d.state = .retired || (s.pwr.warm && (d.state = .dead || d.state = .rebuilding)) then d.state
    else if !chOk then .dead
    else if !ok then .absent
    else if s.pwr.warm && d.state = .retiring then .retiring else .online }) s

/-- R233, R236: DIE of a channel's dies: chip enable × 2 + LUN. -/
def dieNums (im : Image) : List Nat := (List.range im.nand.ndies).map (fun i => if im.nand.luns = 1 then 2 * i else i)

/-- R234: one NAND channel of the image. -/
def trainNandCh (im : Image) (c : Nat) (r : Option NandTrain) (s : State) : State :=
  let good := (r.map (·.trained)).getD false
  let key (t : NandTrain) : TrainKey := ⟨t.serials, fld s .nandNodeCfg 31 24, c⟩
  let quick := match r with
    | some t => SMap.find s.cfg.savedNand c == some (key t) && t.quickOk
    | none => false
  let s0 := match r with
    | some t => if good then { s with cfg := { s.cfg with savedNand := SMap.put s.cfg.savedNand c (some (key t)) } } else s
    | none => s
  let s1 := { s0 with nand := { s0.nand with chs := SMap.upd s0.nand.chs {} c (fun x => { x with
    present := true, training := false, failed := !good, trained := if s.pwr.warm then 2 else if quick then 1 else 0 }) } }
  forEach (dieNums im) (fun d t => trainDie c d good ((r.map (fun x => x.dies.contains d)).getD false) t) s1

/-- Stage 7's NAND part. -/
def trainNand (im : Image) (l : List NandTrain) (s : State) : State :=
  forEach (List.range im.nand.nch) (fun c t => trainNandCh im c (l[c]?) t) s

/-- R10, R505: the MCLK domains of the part's quadrants run. -/
def mclkOn (s : State) : State :=
  { s with clk := { s.clk with mclk := true, running := s.clk.running ||| ofBits 28 ((List.range (nQuads s)).map (3 + ·)) } }

/-- STAGE_7 (R201, R202, R206, R207, R229, R234, R401, R404, R505): MCLK, the DRAM channels, the NAND channels; host
links train from here on. -/
def execStage7 (dram : List DramTrain) (nand : List NandTrain) (s : State) : Host.Outcome State Fault Refusal :=
  done (if !inStage s 7 then s
    else
      let im := img s
      let s1 := trainDram im dram (mclkOn s)
      if !(List.range 16).any (fun n => (setOf s1 n).valid && (setOf s1 n).state != 2) then stopNode s1
      else
        let s2 := trainNand im nand s1
        let s3 := forEach (List.range 16) (fun p t =>
          if (portOf t p).formed then updPort p (fun x => { x with link := .training, topWidth := 0, topRate := 0 }) t else t) s2
        toStage 8 s3)

/-! ## Stage 8: what a bring-up finds (R166, R252, R376) -/

/-- R166: a tile held content: a frame, a T2 copy or a Cellar record. -/
def held (e : Tile) : Bool := e.frame.isSome || e.t2.isSome || e.cellar

/-- Groves of a tile table with content that `p` counts. -/
def holding (m : Meta) (p : Tile → Bool) : List Nat :=
  ((m.tiles.filter (fun x => held x.2 && p x.2)).map (fun x => x.1 / 2 ^ 32)).dedup

/-- The tile table as `f` leaves each entry; poison maps that no entry names are free. -/
def mapTiles (f : Nat → Tile → Tile) (m : Meta) : Meta :=
  let ts := m.tiles.filterMap (fun x => let y := f x.1 x.2; if y = {} then none else some (x.1, y))
  { m with tiles := ts, pmaps := SMap.filterKeys m.pmaps (fun i => ts.any (fun x => x.2.poison == some i)) }

/-- Levels in a table of groves. -/
def levelIn (m : Meta) (g : Nat) : Level := ((SMap.find m.groves g).map (·.level)).getD .vol

/-- Groves of a table that `p` takes. -/
def grovesOf (m : Meta) (p : GroveRec → Bool) : List Nat := ((SMap.present m.groves).filter (fun x => p x.2)).map (·.1)

/-- R166, rows 1 and 2: a tile of the vault's table: T1 is empty, indexed tiles are in the Cellar, and what a
VOLATILE grove had not sealed is gone. -/
def vaultTile (v : Vault) (k : Nat) (e : Tile) : Tile :=
  if levelIn v.meta_ (k / 2 ^ 32) = .vol && !e.sealed_ then {}
  else { e with frame := none, pinned := false, cellar := v.index.any (fun x => x / 16 = k) }

/-- R162, R165: indexed sectors without a record are poisoned. Which ORIGIN their poison-log records bear is free: none
of R172's is a bring-up's (log 91). -/
def poisonMissing (v : Vault) (s : State) : State :=
  forEach (v.index.filter (fun k => !v.done.contains k)) (fun k t =>
    let x := ofSkey k
    poisonLines x.1 x.2.1 (linesOf (BitVec.ofNat 16 (2 ^ x.2.2))) (Config.choose s.free 4 % 4) t) (useFree s)

/-- What a row of R166 leaves: the state, groves that are LOST, groves that are INCOMPLETE. -/
structure Replay where
  st   : State
  lost : List Nat
  inc  : List Nat

/-- Groves of the entries that a vault restores marked (R423, R534). -/
def markedGroves (v : Vault) : List Nat :=
  (v.land.filter (fun p => match p.2 with
    | some e => e.poison
    | none => false)).map (fun p => p.1 / 2 ^ 42)

/-- R166, rows 1 and 2: a vault with LM_DONE. -/
def fromVault (v : Vault) (s : State) : Replay :=
  let missing := (v.index.filter (fun k => !v.done.contains k)).map (fun k => k / 2 ^ 36)
  let vols := holding v.meta_ (fun e => !e.sealed_)
  { st := poisonMissing v { s with
      tier := { s.tier with md := mapTiles (vaultTile v) v.meta_, celRecs := v.done }
      can := { s.can with land := v.land }
      twin := { s.twin with retained := v.retained, applied := v.seq, ackSeq := v.seq }
      seqr := { s.seqr with nextSeq := v.seq + 1 } }
    lost := vols.filter (fun g => levelIn v.meta_ g == .vol)
    inc := if v.cut = 2 then (missing ++ markedGroves v).dedup else grovesOf v.meta_ (fun r => r.level != .vol) }

/-- R166, row 3, and its form that takes sealed tiles too (R252, R376, R483). -/
def fromTrickle (keepSealed : Bool) (s : State) : Replay :=
  let m := s.tier.snap
  let keep (e : Tile) : Bool := keepSealed && e.sealed_
  let f (_ : Nat) (e : Tile) : Tile :=
    if keep e then { e with frame := none, pinned := false, cellar := false, sdirty := 0 } else {}
  let m1 := mapTiles f m
  { st := { s with tier := { s.tier with
      md := if keepSealed then m1 else { m1 with journal := [] }, celRecs := [], cel := [] } }
    lost := holding m (fun e => !keep e)
    inc := grovesOf m (fun r => r.level != .vol) }

/-- R166: the row that a cold bring-up meets. -/
def coldReplay (anchorReadable : Bool) (s : State) : Replay :=
  if !s.tier.anchored then { st := { s with tier := { s.tier with md := {}, celRecs := [], cel := [] } }, lost := [], inc := [] }
  else if s.cfg.reformat || !anchorReadable then fromTrickle false s
  else match s.tier.vault with
    | some v => if s.tier.session || v.cut = 0 || cellarMode s = 2 then fromTrickle true s else fromVault v s
    | none => fromTrickle true s

/-- R70, R71, R84, R168, R423: a warm bring-up: landing entries that cannot be read are gone, and so is the unsealed
content of VOLATILE groves with its landing entries. A node that joins asks its peer for the tiles it lost so (log 58). -/
def warmReplay (badMeta badData : List (Nat × Nat)) (s : State) : Replay :=
  let keyOf (x : Nat × Nat) : Nat := lkey x.1 x.2
  let found (c : Nat) : List (Nat × Nat) :=
    ((SMap.present s.can.land).filter (fun p => !protOk s c p.1)).map (fun p => (p.1 / 2 ^ 42, p.1 % 2 ^ 42))
  let gone := (badMeta ++ found 3).filter (fun x => (SMap.find s.can.land (keyOf x)).isSome)
  let bad := (badData ++ found 4).filter (fun x => (SMap.find s.can.land (keyOf x)).isSome)
  let land1 := gone.foldl (fun m x => SMap.del m (keyOf x)) s.can.land
  let land2 := bad.foldl (fun m x => SMap.upd m none (keyOf x) (Option.map (fun e => { e with poison := true }))) land1
  let inTable := ((tiles s).filter (fun p => levelOf s p.1 == .vol && !p.2.2.sealed_ && held p.2.2)).map (fun p => (p.1, p.2.1))
  let landed := (land2.filter (fun p => levelOf s (p.1 / 2 ^ 42) == .vol)).map (fun p => (p.1 / 2 ^ 42, tileOf (p.1 % 2 ^ 42)))
  let vols := (inTable ++ landed).dedup
  let again := vols ++ gone.map (fun x => (x.1, tileOf x.2))
  { st := forEach vols (fun p t => releaseTile p.1 p.2 t) { s with
      can := { s.can with land := land2 }
      twin := { s.twin with recopyOut := (s.twin.recopyOut ++ again).dedup } }
    lost := (vols.map (·.1)).dedup
    inc := (if gone.isEmpty then [] else grovesOf s.tier.md (fun r => r.level != .vol)) ++ (bad.map (·.1)).dedup }

/-! ## Stage 8: relayout (R377) -/

/-- R377: the groves of the image in place of the stored ones; what shrank or went is released. -/
def relayGroves (im : Image) (s : State) : State :=
  let s1 := forEach (SMap.present s.tier.md.groves) (fun p t =>
    match imgGrove im p.1 with
    | some r => forEach (tilesFrom t p.1 (r.extents * 256)) (releaseTile p.1) t
    | none => forEach (tilesFrom t p.1 0) (releaseTile p.1) t) s
  { s1 with tier := { s1.tier with md := { s1.tier.md with
      groves := im.groves.groves.foldl (fun m r => SMap.set m none r.grove (some r)) []
      tmpls := im.groves.tmpls.foldl (fun m r => SMap.set m none r.grove (some r)) []
      maxGroves := im.groves.maxGroves
      allowDelete := im.groves.allowDelete
      regions := im.groves.regions
      layoutId := layoutOf im
      queue := s1.tier.md.queue.filter (fun q => (imgGrove im q.e.grove).isSome)
      journal := s1.tier.md.journal.filter (fun r => (imgGrove im r.grove).isSome) } } }

/-- R43, R368: the map entries of the image's map records. -/
def imgMap (im : Image) : List (Nat × MapEntry) :=
  im.groves.maps.flatMap (fun m => (List.range m.count).map (fun i =>
    (mapKey m.ld (m.dpa + i), { valid := true, rd := m.rd, wr := m.wr, dyn := false, dcRegion := 0, grove := m.grove, extent := m.gext + i })))

/-- R377: a window still lies in a grove. -/
def windowStays (s : State) (w : Window) : Bool :=
  match groveOf s w.grove with
  | some r => decide (w.off + w.len ≤ r.extents * 2 ^ 24)
  | none => false

/-- R377: a relayout. -/
def applyRelayout (im : Image) (s : State) : State :=
  let s1 := relayGroves im s
  let map := (imgMap im).foldl (fun m x => SMap.set m none x.1 (some x.2)) []
  let keys := s1.tier.md.keys.filter (fun p => match p.2 with
    | some k => k.windows.all (windowStays s1)
    | none => false)
  { s1 with
    tier := { s1.tier with md := { s1.tier.md with map := map, keys := keys } }
    host := { s1.host with lds := SMap.mapVals s1.host.lds {} (fun l => { l with extents := [] }) } }

/-- R377: a fresh node takes its layout; another LAYOUT_ID than the stored one is a relayout. -/
def layoutStep (im : Image) (s : State) : State :=
  let fresh := !s.tier.anchored && !s.pwr.warm
  if fresh then applyRelayout im s
  else if s.tier.md.layoutId = layoutOf im then s
  else
    let s1 := applyRelayout im s
    { s1 with cfg := { s1.cfg with relayout := true } }

/-! ## Stage 8: the rest -/

/-- R267: the Dynamic Capacity extents that the map still holds, at a cold bring-up, block by block. -/
def listExtents (s : State) : State :=
  if s.pwr.warm then s
  else forEach s.tier.md.map (fun p t => match p.2 with
    | some x =>
      if x.valid && x.dyn then
        updLd (p.1 / 2 ^ 26) (p.1 / 2 ^ 22 % 16) (fun l => { l with
          extents := l.extents ++ [{ dpaExtent := p.1 % 2 ^ 22, blocks := 1, grove := x.grove, groveExtent := x.extent }] }) t
      else t
    | none => t) s

/-- R145, R146, R168: the seals of the journal restart over their ranges, but for what an UNSEAL ended. -/
def restartSeals (s : State) : State :=
  forEach s.tier.md.journal (fun r t => forEach (List.range r.count) (fun k u =>
    if tileReadOnly u r.grove (r.first + k)
      || r.cuts.any (fun x => decide (x.1 ≤ r.first + k) && decide (r.first + k < x.1 + x.2)) then u
    else updTile r.grove (r.first + k) (fun e => { e with sealing := true, sealGtc := r.gtc, sealSrc := r.src }) u) t) s

/-- The virtual block that a physical one stands behind, both by die key × 2^12. -/
def virtBlk (s : State) (p : Nat) : Nat :=
  match (dieAt s (p / 2 ^ 12)).remap.find? (fun x => x.2 = some (p % 2 ^ 12)) with
  | some x => p / 2 ^ 12 * 2 ^ 12 + x.1
  | none => p

/-- R247, R250: a block with a pending record is erased again; one that fails its verify is retired. -/
def eraseOne (bad : List Nat) (p : Nat) (s : State) : State :=
  let s1 := dropUnprotected (virtBlk s p) (erased (virtBlk s p) s)
  if bad.contains p then retireBlock (virtBlk s p) s1 else s1

/-- R250: blocks with a pending record are erased again and verified; `bad` names those that fail. -/
def eraseAgain (bad : List Nat) (s : State) : State :=
  let l := s.tier.md.erasePending
  let s1 := forEach l (eraseOne bad) { s with
    tier := { s.tier with md := { s.tier.md with erasePending := [] } }
    nand := { s.nand with erasedAtUp := l.length } }
  onlyIf (!l.isEmpty) (ftlCause 2) s1

/-- R376: the Cellar region shrinks at once, and takes its size where the NAND is empty; otherwise it grows as
reclaim frees blocks. -/
def sizeCellar (s : State) : State :=
  let need := s.tier.celNeed
  let now := if !s.tier.anchored || s.cfg.reformat then need else min need s.tier.celBlocks
  { s with tier := { s.tier with celBlocks := now } }

/-- R253: a die that the FTL tables name is DEAD where it is absent or its channel FAILED. -/
def missingDie (k : Nat) (s : State) : State :=
  let d := dieAt s k
  if d.state = .absent || (d.state = .dead && (SMap.get s.nand.chs {} (k / 32)).failed) then
    killDie k (updDieAt k (fun x => { x with state := .online }) s)
  else s

/-- R253: dies that the FTL tables name and that cannot serve are DEAD; a rebuild goes on, or begins. -/
def missingDies (s : State) : State :=
  startRebuild (forEach (((liveSlots s (fun _ => true)).map (· / 2 ^ 22)).dedup) missingDie s)

/-- A grove's slot knows its grove (R351). -/
def nameSlots (s : State) : State :=
  forEach (SMap.present s.tier.md.groves) (fun p t =>
    setSlot p.2.keySlot { slotOf t p.2.keySlot with target := p.1 } t) s

/-- R70, R73, R74: the flags of a bring-up, with one data-loss event. -/
def flagGroves (r : Replay) (s : State) : State :=
  let lost := r.lost.filter (fun g => (groveOf s g).isSome)
  let inc := r.inc.filter (fun g => (groveOf s g).isSome)
  let s1 := forEach inc (fun g t => setBit .groveStatus g 11 t) (forEach lost (fun g t => setBit .groveStatus g 10 t) s)
  onlyIf (!(lost ++ inc).isEmpty) (raise 561)
    { s1 with twin := { s1.twin with lostAtUp := (lost ++ inc).any (fun g => levelOf s g != .vol) } }

/-- R169, R171: what a cold bring-up finds of the last vault: TIER_VAULT_LAST, and 564 for one that is not complete. -/
def findVault (s : State) : State :=
  match (if s.tier.session then none else s.tier.vault) with
  | none => { s with tier := { s.tier with vaultLast := (0, 0) } }
  | some v =>
    onlyIf (v.cut ≠ 2) (raise 564) (useSlot (groveSlot s 1023) ((lmRecords s v).1 + (lmRecords s v).2)
      { s with tier := { s.tier with vaultLast := (3 - v.cut, v.ms) } })

/-- STAGE_8 (R70, R71, R166 to R168, R223, R250, R252, R364, R376, R377, R401): the replay, the relayout, the flags,
and the tables. -/
def execStage8 (anchorReadable : Bool) (badMeta badData : List (Nat × Nat)) (badErase : List Nat) (s : State) : Host.Outcome State Fault Refusal :=
  done (if !inStage s 8 then s
    else
      let im := img s
      let r := if s.pwr.warm then warmReplay badMeta badData s else coldReplay anchorReadable s
      let s0 := if s.pwr.warm then r.st else findVault r.st
      let s1 := sizeNeed (nameSlots (listExtents (layoutStep im s0)))
      let s2 := sizeCellar (eraseAgain badErase (restartSeals s1))
      let s3 := { s2 with twin := { s2.twin with t1Intact := s.pwr.warm && !s2.twin.needBulk } }
      syncCond (toStage 9 (missingDies (flagGroves r s3))))

/-! ## Stages 9 and 10 -/

/-- STAGE_9 (R79, R80, R120): without a twin the node is SOLO; with one the UTL trains, and NEGOTIATE or T_join ends
the stage. -/
def execStage9 (s : State) : Host.Outcome State Fault Refusal :=
  done (if !inStage s 9 || s.twin.role != .unset || s.twin.link != .down then s
    else
      let last := s.cfg.node.lastRole
      let s1 := modTwin (fun t => { t with
        epoch := s.cfg.node.epoch
        applied := if last = .solo || last = .leader then s.seqr.nextSeq - 1 else t.applied }) s
      if !hasTwin s1 then setRole .solo s1 else modTwin (fun t => { t with link := .train }) s1)

/-- R34: the sources that the image enables. -/
def enabledSources (s : State) : List Nat :=
  let lds := (s.host.lds.filter (fun p => p.2.present && (portOf s (p.1 / 16)).formed)).map (·.1)
  let engines := if (img s).net.isSome then (List.range (if isSmall s then 8 else 16)).map (256 + ·) else []
  let twin := if hasTwin s then (List.range 16).map (272 + ·) else []
  lds ++ engines ++ twin ++ (List.range 28).map (288 + ·)

/-- R80, R92: the twin part of bring-up is over: a role is taken, and a JOINING node with its link up has completed
an exchange of TIME. -/
def joined (s : State) : Bool :=
  s.twin.role != .unset && !(s.twin.role == .joining && s.twin.link != .down && !s.twin.timeDone)

/-- READY (R161, R166, R167, R252, R320, R354, R369, R401, R466): entry points open on a serving node, ports leave reset,
the session record and the copies found invalid are programmed. -/
def execReady (s : State) : Host.Outcome State Fault Refusal :=
  done (if !inStage s 9 || !joined s then s
    else
      let im := img s
      let s1 := modPwr (fun p => { p with
        stage := 10, ready := true, wasReady := true, warm := false, upMs := min 65535 (ceilDiv (p.aonTime - p.upAt) 1000000) }) s
      let s2 := { s1 with
        tier := { s1.tier with
          session := true, fingerprint := some (fingerprintOf im)
          lifeStart := some (s1.tier.lifeStart.getD s1.clk.gtc)
          draining := s1.tier.md.tiles.any (fun p => p.2.cellar) }
        can := { s1.can with enabled := im.canopy.enable }
        seqr := { s1.seqr with mergeSet := enabledSources s1 }
        integ := { s1.integ with scrubbing := true, scrubAt := now s1 }
        net := { s1.net with ports := SMap.mapVals s1.net.ports {} (fun x => if x.formed then { x with held := false } else x) } }
      let rewrite (t : State) : State := forEach t.cfg.toRewrite writeCopy { t with cfg := { t.cfg with toRewrite := [] } }
      rewrite <| onlyIf s.cfg.fallback (raise 584) (onlyIf (!s.tier.unprotected.isEmpty) (ftlCause 1)
        (anchorWrite (.fingerprint (fingerprintOf im)) (anchorWrite (.session s1.clk.gtc) s2))))

end Sys2Proof.Machine
end

