-- ==== Sys2Proof/Machine/Control.lean ====
section
/-!
DEFINITION. Accesses of the control space (R7, R486, R491 to R501): reads with their latches and side effects,
writes by each field's access code or by the register's own rule, REG_READ, REG_WRITE and GLADE_ACCESS.
-/

namespace Sys2Proof.Machine

open Sys2Proof

/-! ## Which registers an access meets -/

/-- R499: the instance is one that the part lacks, or a port that the image does not form. -/
def absentReg (s : State) (r : RegSpec) (i : Nat) : Bool :=
  r.s1 == 65536 &&
    (match r.base / 2 ^ 24 with
      | 6 => decide (nSlices s ≤ i)
      | 7 => decide (nNand s ≤ i)
      | 8 => decide (nHost s ≤ i) || !(portOf s i).formed
      | 9 => !(netOf s i).formed
      | _ => false)

/-- R499: a register that an absent instance still answers with its absent value. -/
def statusReg (id : RegId) : Bool :=
  id == .dramChStatus || id == .nandChStatus || id == .hostStatus || id == .netStatus

/-- The LD's grove map names the grove. -/
def ldMaps (s : State) (src g : Nat) : Bool :=
  s.tier.md.map.any (fun e => e.1 / 2 ^ 22 == src && (match e.2 with
    | some x => x.valid && x.grove == g
    | none => false))

/-- R486, R504: a register that a read of HOST privilege returns. -/
def hostReads (s : State) (q l : Nat) (r : RegSpec) (i : Nat) : Bool :=
  match r.base / 2 ^ 24 with
  | 0 => r.id == .glbId || r.id == .glbStatus || r.id == .glbCaps || r.id == .glbFwVersion || r.id == .glbSerial
  | 3 => true
  | 5 => r.id == .groveStatus && ldMaps s (16 * q + l) i
  | 8 => r.s1 == 65536 && i == q
  | _ => false

/-- The path may read the register. -/
def mayRead (s : State) (p : Path) (r : RegSpec) (i : Nat) : Bool :=
  match p with
  | .mailbox q l => hostReads s q l r i
  | _ => true

/-- R486, R504: the path may write the register: HOST does not where its chapter reserves it for management. -/
def mayWrite (p : Path) (r : RegSpec) : Bool := isMgmt p || (!r.mgmt && decide (2 ^ 24 ≤ r.base))

/-- R494: the low two bits of a load or store by the service processor are ignored. -/
def wordAddr (p : Path) (addr : Nat) : Nat := if p = .sp then addr / 4 * 4 else addr

/-! ## Reads (R496, R497) -/

/-- The _HI register of a pair. -/
def hiOf : RegId → Option RegId
  | .gtcNowLo => some .gtcNowHi
  | .canStartLo => some .canStartHi
  | .canLenLo => some .canLenHi
  | .tierWearUsedLo => some .tierWearUsedHi
  | .dramSetLo => some .dramSetHi
  | .netPtpTsLo => some .netPtpTsHi
  | .twinSeqLo => some .twinSeqHi
  | .twinLeftLo => some .twinLeftHi
  | .ciphCtrLo => some .ciphCtrHi
  | .ciphRqBaseLo => some .ciphRqBaseHi
  | .fltFirstLo => some .fltFirstHi
  | .perfStartLo => some .perfStartHi
  | .perfEndLo => some .perfEndHi
  | .perfCycleLo => some .perfCycleHi
  | .perfCntLo => some .perfCntHi
  | .imgLayoutLo => some .imgLayoutHi
  | _ => none

/-- The latch of a path for an address. -/
def latchKey (p : Path) (addr : Nat) : Nat := srcOf p * 2 ^ 32 + addr

/-- Sets or empties a latch. -/
def setLatch (p : Path) (addr : Nat) (v : Option Word) (s : State) : State :=
  { s with latch := SMap.set s.latch none (latchKey p addr) v }

/-- R496: the current value of a register is latched for the path. -/
def latchReg (p : Path) (id : RegId) (i j : Nat) (s : State) : State :=
  match regOf id with
  | some r => setLatch p (regAddr id i j) (some (lo32 (hwReg s r i j))) s
  | none => s

/-- R496, R324: what a read of a _LO register latches. -/
def latchPair (p : Path) (id : RegId) (i j : Nat) (s : State) : State :=
  let s1 := match hiOf id with
    | some h => latchReg p h i j s
    | none => s
  if id = .netPtpTsLo then latchReg p .netPtpTsId i 0 s1 else s1

/-- R7: a read clears the RC fields. -/
def clearRc (r : RegSpec) (i j : Nat) (s : State) : State :=
  if r.fields.any (fun f => f.acc == .rc) then
    setRegWord r.id i j
      (r.fields.foldl (fun w f => if f.acc = .rc then putBits w f.hi f.lo 0 else w) (regWord s r.id i j)) s
  else s

/-- R324: the oldest PTP timestamp is popped. -/
def popPtp (p : Path) (i : Nat) (s : State) : State :=
  setLatch p (regAddr .netPtpTsId i) none (updNet i (fun x => { x with ptp := x.ptp.drop 1 }) s)

/-- What a read that returns the register's value does to it. -/
def readEffect (p : Path) (r : RegSpec) (i j : Nat) (s : State) : State :=
  let s1 := latchPair p r.id i j (clearRc r i j s)
  if r.id = .netPtpTsId then popPtp p i s1
  else if r.id = .copLow then { s1 with cop := { s1.cop with lowKnown := s1.cop.lowKnown.filter (· ≠ i) } }
  else s1

/-- R468: a read of CFG_FLASH_DATA advances ADDR, unless it is blocked. -/
def readFlash (p : Path) (s : State) : State × Nat :=
  let a := fld s .flashAddr 26 0
  let r := flashWord p a s
  if r.2 then (raise 589 s, 0) else (useFree (setRegWord .flashAddr 0 0 ((a + 4) % 2 ^ 27) s), r.1)

/-- The value of a register for a path: a latched _HI, or the current value. -/
def pathValue (p : Path) (addr : Nat) (r : RegSpec) (i j : Nat) (s : State) : Nat :=
  match SMap.get s.latch none (latchKey p addr) with
  | some v => v.toNat
  | none => hwReg s r i j

/-- A read of one word: the state after it, the value, and whether it was refused. -/
def readWord (p : Path) (addr0 : Nat) (s : State) : State × Nat × Bool :=
  let addr := wordAddr p addr0
  match regAt addr with
  | none => (accessEvent false 0 p addr s, 0, true)
  | some (r, i, j) =>
    if !mayRead s p r i then (accessEvent false 1 p addr s, 0, true)
    else if absentReg s r i then
      (accessEvent false 0 p addr s, if statusReg r.id then hwReg s r i j else 0, true)
    else if r.id = .flashData then
      let x := readFlash p s
      (x.1, x.2, false)
    else (readEffect p r i j s, pathValue p addr r i j s, false)

/-- A load: the word goes back to the path. -/
def load (p : Path) (addr : Nat) (s : State) : State :=
  if !regUp s p then s
  else
    let x := readWord p addr s
    send (.readVal p addr x.2.1) x.1

/-- LO_READ_LATCH (R496): a read of a _LO register. -/
def execLoReadLatch (p : Path) (addr : Nat) (s : State) : Host.Outcome State Fault Refusal := done (load p addr s)

/-- RC_READ (R7): a read of a register with an RC field. -/
def execRcRead (p : Path) (addr : Nat) (s : State) : Host.Outcome State Fault Refusal := done (load p addr s)

/-- PTP_TIMESTAMP_POP (R324): a read of NET_PTP_TS_ID. -/
def execPtpTimestampPop (p : Path) (port : Nat) (s : State) : Host.Outcome State Fault Refusal :=
  done (load p (regAddr .netPtpTsId port) s)

/-! ## Writes by access code (R7, R498, R500) -/

/-- A field written out of the range its register states; an RWL field is not written at READY. -/
def fieldBad (ready : Bool) (v : Nat) (f : Field) : Bool :=
  let x := bitsOf v f.hi f.lo
  (f.acc == .rw || f.acc == .rws || f.acc == .wo || (f.acc == .rwl && !ready)) && (decide (x < f.least) || decide (f.most < x))

/-- An RWL field written after READY with a value not its own. -/
def fieldLocked (ready : Bool) (old v : Nat) (f : Field) : Bool :=
  ready && f.acc == .rwl && bitsOf v f.hi f.lo != bitsOf old f.hi f.lo

/-- R7: a field after a write. -/
def writeField (ready : Bool) (v w : Nat) (f : Field) : Nat :=
  let x := bitsOf v f.hi f.lo
  match f.acc with
  | .rw => putBits w f.hi f.lo x
  | .rws => putBits w f.hi f.lo x
  | .wo => putBits w f.hi f.lo x
  | .rwl => if ready then w else putBits w f.hi f.lo x
  | .rw1c => putBits w f.hi f.lo (bitsOf w f.hi f.lo - (bitsOf w f.hi f.lo &&& x))
  | .rc => w
  | .ro => w

/-- R213: the GUARANTEE rates fit the channels online once regulator `n` has the rate. -/
def ratesFit (s : State) (n rate : Nat) : Bool :=
  let rates := ((List.range 48).filter (fun k => fld s .dramRegCfg 30 29 k = 2)).map
    (fun k => if k = n then rate else fld s .dramRegRate 13 0 k)
  let up := ((List.range (nSlices s)).filter (fun c =>
    (chOf s c).state == .online || (chOf s c).state == .selfRefresh || (chOf s c).state == .evacuating)).length
  guaranteeOk rates up (fld s .dramNodeCfg 23 16)

/-- R343: the floors sum to 64 or less once class `n` has the floor. -/
def floorsFit (s : State) (n x : Nat) : Bool :=
  let at_ (k : Nat) : Nat := if k = n then x else if k < 5 then fld s .ciphClassCfg 6 0 k else fld s .ciphClassCfg5 6 0 (k - 5)
  decide ((List.range 9).foldl (fun t k => t + at_ k) 0 ≤ 64)

/-- A write that breaks a rule its register states beyond the fields' ranges: the ordering of COP_THRESH (R462), the
sums of R213 and R343, and BURST of 1 or more (R232). -/
def ruleBroken (s : State) (r : RegSpec) (i v : Nat) : Bool :=
  match r.id with
  | .copThresh => !(decide (bitsOf v 19 10 < bitsOf v 29 20) && decide (bitsOf v 9 0 < bitsOf v 19 10))
  | .copThresh3 => !(decide (bitsOf v 19 10 < bitsOf v 29 20) && decide (bitsOf v 9 0 < bitsOf v 19 10))
  | .dramRegRate => fld s .dramRegCfg 30 29 i = 2 && !ratesFit s i (bitsOf v 13 0)
  | .dramRegCfg => bitsOf v 15 0 = 0 || (fld s .dramRegCfg 30 29 i = 2 && !ratesFit s i (fld s .dramRegRate 13 0 i))
  | .ciphClassCfg => !floorsFit s i (bitsOf v 6 0)
  | .ciphClassCfg5 => !floorsFit s (i + 5) (bitsOf v 6 0)
  | _ => false

/-- The stored fields after a write that keeps every rule. -/
def storeFields (p : Path) (addr : Nat) (r : RegSpec) (i j v : Nat) (s : State) : State :=
  let old := regWord s r.id i j
  let rdy := rwlLocked s
  let s1 := setRegWord r.id i j (r.fields.foldl (writeField rdy v) old) s
  onlyIf (r.fields.any (fieldLocked rdy old v)) (accessEvent true 2 p addr) s1

/-- A write by access code. INTEG_FLIPMASK is ignored while ARM is 1 (R427). -/
def plainWrite (p : Path) (addr : Nat) (r : RegSpec) (i j v : Nat) (s : State) : State :=
  if r.fields.any (fieldBad (rwlLocked s) v) || ruleBroken s r i v then accessEvent true 3 p addr s
  else if (r.id = .intFlipMask0 || r.id = .intFlipMask1 || r.id = .intFlipMask2) && fld s .intFlipSel 31 31 = 1 then s
  else
    let s1 := storeFields p addr r i j v s
    if r.id = .copThresh || r.id = .copThresh3 then copSettle s1 else s1

/-! ## Registers with a write rule of their own -/

/-- The state that a command leaves. -/
def afterCmd (o : Host.Outcome State Fault Refusal) (s : State) : State :=
  match o with
  | .next t => t
  | _ => s

/-- R414: a write of PWR_CMD. -/
def writePwrCmd (p : Path) (v : Nat) (s : State) : State :=
  let addr := regAddr .pwrCmd
  match v % 16 with
  | 1 => if powerOnOk s then startStage1 2 (logPwr 0x0B (srcOf p) s) else refuseWrite p addr s
  | 2 => if powerOffOk s then powerOffNow p s else refuseWrite p addr s
  | 3 => afterCmd (execClear p s) s
  | _ => s

/-- R506, R507: a write of GTC_CORR_LO. -/
def writeCorrLo (p : Path) (v : Nat) (s : State) : State :=
  let addr := regAddr .gtcCorrLo
  if p != .sp then accessEvent true 1 p addr s
  else if !serving s then accessEvent true 4 p addr s else setRegWord .gtcCorrLo 0 0 v s

/-- R199: a write of CANOPY_CTL: ENABLE by R193 and R194, the RWL fields by R7. -/
def writeCanCtl (p : Path) (r : RegSpec) (v : Nat) (s : State) : State :=
  let s1 := storeFields p (regAddr .canCtl) r 0 0 v s
  afterCmd (if bitOf v 0 then execCanopyEnable p s1 else execCanopyDisable p [] s1) s1

/-- R199: a write of CANOPY_MAINT_CMD. -/
def writeMaint (p : Path) (v : Nat) (s : State) : State :=
  let g := bitsOf v 25 16
  match v % 16 with
  | 1 => afterCmd (execClean p g [] s) s
  | 2 => afterCmd (execInvalidate p g [] s) s
  | 3 => afterCmd (execCleanInvalidate p g [] s) s
  | 4 => afterCmd (execZeroRange p g s) s
  | n => maintCmd p g n (fun t => t) s

/-- R232: a write of DRAM_EVAC_CMD. -/
def writeEvac (p : Path) (v : Nat) (s : State) : State :=
  let n := bitsOf v 11 8
  match v % 16 with
  | 1 => afterCmd (execEvacuate p n s) s
  | 2 => afterCmd (execReturnSet p n s) s
  | 3 => afterCmd (execAbortEvac p n s) s
  | _ => s

/-- R284: a write of HOST_PORT_CMD. Which width and rate a RETRAIN reaches is the other end's matter (log 3). -/
def writeHostCmd (p : Path) (port v : Nat) (s : State) : State :=
  match v % 16 with
  | 1 => afterCmd (execIsolate p port s) s
  | 2 => afterCmd (execHostPortRelease p port s) s
  | 3 =>
    let k := Config.choose s.free 30 % 30
    afterCmd (execRetrain p port (2 ^ (k % 5)) (1 + k / 5) (useFree s)) s
  | 4 => afterCmd (execLogClear p port s) s
  | _ => s

/-- R325: a write of NET_CMD. -/
def writeNetCmd (p : Path) (v : Nat) (s : State) : State :=
  let arg := regWord s .netCmdArg
  match v % 16 with
  | 1 => afterCmd (execCloseQp p (arg % 2 ^ 24) s) s
  | 2 => afterCmd (execClosePeer p (arg % 4096) s) s
  | _ => s

/-- R128: a write of TWIN_CMD. -/
def writeTwinCmd (p : Path) (v : Nat) (s : State) : State :=
  match v % 16 with
  | 1 => afterCmd (execHandover p s) s
  | 2 => afterCmd (execResume p s) s
  | 3 => afterCmd (execForceLead p s) s
  | 4 => afterCmd (execWitnessGrant p s) s
  | 5 => afterCmd (execDivClear p s) s
  | 6 => afterCmd (execRewiden p s) s
  | _ => s

/-- R352: a write of CIPHER_CMD. -/
def writeCipherCmd (p : Path) (v : Nat) (s : State) : State :=
  let n := bitsOf v 27 16
  match v % 16 with
  | 1 => afterCmd (execZeroise p n s) s
  | 2 => afterCmd (execRoll p n s) s
  | _ => s

/-- R441: a window of 1 µs to 16 s. -/
def windowFits (u w : Nat) : Bool :=
  decide (1 ≤ w) && decide (u ≤ 2) && (u == 0 || (u == 1 && decide (w ≤ 16000)) || (u == 2 && decide (w ≤ 16)))

/-- R441: a write of FLT_SRC_CFG, for the source that FLT_SRC_INDEX selects. -/
def writeSrcCfg (p : Path) (v : Nat) (s : State) : State :=
  let n := bitsOf v 31 24
  let l := bitsOf v 22 20
  let g := bitsOf v 9 0
  let e := fld s .fltSrcIndex 9 0
  if n = 0 || 4 < l || 1000 < g then accessEvent true 3 p (regAddr .fltSrcCfg) s
  else setFlt e { fltOf s e with n := n, level := l, grace := g } s

/-- R441: a write of FLT_SRC_WIN. -/
def writeSrcWin (p : Path) (v : Nat) (s : State) : State :=
  let u := bitsOf v 15 14
  let w := bitsOf v 13 0
  let e := fld s .fltSrcIndex 9 0
  if windowFits u w then setFlt e { fltOf s e with wUnit := u, wVal := w } s
  else accessEvent true 3 p (regAddr .fltSrcWin) s

/-- R441: a write of FLT_CMD. -/
def writeFltCmd (p : Path) (v : Nat) (s : State) : State :=
  let arg := bitsOf v 25 16
  match v % 16 with
  | 1 => afterCmd (execReleaseGrove p arg s) s
  | 2 => afterCmd (execReleasePort p (arg % 8) s) s
  | 3 => afterCmd (execAckAll p s) s
  | _ => s

/-- R455: a write of PERF_GLOBAL. -/
def writePerfGlobal (p : Path) (v : Nat) (s : State) : State :=
  match v % 16 with
  | 1 => afterCmd (execPerfStart p s) s
  | 2 => afterCmd (execPerfStop p s) s
  | 3 => afterCmd (execPerfGlobalClear p s) s
  | _ => s

/-- R460: a write of REC_CMD. -/
def writeRecCmd (p : Path) (v : Nat) (s : State) : State :=
  match v % 16 with
  | 1 => afterCmd (execFreeze p s) s
  | 2 => afterCmd (execThaw p s) s
  | 3 => afterCmd (execRecClear p s) s
  | _ => s

/-- R468: a write of CFG_FLASH_KEY: the keys in turn. -/
def writeFlashKey (p : Path) (v : Word) (s : State) : State :=
  flashWrite p .flashKey (fun t =>
    if t.cfg.eng.unlock = 0 && v = 0x4E6B21D3#32 then modEng (fun e => { e with unlock := 1, who := srcOf p }) t
    else if t.cfg.eng.unlock = 1 && v = 0xB0A57C19#32 then modEng (fun e => { e with unlock := 2, words := 0, cmd := 0 }) t
    else seqErr t) s

/-- R381: what the checks of stage 5 find on a bank that VERIFY or SELECT names, where the command does not say
(log 3). -/
def freeVerdict (s : State) : BankVerdict :=
  let k := Config.choose s.free 16
  ⟨bitOf k 0, bitOf k 1, bitOf k 2, bitOf k 3⟩

/-- R381: a write of CFG_IMAGE_CMD. -/
def writeImageCmd (p : Path) (v : Nat) (s : State) : State :=
  let bank := bitsOf v 5 4
  match v % 16 with
  | 1 => afterCmd (execVerifyBank p bank (freeVerdict s) (useFree s)) s
  | 2 => afterCmd (execSelectBank p bank (freeVerdict s) (useFree s)) s
  | _ => s

/-- R490: a write of DBG_AUTH_CMD. Whether the response is good is free where the command does not say (log 3). -/
def writeDbgCmd (p : Path) (v : Nat) (s : State) : State :=
  match v % 16 with
  | 1 => afterCmd (execChallenge p (bitsOf v 5 4) s) s
  | 2 => afterCmd (execSubmit p (bitOf (Config.choose s.free 2) 0) (useFree s)) s
  | _ => s

/-- R463: a write of PERF_CTL: the stored fields, and CLEAR. -/
def writePerfCtl (p : Path) (addr : Nat) (r : RegSpec) (i v : Nat) (s : State) : State :=
  onlyIf (bitOf v 29) (clearUnit i) (plainWrite p addr r i 0 v s)

/-- R477: a write of CFG_RDP raises or lowers the level. -/
def writeRdp (p : Path) (v : Word) (s : State) : State :=
  afterCmd (if v.toNat % 4 < s.cfg.rdp then execRdpLower p v s else execRdpRaise p v s) s

/-- A write of a register with a rule of its own. -/
def cmdWrite (p : Path) (addr : Nat) (r : RegSpec) (i j : Nat) (v : Word) (s : State) : State :=
  let n := v.toNat
  match r.id with
  | .pwrCmd => writePwrCmd p n s
  | .gtcCorrLo => writeCorrLo p n s
  | .gtcCorrHi => afterCmd (execGtcCorrection p v s) s
  | .canCtl => writeCanCtl p r n s
  | .canMaintCmd => writeMaint p n s
  | .dramChCmd => if n % 16 = 1 then afterCmd (execUeClear p i s) s else s
  | .dramEvacCmd => writeEvac p n s
  | .hostCmd => writeHostCmd p i n s
  | .netCmd => writeNetCmd p n s
  | .twinDivData3 => writeTwinCmd p n s
  | .ciphCmd => writeCipherCmd p n s
  | .ciphRqTail => afterCmd (execRqTailWrite p (n % 4096) s) s
  | .ciphRqStatus => if bitOf n 31 then afterCmd (execRingRestart p s) s else s
  | .intFlipSel => afterCmd (execFlipArm p v s) s
  | .fltSevere => afterCmd (execSevereAcknowledge p i v s) s
  | .fltSrcCfg => writeSrcCfg p n s
  | .fltSrcWin => writeSrcWin p n s
  | .fltCmd => writeFltCmd p n s
  | .perfCtl => writePerfCtl p addr r i n s
  | .perfGlobal => writePerfGlobal p n s
  | .recCmd => writeRecCmd p n s
  | .flashKey => writeFlashKey p v s
  | .flashCmd => writeFlashCmd p n s
  | .flashAddr => writeFlashAddr p n s
  | .flashData => writeFlashData p v s
  | .flashCtl => flashWrite p .flashCtl (plainWrite p addr r i j n) s
  | .cfgRdp => writeRdp p v s
  | .imgCmd => writeImageCmd p n s
  | .dbgCmd => writeDbgCmd p n s
  | _ => plainWrite p addr r i j n s

/-- A write of one word. -/
def writeWord (p : Path) (addr0 : Nat) (v : Word) (s : State) : State :=
  let addr := wordAddr p addr0
  match regAt addr with
  | none => accessEvent true 0 p addr s
  | some (r, i, j) =>
    if !mayWrite p r then accessEvent true 1 p addr s
    else if absentReg s r i then accessEvent true 0 p addr s
    else cmdWrite p addr r i j v s

/-- REGISTER_WRITE (R7, R500): a store to a register. -/
def execRegisterWrite (p : Path) (addr : Nat) (v : Word) (s : State) : Host.Outcome State Fault Refusal :=
  done (if !regUp s p then s else writeWord p addr v s)

/-! ## REG_READ, REG_WRITE and GLADE_ACCESS (R481, R495) -/

/-- R494, R495: a range that the command refuses whole. -/
def badRange (addr count : Nat) : Bool :=
  addr % 4 != 0 || count == 0 || decide (256 < count) || decide (2 ^ 32 ≤ addr)
    || addr / 2 ^ 24 != (addr + 4 * count - 1) / 2 ^ 24

/-- The words of a REG_READ in ascending order: values, and whether any was refused. -/
def readWords (p : Path) : List Nat → State → State × List Nat × Bool
  | [], s => (s, [], false)
  | a :: l, s =>
    let x := readWord p a s
    let y := readWords p l x.1
    (y.1, x.2.1 :: y.2.1, x.2.2 || y.2.2)

/-- Addresses of `n` words. -/
def wordRun (addr n : Nat) : List Nat := (List.range n).map (fun k => addr + 4 * k)

/-- REG_READ (R486, R495). -/
def execRegRead (p : Path) (tag addr count : Nat) (s : State) : Host.Outcome State Fault Refusal :=
  done (belvor p tag 0x02 (fun t =>
    if badRange addr count then complete p tag 0x02 0x82 [] t
    else
      let x := readWords p (wordRun addr count) t
      complete p tag 0x02 (b2n x.2.2) x.2.1 x.1) s)

/-- R495: one word of a REG_WRITE, and whether it was refused: GLB_ACC_COUNT is set aside to see it. -/
def writeCounted (p : Path) (addr : Nat) (v : Word) (s : State) : State × Bool :=
  let before := fld s .glbAccCount 31 0
  let t := writeWord p addr v (setFld .glbAccCount 0 31 0 0 s)
  let n := fld t .glbAccCount 31 0
  (setFld .glbAccCount 0 31 0 (satAdd 32 before n) t, n != 0)

/-- The words of a REG_WRITE in ascending order, as long as the path reaches the node. -/
def writeWords (p : Path) : List (Nat × Word) → State → State × Bool
  | [], s => (s, false)
  | w :: l, s =>
    if !regUp s p then (s, true)
    else
      let x := writeCounted p w.1 w.2 s
      let y := writeWords p l x.1
      (y.1, x.2 || y.2)

/-- REG_WRITE (R486, R495). -/
def execRegWrite (p : Path) (tag addr : Nat) (words : List Word) (s : State) : Host.Outcome State Fault Refusal :=
  done (belvor p tag 0x03 (fun t =>
    if badRange addr words.length then complete p tag 0x03 0x82 [] t
    else
      let x := writeWords p ((wordRun addr words.length).zip words) t
      complete p tag 0x03 (b2n x.2) [] x.1) s)

/-- GLADE_ACCESS (R479, R481): control space over JTAG while Glade is OPEN. -/
def execGladeAccess (wr : Bool) (addr : Nat) (data : Word) (s : State) : Host.Outcome State Fault Refusal :=
  let t := loadIr 0x41 s
  done (if !regUp t .glade || t.cfg.rdp = 2 then t
    else if wr then writeWord .glade addr data t
    else
      let x := readWord .glade addr t
      send (.jtag 0x41 x.2.1) x.1)

end Sys2Proof.Machine
end

