-- ==== Sys2Proof/Machine/Grove.lean ====
section
/-!
DEFINITION. The grove commands of the Belvor command set (R48, R73, R375, R485).
-/

namespace Sys2Proof.Machine

open Sys2Proof

/-- R122, R375: a grove record that names what the command names; the node decides the rest at emission. -/
def groveReq (op grove extents tmpl : Nat) : GroveRec :=
  { grove := grove, op := op, level := .vol, keySlot := 0, wayClass := 0, qos := 0, extents := extents
    maxExtents := 0, tmpl := tmpl, regions := [], sealers := [] }

/-- GROVE_CREATE (R375): stamped under 311; its grove, slot and result are decided at emission. -/
def execGroveCreate (p : Path) (tag tmpl extents : Nat) (s : State) : Host.Outcome State Fault Refusal :=
  done (stampCmd p tag 0x20 (.grove (groveReq 1 0 extents tmpl)) s)

/-- GROVE_RESIZE (R375). -/
def execGroveResize (p : Path) (tag grove extents : Nat) (s : State) : Host.Outcome State Fault Refusal :=
  done (stampCmd p tag 0x21 (.grove (groveReq 2 grove extents 0)) s)

/-- GROVE_DELETE (R48, R375). -/
def execGroveDelete (p : Path) (tag grove : Nat) (s : State) : Host.Outcome State Fault Refusal :=
  done (stampCmd p tag 0x22 (.grove (groveReq 3 grove 0 0)) s)

/-- R485: HOST sees only the groves its LD maps. -/
def seesGrove (s : State) (p : Path) (g : Nat) : Bool :=
  match p with
  | .mailbox q l => ldMaps s (16 * q + l) g
  | _ => true

/-- GROVE_STATUS (R73, R485): the word of TIER_GROVE_STATUSn; 0 for a grove the path does not see. -/
def execGroveStatus (p : Path) (tag grove : Nat) (s : State) : Host.Outcome State Fault Refusal :=
  done (belvor p tag 0x23 (fun t =>
    complete p tag 0x23 0 [if seesGrove t p grove then groveStatusWord t grove else 0] t) s)

end Sys2Proof.Machine
end

