-- ==== Sys2Proof/Machine/NetPort.lean ====
section
/-!
DEFINITION. What a network port does beside VRMP (R286 to R288, R323): address resolution, echo, PAUSE frames,
timestamps and link changes.
-/

namespace Sys2Proof.Machine

open Sys2Proof

/-- The port carries frames: formed, its link UP, at READY, outside a Cellar action (R320). -/
def netLive (s : State) (p : Nat) : Bool := (netOf s p).up && isReady s && s.pwr.state == .on

/-- A frame is dropped and counted (R324). -/
def netDrop (p : Nat) (s : State) : State := bumpRc .netRxDrop p 31 0 1 s

/-- ARP_REQUEST (R287): a request for an address of the port's own is answered. -/
def execArpRequest (port : Nat) (ip : BitVec 128) (s : State) : Host.Outcome State Fault Refusal :=
  onUnit (decide (port < 8)) s
    (if netLive s port && (netOf s port).addrs.contains ip then send (.arpReply port ip) s else s)

/-- NEIGHBOR_SOLICITATION (R287). -/
def execNeighborSolicitation (port : Nat) (ip : BitVec 128) (s : State) : Host.Outcome State Fault Refusal :=
  onUnit (decide (port < 8)) s
    (if netLive s port && (netOf s port).addrs.contains ip then send (.ndReply port ip) s else s)

/-- ICMP_ECHO (R287, R324): an echo request to an address of the port's own is answered; any other is dropped. -/
def execIcmpEcho (port : Nat) (ip : BitVec 128) (v6 : Bool) (s : State) : Host.Outcome State Fault Refusal :=
  onUnit (decide (port < 8)) s
    (if !netLive s port then s
    else if (netOf s port).addrs.contains ip then send (.echoReply port ip v6) s else netDrop port s)

/-- PAUSE_FRAME (R287): counted, PAUSE_RX set, otherwise ignored. -/
def execPauseFrame (port : Nat) (s : State) : Host.Outcome State Fault Refusal :=
  onUnit (decide (port < 8)) s (if (netOf s port).up then setBit .netCause port 2 (netDrop port s) else s)

/-- PTP_EVENT_MESSAGE (R288): the timestamp enters the port's FIFO of 64, or is counted as lost. -/
def execPtpEventMessage (port : Nat) (tx : Bool) (mtype seqId : Nat) (s : State) : Host.Outcome State Fault Refusal :=
  onUnit (decide (port < 8)) s
    (if !(netOf s port).up then s
    else if (netOf s port).ptp.length < 64 then
      updNet port (fun x => { x with ptp := x.ptp ++ [⟨now s, tx, mtype % 16, seqId % 65536⟩] }) s
    else bumpRc .netPtpLost port 31 0 1 s)

/-- R286: SPEED and lanes of a port of a FORM. -/
def netSpeed (form : Nat) : Nat × Nat := if form = 0 then (8, 8) else if form = 1 then (4, 4) else (2, 2)

/-- NET_LINK_CHANGE (R323, R320): a formed port whose PCS is not held comes up or goes DOWN: its link event. -/
def execNetLinkChange (port : Nat) (up : Bool) (s : State) : Host.Outcome State Fault Refusal :=
  onUnit (decide (port < 8)) s
    (let x := netOf s port
    if !up then netDown port s
    else if x.formed && !x.held && !x.up && decide (7 ≤ s.pwr.stage) && decide (s.pwr.stage ≤ 10) && !s.pwr.stopped then
      let v := netSpeed (fld s .netCfg 15 12)
      raiseAt (384 + port) port (updNet port (fun y => { y with up := true, speed := v.1, lanes := v.2 }) s)
    else s)

end Sys2Proof.Machine
end

