-- ==== Sys2Proof/Machine/Dispatch.lean ====
section
/-!
DEFINITION. One arm per command: each is one direct call of the command's meaning.
-/

namespace Sys2Proof.Machine

open Sys2Proof

def exec (i : Instr) (s : State) : Host.Outcome State Fault Refusal :=
  match i with
  | .memRd r chk => Sys2Proof.Machine.execMemRd r chk s
  | .memSpecRd r => Sys2Proof.Machine.execMemSpecRd r s
  | .memInv r => Sys2Proof.Machine.execMemInv r s
  | .memWr r data poison => Sys2Proof.Machine.execMemWr r data poison s
  | .memWrPtl r data mask poison => Sys2Proof.Machine.execMemWrPtl r data mask poison s
  | .unsupportedM2sOpcode r rwd => Sys2Proof.Machine.execUnsupportedM2sOpcode r rwd s
  | .readWatchdog id => Sys2Proof.Machine.execReadWatchdog id s
  | .gpfPhase1 port => Sys2Proof.Machine.execGpfPhase1 port s
  | .gpfPhase2 port => Sys2Proof.Machine.execGpfPhase2 port s
  | .gpfPhase2Complete port => Sys2Proof.Machine.execGpfPhase2Complete port s
  | .gpfPhase2Overtime port => Sys2Proof.Machine.execGpfPhase2Overtime port s
  | .sourceHeartbeat src lag => Sys2Proof.Machine.execSourceHeartbeat src lag s
  | .sequencerEmit errs => Sys2Proof.Machine.execSequencerEmit errs s
  | .mergeStall src => Sys2Proof.Machine.execMergeStall src s
  | .heldWriteRelease => Sys2Proof.Machine.execHeldWriteRelease s
  | .landingDrain grove line => Sys2Proof.Machine.execLandingDrain grove line s
  | .landingDrainDone grove line o => Sys2Proof.Machine.execLandingDrainDone grove line o s
  | .canopyFill grove line o chk => Sys2Proof.Machine.execCanopyFill grove line o chk s
  | .evictionWritten grove line chk o => Sys2Proof.Machine.execEvictionWritten grove line chk o s
  | .promotionLineArrival grove tile => Sys2Proof.Machine.execPromotionLineArrival grove tile s
  | .promotionComplete grove tile => Sys2Proof.Machine.execPromotionComplete grove tile s
  | .lateBoundExpiry id => Sys2Proof.Machine.execLateBoundExpiry id s
  | .demotion errs => Sys2Proof.Machine.execDemotion errs s
  | .ageSweep => Sys2Proof.Machine.execAgeSweep s
  | .trickle errs => Sys2Proof.Machine.execTrickle errs s
  | .metadataTrickle => Sys2Proof.Machine.execMetadataTrickle s
  | .wearGovernorTick => Sys2Proof.Machine.execWearGovernorTick s
  | .seal p tag grove first count => Sys2Proof.Machine.execSeal p tag grove first count s
  | .unseal p tag grove first count => Sys2Proof.Machine.execUnseal p tag grove first count s
  | .sealCopy grove tile errs => Sys2Proof.Machine.execSealCopy grove tile errs s
  | .post p tag v1 c => Sys2Proof.Machine.execPost p tag v1 c s
  | .append p tag v1 c => Sys2Proof.Machine.execAppend p tag v1 c s
  | .cancel p tag v1 c => Sys2Proof.Machine.execCancel p tag v1 c s
  | .scheduleStage => Sys2Proof.Machine.execScheduleStage s
  | .scheduleEntryRetire entry => Sys2Proof.Machine.execScheduleEntryRetire entry s
  | .t2RepairDone grove tile r => Sys2Proof.Machine.execT2RepairDone grove tile r s
  | .poisonClear p => Sys2Proof.Machine.execPoisonClear p s
  | .cellarDrain errs => Sys2Proof.Machine.execCellarDrain errs s
  | .vaultComplete fails => Sys2Proof.Machine.execVaultComplete fails s
  | .clean p grove errs => Sys2Proof.Machine.execClean p grove errs s
  | .invalidate p grove errs => Sys2Proof.Machine.execInvalidate p grove errs s
  | .cleanInvalidate p grove errs => Sys2Proof.Machine.execCleanInvalidate p grove errs s
  | .zeroRange p grove => Sys2Proof.Machine.execZeroRange p grove s
  | .maintComplete => Sys2Proof.Machine.execMaintComplete s
  | .canopyDisable p errs => Sys2Proof.Machine.execCanopyDisable p errs s
  | .canopyEnable p => Sys2Proof.Machine.execCanopyEnable p s
  | .disableComplete => Sys2Proof.Machine.execDisableComplete s
  | .zqCalibration ch => Sys2Proof.Machine.execZqCalibration ch s
  | .dqsDriftCompensation ch => Sys2Proof.Machine.execDqsDriftCompensation ch s
  | .refreshDue ch rank => Sys2Proof.Machine.execRefreshDue ch rank s
  | .mr4Poll ch hotRanks => Sys2Proof.Machine.execMr4Poll ch hotRanks s
  | .selfRefreshEntry ch => Sys2Proof.Machine.execSelfRefreshEntry ch s
  | .caParityAlert ch sub replayOk => Sys2Proof.Machine.execCaParityAlert ch sub replayOk s
  | .patrolRead ch o peerData => Sys2Proof.Machine.execPatrolRead ch o peerData s
  | .evacuate p set => Sys2Proof.Machine.execEvacuate p set s
  | .frameMove errs => Sys2Proof.Machine.execFrameMove errs s
  | .frameMoveComplete grove tile errs => Sys2Proof.Machine.execFrameMoveComplete grove tile errs s
  | .returnSet p set => Sys2Proof.Machine.execReturnSet p set s
  | .abortEvac p set => Sys2Proof.Machine.execAbortEvac p set s
  | .ueClear p ch => Sys2Proof.Machine.execUeClear p ch s
  | .nandReadComplete grove tile sector o => Sys2Proof.Machine.execNandReadComplete grove tile sector o s
  | .nandProgramDone id ok => Sys2Proof.Machine.execNandProgramDone id ok s
  | .nandEraseDone ch die block ok => Sys2Proof.Machine.execNandEraseDone ch die block ok s
  | .reclaim => Sys2Proof.Machine.execReclaim s
  | .relocation t2 reads => Sys2Proof.Machine.execRelocation t2 reads s
  | .staticWearLevel ch die => Sys2Proof.Machine.execStaticWearLevel ch die s
  | .readDisturbLimit ch die block => Sys2Proof.Machine.execReadDisturbLimit ch die block s
  | .stripeParityTimeout grp die vblock slot => Sys2Proof.Machine.execStripeParityTimeout grp die vblock slot s
  | .dieDead ch die => Sys2Proof.Machine.execDieDead ch die s
  | .dieRebuild second => Sys2Proof.Machine.execDieRebuild second s
  | .backgroundScan t2 sector o => Sys2Proof.Machine.execBackgroundScan t2 sector o s
  | .cellarBlockErase => Sys2Proof.Machine.execCellarBlockErase s
  | .hostLaneFailure port width rate => Sys2Proof.Machine.execHostLaneFailure port width rate s
  | .hostLinkDown port => Sys2Proof.Machine.execHostLinkDown port s
  | .hotReset port => Sys2Proof.Machine.execHotReset port s
  | .pmeTurnOff port => Sys2Proof.Machine.execPmeTurnOff port s
  | .decoderCommit port ld idx d => Sys2Proof.Machine.execDecoderCommit port ld idx d s
  | .initiateDynamicCapacityAdd tag port ld region es => Sys2Proof.Machine.execInitiateDynamicCapacityAdd tag port ld region es s
  | .addDynamicCapacityResponse tag port ld es => Sys2Proof.Machine.execAddDynamicCapacityResponse tag port ld es s
  | .releaseDynamicCapacity tag port ld es => Sys2Proof.Machine.execReleaseDynamicCapacity tag port ld es s
  | .forcedDynamicCapacityRelease tag port ld es => Sys2Proof.Machine.execForcedDynamicCapacityRelease tag port ld es s
  | .identifyMemoryDevice tag port ld => Sys2Proof.Machine.execIdentifyMemoryDevice tag port ld s
  | .setPartitionInfo tag port ld => Sys2Proof.Machine.execSetPartitionInfo tag port ld s
  | .setLsa tag port ld off data => Sys2Proof.Machine.execSetLsa tag port ld off data s
  | .getPoisonList tag port ld dpa len => Sys2Proof.Machine.execGetPoisonList tag port ld dpa len s
  | .clearPoison tag port ld dpa data => Sys2Proof.Machine.execClearPoison tag port ld dpa data s
  | .injectPoison tag port ld dpa => Sys2Proof.Machine.execInjectPoison tag port ld dpa s
  | .ideKmKeyProg port tx key => Sys2Proof.Machine.execIdeKmKeyProg port tx key s
  | .keyGo port containment => Sys2Proof.Machine.execKeyGo port containment s
  | .ideFail port => Sys2Proof.Machine.execIdeFail port s
  | .isolate p port => Sys2Proof.Machine.execIsolate p port s
  | .hostPortRelease p port => Sys2Proof.Machine.execHostPortRelease p port s
  | .retrain p port width rate => Sys2Proof.Machine.execRetrain p port width rate s
  | .logClear p port => Sys2Proof.Machine.execLogClear p port s
  | .hello h b => Sys2Proof.Machine.execHello h b s
  | .write h data => Sys2Proof.Machine.execWrite h data s
  | .readReq h => Sys2Proof.Machine.execReadReq h s
  | .flush h level => Sys2Proof.Machine.execFlush h level s
  | .flushAck qpn psn => Sys2Proof.Machine.execFlushAck qpn psn s
  | .atomicFadd h addend => Sys2Proof.Machine.execAtomicFadd h addend s
  | .atomicCas h compare swap => Sys2Proof.Machine.execAtomicCas h compare swap s
  | .ack h ntf => Sys2Proof.Machine.execAck h ntf s
  | .credit h => Sys2Proof.Machine.execCredit h s
  | .notify h target value => Sys2Proof.Machine.execNotify h target value s
  | .notifyDelivery id => Sys2Proof.Machine.execNotifyDelivery id s
  | .notifyRetransmit qpn => Sys2Proof.Machine.execNotifyRetransmit qpn s
  | .notifyUndelivered id => Sys2Proof.Machine.execNotifyUndelivered id s
  | .close h reason => Sys2Proof.Machine.execClose h reason s
  | .peerClose h => Sys2Proof.Machine.execPeerClose h s
  | .closeComplete qpn => Sys2Proof.Machine.execCloseComplete qpn s
  | .reservedOpcode h code => Sys2Proof.Machine.execReservedOpcode h code s
  | .ackDelayExpiry qpn => Sys2Proof.Machine.execAckDelayExpiry qpn s
  | .qpContextFetch qpn => Sys2Proof.Machine.execQpContextFetch qpn s
  | .peerIdleTimeout peer => Sys2Proof.Machine.execPeerIdleTimeout peer s
  | .keyRegister p tag ws any cls => Sys2Proof.Machine.execKeyRegister p tag ws any cls s
  | .keyRevoke p tag key => Sys2Proof.Machine.execKeyRevoke p tag key s
  | .revocationComplete key => Sys2Proof.Machine.execRevocationComplete key s
  | .closeQp p qpn => Sys2Proof.Machine.execCloseQp p qpn s
  | .closePeer p peer => Sys2Proof.Machine.execClosePeer p peer s
  | .arpRequest port ip => Sys2Proof.Machine.execArpRequest port ip s
  | .neighborSolicitation port ip => Sys2Proof.Machine.execNeighborSolicitation port ip s
  | .icmpEcho port ip v6 => Sys2Proof.Machine.execIcmpEcho port ip v6 s
  | .pauseFrame port => Sys2Proof.Machine.execPauseFrame port s
  | .ptpEventMessage port tx mtype seqId => Sys2Proof.Machine.execPtpEventMessage port tx mtype seqId s
  | .ptpTimestampPop p port => Sys2Proof.Machine.execPtpTimestampPop p port s
  | .netLinkChange port up => Sys2Proof.Machine.execNetLinkChange port up s
  | .stampedInput h first recs => Sys2Proof.Machine.execStampedInput h first recs s
  | .landingAck h credit ackSeq applied => Sys2Proof.Machine.execLandingAck h credit ackSeq applied s
  | .heartbeat h role credit ackSeq applied => Sys2Proof.Machine.execHeartbeat h role credit ackSeq applied s
  | .timeFrame h t1 t2 t3 => Sys2Proof.Machine.execTimeFrame h t1 t2 t3 s
  | .digest h first value => Sys2Proof.Machine.execDigest h first value s
  | .resyncData h c => Sys2Proof.Machine.execResyncData h c s
  | .epochFrame h endSeq role => Sys2Proof.Machine.execEpochFrame h endSeq role s
  | .reservedFrameType h type => Sys2Proof.Machine.execReservedFrameType h type s
  | .negotiate h n rtt => Sys2Proof.Machine.execNegotiate h n rtt s
  | .retryReq h expected => Sys2Proof.Machine.execRetryReq h expected s
  | .laneChange h mask confirm => Sys2Proof.Machine.execLaneChange h mask confirm s
  | .leaving h lastSeq => Sys2Proof.Machine.execLeaving h lastSeq s
  | .release h => Sys2Proof.Machine.execRelease h s
  | .releaseAck h => Sys2Proof.Machine.execReleaseAck h s
  | .resyncStart h bulk start => Sys2Proof.Machine.execResyncStart h bulk start s
  | .resyncDone h last => Sys2Proof.Machine.execResyncDone h last s
  | .repairReq h grove tile mask => Sys2Proof.Machine.execRepairReq h grove tile mask s
  | .rekey h rand => Sys2Proof.Machine.execRekey h rand s
  | .handoverFrame h lastSeq => Sys2Proof.Machine.execHandoverFrame h lastSeq s
  | .handoverAck h epoch => Sys2Proof.Machine.execHandoverAck h epoch s
  | .recopy h last tiles => Sys2Proof.Machine.execRecopy h last tiles s
  | .heartbeatTimer => Sys2Proof.Machine.execHeartbeatTimer s
  | .timeTimer => Sys2Proof.Machine.execTimeTimer s
  | .negotiateTimer => Sys2Proof.Machine.execNegotiateTimer s
  | .thbExpiry => Sys2Proof.Machine.execThbExpiry s
  | .leaderUtlSilence => Sys2Proof.Machine.execLeaderUtlSilence s
  | .fenceExpiry => Sys2Proof.Machine.execFenceExpiry s
  | .tjoinExpiry => Sys2Proof.Machine.execTjoinExpiry s
  | .lagHoldStart => Sys2Proof.Machine.execLagHoldStart s
  | .lagHoldLong => Sys2Proof.Machine.execLagHoldLong s
  | .handoverSend => Sys2Proof.Machine.execHandoverSend s
  | .resyncChunkRead errs => Sys2Proof.Machine.execResyncChunkRead errs s
  | .resyncChunkInstall => Sys2Proof.Machine.execResyncChunkInstall s
  | .resyncComplete => Sys2Proof.Machine.execResyncComplete s
  | .utlTrainLock mask => Sys2Proof.Machine.execUtlTrainLock mask s
  | .utlTrainTimeout => Sys2Proof.Machine.execUtlTrainTimeout s
  | .utlNegotiateTimeout => Sys2Proof.Machine.execUtlNegotiateTimeout s
  | .utlRetryTimer => Sys2Proof.Machine.execUtlRetryTimer s
  | .utlLaneFault healthy => Sys2Proof.Machine.execUtlLaneFault healthy s
  | .laneChangeTimeout => Sys2Proof.Machine.execLaneChangeTimeout s
  | .rekeyCount => Sys2Proof.Machine.execRekeyCount s
  | .handover p => Sys2Proof.Machine.execHandover p s
  | .resume p => Sys2Proof.Machine.execResume p s
  | .forceLead p => Sys2Proof.Machine.execForceLead p s
  | .witnessGrant p => Sys2Proof.Machine.execWitnessGrant p s
  | .divClear p => Sys2Proof.Machine.execDivClear p s
  | .rewiden p => Sys2Proof.Machine.execRewiden p s
  | .zeroise p slot => Sys2Proof.Machine.execZeroise p slot s
  | .roll p slot => Sys2Proof.Machine.execRoll p slot s
  | .rollWalk slot errs => Sys2Proof.Machine.execRollWalk slot errs s
  | .rollComplete slot => Sys2Proof.Machine.execRollComplete slot s
  | .keyGenerate p tag v1 slot => Sys2Proof.Machine.execKeyGenerate p tag v1 slot s
  | .keyImport p tag v1 slot unwrapOk key => Sys2Proof.Machine.execKeyImport p tag v1 slot unwrapOk key s
  | .rqTailWrite p tail => Sys2Proof.Machine.execRqTailWrite p tail s
  | .descriptorXts => Sys2Proof.Machine.execDescriptorXts s
  | .descriptorGcm => Sys2Proof.Machine.execDescriptorGcm s
  | .descriptorCmac => Sys2Proof.Machine.execDescriptorCmac s
  | .descriptorKwp => Sys2Proof.Machine.execDescriptorKwp s
  | .ringRestart p => Sys2Proof.Machine.execRingRestart p s
  | .laneSelfTest lane ok => Sys2Proof.Machine.execLaneSelfTest lane ok s
  | .cipherSaturation cls us => Sys2Proof.Machine.execCipherSaturation cls us s
  | .verifyBank p bank v => Sys2Proof.Machine.execVerifyBank p bank v s
  | .selectBank p bank v => Sys2Proof.Machine.execSelectBank p bank v s
  | .groveCreate p tag tmpl extents => Sys2Proof.Machine.execGroveCreate p tag tmpl extents s
  | .groveResize p tag grove extents => Sys2Proof.Machine.execGroveResize p tag grove extents s
  | .groveDelete p tag grove => Sys2Proof.Machine.execGroveDelete p tag grove s
  | .groveStatus p tag grove => Sys2Proof.Machine.execGroveStatus p tag grove s
  | .getVersion p tag => Sys2Proof.Machine.execGetVersion p tag s
  | .regRead p tag addr count => Sys2Proof.Machine.execRegRead p tag addr count s
  | .regWrite p tag addr words => Sys2Proof.Machine.execRegWrite p tag addr words s
  | .storeWrite p tag v1 addr words => Sys2Proof.Machine.execStoreWrite p tag v1 addr words s
  | .storeErase p tag v1 addr => Sys2Proof.Machine.execStoreErase p tag v1 addr s
  | .provision tag => Sys2Proof.Machine.execProvision tag s
  | .powerOn p tag => Sys2Proof.Machine.execPowerOn p tag s
  | .powerOff p tag => Sys2Proof.Machine.execPowerOff p tag s
  | .powerStatus p tag => Sys2Proof.Machine.execPowerStatus p tag s
  | .powerLogRead p tag => Sys2Proof.Machine.execPowerLogRead p tag s
  | .clear p => Sys2Proof.Machine.execClear p s
  | .clearing event => Sys2Proof.Machine.execClearing event s
  | .clearingEntryDone => Sys2Proof.Machine.execClearingEntryDone s
  | .vddAonValid => Sys2Proof.Machine.execVddAonValid s
  | .stage1 ix => Sys2Proof.Machine.execStage1 ix s
  | .pgGood n => Sys2Proof.Machine.execPgGood n s
  | .pgTimeout n => Sys2Proof.Machine.execPgTimeout n s
  | .settleExpiry => Sys2Proof.Machine.execSettleExpiry s
  | .railRetryExpiry => Sys2Proof.Machine.execRailRetryExpiry s
  | .rstoStretchExpiry ix => Sys2Proof.Machine.execRstoStretchExpiry ix s
  | .stage3 fuseOk bistOk badLanes => Sys2Proof.Machine.execStage3 fuseOk bistOk badLanes s
  | .stage4 locked => Sys2Proof.Machine.execStage4 locked s
  | .stage5 va vb fwVersion => Sys2Proof.Machine.execStage5 va vb fwVersion s
  | .stage6 => Sys2Proof.Machine.execStage6 s
  | .stage7 dram nand => Sys2Proof.Machine.execStage7 dram nand s
  | .stage8 anchorReadable badMeta badData badErase => Sys2Proof.Machine.execStage8 anchorReadable badMeta badData badErase s
  | .stage9 => Sys2Proof.Machine.execStage9 s
  | .ready => Sys2Proof.Machine.execReady s
  | .infailNAssert => Sys2Proof.Machine.execInfailNAssert s
  | .infailNDeassert => Sys2Proof.Machine.execInfailNDeassert s
  | .estoreOkAssert => Sys2Proof.Machine.execEstoreOkAssert s
  | .estoreOkDeassert => Sys2Proof.Machine.execEstoreOkDeassert s
  | .pgLoss n cut => Sys2Proof.Machine.execPgLoss n cut s
  | .pgFall n => Sys2Proof.Machine.execPgFall n s
  | .pgLowTimeout n => Sys2Proof.Machine.execPgLowTimeout n s
  | .logFlushDone => Sys2Proof.Machine.execLogFlushDone s
  | .minOffTimeExpiry => Sys2Proof.Machine.execMinOffTimeExpiry s
  | .powerLogProgram torn => Sys2Proof.Machine.execPowerLogProgram torn s
  | .thermalSample temps => Sys2Proof.Machine.execThermalSample temps s
  | .dutyUpdate => Sys2Proof.Machine.execDutyUpdate s
  | .thermalTrip sensor analog temp => Sys2Proof.Machine.execThermalTrip sensor analog temp s
  | .ppsEdge => Sys2Proof.Machine.execPpsEdge s
  | .ppsMissing => Sys2Proof.Machine.execPpsMissing s
  | .gtcCorrection p hi => Sys2Proof.Machine.execGtcCorrection p hi s
  | .pllLockLoss domain => Sys2Proof.Machine.execPllLockLoss domain s
  | .refclkLoss domain => Sys2Proof.Machine.execRefclkLoss domain s
  | .crossingFault event => Sys2Proof.Machine.execCrossingFault event s
  | .leakTick event => Sys2Proof.Machine.execLeakTick event s
  | .graceExpiry event => Sys2Proof.Machine.execGraceExpiry event s
  | .severeAcknowledge p k bits => Sys2Proof.Machine.execSevereAcknowledge p k bits s
  | .ackAll p => Sys2Proof.Machine.execAckAll p s
  | .releaseGrove p grove => Sys2Proof.Machine.execReleaseGrove p grove s
  | .releasePort p port => Sys2Proof.Machine.execReleasePort p port s
  | .scrubRead id err stuck => Sys2Proof.Machine.execScrubRead id err stuck s
  | .flipArm p v => Sys2Proof.Machine.execFlipArm p v s
  | .allocationGrant pool => Sys2Proof.Machine.execAllocationGrant pool s
  | .perfStart p => Sys2Proof.Machine.execPerfStart p s
  | .perfStop p => Sys2Proof.Machine.execPerfStop p s
  | .perfGlobalClear p => Sys2Proof.Machine.execPerfGlobalClear p s
  | .perfUnitClear p unit => Sys2Proof.Machine.execPerfUnitClear p unit s
  | .epochBoundary => Sys2Proof.Machine.execEpochBoundary s
  | .freeze p => Sys2Proof.Machine.execFreeze p s
  | .thaw p => Sys2Proof.Machine.execThaw p s
  | .recClear p => Sys2Proof.Machine.execRecClear p s
  | .flashUnlock p k1 k2 => Sys2Proof.Machine.execFlashUnlock p k1 k2 s
  | .flashProgram p data => Sys2Proof.Machine.execFlashProgram p data s
  | .flashErase p => Sys2Proof.Machine.execFlashErase p s
  | .blankCheck p => Sys2Proof.Machine.execBlankCheck p s
  | .flashCommandDone verifyOk => Sys2Proof.Machine.execFlashCommandDone verifyOk s
  | .flashDataRead p => Sys2Proof.Machine.execFlashDataRead p s
  | .rdpRaise p v => Sys2Proof.Machine.execRdpRaise p v s
  | .rdpLower p v => Sys2Proof.Machine.execRdpLower p v s
  | .rdpLowerEraseDone => Sys2Proof.Machine.execRdpLowerEraseDone s
  | .idcode => Sys2Proof.Machine.execIdcode s
  | .bypass => Sys2Proof.Machine.execBypass s
  | .samplePreload => Sys2Proof.Machine.execSamplePreload s
  | .extest => Sys2Proof.Machine.execExtest s
  | .clamp => Sys2Proof.Machine.execClamp s
  | .highz => Sys2Proof.Machine.execHighz s
  | .gladeAuth purpose => Sys2Proof.Machine.execGladeAuth purpose s
  | .gladeAccess wr addr data => Sys2Proof.Machine.execGladeAccess wr addr data s
  | .challenge p purpose => Sys2Proof.Machine.execChallenge p purpose s
  | .submit p accepted => Sys2Proof.Machine.execSubmit p accepted s
  | .gladeOpenEraseDone => Sys2Proof.Machine.execGladeOpenEraseDone s
  | .entdaa addr => Sys2Proof.Machine.execEntdaa addr s
  | .setdasa addr => Sys2Proof.Machine.execSetdasa addr s
  | .getLdInfo tag => Sys2Proof.Machine.execGetLdInfo tag s
  | .getLdAllocations tag port => Sys2Proof.Machine.execGetLdAllocations tag port s
  | .getMultiHeadedInfo tag => Sys2Proof.Machine.execGetMultiHeadedInfo tag s
  | .bindLd tag port ld => Sys2Proof.Machine.execBindLd tag port ld s
  | .unbindLd tag port ld => Sys2Proof.Machine.execUnbindLd tag port ld s
  | .setLdAllocations tag port => Sys2Proof.Machine.execSetLdAllocations tag port s
  | .pldmFirmwareUpdate bank off words image => Sys2Proof.Machine.execPldmFirmwareUpdate bank off words image s
  | .pldmActivate v => Sys2Proof.Machine.execPldmActivate v s
  | .loReadLatch p addr => Sys2Proof.Machine.execLoReadLatch p addr s
  | .rcRead p addr => Sys2Proof.Machine.execRcRead p addr s
  | .registerWrite p addr v => Sys2Proof.Machine.execRegisterWrite p addr v s
  | .caRecoveryComplete ch sub ok => Sys2Proof.Machine.execCaRecoveryComplete ch sub ok s
  | .returnTrainingComplete set ok => Sys2Proof.Machine.execReturnTrainingComplete set ok s
  | .hostLinkUp port width rate => Sys2Proof.Machine.execHostLinkUp port width rate s
  | .configurationRequest port ld addr => Sys2Proof.Machine.execConfigurationRequest port ld addr s
  | .spdmMessage port authOk => Sys2Proof.Machine.execSpdmMessage port authOk s
  | .vddAonLoss => Sys2Proof.Machine.execVddAonLoss s

end Sys2Proof.Machine
end

