-- ==== Sys2Proof/Machine/Tick.lean ====
section
/-!
DEFINITION. What one cycle of GCLK, 1 ns, does whatever is commanded (log 1): the GTC and its slewing (R27,
R28), the AON time count (R382), the regulators' tokens (R212), one round of the subchannels' schedulers with what the
fabric ports then pass (R211, R213), and the monitors' cycle and HELD counts (R452, R454). FCLK runs at 2 GHz, so a tick is two of its cycles (R22).
-/

namespace Sys2Proof.Machine

open Sys2Proof

/-- R27, R28: one GCLK cycle. An adjusted cycle advances the GTC by 0 or 2, one in every 1,000 at most. -/
def gtcTick (s : State) : State :=
  if !gtcRuns s then s
  else if s.clk.corr != 0 && decide (999 ≤ s.clk.sinceAdj) then
    let up := decide (0 < s.clk.corr)
    bumpRc .gtcAdjCount 0 31 0 1
      { s with clk := { s.clk with
          gtc := s.clk.gtc + (if up then 2 else 0)
          corr := if up then s.clk.corr - 1 else s.clk.corr + 1
          sinceAdj := 0 } }
  else { s with clk := { s.clk with gtc := s.clk.gtc + 1, sinceAdj := s.clk.sinceAdj + 1 } }

/-- R382: the AON time count. -/
def aonTick (s : State) : State :=
  if s.pwr.aon then { s with pwr := { s.pwr with aonTime := s.pwr.aonTime + 1 } } else s

/-- R212: a regulator fills at RATE (64 MB/s units, so 64 bytes each µs) up to BURST. -/
def refill (n : Nat) (s : State) : State :=
  if fld s .dramRegCfg 30 29 n = 0 then s
  else
    let r := fld s .dramRegRate 13 0 n * 64
    let gain := r * s.clk.gtc / 1000 - r * (s.clk.gtc - 1) / 1000
    let top := fld s .dramRegCfg 15 0 n * 1024
    { s with dram := { s.dram with tokens := SMap.upd s.dram.tokens 0 n (fun x => min top (x + gain)) } }

/-- R453, R454: a held write as a filter sees it. -/
def heldReqOf (s : State) (h : HeldReq) : List PReq :=
  match h with
  | .cxl r g p _ => [writeReqOf (16 * r.port + r.ld) g p.line]
  | .vrmp q _ op _ _ _ _ =>
    (match op with
      | .log (.write g ps) => (ps.take 1).map (fun p => writeReqOf (engineOf s q) g p.line)
      | .fadd g o _ => [writeReqOf (engineOf s q) g (o / 64)]
      | .cas g o _ _ => [writeReqOf (engineOf s q) g (o / 64)]
      | _ => [])
  | .mgmt _ => []

/-- R452, R454: two FCLK cycles of an enabled unit. -/
def unitTick (u : Nat) (s : State) : State :=
  if fld s .perfCtl 31 31 u = 0 then s
  else
    let p := SMap.get s.perf {} u
    let s1 := { s with perf := SMap.set s.perf {} u { p with cycle := min (2 ^ 64 - 1) (p.cycle + 2) } }
    let rs := s.seqr.held.flatMap (heldReqOf s)
    forEach (List.range 8) (fun c t =>
      if fld t .perfSel 7 0 u c = 0x0B && rs.any (fun r => fld t .perfSel 31 31 u c = 1 || perfMatch t u r) then
        bumpPerf u c 2 t
      else t) s1

/-- R211, R213: each subchannel issues a request, and what waits at the fabric ports is passed on; when something passes,
the queued accesses try again. -/
def channelTick (s : State) : State :=
  let s1 := schedule s
  let s2 := passAll s1
  if s2.dram.subs = s1.dram.subs then s2 else runQueue s2

/-- One nanosecond. -/
def tick (s : State) : State :=
  let s1 := aonTick (gtcTick s)
  let s2 := if gtcRuns s then channelTick (forEach (List.range 48) refill s1) else s1
  settle (if perfInUse s2 then forEach (List.range 24) unitTick s2 else s2)

end Sys2Proof.Machine
end

