-- ==== Sys2Proof/Safety.lean ====
section
/-!
DEFINITION. The words in which claims speak of a run: the effect of a command before the collector
takes what it raised (R437), when a state is at rest, and when a command reaches the part of the block it is
for.
-/

namespace Sys2Proof.Machine

open Sys2Proof

/-! ## Effects -/

/-- The command completes on `s` with the effect `t`: the next state is `t` with the occurrences it raised
taken (R437). Where `t` raised nothing and changed no condition, the next state is `t` itself. -/
def Does (c : Instr) (s t : State) : Prop := exec c s = .next (settle t)

/-- Nothing waits for the collector, no condition has changed, no die or stripe waits for its next operation and
no buffer for its release: `settle` leaves such a state alone. -/
def Resting (s : State) : Prop :=
  s.flt.raised = [] ∧ s.tier.lastCond = nodeCond s ∧ s.tier.throttle = atCeiling s ∧ settleNand s = s ∧ reapBufs s = s

/-! ## Safe runs -/

/-- The unit a physical event names is on this part: a DRAM channel and a NAND die of the product (R203,
R234), a lane of the cipher (R332), a stripe group, a protected array (R415), a sensor with an analogue trip
(R507), a clock crossing (R429), an event of its list (R428). Every other command names nothing that a part may
lack (log 7). -/
def unitThere (c : Instr) (s : State) : Bool :=
  match c with
  | .zqCalibration ch | .dqsDriftCompensation ch | .refreshDue ch _ | .mr4Poll ch _ | .selfRefreshEntry ch
  | .caParityAlert ch _ _ | .caRecoveryComplete ch _ _ | .patrolRead ch _ _ => hasCh s ch
  | .nandEraseDone ch die _ _ | .staticWearLevel ch die | .readDisturbLimit ch die _ | .dieDead ch die => hasDie s ch die
  | .stripeParityTimeout grp die _ _ => decide (grp * 16 < nNand s) && decide (die < 32)
  | .laneSelfTest lane _ => decide (lane < nLanes s)
  | .scrubRead mac _ _ => macPresent s mac
  | .crossingFault event => hasCrossing s event
  | .leakTick event | .graceExpiry event => eventListed s event
  | .clearing event => eventListed s event || event == 0x3FF
  | .thermalTrip sensor analog _ => !analog || sensor % 4 == 3
  | _ => true

/-- The collector has taken every occurrence of the commands that have run (R437). -/
def Inv (s : State) : Prop := s.flt.raised = []

/-- A step answers a next state. -/
def Runs (s : State) : Prop := ∃ t, step s = .next t

/-- `t` is `s`, or `s` after an effect that left every line of every tier, their metadata, Canopy and the landing
entries as they were, and after the end of the command (`settle`, R437). -/
def Keeps (s t : State) : Prop := t = s ∨ ∃ u, t = settle u ∧ u.tier = s.tier ∧ u.can = s.can

/-- The commands whose own effect touches no memory: they change registers, links, ports, queues, keys, clocks,
counters, the store and the stamped inputs that wait. -/
def keepsMemory (c : Instr) : Bool :=
  match c with
  | .memInv .. | .memWr .. | .memWrPtl .. | .unsupportedM2sOpcode .. | .readWatchdog .. | .gpfPhase1 ..
  | .gpfPhase2 .. | .gpfPhase2Complete .. | .gpfPhase2Overtime .. | .sourceHeartbeat .. | .mergeStall ..
  | .heldWriteRelease | .seal .. | .unseal .. | .post .. | .append .. | .cancel .. | .zqCalibration ..
  | .dqsDriftCompensation .. | .refreshDue .. | .mr4Poll .. | .selfRefreshEntry .. | .caParityAlert ..
  | .evacuate .. | .returnSet .. | .abortEvac .. | .ueClear .. | .staticWearLevel .. | .readDisturbLimit ..
  | .hostLaneFailure .. | .hostLinkDown .. | .hotReset .. | .pmeTurnOff .. | .decoderCommit ..
  | .initiateDynamicCapacityAdd .. | .addDynamicCapacityResponse .. | .releaseDynamicCapacity ..
  | .forcedDynamicCapacityRelease .. | .identifyMemoryDevice .. | .setPartitionInfo .. | .setLsa ..
  | .getPoisonList .. | .clearPoison .. | .injectPoison .. | .ideKmKeyProg .. | .keyGo .. | .ideFail ..
  | .isolate .. | .hostPortRelease .. | .retrain .. | .logClear .. | .flushAck .. | .ack .. | .credit ..
  | .notifyDelivery .. | .notifyRetransmit .. | .notifyUndelivered .. | .peerClose .. | .closeComplete ..
  | .ackDelayExpiry .. | .peerIdleTimeout .. | .keyRegister .. | .keyRevoke .. | .closeQp .. | .closePeer ..
  | .arpRequest .. | .neighborSolicitation .. | .icmpEcho .. | .pauseFrame .. | .ptpEventMessage ..
  | .ptpTimestampPop .. | .netLinkChange .. | .heartbeatTimer | .timeTimer | .negotiateTimer
  | .leaderUtlSilence | .lagHoldStart | .lagHoldLong | .handoverSend | .utlTrainLock .. | .utlTrainTimeout
  | .utlNegotiateTimeout | .utlRetryTimer | .utlLaneFault .. | .laneChangeTimeout | .rekeyCount
  | .handover .. | .rewiden .. | .zeroise .. | .rollComplete .. | .rqTailWrite .. | .ringRestart ..
  | .laneSelfTest .. | .verifyBank .. | .selectBank .. | .groveCreate .. | .groveResize .. | .groveDelete ..
  | .groveStatus .. | .getVersion .. | .regRead .. | .storeWrite .. | .storeErase .. | .provision ..
  | .powerOn .. | .powerStatus .. | .powerLogRead .. | .clear .. | .clearing .. | .vddAonValid | .stage1 ..
  | .pgGood .. | .pgTimeout .. | .settleExpiry | .railRetryExpiry | .rstoStretchExpiry .. | .stage3 ..
  | .stage4 .. | .stage5 .. | .stage9 | .infailNDeassert | .estoreOkAssert | .estoreOkDeassert | .pgFall ..
  | .pgLowTimeout .. | .logFlushDone | .minOffTimeExpiry | .powerLogProgram .. | .thermalSample ..
  | .dutyUpdate | .ppsEdge | .ppsMissing | .gtcCorrection .. | .pllLockLoss .. | .refclkLoss ..
  | .crossingFault .. | .leakTick .. | .severeAcknowledge .. | .ackAll .. | .releasePort .. | .scrubRead ..
  | .flipArm .. | .perfStart .. | .perfStop .. | .perfGlobalClear .. | .perfUnitClear .. | .epochBoundary
  | .freeze .. | .thaw .. | .recClear .. | .flashUnlock .. | .flashProgram .. | .flashErase ..
  | .blankCheck .. | .flashCommandDone .. | .flashDataRead .. | .rdpRaise .. | .rdpLower .. | .idcode
  | .bypass | .samplePreload | .extest | .clamp | .highz | .gladeAuth .. | .challenge .. | .submit ..
  | .gladeOpenEraseDone | .entdaa .. | .setdasa .. | .getLdInfo .. | .getLdAllocations ..
  | .getMultiHeadedInfo .. | .bindLd .. | .unbindLd .. | .setLdAllocations .. | .pldmFirmwareUpdate ..
  | .pldmActivate .. | .loReadLatch .. | .rcRead .. | .hostLinkUp .. | .configurationRequest ..
  | .spdmMessage .. => true
  | _ => false

/-! ## Memory in canonical form -/

/-- Every memory lists its keys in rising order and lists nothing that an unlisted key reads as: the lines of T1,
T2 and the Cellar (0), the landing entries and those a vault holds (none), the store (erased, 0xFF), and the
service processor's data memory (0). So equal memories are equal data (log 4). -/
def Memory.wf (s : State) : Bool :=
  SMap.wf 0 s.tier.t1 && SMap.wf 0 s.tier.t2 && SMap.wf 0 s.tier.cel && SMap.wf none s.can.land
    && s.tier.vault.all (fun v => SMap.wf none v.land) && SMap.wf 0xFF s.cfg.flash && SMap.wf 0 s.cipher.spMem

/-! ## Reaching the block -/

/-- A management path that reaches control space (R493, R500). -/
def Manager (s : State) (p : Path) : Prop := regUp s p = true ∧ isMgmt p = true

/-- A mailbox that reaches control space with HOST privilege (R493). -/
def HostPath (s : State) (p : Path) : Prop := regUp s p = true ∧ isMgmt p = false

/-- A Belvor path at READY (R403, R485). -/
def BelvorUp (s : State) (p : Path) : Prop := pathUp s p = true ∧ isReady s = true

/-- A Belvor path of management at READY. -/
def BelvorMgr (s : State) (p : Path) : Prop := pathUp s p = true ∧ isReady s = true ∧ isMgmt p = true

/-- A host port that is UP at READY (R279). -/
def PortUp (s : State) (port : Nat) : Prop := port < 16 ∧ isReady s = true ∧ (portOf s port).link = .up

/-- A CXL request arrives at a port with its LD, at READY (R271, R279). -/
def CxlIn (s : State) (r : CxlReq) : Prop := r.port < 16 ∧ portLive s r = true ∧ isReady s = true

/-- A host port's management command register, on a formed port (R284). -/
def PortMgr (s : State) (p : Path) (port : Nat) : Prop :=
  port < 16 ∧ regUp s p = true ∧ isMgmt p = true ∧ (portOf s port).formed = true

/-- A LD's mailbox is ready (R279). -/
def MailboxUp (s : State) (port ld : Nat) : Prop := port < 16 ∧ pathUp s (.mailbox port ld) = true

/-- R300 steps 1 to 3: a packet arrives at a serving node and is well formed. -/
def PacketIn (s : State) (h : Pkt) : Prop :=
  h.port < 8 ∧ (netOf s h.port).up = true ∧ isReady s = true ∧ s.pwr.state = .on ∧ h.wireOk = true
    ∧ (classFor s h.srcIp).isSome = true ∧ h.tagOk = true ∧ h.mem = 0 ∧ serving s = true ∧ h.hdrOk = true

/-- R300 steps 1 to 4: a packet of an open queue pair, from its peer, in the peer's version and with the extension
words of its kind (R298). -/
def QpPacket (s : State) (h : Pkt) (words : Option Nat) : Prop :=
  PacketIn s h ∧ extOk s h words = true ∧ h.qpn ≤ 4194303 ∧ (qpOf s h.qpn).isSome = true ∧ qpIp s h.qpn = h.srcIp

/-- The state in which a queue pair's request is served: its CREDIT field has been taken (R308), its context is
the one used last (R293), and its grant key is in the key cache (R293). -/
def taken (h : Pkt) (s : State) : State := touchKey h.key (touchCtx h.qpn (noteLimit h s))

/-- R300: a request of an open queue pair that is in order, within its grants, of an agreed kind, and whose
context is on the die and reads right (R415): it passes every check up to step 7. -/
def InOrder (s : State) (h : Pkt) (b : ReqBody) : Prop :=
  QpPacket s h (extWords b) ∧ bodyOk h b = true ∧ agreedOk (noteLimit h s) h b = true
    ∧ mustFetch (noteLimit h s) h.qpn = false ∧ protOk (noteLimit h s) 2 h.qpn = true
    ∧ (∃ x, qpOf (taken h s) h.qpn = some x ∧ x.expPsn = h.psn) ∧ h.psn < 2 ^ 32
    ∧ inGrant (taken h s) h b = true ∧ opRefusal (taken h s) h b = none

/-- R117, R118, R121: a frame of the UTL arrives in order, of the node's own epoch, at a node with a role. -/
def FrameIn (s : State) (h : FrameHdr) : Prop :=
  twLive s = true ∧ h.net = false ∧ linkOpen s = true ∧ h.ok = true ∧ h.linkSeq = s.twin.rxSeq % 2 ^ 32 ∧ h.mem = 0
    ∧ s.twin.role ≠ .unset ∧ h.epoch = s.twin.epoch

/-- The state in which a frame is looked at: heard, counted, and the peer's LINK_ACK taken (R94, R117). -/
def frameSeen (h : FrameHdr) (s : State) : State :=
  ackFrames h.linkAck (modTwin (fun t => { t with rxSeq := (t.rxSeq + 1) % 2 ^ 64 })
    (modTwin (fun t => { t with heardUtl := now s, utlLost := false }) s))

end Sys2Proof.Machine
end

