-- ==== Sys2Proof/WellFormed.lean ====
section
/-!
DEFINITION. Which terms of `Instr` are commands the outside world can send: every operand fits the field
that carries it (port and LD numbers R10, R264; a frame's fields R121 to R125; a packet's fields R296;
schedule commands R147; windows R313; decoders R265; key slots R331; events R428; Belvor TAG R485).
The meanings themselves are total and do not ask for it.
-/

namespace Sys2Proof

/-- R264, R493: a mailbox names a port and an LD. -/
def wfPath (p : Path) : Bool :=
  match p with
  | .sp => true
  | .mgmt => true
  | .glade => true
  | .mailbox port ld => decide (port < 16) && decide (ld < 16)

/-- R12, R264, R269: a request of a line by an LD. -/
def wfReq (r : CxlReq) : Bool :=
  decide (r.port < 16) && decide (r.ld < 16) && decide (r.tag < 2 ^ 16) && decide (r.hpa % 64 = 0)

/-- R296: a packet's header fields. -/
def wfPkt (h : Pkt) : Bool :=
  decide (h.port < 8) && decide (h.mem < 3) && decide (h.qpn < 2 ^ 24) && decide (h.psn < 2 ^ 32)
    && decide (h.addr < 2 ^ 64) && decide (h.length < 2 ^ 32) && decide (h.ver < 16) && decide (h.ext < 16)

/-- R301: a HELLO body's fields. -/
def wfHello (b : HelloBody) : Bool :=
  decide (b.maxVer < 256) && decide (b.minVer < 256) && decide (b.maxPayload < 2 ^ 16)
    && decide (b.features < 2 ^ 32) && decide (b.cookie < 2 ^ 32) && decide (b.initPsn < 2 ^ 32)

/-- R121: a frame header's fields. -/
def wfHdr (h : FrameHdr) : Bool :=
  decide (h.mem < 3) && decide (h.ver < 16) && decide (h.linkSeq < 2 ^ 32) && decide (h.linkAck < 2 ^ 32)
    && decide (h.epoch < 2 ^ 32)

/-- R121: a TYPE outside 0x01 to 0x08. -/
def wfReservedType (t : Nat) : Bool := decide (t = 0 ∨ (8 < t ∧ t < 256))

/-- R147: one schedule entry. -/
def wfEntry (e : SchedEntry) : Bool :=
  decide (e.deadline < 2 ^ 64) && decide (e.firstTile < 2 ^ 32) && decide (e.grove < 1024)
    && decide (0 < e.count) && decide (e.count < 2 ^ 22)

/-- R147: a schedule command. -/
def wfSched (c : SchedCmd) : Bool :=
  decide (c.cmd < 3) && decide (0 < c.id) && decide (c.id < 4096) && decide (c.entries.length < 256)
    && decide (c.hold ≤ 1000000) && c.entries.all wfEntry

/-- R47, R313: a window of a space key. -/
def wfWindow (w : Window) : Bool :=
  decide (w.base < 2 ^ 64) && decide (w.len < 2 ^ 64) && decide (w.off < 2 ^ 64) && decide (w.grove < 1024)

/-- R265: a decoder as a host programs it. -/
def wfDecoder (d : Decoder) : Bool :=
  decide (0 < d.ways) && decide (d.pos < d.ways) && decide (d.dpaBase < 2 ^ 46)

/-- R267: a Dynamic Capacity extent. -/
def wfExtent (e : DcExtent) : Bool :=
  decide (e.dpaExtent < 2 ^ 22) && decide (0 < e.blocks) && decide (e.grove < 1024) && decide (e.groveExtent < 2 ^ 24)

/-- R122: a record's stamp and its grove bytes. -/
def wfRec (r : StampRec) : Bool :=
  decide (r.gtc < 2 ^ 64) && decide (r.src < 4096)
    && (match r.op with
      | .write g ps => decide (g < 1024) && ps.all (fun p => decide (p.line < 2 ^ 42))
      | .atomic g off param _ => decide (g < 1024) && decide (off < 2 ^ 48) && decide (param < 4)
      | .flush q _ => decide (q < 2 ^ 24)
      | .sealOp g f c => decide (g < 1024) && decide (f < 2 ^ 32) && decide (c < 2 ^ 32)
      | .unsealOp g f c => decide (g < 1024) && decide (f < 2 ^ 32) && decide (c < 2 ^ 32)
      | .sched c => wfSched c
      | .grove g => decide (g.grove < 1024) && decide (g.op < 5)
      | .mapOp ld x e => decide (ld < 256) && decide (x < 2 ^ 22) && decide (e.grove < 1024) && decide (e.extent < 2 ^ 24)
      | .keyReg k => k.windows.all wfWindow
      | .keyRevoke _ => true
      | .lsa ld _ _ => decide (ld < 256)
      | .reserved op => decide (8 < op ∧ op < 16))

/-- R124: a RESYNC_DATA chunk. -/
def wfChunk (c : Chunk) : Bool :=
  decide (c.grove < 1024) && decide (c.tile < 2 ^ 32) && decide (c.chunk < 8) && decide (c.asOf < 2 ^ 64)
    && (match c.body with
      | .data ls => decide (ls.length = 128)
      | .zero => true
      | .metaRec _ => true
      | .repair none => true
      | .repair (some ls) => decide (ls.length = 128)
      | .poisoned ls _ => decide (ls.length = 128)
      | .sealStamp g s => decide (g < 2 ^ 64) && decide (s < 4096))

/-- R125: a NEGOTIATE body. -/
def wfNeg (n : NegRec) : Bool :=
  decide (n.maxVer < 256) && decide (n.minVer < 256) && decide (n.features < 2 ^ 32) && decide (n.epoch < 2 ^ 32)
    && decide (n.lastSeq < 2 ^ 64) && decide (n.gtc < 2 ^ 64)

/-- R204, R219: lines that a copier reads. -/
def wfReads (l : List LineRead) : Bool := l.all (fun x => decide (x.grove < 1024) && decide (x.line < 2 ^ 42))

/-- Numbers below a bound. -/
def wfBelow (n : Nat) (l : List Nat) : Bool := l.all (fun x => decide (x < n))

/-- Every operand fits the field that carries it. -/
def wellFormed (i : Instr) : Bool :=
  match i with
  | .memRd r _ => wfReq r
  | .memSpecRd r => wfReq r
  | .memInv r => wfReq r
  | .memWr r _ _ => wfReq r
  | .memWrPtl r _ _ _ => wfReq r
  | .unsupportedM2sOpcode r _ => wfReq r
  | .readWatchdog _ => true
  | .gpfPhase1 port => decide (port < 16)
  | .gpfPhase2 port => decide (port < 16)
  | .gpfPhase2Complete port => decide (port < 16)
  | .gpfPhase2Overtime port => decide (port < 16)
  | .sourceHeartbeat src lag => decide (src < 316) && decide (lag ≤ 2)
  | .sequencerEmit _ => true
  | .mergeStall src => decide (src < 316)
  | .heldWriteRelease => true
  | .landingDrain grove line => decide (grove < 1024) && decide (line < 2 ^ 42)
  | .landingDrainDone grove line _ => decide (grove < 1024) && decide (line < 2 ^ 42)
  | .canopyFill grove line _ _ => decide (grove < 1024) && decide (line < 2 ^ 42)
  | .evictionWritten grove line _ _ => decide (grove < 1024) && decide (line < 2 ^ 42)
  | .promotionLineArrival grove tile => decide (grove < 1024) && decide (tile < 2 ^ 32)
  | .promotionComplete grove tile => decide (grove < 1024) && decide (tile < 2 ^ 32)
  | .lateBoundExpiry _ => true
  | .demotion errs => wfReads errs
  | .ageSweep => true
  | .trickle errs => wfReads errs
  | .metadataTrickle => true
  | .wearGovernorTick => true
  | .seal p tag grove first count => wfPath p && decide (tag < 2 ^ 16) && decide (grove < 1024) && decide (first < 2 ^ 32) && decide (count < 2 ^ 32)
  | .unseal p tag grove first count => wfPath p && decide (tag < 2 ^ 16) && decide (grove < 1024) && decide (first < 2 ^ 32) && decide (count < 2 ^ 32)
  | .sealCopy grove tile errs => decide (grove < 1024) && decide (tile < 2 ^ 32) && wfReads errs
  | .post p tag _ c => wfPath p && decide (tag < 2 ^ 16) && wfSched c
  | .append p tag _ c => wfPath p && decide (tag < 2 ^ 16) && wfSched c
  | .cancel p tag _ c => wfPath p && decide (tag < 2 ^ 16) && wfSched c
  | .scheduleStage => true
  | .scheduleEntryRetire _ => true
  | .t2RepairDone grove tile _ => decide (grove < 1024) && decide (tile < 2 ^ 32)
  | .poisonClear p => wfPath p
  | .cellarDrain errs => wfReads errs
  | .vaultComplete _ => true
  | .clean p grove _ => wfPath p && decide (grove < 1024)
  | .invalidate p grove _ => wfPath p && decide (grove < 1024)
  | .cleanInvalidate p grove _ => wfPath p && decide (grove < 1024)
  | .zeroRange p grove => wfPath p && decide (grove < 1024)
  | .maintComplete => true
  | .canopyDisable p _ => wfPath p
  | .canopyEnable p => wfPath p
  | .disableComplete => true
  | .zqCalibration ch => decide (ch < 16)
  | .dqsDriftCompensation ch => decide (ch < 16)
  | .refreshDue ch rank => decide (ch < 16) && decide (rank < 64)
  | .mr4Poll ch _ => decide (ch < 16)
  | .selfRefreshEntry ch => decide (ch < 16)
  | .caParityAlert ch sub _ => decide (ch < 16) && decide (sub < 2)
  | .patrolRead ch _ _ => decide (ch < 16)
  | .evacuate p set => wfPath p && decide (set < 16)
  | .frameMove errs => wfReads errs
  | .frameMoveComplete grove tile errs => decide (grove < 1024) && decide (tile < 2 ^ 32) && wfReads errs
  | .returnSet p set => wfPath p && decide (set < 16)
  | .abortEvac p set => wfPath p && decide (set < 16)
  | .ueClear p ch => wfPath p && decide (ch < 16)
  | .nandReadComplete grove tile sector _ => decide (grove < 1024) && decide (tile < 2 ^ 32) && decide (sector < 16)
  | .nandProgramDone _ _ => true
  | .nandEraseDone ch die block _ => decide (ch < 32) && decide (die < 32) && decide (block < 4096)
  | .reclaim => true
  | .relocation t2 reads => decide (t2 < 2 ^ 32) && wfBelow (2 ^ 32) (reads.map (·.1))
  | .staticWearLevel ch die => decide (ch < 32) && decide (die < 32)
  | .readDisturbLimit ch die block => decide (ch < 32) && decide (die < 32) && decide (block < 4096)
  | .stripeParityTimeout grp die vblock slot => decide (grp < 2) && decide (die < 32) && decide (vblock < 4096) && decide (slot < 2 ^ 16)
  | .dieDead ch die => decide (ch < 32) && decide (die < 32)
  | .dieRebuild _ => true
  | .backgroundScan t2 sector _ => decide (t2 < 2 ^ 32) && decide (sector < 16)
  | .cellarBlockErase => true
  | .hostLaneFailure port width rate => decide (port < 16) && decide (width < 17) && decide (rate < 7)
  | .hostLinkDown port => decide (port < 16)
  | .hotReset port => decide (port < 16)
  | .pmeTurnOff port => decide (port < 16)
  | .decoderCommit port ld idx d => decide (port < 16) && decide (ld < 16) && decide (idx < 4) && wfDecoder d
  | .initiateDynamicCapacityAdd tag port ld region es => decide (tag < 2 ^ 16) && decide (port < 16) && decide (ld < 16) && decide (region < 8) && es.all wfExtent
  | .addDynamicCapacityResponse tag port ld es => decide (tag < 2 ^ 16) && decide (port < 16) && decide (ld < 16) && es.all wfExtent
  | .releaseDynamicCapacity tag port ld es => decide (tag < 2 ^ 16) && decide (port < 16) && decide (ld < 16) && es.all wfExtent
  | .forcedDynamicCapacityRelease tag port ld es => decide (tag < 2 ^ 16) && decide (port < 16) && decide (ld < 16) && es.all wfExtent
  | .identifyMemoryDevice tag port ld => decide (tag < 2 ^ 16) && decide (port < 16) && decide (ld < 16)
  | .setPartitionInfo tag port ld => decide (tag < 2 ^ 16) && decide (port < 16) && decide (ld < 16)
  | .setLsa tag port ld off _ => decide (tag < 2 ^ 16) && decide (port < 16) && decide (ld < 16) && decide (off < 2 ^ 26)
  | .getPoisonList tag port ld dpa len => decide (tag < 2 ^ 16) && decide (port < 16) && decide (ld < 16) && decide (dpa < 2 ^ 46) && decide (len < 2 ^ 52)
  | .clearPoison tag port ld dpa _ => decide (tag < 2 ^ 16) && decide (port < 16) && decide (ld < 16) && decide (dpa < 2 ^ 46)
  | .injectPoison tag port ld dpa => decide (tag < 2 ^ 16) && decide (port < 16) && decide (ld < 16) && decide (dpa < 2 ^ 46)
  | .ideKmKeyProg port _ _ => decide (port < 16)
  | .keyGo port _ => decide (port < 16)
  | .ideFail port => decide (port < 16)
  | .isolate p port => wfPath p && decide (port < 16)
  | .hostPortRelease p port => wfPath p && decide (port < 16)
  | .retrain p port width rate => wfPath p && decide (port < 16) && decide (width < 17) && decide (rate < 7)
  | .logClear p port => wfPath p && decide (port < 16)
  | .hello h b => wfPkt h && wfHello b
  | .write h _ => wfPkt h
  | .readReq h => wfPkt h
  | .flush h level => wfPkt h && decide (level < 3)
  | .flushAck qpn psn => decide (qpn < 2 ^ 24) && decide (psn < 2 ^ 32)
  | .atomicFadd h _ => wfPkt h
  | .atomicCas h _ _ => wfPkt h
  | .ack h _ => wfPkt h
  | .credit h => wfPkt h
  | .notify h target value => wfPkt h && decide (target < 2 ^ 24) && decide (value < 2 ^ 32)
  | .notifyDelivery _ => true
  | .notifyRetransmit qpn => decide (qpn < 2 ^ 24)
  | .notifyUndelivered _ => true
  | .close h reason => wfPkt h && decide (reason < 256)
  | .peerClose h => wfPkt h
  | .closeComplete qpn => decide (qpn < 2 ^ 24)
  | .reservedOpcode h code => wfPkt h && decide (code < 256)
  | .ackDelayExpiry qpn => decide (qpn < 2 ^ 24)
  | .qpContextFetch qpn => decide (qpn < 2 ^ 24)
  | .peerIdleTimeout peer => decide (peer < 65536)
  | .keyRegister p tag ws _ cls => wfPath p && decide (tag < 2 ^ 16) && ws.all wfWindow && decide (cls < 64)
  | .keyRevoke p tag _ => wfPath p && decide (tag < 2 ^ 16)
  | .revocationComplete _ => true
  | .closeQp p qpn => wfPath p && decide (qpn < 2 ^ 24)
  | .closePeer p peer => wfPath p && decide (peer < 65536)
  | .arpRequest port _ => decide (port < 8)
  | .neighborSolicitation port _ => decide (port < 8)
  | .icmpEcho port _ _ => decide (port < 8)
  | .pauseFrame port => decide (port < 8)
  | .ptpEventMessage port _ mtype seqId => decide (port < 8) && decide (mtype < 16) && decide (seqId < 2 ^ 16)
  | .ptpTimestampPop p port => wfPath p && decide (port < 8)
  | .netLinkChange port _ => decide (port < 8)
  | .stampedInput h first recs => wfHdr h && decide (first < 2 ^ 64) && recs.all wfRec
  | .landingAck h credit ackSeq applied => wfHdr h && decide (credit < 2 ^ 32) && decide (ackSeq < 2 ^ 64) && decide (applied < 2 ^ 64)
  | .heartbeat h _ credit ackSeq applied => wfHdr h && decide (credit < 2 ^ 32) && decide (ackSeq < 2 ^ 64) && decide (applied < 2 ^ 64)
  | .timeFrame h t1 t2 t3 => wfHdr h && decide (t1 < 2 ^ 64) && decide (t2 < 2 ^ 64) && decide (t3 < 2 ^ 64)
  | .digest h first _ => wfHdr h && decide (first < 2 ^ 64)
  | .resyncData h c => wfHdr h && wfChunk c
  | .epochFrame h endSeq _ => wfHdr h && decide (endSeq < 2 ^ 64)
  | .reservedFrameType h ty => wfHdr h && wfReservedType ty
  | .negotiate h n _ => wfHdr h && wfNeg n
  | .retryReq h expected => wfHdr h && decide (expected < 2 ^ 32)
  | .laneChange h _ _ => wfHdr h
  | .leaving h lastSeq => wfHdr h && decide (lastSeq < 2 ^ 64)
  | .release h => wfHdr h
  | .releaseAck h => wfHdr h
  | .resyncStart h _ start => wfHdr h && decide (start < 2 ^ 64)
  | .resyncDone h last => wfHdr h && decide (last < 2 ^ 64)
  | .repairReq h grove tile _ => wfHdr h && decide (grove < 1024) && decide (tile < 2 ^ 32)
  | .rekey h _ => wfHdr h
  | .handoverFrame h lastSeq => wfHdr h && decide (lastSeq < 2 ^ 64)
  | .handoverAck h epoch => wfHdr h && decide (epoch < 2 ^ 32)
  | .recopy h _ _ => wfHdr h
  | .heartbeatTimer => true
  | .timeTimer => true
  | .negotiateTimer => true
  | .thbExpiry => true
  | .leaderUtlSilence => true
  | .fenceExpiry => true
  | .tjoinExpiry => true
  | .lagHoldStart => true
  | .lagHoldLong => true
  | .handoverSend => true
  | .resyncChunkRead errs => wfReads errs
  | .resyncChunkInstall => true
  | .resyncComplete => true
  | .utlTrainLock _ => true
  | .utlTrainTimeout => true
  | .utlNegotiateTimeout => true
  | .utlRetryTimer => true
  | .utlLaneFault _ => true
  | .laneChangeTimeout => true
  | .rekeyCount => true
  | .handover p => wfPath p
  | .resume p => wfPath p
  | .forceLead p => wfPath p
  | .witnessGrant p => wfPath p
  | .divClear p => wfPath p
  | .rewiden p => wfPath p
  | .zeroise p slot => wfPath p && decide (slot < 4096)
  | .roll p slot => wfPath p && decide (slot < 4096)
  | .rollWalk slot errs => decide (slot < 4096) && wfReads errs
  | .rollComplete slot => decide (slot < 4096)
  | .keyGenerate p tag _ slot => wfPath p && decide (tag < 2 ^ 16) && decide (slot < 4096)
  | .keyImport p tag _ slot _ _ => wfPath p && decide (tag < 2 ^ 16) && decide (slot < 4096)
  | .rqTailWrite p tail => wfPath p && decide (tail < 2 ^ 16)
  | .descriptorXts => true
  | .descriptorGcm => true
  | .descriptorCmac => true
  | .descriptorKwp => true
  | .ringRestart p => wfPath p
  | .laneSelfTest lane _ => decide (lane < 96)
  | .cipherSaturation cls _ => decide (cls < 9)
  | .verifyBank p bank _ => wfPath p && decide (bank = 1 ∨ bank = 2)
  | .selectBank p bank _ => wfPath p && decide (bank = 1 ∨ bank = 2)
  | .groveCreate p tag tmpl extents => wfPath p && decide (tag < 2 ^ 16) && decide (tmpl < 256) && decide (extents < 2 ^ 24)
  | .groveResize p tag grove extents => wfPath p && decide (tag < 2 ^ 16) && decide (grove < 1024) && decide (extents < 2 ^ 24)
  | .groveDelete p tag grove => wfPath p && decide (tag < 2 ^ 16) && decide (grove < 1024)
  | .groveStatus p tag grove => wfPath p && decide (tag < 2 ^ 16) && decide (grove < 1024)
  | .getVersion p tag => wfPath p && decide (tag < 2 ^ 16)
  | .regRead p tag addr count => wfPath p && decide (tag < 2 ^ 16) && decide (addr < 2 ^ 32) && decide (count < 2 ^ 32)
  | .regWrite p tag addr _ => wfPath p && decide (tag < 2 ^ 16) && decide (addr < 2 ^ 32)
  | .storeWrite p tag _ addr _ => wfPath p && decide (tag < 2 ^ 16) && decide (addr < 2 ^ 32)
  | .storeErase p tag _ addr => wfPath p && decide (tag < 2 ^ 16) && decide (addr < 2 ^ 32)
  | .provision tag => decide (tag < 2 ^ 16)
  | .powerOn p tag => wfPath p && decide (tag < 2 ^ 16)
  | .powerOff p tag => wfPath p && decide (tag < 2 ^ 16)
  | .powerStatus p tag => wfPath p && decide (tag < 2 ^ 16)
  | .powerLogRead p tag => wfPath p && decide (tag < 2 ^ 16)
  | .clear p => wfPath p
  | .clearing event => decide (event < 640 ∨ event = 0x3FF)
  | .clearingEntryDone => true
  | .vddAonValid => true
  | .stage1 _ => true
  | .pgGood n => decide (n < 12)
  | .pgTimeout n => decide (n < 12)
  | .settleExpiry => true
  | .railRetryExpiry => true
  | .rstoStretchExpiry i => decide (i < 4)
  | .stage3 _ _ _ => true
  | .stage4 _ => true
  | .stage5 _ _ _ => true
  | .stage6 => true
  | .stage7 _ _ => true
  | .stage8 _ badMeta badData badErase =>
    (badMeta ++ badData).all (fun x => decide (x.1 < 1024) && decide (x.2 < 2 ^ 42)) && wfBelow (2 ^ 32) badErase
  | .stage9 => true
  | .ready => true
  | .infailNAssert => true
  | .infailNDeassert => true
  | .estoreOkAssert => true
  | .estoreOkDeassert => true
  | .pgLoss n _ => decide (n < 12)
  | .pgFall n => decide (n < 12)
  | .pgLowTimeout n => decide (n < 12)
  | .logFlushDone => true
  | .minOffTimeExpiry => true
  | .powerLogProgram _ => true
  | .thermalSample _ => true
  | .dutyUpdate => true
  | .thermalTrip sensor _ _ => decide (sensor < 16)
  | .ppsEdge => true
  | .ppsMissing => true
  | .gtcCorrection p _ => wfPath p
  | .pllLockLoss domain => decide (domain < 28)
  | .refclkLoss domain => decide (domain < 28)
  | .crossingFault event => decide (event < 640)
  | .leakTick event => decide (event < 640)
  | .graceExpiry event => decide (event < 640)
  | .severeAcknowledge p k _ => wfPath p && decide (k < 20)
  | .ackAll p => wfPath p
  | .releaseGrove p grove => wfPath p && decide (grove < 1024)
  | .releasePort p port => wfPath p && decide (port < 8)
  | .scrubRead _ _ _ => true
  | .flipArm p _ => wfPath p
  | .allocationGrant pool => decide (pool < 4)
  | .perfStart p => wfPath p
  | .perfStop p => wfPath p
  | .perfGlobalClear p => wfPath p
  | .perfUnitClear p unit => wfPath p && decide (unit < 24)
  | .epochBoundary => true
  | .freeze p => wfPath p
  | .thaw p => wfPath p
  | .recClear p => wfPath p
  | .flashUnlock p _ _ => wfPath p
  | .flashProgram p _ => wfPath p
  | .flashErase p => wfPath p
  | .blankCheck p => wfPath p
  | .flashCommandDone _ => true
  | .flashDataRead p => wfPath p
  | .rdpRaise p _ => wfPath p
  | .rdpLower p _ => wfPath p
  | .rdpLowerEraseDone => true
  | .idcode => true
  | .bypass => true
  | .samplePreload => true
  | .extest => true
  | .clamp => true
  | .highz => true
  | .gladeAuth purpose => decide (purpose < 3)
  | .gladeAccess _ addr _ => decide (addr < 2 ^ 32)
  | .challenge p purpose => wfPath p && decide (purpose < 3)
  | .submit p _ => wfPath p
  | .gladeOpenEraseDone => true
  | .entdaa addr => decide (addr < 128)
  | .setdasa addr => decide (addr < 128)
  | .getLdInfo tag => decide (tag < 2 ^ 16)
  | .getLdAllocations tag port => decide (tag < 2 ^ 16) && decide (port < 16)
  | .getMultiHeadedInfo tag => decide (tag < 2 ^ 16)
  | .bindLd tag port ld => decide (tag < 2 ^ 16) && decide (port < 16) && decide (ld < 16)
  | .unbindLd tag port ld => decide (tag < 2 ^ 16) && decide (port < 16) && decide (ld < 16)
  | .setLdAllocations tag port => decide (tag < 2 ^ 16) && decide (port < 16)
  | .pldmFirmwareUpdate bank off _ _ => decide (bank = 1 ∨ bank = 2) && decide (off < 2 ^ 26)
  | .pldmActivate _ => true
  | .loReadLatch p addr => wfPath p && decide (addr < 2 ^ 32)
  | .rcRead p addr => wfPath p && decide (addr < 2 ^ 32)
  | .registerWrite p addr _ => wfPath p && decide (addr < 2 ^ 32)
  | .caRecoveryComplete ch sub _ => decide (ch < 16) && decide (sub < 2)
  | .returnTrainingComplete set _ => decide (set < 16)
  | .hostLinkUp port width rate => decide (port < 16) && decide (width < 17) && decide (rate < 7)
  | .configurationRequest port ld addr => decide (port < 16) && decide (ld < 16) && decide (addr < 2 ^ 32)
  | .spdmMessage port _ => decide (port < 16)
  | .vddAonLoss => true

end Sys2Proof
end

