-- ==== Sys2Proof/Certificates/Slice0/Obligations.lean ====
section
/-!
DEFINITION. The statements for the provers. Each is a conjunction of clauses; `Does c s t` says that `c`
completes on `s` with the effect `t` (Sys2Proof/Safety.lean).
-/

open Sys2Proof Sys2Proof.Machine

/-- For every command c and state s, a step with c at the front of the queue is exec of c on s with the rest of
the queue; on an empty queue one nanosecond passes (the model's choice, log 1); a word that spells no
command leaves the queue alone. -/
def Obligations.StepRunsFront : Prop :=
  (∀ (c : Instr) (rest : List Instr) (s : State), step { s with pending := c :: rest } = exec c { s with pending := rest }) ∧
  (∀ (c : Instr) (s : State), step (s.push c) = exec c s) ∧
  (∀ s : State, s.pending = [] → step s = .next (tick s))

/-- Right after reset nothing waits, the GTC is 0, no rail is up, the node is in AON standby with no role and
the UTL DOWN, no event has occurred, and every stored register reads its reset value. -/
def Obligations.ResetState : Prop :=
  State.reset.pending = [] ∧ State.reset.clk.gtc = 0 ∧ State.reset.pwr.stage = 0 ∧ State.reset.pwr.state = .standby
    ∧ State.reset.pwr.en = 0 ∧ State.reset.pwr.ready = false ∧ State.reset.twin.role = .unset
    ∧ State.reset.twin.peerRole = .unset ∧ State.reset.twin.link = .down ∧ State.reset.can.sets = []
    ∧ State.reset.can.land = [] ∧ State.reset.tier.md.groves = [] ∧ State.reset.seqr.inputs = []
    ∧ State.reset.flt.src = [] ∧ State.reset.out = [] ∧
  (∀ (id : RegId) (i j : Nat), regWord State.reset id i j = (regDflt id).toNat)

/-- The collector holds no occurrence at reset. -/
def Obligations.ResetInv : Prop :=
  Inv State.reset

/-- An admitted MEM_RD becomes outstanding and takes the read path; a MEM_SPEC_RD answers nothing, stamps
nothing and changes no line; a MEM_INV that names a mapped line is answered with Cmp; an unsupported opcode
at a serving, unisolated port is refused with reason 8, as a read on Req and as a write on RwD; the watchdog
completes an outstanding CXL read with poison, sets WATCHDOG and raises event +3, and cuts a VRMP read. -/
def Obligations.CxlReads : Prop :=
  (∀ (s : State) (r : CxlReq) (chk : ArrayCheck) (g line : Nat), CxlIn s r → waitingReads s r.port < 256 →
      (checkReq s r false false).2 = .go g line →
      Does (.memRd r chk) s (startRead r g line chk (checkReq s r false false).1)) ∧
  (∀ (s : State) (r : CxlReq), CxlIn s r → waitingReads s r.port < 256 →
      ∃ t, Does (.memSpecRd r) s t ∧ t.out = s.out ∧ t.seqr = s.seqr ∧ t.host = s.host
        ∧ t.tier.t1 = s.tier.t1 ∧ t.tier.t2 = s.tier.t2 ∧ t.can.land = s.can.land) ∧
  (∀ (s : State) (r : CxlReq) (g line : Nat), CxlIn s r → waitingReads s r.port < 256 →
      (checkInv s r).2 = .go g line →
      Does (.memInv r) s
        (send (.cmp r.port r.ld r.tag (devLoad (checkInv s r).1 r.port (some g))) (checkInv s r).1)) ∧
  (∀ (s : State) (r : CxlReq), CxlIn s r → waitingReads s r.port < 256 → (portOf s r.port).isolated = false →
      serving s = true →
      Does (.unsupportedM2sOpcode r false) s (refuseCxl r 8 false ((dpaOf s r).getD r.hpa) none s)) ∧
  (∀ (s : State) (r : CxlReq), CxlIn s r → heldOf s r.port < 128 → (portOf s r.port).isolated = false →
      serving s = true →
      Does (.unsupportedM2sOpcode r true) s (refuseCxl r 8 true ((dpaOf s r).getD r.hpa) none s)) ∧
  (∀ (s : State) (id : Nat) (x : PendRead), s.seqr.reads.find? (fun r => r.id = id) = some x →
      Does (.readWatchdog id) s (portEvent x.req.port 3 (setBit .hostCause x.req.port 6
        (send (.memData x.req.port x.req.ld x.req.tag 0 true (devLoad s x.req.port (some x.grove)))
          { s with seqr := { s.seqr with reads := s.seqr.reads.filter (fun y => y.id ≠ id) } })))) ∧
  (∀ (s : State) (id : Nat) (j : ReadJob), s.seqr.reads.find? (fun r => r.id = id) = none →
      s.seqr.jobs.find? (fun x => x.id = id) = some j → Does (.readWatchdog id) s (finishJob j s))

/-- An admitted write whose mask names some byte is stamped as one input or held (MEM_WR enables every byte);
with no byte enabled it is completed at once and not stamped. GPF Phase 1 completes at once; Phase 2 waits
under its arrival stamp, completes once every write stamped before it is placed, and raises event +1 of its
port when it takes too long. -/
def Obligations.CxlWrites : Prop :=
  (∀ (s : State) (r : CxlReq) (data : LineData) (g line : Nat), CxlIn s r → heldOf s r.port < 128 →
      (checkReq s r true false).2 = .go g line →
      Does (.memWr r data false) s (admitCxl r g ⟨line, data, fullMask⟩ (checkReq s r true false).1)) ∧
  (∀ (s : State) (r : CxlReq) (data : LineData) (mask : Mask) (g line : Nat), CxlIn s r →
      heldOf s r.port < 128 → (checkReq s r true false).2 = .go g line → mask ≠ 0 →
      Does (.memWrPtl r data mask false) s (admitCxl r g ⟨line, data, mask⟩ (checkReq s r true false).1)) ∧
  (∀ (s : State) (r : CxlReq) (data : LineData) (g line : Nat), CxlIn s r →
      heldOf s r.port < 128 → (checkReq s r true false).2 = .go g line →
      Does (.memWrPtl r data 0 false) s
        (send (.cmp r.port r.ld r.tag (devLoad (checkReq s r true false).1 r.port (some g))) (checkReq s r true false).1)) ∧
  (∀ (s : State) (port : Nat), PortUp s port → Does (.gpfPhase1 port) s (send (.gpfDone port 1) s)) ∧
  (∀ (s : State) (port : Nat), PortUp s port → ∃ t, Does (.gpfPhase2 port) s t
      ∧ t.seqr.gpf = s.seqr.gpf ++ [(port, stampNow s (16 * port), 16 * port)] ∧ t.seqr.inputs = s.seqr.inputs) ∧
  (∀ (s : State) (port : Nat) (x : Nat × Nat × Nat), port < 16 → s.seqr.gpf.find? (fun y => y.1 = port) = some x →
      gpfCovered s x.2.1 x.2.2 = true → canAnswer s = true →
      Does (.gpfPhase2Complete port) s
        (send (.gpfDone port 2) { s with seqr := { s.seqr with gpf := s.seqr.gpf.erase x } })) ∧
  (∀ (s : State) (port : Nat), port < 16 → s.seqr.gpf.any (fun x => x.1 = port) = true →
      Does (.gpfPhase2Overtime port) s (portEvent port 1 s))

/-- What the link events of a host port and HOST_PORT_CMD do: a DOWN port trains to UP within its formed width
and the MAX_RATE of its group; a lane failure narrows or slows a port with its causes, DEGRADED and event
+2, or takes it DOWN; a hot reset and a link loss reset the LD configuration of the port; PME_Turn_Off is
accepted; ISOLATE, RELEASE, RETRAIN and LOG_CLEAR. -/
def Obligations.HostLinks : Prop :=
  (∀ (s : State) (port width rate : Nat), port < 16 → (portOf s port).formed = true → (portOf s port).link = .down →
      7 ≤ s.pwr.stage → s.pwr.stage ≤ 10 → s.pwr.stopped = false → width ≠ 0 → rate ≠ 0 →
      ∃ t, Does (.hostLinkUp port width rate) s t ∧ (portOf t port).link = .up
        ∧ (portOf t port).width = min width (portOf s port).maxWidth
        ∧ (portOf t port).rate = min rate (maxRate s port) ∧ (portOf t port).ide = 0) ∧
  (∀ (s : State) (port width rate : Nat), port < 16 → (portOf s port).link = .up → 0 < width → 0 < rate →
      width < (portOf s port).width → rate < (portOf s port).rate →
      Does (.hostLaneFailure port width rate) s
        (portEvent port 2 (setBit .hostCause port 1 (setBit .hostCause port 2
          (updPort port (fun y => { y with
            width := width, rate := rate, topWidth := max (portOf s port).topWidth width
            topRate := max (portOf s port).topRate rate
            degraded := decide (width < max (portOf s port).topWidth width)
              || decide (rate < max (portOf s port).topRate rate) }) s))))) ∧
  (∀ (s : State) (port rate : Nat), port < 16 → (portOf s port).link = .up →
      Does (.hostLaneFailure port 0 rate) s (hostDown port s)) ∧
  (∀ (s : State) (port : Nat), port < 16 → (portOf s port).link ≠ .down →
      Does (.hostLinkDown port) s (portReset port (portEvent port 2 (setBit .hostCause port 0
        (updPort port (fun x => { x with link := .down, rate := 0, width := 0, spdm := false }) s))))) ∧
  (∀ (s : State) (port : Nat), port < 16 → (portOf s port).link = .up → Does (.hotReset port) s (portReset port s)) ∧
  (∀ (s : State) (port : Nat), port < 16 → (portOf s port).link = .up →
      Does (.pmeTurnOff port) s (updPort port (fun x => { x with link := .l23 }) s)) ∧
  (∀ (s : State) (p : Path) (port : Nat), PortMgr s p port →
      Does (.isolate p port) s (updPort port (fun x => { x with isolated := true }) s)
      ∧ Does (.hostPortRelease p port) s (rejoin port (updPort port (fun x => { x with isolated := false }) s))
      ∧ Does (.logClear p port) s (updPort port (fun x => { x with log := [] }) s)) ∧
  (∀ (s : State) (p : Path) (port width rate : Nat), PortMgr s p port → (portOf s port).link = .up →
      width ≠ 0 → rate ≠ 0 → ∃ t, Does (.retrain p port width rate) s t
        ∧ (portOf t port).width = min width (portOf s port).maxWidth
        ∧ (portOf t port).rate = min rate (maxRate s port))

/-- A configuration request is served at READY and answered with CRS in stages 7 to 9; a decoder commits when
its DPA range meets no other committed decoder, and otherwise reports Error Not Committed; the GPF DVSEC
reports a Phase 2 duration of 2 µs; SPDM opens the session in which a key is loaded, Key Go puts IDE in
force, and an IDE failure zeroises the slots, sets Insecure and takes the link DOWN with event +3. -/
def Obligations.HostIde : Prop :=
  (∀ (s : State) (port ld addr : Nat), PortUp s port → (ldOf s port ld).present = true →
      ∃ v, Does (.configurationRequest port ld addr) s (useFree (send (.cfgCpl port ld false v) s))
        ∧ (addr = Config.gpfDvsec → v = 2)) ∧
  (∀ (s : State) (port ld addr : Nat), port < 16 → (portOf s port).link = .up → (ldOf s port ld).present = true →
      7 ≤ s.pwr.stage → s.pwr.stage ≤ 9 → Does (.configurationRequest port ld addr) s (send (.cfgCpl port ld true 0) s)) ∧
  (∀ (s : State) (port ld idx : Nat) (d : Decoder), PortUp s port → idx < 4 → (ldOf s port ld).present = true →
      SMap.find (ldOf s port ld).decs idx = none → d.ways ≠ 0 → d.gran ≠ 0 →
      (SMap.present (ldOf s port ld).decs).any (fun p => decide (p.1 ≠ idx) && decide (p.2.dpaBase < dpaEnd d)
        && decide (d.dpaBase < dpaEnd p.2)) = false →
      Does (.decoderCommit port ld idx d) s (updLd port ld (fun y => { y with
        decs := SMap.put y.decs idx (some d), decErr := y.decErr.filter (· ≠ idx) }) s)) ∧
  (∀ (s : State) (port ld idx : Nat) (d : Decoder), PortUp s port → idx < 4 → (ldOf s port ld).present = true →
      SMap.find (ldOf s port ld).decs idx = none →
      (SMap.present (ldOf s port ld).decs).any (fun p => decide (p.1 ≠ idx) && decide (p.2.dpaBase < dpaEnd d)
        && decide (d.dpaBase < dpaEnd p.2)) = true →
      Does (.decoderCommit port ld idx d) s (updLd port ld (fun y => { y with
        decs := SMap.del y.decs idx, decErr := insertNat idx y.decErr }) s)) ∧
  (∀ (s : State) (port : Nat), PortUp s port →
      Does (.spdmMessage port true) s (updPort port (fun x => { x with spdm := true }) s)) ∧
  (∀ (s : State) (port n : Nat) (key : BitVec 256), port < 16 → (portOf s port).link = .up →
      (portOf s port).spdm = true → ideSlot s port true = some n →
      Does (.ideKmKeyProg port true key) s (updPort port (fun x => { x with ideTx := true })
        (setSlot n { slotOf s n with
          state := .loaded, key := key.setWidth 512, oldKey := 0, ctr := 0, warn := false, usedEmpty := false } s))) ∧
  (∀ (s : State) (port : Nat) (c : Bool), port < 16 → (portOf s port).link = .up → (portOf s port).spdm = true →
      (portOf s port).ideRx = true → (portOf s port).ideTx = true →
      Does (.keyGo port c) s (updPort port (fun y => { y with ide := if c then 2 else 1 }) s)) ∧
  (∀ (s : State) (port : Nat), port < 16 → (portOf s port).link = .up → (portOf s port).ide = 1 →
      Does (.ideFail port) s (hostDown port (portEvent port 3 (setBit .hostCause port 3 (zeroIde port
        (updPort port (fun y => { y with ide := 3, ideRx := false, ideTx := false, ideErr := true })
          (send (.ideTerminated port) s)))))))

/-- At READY: Get LD Info, Get LD Allocations and Get Multi-Headed Info report; bind and unbind change and store
an LD's binding; Set LD Allocations is refused with Unsupported; an add that passes its checks is offered by
an Add Capacity record, and a forced release of listed extents is stamped and posted by a Release Capacity
record. -/
def Obligations.FabricManager : Prop :=
  (∀ (s : State) (tag : Nat), isReady s = true →
      Does (.getLdInfo tag) s (send (.fmDone tag 0 [(s.host.lds.filter (fun p => p.2.present)).length,
        (s.host.lds.filter (fun p => p.2.present)).foldl (fun n p => n + p.2.entries) 0]) s)
      ∧ Does (.getMultiHeadedInfo tag) s (send (.fmDone tag 0 [(s.host.ports.filter (fun p => p.2.formed)).length,
        (s.host.lds.filter (fun p => p.2.present)).length]) s)) ∧
  (∀ (s : State) (tag port : Nat), isReady s = true → port < 16 →
      Does (.getLdAllocations tag port) s
        (send (.fmDone tag 0 ((List.range (ldCount s port)).map (ldEntries s port))) s)
      ∧ Does (.setLdAllocations tag port) s (send (.fmDone tag 3 []) s)) ∧
  (∀ (s : State) (tag port ld : Nat), isReady s = true → port < 16 → ld < 16 → (ldOf s port ld).present = true →
      Does (.bindLd tag port ld) s (send (.fmDone tag 0 []) (setBind port ld true s))
      ∧ Does (.unbindLd tag port ld) s (send (.fmDone tag 0 []) (setBind port ld false s))) ∧
  (∀ (s : State) (tag port ld region : Nat) (es : List DcExtent), isReady s = true → port < 16 →
      addCheck s port ld region es = 0 →
      Does (.initiateDynamicCapacityAdd tag port ld region es) s (send (.fmDone tag 0 [])
        (postRec port ld 4 2 (es.flatMap (fun e => [e.dpaExtent, e.blocks, e.grove, e.groveExtent]))
          (updLd port ld (fun d => { d with offered := d.offered ++ es.map (fun e => (region, e)) }) s)))) ∧
  (∀ (s : State) (tag port ld : Nat) (es : List DcExtent), isReady s = true → port < 16 → serving s = true →
      listed s port ld es = true →
      Does (.forcedDynamicCapacityRelease tag port ld es) s (send (.fmDone tag 0 [])
        (postRec port ld 4 3 (es.flatMap (fun e => [e.dpaExtent, e.blocks]))
          (stampMaps (16 * port + ld) (es.map (fun e => (e, fun _ => noEntry))) .none (unlist port ld es s)))))

/-- At READY a mailbox answers Identify Memory Device with the LD's static capacity, no volatile capacity and
128 KiB of labels, refuses Set Partition Info and Inject Poison, stamps Set LSA, Clear Poison, an accepted
add and a release and completes them when they are emitted, and lists the DPAs of the range that map a line
named as poisoned. -/
def Obligations.Mailbox : Prop :=
  (∀ (s : State) (tag port ld : Nat), MailboxUp s port ld →
      Does (.identifyMemoryDevice tag port ld) s
        (mboxDone port ld tag 0 [staticEntries s (16 * port + ld) * 16777216, 0, 131072] s)) ∧
  (∀ (s : State) (tag port ld : Nat), MailboxUp s port ld → ∃ k, k ≠ 0 ∧
      Does (.setPartitionInfo tag port ld) s (useFree (mboxDone port ld tag k [] s))) ∧
  (∀ (s : State) (tag port ld off : Nat) (data : List Byte), MailboxUp s port ld → serving s = true →
      off + data.length ≤ 131072 →
      Does (.setLsa tag port ld off data) s (stampMgmt (.log (.lsa (16 * port + ld) off data)) (.dcd tag port ld)
        (16 * port + ld) (awaitDcd tag port ld 1 s))) ∧
  (∀ (s : State) (tag port ld dpa len : Nat), MailboxUp s port ld → ∃ l, (∀ a ∈ l, dpa ≤ a ∧ a < dpa + len)
      ∧ (∀ (k a : Nat) (x : MapEntry) (y : Nat × Nat), (k, some x) ∈ s.tier.md.map → k / 2 ^ 22 = 16 * port + ld →
        x.valid = true → y ∈ namedPoison s → y.1 = x.grove → y.2 / 2 ^ 18 = x.extent →
        a = k % 2 ^ 22 * 2 ^ 24 + y.2 % 2 ^ 18 * 64 → dpa ≤ a → a < dpa + len → a ∈ l)
      ∧ Does (.getPoisonList tag port ld dpa len) s (mboxDone port ld tag 0 (0 :: l) s)) ∧
  (∀ (s : State) (tag port ld dpa : Nat) (data : LineData) (x : MapEntry), MailboxUp s port ld → serving s = true →
      SMap.find s.tier.md.map (mapKey (16 * port + ld) (dpa / 2 ^ 24)) = some x → x.valid = true → x.wr = true →
      groveKeyed s x.grove = true → tileReadOnly s x.grove (tileOf (x.extent * 2 ^ 18 + dpa % 2 ^ 24 / 64)) = false → groveReadOnly s x.grove = false →
      Does (.clearPoison tag port ld dpa data) s
        (stampMgmt (.log (.write x.grove [⟨x.extent * 2 ^ 18 + dpa % 2 ^ 24 / 64, data, fullMask⟩])) (.dcd tag port ld)
          (16 * port + ld) (awaitDcd tag port ld 1 s))) ∧
  (∀ (s : State) (tag port ld dpa : Nat), MailboxUp s port ld →
      Does (.injectPoison tag port ld dpa) s (mboxDone port ld tag 3 [] s)) ∧
  (∀ (s : State) (tag port ld : Nat) (e : DcExtent) (region : Nat), MailboxUp s port ld → serving s = true →
      (ldOf s port ld).offered = [(region, e)] →
      Does (.addDynamicCapacityResponse tag port ld [e]) s
        (stampMaps (16 * port + ld) [(e, dcEntry region e)] (.dcd tag port ld) (awaitDcd tag port ld e.blocks
          (updLd port ld (fun d => { d with
            offered := d.offered.filter (fun x => !([e].contains x.2)), extents := d.extents ++ [e] }) s)))) ∧
  (∀ (s : State) (tag port ld : Nat) (es : List DcExtent), MailboxUp s port ld → serving s = true →
      listed s port ld es = true →
      Does (.releaseDynamicCapacity tag port ld es) s
        (stampMaps (16 * port + ld) (es.map (fun e => (e, fun _ => noEntry))) (.dcd tag port ld)
          (awaitDcd tag port ld (blocksOf es) (unlist port ld es s))))

/-- A heartbeat advances the watermark of its source; a merge emits the waiting inputs in stamp order; a source
that stalls raises event 53; a releasable held write is admitted; a keyed, resident landing entry whose
channel takes its request starts to drain, and is released once its bytes are in T1. -/
def Obligations.Sequencer : Prop :=
  (∀ (s : State) (src lag : Nat), src ≤ 315 → s.seqr.mergeSet.contains src = true →
      Does (.sourceHeartbeat src lag) s (setMark src (now s - min lag 2) s)) ∧
  (∀ (s : State) (errs : List (Nat × Nat × ArrayCheck)), Does (.sequencerEmit errs) s (emitLoop 16 (addErrs errs s))) ∧
  (∀ (s : State) (src : Nat), src ≤ 315 → inMerge s src = true → s.seqr.stalled.contains src = false →
      Does (.mergeStall src) s (raise 53 { s with seqr := { s.seqr with stalled := s.seqr.stalled ++ [src] } })) ∧
  (∀ (s : State) (h : HeldReq), holdAll s = false → firstFree s [] s.seqr.held = some h →
      Does .heldWriteRelease s
        (releaseHeld h { s with seqr := { s.seqr with held := s.seqr.held.erase h } })) ∧
  (∀ (s u : State) (g line : Nat) (e : LandEntry), working s = true → landOf s g line = some e → e.draining = false →
      promoting s g (tileOf line) = false → moving s g (tileOf line) = false → groveKeyed s g = true →
      ceilingHolds s g line = false → landOk s g line = true → tileBlank (tile s g (tileOf line)) = false →
      (tile s g (tileOf line)).frame.isSome = true →
      passReq .drain g line (if e.mask = fullMask then 1 else 2) (qosOf s g) s = some u →
      Does (.landingDrain g line) s (updLand g line (fun x => { x with draining := true, remerged := false })
        (markDirty g (tileOf line) (secOf line) (touchAge g (tileOf line) (landGet g line u))))) ∧
  (∀ (s u : State) (g line : Nat) (e : LandEntry) (o : DramRead), working s = true → landOf s g line = some e →
      e.draining = true → e.remerged = false → ceilingHolds s g line = false →
      (tile s g (tileOf line)).frame.isSome = true → finishReq .drain g line s = some u →
      Does (.landingDrainDone g line o) s
        (runQueue (landedToClean g line (setLand g line none (drainInto g line e o u)))))

/-- A fill that its channel has served takes its miss-file entry away, meets the read's and the arrays'
outcomes, installs the line and answers every joiner; an eviction the channel reports written leaves the
tracker, and a waiting walk goes on; the touched line of a promotion serves the accesses that wait for its
sector, and its completion fills the frame; a late touch past its bound raises event 571 and takes a direct
read. -/
def Obligations.CanopyTraffic : Prop :=
  (∀ (s u : State) (g line f : Nat) (m : Miss) (o : DramRead) (chk : ArrayCheck), missLine s g line = some m →
      (tile s g (tileOf line)).frame = some f → s.pwr.state = .on →
      finishReq .fill g line (passMiss (sliceOf s g line) s) = some u →
      Does (.canopyFill g line o chk) s (takeFill g line f m o chk u)) ∧
  (∀ (s u : State) (g line : Nat) (o : DramRead), s.pwr.state = .on → trkLine s g line ≠ [] →
      (trkCheck g line s).2 = false → writeOldest g line o (trkCheck g line s).1 = some u →
      Does (.evictionWritten g line .ok o) s (walkMore (runQueue u))) ∧
  (∀ (s : State) (g t : Nat) (p : Promo), promoOf s g t = some p → working s = true →
      repairing s g t (secOf p.line) = false → p.arrived.getLsbD (secOf p.line) = false →
      sectorCame s p (secOf p.line) = true →
      Does (.promotionLineArrival g t) s (serveLates g t (serveWaiters g t (fun a => secOf a = secOf p.line)
        (recSample 12 (now s - p.gtc) (recSample 11 (now s - p.gtc) (passLine g p.line
          (useSlot (groveSlot s g) 1 (updPromo g t (fun x => { x with
            arrived := x.arrived ||| BitVec.ofNat 16 (2 ^ secOf p.line) }) s)))))))) ∧
  (∀ (s : State) (g t : Nat) (p : Promo), promoOf s g t = some p → working s = true →
      s.tier.repairs.any (fun r => r.grove = g && r.tile = t) = false → portOpen s (regFor s 1) 1024 = true →
      (∀ i < 16, sectorCame s p i = true) → Does (.promotionComplete g t) s (endPromo g t s)) ∧
  (∀ (s : State) (id : Nat) (l : LateTouch), s.tier.lates.find? (fun x => x.id = id) = some l → l.bound ≠ 0 →
      let s1 := raise 571 { s with tier := { s.tier with
        lates := mapIf (fun x => x.id = id) (fun x => { x with bound := 0, direct := true }) s.tier.lates } }
      ((tile s l.grove (tileOf l.line)).frame.isSome = true →
        Does (.lateBoundExpiry id) s (serveLates l.grove (tileOf l.line) s1))
      ∧ ((tile s l.grove (tileOf l.line)).frame.isSome = false →
        Does (.lateBoundExpiry id) s (directRead l.grove l.line s1)))

/-- An accepted CLEAN, INVALIDATE or CLEAN_INVALIDATE walks the lines of its range, and ZERO stamps its pieces;
when no part of the walk is left and its write-backs have been issued, the end of the work clears BUSY,
gives RESULT and raises event 448; a disable of a Canopy that holds lines starts a clean-invalidate walk and
completes with event 451; an enable starts with every tag invalid. -/
def Obligations.CanopyMaintenance : Prop :=
  (∀ (s : State) (p : Path) (g : Nat) (errs : List (Nat × Nat × ArrayCheck)), Manager s p →
      maintRefusal s g true false = 0 →
      let s1 (n : Nat) := setRegWord .canMaintCmd 0 0 (g % 1024 * 65536 + n) { s with can := { s.can with skipped := 0 } }
      let s2 (n : Nat) : State := { s1 n with can := { (s1 n).can with
        busy := true, setWalk := decide (2 ^ 24 < maintLen s), zeroLeft := 0 } }
      let w (op : MaintOp) (t : State) : Walk := { op := op, grove := some g, first := maintStart t / 64
                                                   last := (maintStart t + maintLen t) / 64
                                                   sets := decide (2 ^ 24 < maintLen t), at_ := [] }
      Does (.clean p g errs) s (walkOn (w .clean (s2 1)) (fun _ => some 0) (addErrs errs (s2 1)))
      ∧ Does (.invalidate p g errs) s (walkOn (w .invalidate (s2 2)) (fun _ => some 0) (addErrs errs (s2 2)))
      ∧ Does (.cleanInvalidate p g errs) s
          (walkOn (w .cleanInvalidate (s2 3)) (fun _ => some 0) (addErrs errs (s2 3)))) ∧
  (∀ (s : State) (p : Path) (g : Nat), Manager s p → maintRefusal s g true true = 0 →
      let s1 := setRegWord .canMaintCmd 0 0 (g % 1024 * 65536 + 4) { s with can := { s.can with skipped := 0 } }
      Does (.zeroRange p g) s (startZero g { s1 with can := { s1.can with busy := true, setWalk := false, zeroLeft := 0 } })) ∧
  (∀ (s : State), s.can.busy = true → s.can.disabling = false → s.can.zeroLeft = 0 → s.can.walk = none →
      walkDone s = true → s.can.skipped = 0 →
      Does .maintComplete s
        (raise 448 { s with can := { s.can with busy := false, setWalk := false, result := 0 } })) ∧
  (∀ (s : State) (p : Path) (errs : List (Nat × Nat × ArrayCheck)), Manager s p → s.can.busy = false →
      s.can.enabled = true → s.can.wf ≠ [] → Does (.canopyDisable p errs) s
        (cleanAll errs { s with can := { s.can with disabling := true, busy := true, setWalk := true } })) ∧
  (∀ (s : State) (p : Path), Manager s p → s.can.busy = false → s.can.enabled = false →
      Does (.canopyEnable p) s { s with can := { s.can with enabled := true, sets := [], wf := [] } }) ∧
  (∀ (s : State), s.can.disabling = true → s.can.walk = none → walkDone s = true →
      Does .disableComplete s (raise 451 { s with can := { s.can with
        enabled := false, disabling := false, busy := false, setWalk := false, sets := [] } }))

/-- In its turn of R143, demotion of the chosen tile runs when free frames are below the low watermark, and a
forced one of class 3 raises event 568; the trickle writes the chosen tile; the metadata trickle keeps what
is in force and writes the anchors; the wear governor sets the next quota and raises event 567 as it meets
the floor; the Cellar drain writes the next tile with CELLAR set, and ends the drain when none is left. The
age sweep raises the AGE of every T1-resident tile by one, up to 255, and changes nothing else of an entry. -/
def Obligations.TierSweeps : Prop :=
  (∀ (s0 : State) (errs : List LineRead) (c g t : Nat), let s := noteReads errs s0
      working s = true → freeFrames s < freeLow s → metaHeld s = false →
      pickDemotion s (fun _ _ => true) = some (c, g, t) →
      (demandDemotion s = false → turn 11 s = true →
        Does (.demotion errs) s0 (demoteTile c g t .demotion false s))
      ∧ (demandDemotion s = true → turn 3 s = true → c ≠ 3 →
        Does (.demotion errs) s0 (demoteTile c g t .demotion true s))
      ∧ (demandDemotion s = true → turn 3 s = true → c = 3 →
        Does (.demotion errs) s0 (demoteTile c g t .demotion true (raise 568 s)))) ∧
  (∀ (s0 : State) (errs : List LineRead) (g t : Nat), let s := noteReads errs s0
      working s = true → cellarMode s = 1 → turn 10 s = true → pickTrickle s = some (g, t) →
      Does (.trickle errs) s0 (tryProg .trickle g t false s)) ∧
  (∀ (s : State), working s = true → groveKeyed s 1023 = true → turn (if metaUrgent s then 4 else 11) s = true →
      let s1 := useFree { s with tier := { s.tier with
        snap := { s.tier.md with layoutId := s.cfg.layoutId }, metaDirty := [], metaFull := false
        nandBytes := s.tier.nandBytes + 4096 * s.tier.metaDirty.length
        ungoverned := s.tier.ungoverned + 4096 * s.tier.metaDirty.length } }
      Does .metadataTrickle s (runQueue (anchorWrite (.root (Config.freeT2 s.free s.nand.t2Tiles))
        (useSlot (groveSlot s 1023) s.tier.metaDirty.length s1)))) ∧
  (∀ (s : State), working s = true → s.tier.wearLimit = false →
      (img s).nand.peRating * t2Raw s ≤ s.tier.nandBytes → Does .wearGovernorTick s (raise 567 { s with tier := { s.tier with
        wearAllow := fld s .tierWearCfg 31 16 * 1000 / 1000
        wearQuota := fld s .tierWearCfg 31 16 * 1000 - s.tier.ungoverned, ungoverned := 0, wearLimit := true } })) ∧
  (∀ (s0 : State) (errs : List LineRead), let s := noteReads errs s0
      isReady s = true → working s = true → s.tier.draining = true → turn 8 s = true →
      let next := (cellarTiles s).find? (fun x =>
        !programming s x.1 x.2 && !promoting s x.1 x.2 && groveKeyed s x.1)
      (∀ g t : Nat, next = some (g, t) → Does (.cellarDrain errs) s0 (tryProg .drain g t false s))
      ∧ (next = none → Does (.cellarDrain errs) s0 (endDrain s))) ∧
  (∀ (s : State), working s = true → Does .ageSweep s { s with tier := { s.tier with md := { s.tier.md with
      tiles := SMap.mapVals s.tier.md.tiles {} (fun e =>
        if e.frame.isSome then { e with age := min 255 (e.age + 1) } else e) } } }) ∧
  (∀ (e : Tile), (if e.frame.isSome then { e with age := min 255 (e.age + 1) } else e).frame = e.frame
      ∧ (if e.frame.isSome then { e with age := min 255 (e.age + 1) } else e).t2 = e.t2)

/-- Posted by management at a serving node, SEAL, UNSEAL and the three SCHEDULE commands are stamped under
source 311 with their poster as origin; posted through a mailbox, they are stamped under the source of one
migration engine, 288 to 303 (the free choice of the model, log 57), with the source of the LD as origin; a
quiet dirty sealing tile is programmed, and a clean one is finished; staging takes a staging buffer for the
earliest tile; an entry retires at its time. -/
def Obligations.SealsAndSchedules : Prop :=
  (∀ (s : State) (p : Path) (tag g f n : Nat), BelvorMgr s p → serving s = true → holdAll s = false →
      Does (.seal p tag g f n) s (stampInput 311 (.log (.sealOp g f n)) (.cmd p tag 0x10) (srcOf p) 0 0 s)
      ∧ Does (.unseal p tag g f n) s (stampInput 311 (.log (.unsealOp g f n)) (.cmd p tag 0x11) (srcOf p) 0 0 s)) ∧
  (∀ (s : State) (p : Path) (tag : Nat) (c : SchedCmd), BelvorMgr s p → serving s = true → holdAll s = false →
      Does (.post p tag false c) s (stampInput 311 (.log (.sched { c with cmd := 0, origin := srcOf p }))
        (.cmd p tag 0x12) (srcOf p) 0 0 s)
      ∧ Does (.append p tag false c) s (stampInput 311 (.log (.sched { c with cmd := 1, origin := srcOf p }))
        (.cmd p tag 0x12) (srcOf p) 0 0 s)
      ∧ Does (.cancel p tag false c) s (stampInput 311 (.log (.sched { c with cmd := 2, origin := srcOf p }))
        (.cmd p tag 0x12) (srcOf p) 0 0 s)) ∧
  (∀ (s : State) (p : Path) (tag : Nat) (c : SchedCmd), BelvorUp s p →
      Does (.post p tag true c) s (complete p tag 0x12 0x80 [] s)
      ∧ Does (.append p tag true c) s (complete p tag 0x12 0x80 [] s)
      ∧ Does (.cancel p tag true c) s (complete p tag 0x12 0x80 [] s)) ∧
  (∀ (s : State) (q l tag g f n : Nat) (c : SchedCmd), pathUp s (.mailbox q l) = true → isReady s = true →
      serving s = true → holdAll s = false → ∃ src, 288 ≤ src ∧ src ≤ 303
      ∧ Does (.seal (.mailbox q l) tag g f n) s (useFree (stampInput src (.log (.sealOp g f n))
          (.cmd (.mailbox q l) tag 0x10) (16 * q + l) 0 0 s))
      ∧ Does (.unseal (.mailbox q l) tag g f n) s (useFree (stampInput src (.log (.unsealOp g f n))
          (.cmd (.mailbox q l) tag 0x11) (16 * q + l) 0 0 s))
      ∧ Does (.post (.mailbox q l) tag false c) s (useFree (stampInput src
          (.log (.sched { c with cmd := 0, origin := 16 * q + l })) (.cmd (.mailbox q l) tag 0x12) (16 * q + l) 0 0 s))
      ∧ Does (.append (.mailbox q l) tag false c) s (useFree (stampInput src
          (.log (.sched { c with cmd := 1, origin := 16 * q + l })) (.cmd (.mailbox q l) tag 0x12) (16 * q + l) 0 0 s))
      ∧ Does (.cancel (.mailbox q l) tag false c) s (useFree (stampInput src
          (.log (.sched { c with cmd := 2, origin := 16 * q + l })) (.cmd (.mailbox q l) tag 0x12) (16 * q + l) 0 0 s))) ∧
  (∀ (s0 : State) (g t : Nat) (errs : List LineRead), let s := noteReads errs s0
      working s = true → metaHeld s = false → turn 9 s = true → (tile s g t).sealing = true →
      tileLanded s g t = false → promoting s g t = false → moving s g t = false → programming s g t = false →
      settleReady s g t = true →
      let s1 := settleTile g t s
      ((tile s1 g t).sdirty ≠ 0 → Does (.sealCopy g t errs) s0 (tryProg .sealCopy g t false s1))
      ∧ ((tile s1 g t).sdirty = 0 → (tile s1 g t).t2.isSome = true →
        Does (.sealCopy g t errs) s0 (finishSeal g t s1))) ∧
  (∀ (s u : State) (q : QEntry) (t : Nat), working s = true → serving s = true → isReady s = true →
      turn 6 s = true → nextEntry s = some (q, t) → copAlloc 3 288 false s = some u →
      Does .scheduleStage s (stageTile q t u)) ∧
  (∀ (s : State) (id : Nat) (q : QEntry), s.tier.md.queue.find? (fun x => x.id = id) = some q → working s = true →
      Does (.scheduleEntryRetire id) s (retireEntry q s)) ∧
  (∀ (s u : State) (pool : Nat) (w : Nat × Nat × Nat × Bool), pool < 4 →
      s.cop.waiting.find? (fun x => x.1 = pool) = some w → copAlloc pool w.2.2.1 w.2.2.2 s = some u →
      let u1 : State := { u with cop := { u.cop with waiting := u.cop.waiting.erase w } }
      (∀ (q : QEntry) (t : Nat), serving u1 = true → nextEntry u1 = some (q, t) →
        Does (.allocationGrant pool) s (stageTile q t u1))
      ∧ (serving u1 = false → Does (.allocationGrant pool) s (copFree pool w.2.2.1 u1)))

/-- A repair from stripe parity gives a new copy with event 575, one from the peer with event 576; a failed one
asks the peer once where the peer can give the content, and otherwise poisons the lines; POISON_CLEAR
empties the poison log and re-arms its full event. -/
def Obligations.RepairAndPoison : Prop :=
  (∀ (s u : State) (g t : Nat) (x : Repair) (l : List LineData),
      s.tier.repairs.find? (fun y => y.grove = g && y.tile = t) = some x → working s = true →
      tileBlank (tile s g t) = false → metaHeld s = false → putRepair x l s = some u →
      (parityOn s = true → (tile s g t).t2.isSome = true →
        Does (.t2RepairDone g t (.parity l)) s (endRepair x (raise 575 u)))
      ∧ (peerRepair s g t = true → Does (.t2RepairDone g t (.peer l)) s (endRepair x (raise 576 u)))) ∧
  (∀ (s : State) (g t : Nat) (x : Repair),
      s.tier.repairs.find? (fun y => y.grove = g && y.tile = t) = some x → working s = true →
      tileBlank (tile s g t) = false →
      ((x.asked = true ∨ peerRepair s g t = false) →
        Does (.t2RepairDone g t .failed) s (endRepair x (poisonLines g t (linesOf x.sectors) x.origin s)))
      ∧ (x.asked = false → peerRepair s g t = true → Does (.t2RepairDone g t .failed) s
          (sendUtl (.repairReq g t x.sectors) { s with tier := { s.tier with
            repairs := mapIf (fun r => r = x) (fun r => { r with asked := true }) s.tier.repairs } }))) ∧
  (∀ (s : State) (p : Path), Manager s p →
      Does (.poisonClear p) s { s with tier := { s.tier with plog := [], plogFull := false } })

/-- An ONLINE channel runs its calibrations; a refresh of a rank in no real-time burst is issued with those
postponed and closes the rank's rows; MR4 marks the hot ranks; an idle channel enters self-refresh; a patrol
read that decodes clean goes on with the lap; a CA parity alert is counted when its replay succeeds and
starts the CA recovery of its subchannel otherwise; recovery ends with event +4, or with FAILED and event +5
and, where another set can take its frames, an evacuation; UE_CLEAR empties the UE log. -/
def Obligations.DramUpkeep : Prop :=
  (∀ (s : State) (ch : Nat), ch < nSlices s → (chOf s ch).state = .online →
      Does (.zqCalibration ch) s (updCh ch (fun c => { c with zqRuns := c.zqRuns + 1 }) s)
      ∧ Does (.dqsDriftCompensation ch) s (updCh ch (fun c => { c with dqsRuns := c.dqsRuns + 1 }) s)) ∧
  (∀ (s : State) (ch r : Nat), ch < nSlices s → (chOf s ch).state = .online → r < (chOf s ch).lranks →
      (rankOf s ch r).since = none → fld s .dramNodeCfg 1 0 ≠ 2 →
      let s1 := updRank ch r (fun y => { y with overSaid := y.overSaid }) s
      Does (.refreshDue ch r) s
        (closeRows ch r (updRank ch r (fun y => { y with issued := y.issued + y.postponed + 1, postponed := 0 }) s1))) ∧
  (∀ (s : State) (ch : Nat) (hot : List Nat), ch < nSlices s → (chOf s ch).state = .online →
      Does (.mr4Poll ch hot) s (forEach (List.range (chOf s ch).lranks)
        (fun r t => updRank ch r (fun y => { y with hot := hot.contains r }) t) s)) ∧
  (∀ (s : State) (ch : Nat), ch < nSlices s → (chOf s ch).state = .online → fld s .dramSrIdle 19 0 ≠ 0 →
      patrolBehind s ch = false → chQueued s ch = false → (chOf s ch).caRec = [] →
      Does (.selfRefreshEntry ch) s (updCh ch (fun c => { c with state := .selfRefresh }) s)) ∧
  (∀ (s : State) (ch : Nat) (d : Option LineData), ch < nSlices s → patrolMay s ch = true → inItsSet s ch = true →
      let x := patrolAt s ch (chOf s ch).patrol
      let s1 := noteRead x.1 x.2 .clean (perfAdd ⟨305, 5, none⟩ 0x02 1 (perfAdd ⟨305, 5, none⟩ 0x01 1
        (chargeLines (regFor s 3) 1 (wakeCh ch s))))
      SMap.get s1.tier.t1bad .clean (x.1 * 1024 + x.2) = .clean →
      Does (.patrolRead ch .clean d) s (patrolStep ch s1)) ∧
  (∀ (s : State) (ch sub : Nat), ch < nSlices s → sub < 2 → (chOf s ch).state = .online →
      Does (.caParityAlert ch sub true) s (bumpRc .dramCaCount ch 15 0 1 s)
      ∧ Does (.caParityAlert ch sub false) s (updCh ch (fun c => { c with caRec := insertNat sub c.caRec }) s)) ∧
  (∀ (s : State) (ch sub : Nat), ch < nSlices s → sub ∈ (chOf s ch).caRec →
      Does (.caRecoveryComplete ch sub true) s (runQueue (raiseAt (64 + 10 * ch + 4) ch (bumpRc .dramCaCount ch 31 16 1
        (updCh ch (fun c => { c with caRec := c.caRec.filter (· ≠ sub) }) s))))) ∧
  (∀ (s : State) (ch sub : Nat), ch < nSlices s → sub ∈ (chOf s ch).caRec →
      let t := raiseAt (64 + 10 * ch + 5) ch (updCh ch (fun c => { c with state := .failed, caRec := [] }) s)
      let n := (chOf t ch).set
      (chOf t ch).state = .failed
      ∧ ((setOf t n).degraded = 0 → Does (.caRecoveryComplete ch sub false) s t)
      ∧ ((setOf t n).degraded ≠ 0 → Does (.caRecoveryComplete ch sub false) s (tryEvac n t))) ∧
  (∀ (s : State) (p : Path) (ch : Nat), Manager s p → ch < nSlices s →
      Does (.ueClear p ch) s (updCh ch (fun c => { c with ueLog := [], ueFull := false }) s))

/-- EVACUATE starts an evacuation or gives the result that refuses it; a frame move starts for the tile that
must move first; a move that completes leaves the tile in the new frame; RETURN starts the channels of an
OFFLINE set and trains them, and the set comes ONLINE with its results saved or stays OFFLINE with result 4;
ABORT brings the set back ONLINE with result 5. -/
def Obligations.DramSets : Prop :=
  (∀ (s : State) (p : Path) (n : Nat), Manager s p → n < 16 →
      (evacRefusal s n = 0 → Does (.evacuate p n) s (finishEvac (startEvac n s)))
      ∧ (evacRefusal s n ≠ 0 → evacuating s = none →
        Does (.evacuate p n) s { s with dram := { s.dram with evSet := n, evResult := evacRefusal s n } })) ∧
  (∀ (s0 : State) (errs : List LineRead) (n f : Nat) (x : Nat × Nat), let s := noteReads errs s0
      evacuating s = some n → isReady s = true → working s = true → metaHeld s = false → metaFrames s n = 0 →
      (setMovable s n).find? (fun x => moveFirst s x.1 x.2) = some x → evacTarget s n = some f →
      Does (.frameMove errs) s0 (startMove x.1 x.2 f s)) ∧
  (∀ (s0 : State) (errs : List LineRead) (g t : Nat) (m : Move), let s := noteReads errs s0
      s.tier.moves.find? (fun x => x.grove = g && x.tile = t) = some m → working s = true → metaHeld s = false →
      portOpen s (regFor s 1) 2048 = true →
      ∃ s3, Does (.frameMoveComplete g t errs) s0 (finishEvac (runQueue (moved 3 288 g (t * 1024) 1024
        (chargeLines (regFor s 1) 2048 { s3 with tier := { s3.tier with moves := s3.tier.moves.erase m } }))))
        ∧ (tile s3 g t).frame = some m.dst) ∧
  (∀ (s : State) (p : Path) (n : Nat), Manager s p → n < 16 → (setOf s n).valid = true → (setOf s n).state = 2 →
      s.dram.evBusy = false → Does (.returnSet p n) s
        (setChannels n (powerUp .training) (updSet n (fun x => { x with state := 3 }) { s with dram := { s.dram with
          evBusy := true, evSafe := s.dram.evSafe.filter (· ≠ n), evSet := n, evResult := 0 } }))) ∧
  (∀ (s : State) (n : Nat) (dram : List DramTrain), (setOf s n).valid = true → (setOf s n).state = 3 →
      let x := setOf s n
      let chs := List.range (2 ^ x.log2)
      let s1 := forEach chs (fun k u => match dram[k]? with
        | some t => updCh (x.first + k) (fun c => { c with trainMs := t.msTaken, trained := 0 }) u
        | none => u) { s with dram := { s.dram with evBusy := false } }
      ((∀ k < 2 ^ x.log2, ∃ t, dram[k]? = some t ∧ t.matchesImage = true ∧ t.trained = true) →
        Does (.returnTrainingComplete n dram) s (runQueue (setChannels n (fun c => { powerUp .online c with
            patrol := 0, lapStart := now s, lateLap := false })
          (updSet n (fun x => { x with state := 0 }) (forEach chs (fun k u => match dram[k]? with
            | some t => saveTrain (x.first + k) t u
            | none => u) s1)))))
      ∧ ((∃ k, k < 2 ^ x.log2 ∧ ∀ t, dram[k]? = some t → t.matchesImage = false ∨ t.trained = false) →
        Does (.returnTrainingComplete n dram) s (setChannels n powerDown (updSet n (fun x => { x with state := 2 })
          { s1 with dram := { s1.dram with evSafe := insertNat n s1.dram.evSafe, evSet := n, evResult := 4 } })))) ∧
  (∀ (s : State) (p : Path) (k n : Nat), Manager s p → evacuating s = some n → k < 16 →
      Does (.abortEvac p k) s (setChannels n (fun c => if c.state == .evacuating then { c with state := .online } else c)
        (updSet n (fun x => { x with state := 0 })
          { s with dram := { s.dram with evBusy := false, evSet := k, evResult := 5 } })))

/-- A codeword of a promotion's page read is decoded at its ladder step, the page read is counted once and the
sector is marked read; a background scan reads its codeword and goes on; a wordline that is programmed takes
effect and one that fails is written again on another die; a finished erase counts itself and empties the
block; a block at its read limit has its live slots queued; an open stripe past its time is closed. -/
def Obligations.NandMedia : Prop :=
  (∀ (s : State) (g t sec n : Nat) (o : Ladder) (p : Promo), promoOf s g t = some p → working s = true → sec < 16 →
      p.read.getLsbD sec = false → fromCellar s g t sec = false → slotRead s g t = some n →
      codewordDue p sec o = true →
      let s1 := if p.read = 0 && !dieGone s n then countReads n 1 s else s
      Does (.nandReadComplete g t sec o) s (cwRead g t sec (readSlot g t n sec (if p.kind = 1 then 2 else 0) o s1))) ∧
  (∀ (s : State) (id : Nat) (p : Prog), s.tier.progs.find? (fun x => x.id = id) = some p → working s = true →
      let w := wlOf s p.t2
      let k := p.t2 / 2 ^ 22
      let s1 := wlBegin w s
      (dieAt s1 k).cur.map (·.job) = some (.wordline w) →
      Does (.nandProgramDone id true) s (inVault (endCur k (wlOk w s1)))
      ∧ Does (.nandProgramDone id false) s (inVault (endCur k (wlFailed w s1)))) ∧
  (∀ (s : State) (ch die block : Nat), hasDie s ch die = true → working s = true →
      let k := ch * 32 + die
      let b := k * 4096 + block
      (dieAt s k).cur.map (·.job) = some (.erase b) →
      let s1 : State := { s with nand := { s.nand with erasing := s.nand.erasing.filter (· ≠ b) } }
      Does (.nandEraseDone ch die block true) s (t2Pressure (noteCrit (dropUnprotected b (closeSuper b (endCur k
        (touchMeta (tkey 1023 8192) (modMeta (fun m => { m with
          erasePending := m.erasePending.filter (· ≠ physBlk s b) }) (erased b s1))))))))
      ∧ Does (.nandEraseDone ch die block false) s (t2Pressure (noteCrit (dropUnprotected b (closeSuper b (endCur k
          (dieFail k (retireBlock b (mediaFault ch 1 s1))))))))) ∧
  (∀ (s : State) (ch die block : Nat), hasDie s ch die = true → working s = true →
      let b := (ch * 32 + die) * 4096 + block
      fld s .nandRdLimit 13 0 * 100 ≤ SMap.get s.nand.reads 0 (physBlk s b) →
      Does (.readDisturbLimit ch die block) s
        (forEach (liveSlots s (fun n => decide (t2Blk n = b))) queueReloc s)) ∧
  (∀ (s : State) (grp die vb slot : Nat), grp * 16 < nNand s → die < 32 → working s = true →
      let key := grp * 2 ^ 27 + die * 2 ^ 22 + vb * 2 ^ 10 + slot
      (SMap.find s.nand.stripes key).isSome = true → stripeBusy s key = false →
      Does (.stripeParityTimeout grp die vb slot) s (closeStripe key s)) ∧
  (∀ (s : State) (t2 sec : Nat) (o : Ladder), isReady s = true → working s = true → sec < 16 →
      dieIdle s (t2 / 2 ^ 22) = true →
      let s1 := scanAt t2 sec o s
      now s - s1.nand.scanStart ≤ fld s .nandScanCfg 15 8 * 86400000000000 →
      s1.nand.scanPos + 1 < scanTotal s →
      Does (.backgroundScan t2 sec o) s { s1 with nand := { s1.nand with scanLate := false, scanPos := s1.nand.scanPos + 1 } })

/-- A queued slot is read and written elsewhere, and its bad sectors are repaired; reclaim queues the live slots
of the superblock it picks; a die whose erase spread is beyond its limit queues its least-worn superblock; a
dead die is rebuilt slot by slot from its stripes, or from the sources of a repair where a stripe cannot
give a slot; unneeded Cellar records go, and their blocks are erased. -/
def Obligations.NandManagement : Prop :=
  (∀ (s : State) (n g t : Nat) (reads : List (Nat × Ladder)), working s = true → liveSlot s n = some (g, t) →
      metaHeld s = false → s.tier.progs.any (fun p => p.grove = g && p.tile = t) = false → dieGone s n = false →
      (dieAt s (n / 2 ^ 22)).rd = none → (dieAt s (n / 2 ^ 22)).cur = none →
      let drop (u : State) : State := { u with nand := { u.nand with relocs := u.nand.relocs.filter (· ≠ n) } }
      let p : Prog := { id := s.ids, kind := .relocation, grove := g, tile := t, t2 := 0
                        lines := SMap.readRun s.tier.t2 0 (n * 1024) 1024, written := 0, buf := true }
      (badSectors reads ≠ 0 →
        Does (.relocation n reads) s (drop (startRepair g t (badSectors reads) 0 (readWhole n reads s))))
      ∧ (∀ u : State, badSectors reads = 0 → (takeBuf true s).bind (placeProg p none) = some u →
        Does (.relocation n reads) s (drop (readWhole n reads (rollReloc g n (bumpId u)))))) ∧
  (∀ (s : State) (n : Nat) (reads : List (Nat × Ladder)), working s = true → liveSlot s n = none →
      Does (.relocation n reads) s { s with nand := { s.nand with relocs := s.nand.relocs.filter (· ≠ n) } }) ∧
  (∀ (s : State) (k : Nat), working s = true → isReady s = true → supersBelow s (fld s .nandReclaimCfg 7 0) = true →
      pickSuper s = some k → (noteCrit s).nand.crit = false →
      liveSlots (noteCrit s) (fun n => decide (superOf n = k)) ≠ [] →
      Does .reclaim s (forEach (liveSlots (noteCrit s) (fun n => decide (superOf n = k))) queueReloc (noteCrit s))) ∧
  (∀ (s : State) (ch die b : Nat), hasDie s ch die = true → working s = true →
      fld s .nandWlDelta 15 0 < dieTop s (ch * 32 + die) - dieLow s (ch * 32 + die) →
      leastWorn s (ch * 32 + die) = some b → superOpen s (superOf (b * 1024)) = false →
      Does (.staticWearLevel ch die) s
        (forEach (liveSlots s (fun n => decide (superOf n = superOf (b * 1024)))) queueReloc s)) ∧
  (∀ (s : State) (ch die : Nat), hasDie s ch die = true →
      (dieAt s (ch * 32 + die)).state = .online ∨ (dieAt s (ch * 32 + die)).state = .retiring →
      let k := ch * 32 + die
      let s1 := mediaFault (k / 32) 3 (updDieAt k (fun y => { y with
        state := .dead, queue := [], rd := none, cur := none, held := false, susp := 0 }) s)
      let s2 : State := { s1 with nand := { s1.nand with
        erasing := s1.nand.erasing.filter (fun b => decide (b / 2 ^ 12 ≠ k)) } }
      Does (.dieDead ch die) s (startRebuild (forEach (s2.tier.progs.filter (fun p => p.t2 / 2 ^ 22 = k)) (rewrite k) s2))) ∧
  (∀ (s : State) (n : Nat) (rest : List Nat) (reads : List (Nat × Ladder)), working s = true → s.nand.rbBusy = true →
      metaHeld s = false → rebuildMay s = true → s.nand.rbLeft = n :: rest →
      let s1 : State := { s with nand := { s.nand with rbLeft := rest, rbDone := s.nand.rbDone + 1 } }
      let p (g t : Nat) : Prog := { id := s1.ids, kind := .repair, grove := g, tile := t, t2 := 0
                                    lines := SMap.readRun s1.tier.t2 0 (n * 1024) 1024, written := 0, prio := 5, buf := true }
      (liveSlot s n = none → Does (.dieRebuild reads) s (endRebuild s1))
      ∧ (∀ g t : Nat, liveSlot s n = some (g, t) → stripeGives s n = false →
        Does (.dieRebuild reads) s (endRebuild (startRepair g t (BitVec.allOnes 16) 0
          { s1 with nand := { s1.nand with rbResult := 1 } })))
      ∧ (∀ (g t : Nat) (u : State), liveSlot s n = some (g, t) → stripeGives s n = true →
        (takeBuf true (dropReloc g t s1)).bind (placeProg (p g t) none) = some u →
        Does (.dieRebuild []) s (endRebuild (readStripe n (spend .repair false (bumpId u)))))) ∧
  (∀ (s : State), isReady s = true → working s = true → s.tier.celBlocks ≠ 0 → turn 8 s = true →
      let recs := celLive s
      let dead := ((SMap.present s.nand.cellar).filter (fun p => !(p.2.recs.any (fun k => match k with
        | some x => recs.contains x
        | none => false)))).map (·.1)
      let s1 := forEach dead celErase { s with tier := { s.tier with
        celRecs := recs, cel := SMap.filterKeys s.tier.cel (fun a => recs.contains (a / 1024 * 16 + a % 1024 / 64)) } }
      celNeeded s1 ≤ celFree s1 →
      Does .cellarBlockErase s { s1 with nand := { s1.nand with celLow := false } })

/-- An in-order request that passes every check of R300 takes its effect: a WRITE and an atomic whose key,
window and permission admit them are stamped or held, a READ_REQ is read without a stamp, a FLUSH is
stamped, a NOTIFY to a reachable queue pair is accepted, and a CLOSE closes the queue pair behind its
earlier requests. -/
def Obligations.VrmpRequests : Prop :=
  (∀ (s : State) (h : Pkt) (d : List Byte) (g off : Nat), InOrder s h (.write d) →
      translate (taken h s) h h.length (fun w => w.wr) = .ok g off →
      Does (.write h d) s (doData h (.write d) g ((piecesOf off d).map (·.line)) (.log (.write g (piecesOf off d)))
        false (taken h s))) ∧
  (∀ (s : State) (h : Pkt) (g off : Nat), InOrder s h .read →
      translate (taken h s) h h.length (fun w => w.rd) = .ok g off →
      Does (.readReq h) s (startJob h g off (freeCharge h.qpn 256 (acceptReq h .read (taken h s))))) ∧
  (∀ (s : State) (h : Pkt) (l : Nat), InOrder s h (.flush l) → keyCheck (taken h s) h = none →
      Does (.flush h l) s (acceptReq h (.flush l) (stampVrmp h (.flush l)
        (.log (.flush h.qpn (if l = 2 then .mir else .loc)))
        (perfAdd ⟨engineOf (taken h s) h.qpn, 2, none⟩ 0x01 1 (updQp h.qpn (fun x => { x with
          flushes := x.flushes ++ [⟨h.psn, if l = 2 then .mir else .loc, now (taken h s), false, false, x.lowest⟩] })
          (taken h s)))))) ∧
  (∀ (s : State) (h : Pkt) (k : BitVec 64) (g off : Nat), InOrder s h (.fadd k) →
      translate (taken h s) h 8 (fun w => w.atomic) = .ok g off →
      Does (.atomicFadd h k) s (doData h (.fadd k) g [off / 64] (.fadd g off k) true (taken h s))) ∧
  (∀ (s : State) (h : Pkt) (c w : BitVec 64) (g off : Nat), InOrder s h (.cas c w) →
      translate (taken h s) h 8 (fun x => x.atomic) = .ok g off →
      Does (.atomicCas h c w) s (doData h (.cas c w) g [off / 64] (.cas g off c w) true (taken h s))) ∧
  (∀ (s : State) (h : Pkt) (target v : Nat) (x : Qp), InOrder s h (.notify target v) → keyCheck (taken h s) h = none →
      qpOf (taken h s) target = some x →
      (keyGroves (taken h s) h.key).any (fun g => (keyGroves (taken h s) x.key).contains g) = true →
      ∃ n : Note, n.qpn = h.qpn ∧ n.psn = h.psn ∧ n.target = target ∧ n.value = v ∧ n.key = h.key
        ∧ Does (.notify h target v) s (freeCharge h.qpn 256 (acceptReq h (.notify target v) (useFree (bumpId
          { taken h s with net := { (taken h s).net with notes := (taken h s).net.notes ++ [n] } }))))) ∧
  (∀ (s : State) (h : Pkt) (r : Nat), InOrder s h (.close r) →
      Does (.close h r) s (freeCharge h.qpn 256 (acceptReq h (.close r)
        (updQp h.qpn (fun x => { x with closing := true }) (taken h s)))))

/-- A HELLO with a new COOKIE at a serving node with a usable class opens a peer or a queue pair; an ACK with
NTF acknowledges a notify delivery; a CREDIT packet carries the host's limit; a FLUSH whose writes are
placed is acknowledged at the lowest level reached, and takes the delayed acknowledgement along when it is
the newest request; the delayed ACK; a fetched context serves the packets that waited; CLOSE and PEER_CLOSE
finish once every earlier request is answered; an idle peer is freed. -/
def Obligations.VrmpSession : Prop :=
  (∀ (s : State) (h : Pkt) (b : HelloBody) (n : Nat) (c : PeerClass), PacketIn s h → h.length = 64 →
      classFor s h.srcIp = some (n, c) → classKeyed s c = true →
      (peerAt s h.srcIp).bind (fun p => p.2.cookies.find? (fun k => k.1 = b.cookie &&
        decide (now s < k.2.1 + 10000000))) = none →
      (b.peerFlag = true → h.qpn = 0 → h.ver = b.maxVer → Does (.hello h b) s (helloPeer h b n c s))
      ∧ (b.peerFlag = false → h.qpn = 0xFFFFFF → extOk s h none = true → Does (.hello h b) s (helloQp h b c s))) ∧
  (∀ (s : State) (h : Pkt), QpPacket s h (some 0) → Does (.ack h true) s (updQp h.qpn (fun x => { x with
      notifs := x.notifs.filter (fun n => n.seq ≠ h.psn) }) (noteLimit h s))) ∧
  (∀ (s : State) (h : Pkt), QpPacket s h (some 0) → Does (.credit h) s (noteLimit h s)) ∧
  (∀ (s : State) (q psn : Nat) (x : Qp) (f : FlushP), qpOf s q = some x →
      x.flushes.find? (fun f => f.psn = psn && f.emitted && !f.acked) = some f → flushCovered s q f = true →
      canAnswer s = true →
      let lv := min (levelRank f.level) (min f.low (waitingRank s q f))
      Does (.flushAck q psn) s (recSample 6 (now s - f.gtc) (sendQp q (.flushAck q psn lv) (updQp q (fun y => { y with
        flushes := mapIf (fun z => z.psn = psn) (fun z => { z with acked := true, level := levelOfRank lv }) y.flushes
        unacked := if (x.expPsn + (2 ^ 32 - 1)) % 2 ^ 32 = psn then 0 else y.unacked }) s)))) ∧
  (∀ (s : State) (q : Nat) (x : Qp), qpOf s q = some x → x.unacked ≠ 0 → Does (.ackDelayExpiry q) s (sendAck q s)) ∧
  (∀ (s : State) (q : Nat), (qpOf s q).isSome = true →
      let mine := s.net.waiting.filter (fun w => w.2.1.qpn = q)
      let s1 := touchCtx q (evictCtx { s with net := { s.net with waiting := s.net.waiting.filter (fun w => w.2.1.qpn ≠ q) } })
      (mine = [] → Does (.qpContextFetch q) s s1)
      ∧ (∀ (w : Nat × Pkt × ReqBody) (l : List (Nat × Pkt × ReqBody)), mine = w :: l → Does (.qpContextFetch q) s
        (forEach mine (fun w t => serveReq w.2.1 w.2.2 (freeBuffer q (chargeOf w.2.1 w.2.2) t))
          (recSample 13 (now s - w.1) s1)))) ∧
  (∀ (s : State) (q : Nat) (x : Qp), qpOf s q = some x → x.closing = true → allAnswered s q x = true →
      canAnswer s = true → Does (.closeComplete q) s (finishPeer x.peer (freeQp q (sendQp q (.close q 0) s)))) ∧
  (∀ (s : State) (h : Pkt) (n : Nat) (p : Peer), PacketIn s h → extOk s h (some 0) = true → h.qpn = 0 →
      peerAt s h.srcIp = some (n, p) → Does (.peerClose h) s (finishPeer n (forEach (qpsOfPeer s n)
        (fun q u => updQp q (fun x => { x with closing := true }) u)
        (updPeer n (fun p => { p with closing := true }) s)))) ∧
  (∀ (s : State) (n : Nat), (peerOf s n).isSome = true → qpsOfPeer s n = [] →
      Does (.peerIdleTimeout n) s (freePeer n s))

/-- A NOTIFY whose sender's earlier writes are emitted and whose target has credit is delivered with the
target's next sequence number; an unacknowledged delivery is sent again until RETRIES, and then the target
queue pair closes with reason 3 and event 393; a NOTIFY not taken in time is answered with NAK 0x0D; a
reserved opcode in order is answered with NAK 0x0B and consumes its PSN. -/
def Obligations.VrmpNotify : Prop :=
  (∀ (s : State) (id : Nat) (n : Note) (x : Qp), s.net.notes.find? (fun n => n.id = id) = some n →
      (keyOf s n.key).isSome = true → (∀ r ∈ s.net.revokes, r.key = n.key → n.gtc ≤ r.gtc) →
      writesPending s n = false → qpOf s n.target = some x → x.hostUsed + 256 ≤ x.hostLimit → canAnswer s = true →
      Does (.notifyDelivery id) s (sendQp n.target (.notifyDeliver n.target x.notSeq n.qpn n.value)
        (updQp n.target (fun y => { y with hostUsed := y.hostUsed + 256, notSeq := (y.notSeq + 1) % 2 ^ 32
                                           notifs := y.notifs ++ [⟨x.notSeq, n.qpn, n.value, 0, now s⟩] }) (dropNote id s)))) ∧
  (∀ (s : State) (q : Nat) (x : Qp) (n : NotDel), qpOf s q = some x → oldest x.notifs = some n →
      n.tries < fld s .netRto 19 16 → canAnswer s = true →
      Does (.notifyRetransmit q) s (sendQp q (.notifyDeliver q n.seq n.sender n.value) (updQp q (fun y => { y with
        notifs := mapIf (fun z => z.seq = n.seq) (fun z => { z with tries := z.tries + 1, at_ := now s }) y.notifs }) s))) ∧
  (∀ (s : State) (q : Nat) (x : Qp) (n : NotDel), qpOf s q = some x → oldest x.notifs = some n →
      fld s .netRto 19 16 ≤ n.tries → Does (.notifyRetransmit q) s (raise 393 (closeQpWith 3 q s))) ∧
  (∀ (s : State) (id : Nat) (n : Note), s.net.notes.find? (fun n => n.id = id) = some n →
      Does (.notifyUndelivered id) s (sendNak n.qpn n.psn 0x0D n.target (dropNote id s))) ∧
  (∀ (s : State) (h : Pkt) (code : Nat) (x : Qp), QpPacket s h none → mustFetch (noteLimit h s) h.qpn = false →
      protOk (noteLimit h s) 2 h.qpn = true → qpOf (taken h s) h.qpn = some x → x.expPsn = h.psn → h.psn < 2 ^ 32 →
      inGrant (taken h s) h (.badOpcode code) = true →
      Does (.reservedOpcode h code) s (refuseReq h (.badOpcode code) 0x0B 0 (taken h s)))

/-- Key registration and revocation are stamped under source 311; a revocation whose earlier inputs are placed
frees the key index, completes the command and closes the queue pairs bound to it with reason 1; NET_CMD
closes a queue pair or a peer with reason 4. -/
def Obligations.SpaceKeys : Prop :=
  (∀ (s : State) (p : Path) (tag : Nat) (ws : List Window) (any : Bool) (cls : Nat), BelvorMgr s p → serving s = true →
      holdAll s = false → Does (.keyRegister p tag ws any cls) s (stampInput 311
        (.log (.keyReg { key := 0, windows := ws, any := any, peerClass := cls })) (.cmd p tag 0x30) (srcOf p) 0 0 s)) ∧
  (∀ (s : State) (p : Path) (tag : Nat) (key : BitVec 64), BelvorMgr s p → serving s = true → holdAll s = false →
      Does (.keyRevoke p tag key) s (stampInput 311 (.log (.keyRevoke key)) (.cmd p tag 0x31) (srcOf p) 0 0 s)) ∧
  (∀ (s : State) (key : BitVec 64) (r : Revoke), s.net.revokes.find? (fun r => r.key = key) = some r →
      revokeDone s r = true → Does (.revocationComplete key) s
        (forEach (((SMap.present s.net.qps).filter (fun q => q.2.key = key)).map (·.1)) (closeQpWith 1)
          (answerAck r.ack .loc r.gtc 311 (freeKey key s)))) ∧
  (∀ (s : State) (p : Path) (q : Nat), Manager s p → Does (.closeQp p q) s (closeQpWith 4 q s)) ∧
  (∀ (s : State) (p : Path) (n : Nat) (x : Peer), Manager s p → peerOf s n = some x → qpsOfPeer s n = [] →
      canAnswer s = true →
      Does (.closePeer p n) s (freePeer n (sendPeer n (freeEngine s) (.peerClose x.ip 4) (useFree s))))

/-- The engine answers ARP, neighbour solicitations and echoes for its own addresses; a PAUSE frame is counted
and sets PAUSE_RX; a PTP event message is timestamped into the FIFO, which a read of NET_PTP_TS_ID pops; a
link change raises the port's link event. -/
def Obligations.NetworkPorts : Prop :=
  (∀ (s : State) (port : Nat) (ip : BitVec 128) (v6 : Bool), port < 8 → netLive s port = true →
      (netOf s port).addrs.contains ip = true →
      Does (.arpRequest port ip) s (send (.arpReply port ip) s)
      ∧ Does (.neighborSolicitation port ip) s (send (.ndReply port ip) s)
      ∧ Does (.icmpEcho port ip v6) s (send (.echoReply port ip v6) s)) ∧
  (∀ (s : State) (port : Nat), port < 8 → (netOf s port).up = true →
      Does (.pauseFrame port) s (setBit .netCause port 2 (bumpRc .netRxDrop port 31 0 1 s))) ∧
  (∀ (s : State) (port mtype seqId : Nat) (tx : Bool), port < 8 → (netOf s port).up = true →
      (netOf s port).ptp.length < 64 → Does (.ptpEventMessage port tx mtype seqId) s
        (updNet port (fun x => { x with ptp := x.ptp ++ [⟨now s, tx, mtype % 16, seqId % 65536⟩] }) s)) ∧
  (∀ (s : State) (port mtype seqId : Nat) (tx : Bool), port < 8 → (netOf s port).up = true →
      64 ≤ (netOf s port).ptp.length → Does (.ptpEventMessage port tx mtype seqId) s (bumpRc .netPtpLost port 31 0 1 s)) ∧
  (∀ (s : State) (p : Path) (port : Nat), regUp s p = true → Does (.ptpTimestampPop p port) s
      (send (.readVal p (regAddr .netPtpTsId port) (readWord p (regAddr .netPtpTsId port) s).2.1)
        (readWord p (regAddr .netPtpTsId port) s).1)) ∧
  (∀ (s : State) (port : Nat), port < 8 → (netOf s port).up = true →
      Does (.netLinkChange port false) s (raiseAt (384 + port) port (setBit .netCause port 0
        (updNet port (fun x => { x with up := false, speed := 0, lanes := 0 }) s)))) ∧
  (∀ (s : State) (port : Nat), port < 8 → (netOf s port).formed = true → (netOf s port).held = false →
      (netOf s port).up = false → 7 ≤ s.pwr.stage → s.pwr.stage ≤ 10 → s.pwr.stopped = false →
      let v := netSpeed (fld s .netCfg 15 12)
      Does (.netLinkChange port true) s (raiseAt (384 + port) port
        (updNet port (fun y => { y with up := true, speed := v.1, lanes := v.2 }) s)))

/-- A frame of the UTL in order and of the node's own epoch is heard and its LINK_ACK taken, and then:
STAMPED_INPUT records are taken at a STANDBY; LANDING_ACK reports credit, acknowledged and applied
positions, HEARTBEAT the role, credit and applied position; a DIGEST that differs from the leader's own
makes it SOLO with event 421; an EPOCH reports the peer's role; a reserved TYPE raises event 430; RETRY_REQ
replays; REPAIR_REQ is answered with the chunk or with LEN 0; REKEY makes the keys of the two RANDs. -/
def Obligations.TwinStream : Prop :=
  (∀ (s : State) (h : FrameHdr) (first : Nat) (recs : List StampRec), FrameIn s h → s.twin.role = .standby →
      Does (.stampedInput h first recs) s (takeRecords first recs (frameSeen h s))) ∧
  (∀ (s : State) (h : FrameHdr) (c a ap : Nat), FrameIn s h →
      Does (.landingAck h c a ap) s (takeReport ap (takeAck a (takeCredit c (frameSeen h s))))) ∧
  (∀ (s : State) (h : FrameHdr) (r : Role) (c a ap : Nat), FrameIn s h →
      Does (.heartbeat h r c a ap) s (peerReports r false (takeReport ap (takeCredit c (frameSeen h s))))) ∧
  (∀ (s : State) (h : FrameHdr) (first : Nat) (v w : BitVec 128), FrameIn s h → s.twin.role = .leader →
      s.twin.digDone = some (first, w) → w ≠ v → Does (.digest h first v) s
        (modTwin (fun x => { x with peerT1 := false }) (toSolo (raise 421 (frameSeen h s))))) ∧
  (∀ (s : State) (h : FrameHdr) (e : Nat) (r : Role), FrameIn s h →
      Does (.epochFrame h e r) s (modTwin (fun w => { w with peerRole := r }) (frameSeen h s))) ∧
  (∀ (s : State) (h : FrameHdr) (ty : Nat), FrameIn s h → (ty = 0 ∨ 8 < ty) → ty < 256 →
      Does (.reservedFrameType h ty) s (raise 430 (frameSeen h s))) ∧
  (∀ (s : State) (h : FrameHdr) (n : Nat), FrameIn s h → Does (.retryReq h n) s (resend n (frameSeen h s))) ∧
  (∀ (s : State) (h : FrameHdr) (g k i : Nat), FrameIn s h → feature s 2 = true → s.twin.role ≠ .fenced → i < 16 →
      let r := chunkLines g k (i / 2) 311 (frameSeen h s)
      let bad := s.twin.role == .joining || (groveOf (frameSeen h s) g).isNone || tileBlank (tile (frameSeen h s) g k)
        || r.2.any (·.isNone)
      Does (.repairReq h g k (BitVec.ofNat 16 (2 ^ i))) s (sendUtl (.resyncData ⟨g, k, i / 2, 0,
        .repair (if bad then none else some (r.2.map (fun x => x.getD 0)))⟩) r.1)) ∧
  (∀ (s : State) (h : FrameHdr) (r : BitVec 256), FrameIn s h →
      let t := frameSeen h s
      let mine := (Config.drbg t.free).setWidth 256
      (t.twin.rekeying = true → Does (.rekey h r) s (newKeys t.twin.sessionRand r t))
      ∧ (t.twin.rekeying = false → Does (.rekey h r) s (newKeys mine r (sendUtl (.rekey mine) (useFree t)))))

/-- LEAVING makes a LEADER SOLO and promotes a FENCED node; a STANDBY answers RELEASE with RELEASE_ACK and joins
again; RELEASE_ACK makes the leader SOLO; a HANDOVER promotes a STANDBY that has applied what it received to
LEADER at the next epoch with HANDOVER_ACK; HANDOVER_ACK makes the old leader STANDBY; TIME is answered by
the serving node and taken by the other; NEGOTIATE of a peer with the same NODE value takes the link DOWN,
and one that matches brings it UP and runs the election. -/
def Obligations.TwinRoles : Prop :=
  (∀ (s : State) (h : FrameHdr) (n : Nat), FrameIn s h → (s.twin.role = .leader →
        Does (.leaving h n) s (toSolo (modTwin (fun w => { w with peerApplied := n }) (frameSeen h s))))
      ∧ (s.twin.role = .fenced → Does (.leaving h n) s (promote (frameSeen h s)))) ∧
  (∀ (s : State) (h : FrameHdr), FrameIn s h → s.twin.role = .standby →
      Does (.release h) s (toJoining false [] (modTwin (fun w => { w with t1Intact := true })
        (sendUtl .releaseAck (frameSeen h s))))) ∧
  (∀ (s : State) (h : FrameHdr), FrameIn s h → s.twin.role = .leader →
      Does (.releaseAck h) s (modTwin (fun w => { w with peerT1 := true }) (toSolo (frameSeen h s)))) ∧
  (∀ (s : State) (h : FrameHdr) (n : Nat), FrameIn s h → s.twin.role = .standby → feature s 4 = true →
      s.twin.epoch + 1 < 2 ^ 32 →
      let t := applyReceived ((frameSeen h s).seqr.inputs.length + 1) (frameSeen h s)
      t.twin.role = .standby →
      Does (.handoverFrame h n) s (raise 418 (sendUtl (.handoverAck (t.twin.epoch + 1))
        (setRole .leader (setEpoch (t.twin.epoch + 1) (modTwin (fun w => { w with
          endSeq := n, unrep := [], lag := 0, peerApplied := n, peerAck := n, retained := []
          bmOpen := false, bmTiles := [], digSpan := true }) t)))))) ∧
  (∀ (s : State) (h : FrameHdr), twLive s = true → h.net = false → linkOpen s = true → h.ok = true →
      h.linkSeq = s.twin.rxSeq % 2 ^ 32 → h.mem = 0 → s.twin.role = .leader → s.twin.handover = 2 →
      h.epoch = s.twin.epoch + 1 →
      let t := frameSeen h s
      let last := t.seqr.nextSeq - 1
      let t1 := setRole .standby (setEpoch (s.twin.epoch + 1) (modTwin (fun w => { w with
        handover := 0, retained := [], unrep := [], lag := 0, lagHold := false, applied := last, ackSeq := last
        peerRole := .leader, cmdBusy := false, cmdResult := 0, digSpan := true }) (cleanDirty t)))
      Does (.handoverAck h (s.twin.epoch + 1)) s (dropQps 2 (forEach t.seqr.reads
        (fun r u => refuseCxl r.req 5 false r.req.hpa (some r.grove) u)
        (refuseAllHeld { t1 with seqr := { t1.seqr with reads := [] } })))) ∧
  (∀ (s : State) (h : FrameHdr) (a b c : Nat), FrameIn s h →
      let t := frameSeen h s
      (serving s = true → Does (.timeFrame h a b c) s (sendUtl (.time a (now t) (now t)) t))
      ∧ (serving s = false → b ≠ 0 → now t - a - (c - b) ≤ 1500 → Does (.timeFrame h a b c) s
        (takeTime (((b : Int) - a + (c - (now t : Int))) / 2) (modTwin (fun w => { w with rtt := now t - a - (c - b) }) t)))
      ∧ (serving s = false → b ≠ 0 → 1500 < now t - a - (c - b) → Does (.timeFrame h a b c) s
        (raise 426 (utlDown (modTwin (fun w => { w with noRetry := true })
          (takeTime (((b : Int) - a + (c - (now t : Int))) / 2)
            (modTwin (fun w => { w with rtt := now t - a - (c - b) }) t))))))) ∧
  (∀ (s : State) (h : FrameHdr) (n : NegRec) (rtt : Nat), twLive s = true → h.net = false →
      s.twin.link = .negotiate → h.ok = true →
      (n.nodeB = s.pwr.nodeB → ownStage9 s = false → Does (.negotiate h n rtt) s (raise 425 (utlDown s)))
      ∧ (n.nodeB ≠ s.pwr.nodeB → negMatches s n = true → linkKeyed s = true → rtt ≤ 1500 →
        laneOk (linkStarts n rtt s) (linkStarts n rtt s).twin.lanes = true →
        Does (.negotiate h n rtt) s (elect n (linkStarts n rtt s))))

/-- Heartbeats, TIME and NEGOTIATE go out on their timers; a silent STANDBY promotes under AUTO, a silent leader
asks for RELEASE under WITNESS and is fenced after T_fence; a node that waits in stage 9 promotes after
T_join; a lag hold starts and is reported; a converged handover is sent; new session keys are asked for when
a frame counter is spent. -/
def Obligations.TwinTimers : Prop :=
  (∀ (s : State), twLive s = true → s.twin.role ≠ .unset → Does .heartbeatTimer s (noteSilence
      (sendBoth (.heartbeat s.twin.role s.twin.lagHold (s.twin.resync ≠ 0) (report s).1 (report s).2.1 (report s).2.2) s))) ∧
  (∀ (s : State), twLive s = true → serving s = false → s.twin.role ≠ .unset →
      Does .timeTimer s (sendUtl (.time (now s) 0 0) s)) ∧
  (∀ (s : State), twLive s = true → s.twin.link = .negotiate → Does .negotiateTimer s
      (send (.frame { utlHdr 3 s with key := negKey s } (.negotiate (ownNeg s)))
        (modTwin (fun t => { t with txSeq := (t.txSeq + 1) % 2 ^ 64 }) s))) ∧
  (∀ (s : State), isReady s = true → s.twin.role = .standby →
      let s1 := loseNet (loseUtl s)
      (fld s .twinTimers 21 21 = 0 → Does .thbExpiry s (promote s1))
      ∧ (fld s .twinTimers 21 21 ≠ 0 → feature s 3 = false → Does .thbExpiry s s1)) ∧
  (∀ (s : State), isReady s = true → s.twin.role = .leader → feature s 3 = true → netSilent s = false →
      fld s .twinTimers 21 21 = 1 → Does .leaderUtlSilence s (sendNet .release (loseNet (loseUtl s)))) ∧
  (∀ (s : State), isReady s = true → s.twin.role = .leader → Does .fenceExpiry s (fence s)) ∧
  (∀ (s : State), twLive s = true → ownStage9 s = true → s.twin.sameNode = false → fld s .twinTimers 31 22 ≠ 0 →
      (s.cfg.node.lastRole = .leader ∨ s.cfg.node.lastRole = .solo → Does .tjoinExpiry s (promote s))
      ∧ (s.cfg.node.lastRole ≠ .leader → s.cfg.node.lastRole ≠ .solo → Does .tjoinExpiry s (raise 428 s))) ∧
  (∀ (s : State), s.twin.role = .leader → s.twin.unrep ≠ [] → s.twin.lagHold = false →
      Does .lagHoldStart s { s with twin := { s.twin with lagHold := true } }) ∧
  (∀ (s : State), s.twin.lagHold = true → Does .lagHoldLong s (raise 422 s)) ∧
  (∀ (s : State), s.twin.role = .leader → s.twin.handover = 1 → linkOpen s = true → s.seqr.unsent = [] →
      (∀ i ∈ s.seqr.inputs, i.seq ≠ 0 ∨ isLocal i.op = true) → s.twin.peerApplied = s.seqr.nextSeq - 1 →
      Does .handoverSend s (sendUtl (.handover (s.seqr.nextSeq - 1)) (modTwin (fun w => { w with handover := 2 }) s))) ∧
  (∀ (s : State), twLive s = true → linkOpen s = true → s.twin.rekeying = false →
      2 ^ 48 ≤ s.twin.txSeq ∨ 2 ^ 48 ≤ s.twin.netTx →
      let r := (Config.drbg s.free).setWidth 256
      Does .rekeyCount s (sendUtl (.rekey r) (modTwin (fun w => { w with rekeying := true, sessionRand := r }) (useFree s))))

/-- A retry trains again, a lock on a lane group moves to NEGOTIATE, timeouts drop the link with event 425, a
lane fault proposes the narrower group or drops the link with event 424, a proposal is confirmed and used,
and a change that times out drops the link. -/
def Obligations.UtlLink : Prop :=
  (∀ (s : State), twLive s = true → s.twin.link = .down → s.twin.noRetry = false →
      Does .utlRetryTimer s { s with twin := { s.twin with link := .train } }) ∧
  (∀ (s : State) (m : BitVec 16), twLive s = true → s.twin.link = .train → (laneGroups s).contains m = true →
      Does (.utlTrainLock m) s (modTwin (fun t => { t with
        link := .negotiate, lanes := m, negCount := t.negCount + 1, sessionRand := (Config.drbg s.free).setWidth 256 })
        (useFree s))) ∧
  (∀ (s : State), (s.twin.link = .train → Does .utlTrainTimeout s (raise 425 (utlDown s)))
      ∧ (s.twin.link = .negotiate → Does .utlNegotiateTimeout s (raise 425 (utlDown s)))
      ∧ (s.twin.link = .degrade → Does .laneChangeTimeout s (raise 424 (utlDown s)))) ∧
  (∀ (s : State) (w m : BitVec 16), linkOpen s = true → narrower s w = some m → Does (.utlLaneFault w) s
      (sendUtl (.laneChange m false) (modTwin (fun t => { t with link := .degrade, proposed := some m }) s))) ∧
  (∀ (s : State) (w : BitVec 16), linkOpen s = true → narrower s w = none →
      Does (.utlLaneFault w) s (raise 424 (utlDown s))) ∧
  (∀ (s : State) (h : FrameHdr) (m : BitVec 16), FrameIn s h → laneOk (frameSeen h s) m = true →
      Does (.laneChange h m false) s (useLanes m (sendUtl (.laneChange m true) (frameSeen h s))))

/-- RECOPY marks what the joiner names and, with LAST, lets the resync start; RESYNC_START begins it at a
joiner; the serving node sends the next metadata record as it is now; a data chunk is queued and installed
when the applied position equals its AS_OF_SEQ; RESYNC_DONE gives the last position; a joiner that has
everything enters STANDBY with event 431. -/
def Obligations.Resync : Prop :=
  (∀ (s : State) (h : FrameHdr) (last : Bool) (ts : List (Nat × Nat)), FrameIn s h → serving s = true →
      s.twin.resync = 0 → Does (.recopy h last ts) s (resyncIfAsked (modTwin (fun w => { w with
        recopyReq := (w.recopyReq ++ ts).dedup, recopyGot := w.recopyGot || last }) (frameSeen h s)))) ∧
  (∀ (s0 : State) (errs : List LineRead) (r : StampRec) (rest : List StampRec), let s := noteReads errs s0
      isReady s = true → s.twin.role = .solo → s.twin.resync ≠ 0 → linkOpen s = true →
      s.twin.metaSend = r :: rest → Does (.resyncChunkRead errs) s0 (doneIfLast (forEach (metaNow s r)
        (fun x t => sendChunk 1023 0 0 (.metaRec x) t) (modTwin (fun t => { t with metaSend := rest }) s)))) ∧
  (∀ (s : State) (h : FrameHdr) (start : Nat), FrameIn s h → s.twin.role = .joining →
      ∃ t, Does (.resyncStart h false start) s (clearSchedules (touchMeta (tkey 1023 20480) t))
        ∧ t.twin.applied = start ∧ t.twin.ackSeq = start ∧ t.twin.resync = 1 ∧ t.twin.doneSeq = none
        ∧ t.twin.installed = [] ∧ t.tier.md.map = [] ∧ t.tier.md.keys = []) ∧
  (∀ (s : State) (h : FrameHdr) (n : Nat), FrameIn s h → s.twin.role = .joining → s.twin.resync ≠ 0 →
      Does (.resyncDone h n) s (modTwin (fun w => { w with doneSeq := some n }) (frameSeen h s))) ∧
  (∀ (s : State) (h : FrameHdr) (c : Chunk), FrameIn s h → s.twin.role = .joining → s.twin.resync ≠ 0 →
      c.body = .zero → Does (.resyncData h c) s (holdRx 273 (creditBytes (.resyncData c))
        (modTwin (fun w => { w with chunks := w.chunks ++ [c] }) (frameSeen h s)))) ∧
  (∀ (s : State) (c : Chunk) (rest : List Chunk), s.twin.chunks = c :: rest → working s = true →
      s.twin.role = .joining → s.twin.applied = c.asOf → (tile s c.grove c.tile).frame.isSome = true →
      Does .resyncChunkInstall s (installChunk c (freeRx 273 true (creditBytes (.resyncData c))
        (modTwin (fun w => { w with chunks := rest }) s)))) ∧
  (∀ (s : State) (n : Nat), isReady s = true → s.twin.role = .joining → s.twin.resync = 1 → s.twin.chunks = [] →
      s.twin.doneSeq = some n → n ≤ s.twin.applied → s.twin.recopyOut = [] → s.twin.timeLocked = true →
      linkOpen s = true → ∃ t, Does .resyncComplete s (raise 431 (setRole .standby t))
        ∧ t.twin.resync = 0 ∧ t.twin.needBulk = false ∧ t.twin.doneSeq = none ∧ t.twin.t1Intact = true)

/-- At management's write with no command running: HANDOVER at a converged leader with the feature agreed starts
holding; RESUME promotes a FENCED node; FORCE_LEAD promotes a node in stage 9; WITNESS_GRANT promotes a
FENCED node whose epoch matches; DIV_CLEAR empties the divergence list; REWIDEN proposes every lane. -/
def Obligations.TwinCommands : Prop :=
  (∀ (s : State) (p : Path), Manager s p → s.twin.cmdBusy = false → s.twin.role = .leader → s.twin.peerRole = .standby →
      linkOpen s = true → feature s 4 = true → Does (.handover p) s { s with twin := { s.twin with
        noRetry := false, cmdResult := 0, handover := 1, cmdBusy := true } }) ∧
  (∀ (s : State) (p : Path), Manager s p → s.twin.cmdBusy = false → s.twin.role = .fenced →
      s.cipher.dukBlocked = false → Does (.resume p) s
        (promoteCmd { s with twin := { s.twin with noRetry := false, cmdResult := 0 } })) ∧
  (∀ (s : State) (p : Path), Manager s p → s.twin.cmdBusy = false → hasTwin s = true → ownStage9 s = true →
      (promoteCmd { s with twin := { s.twin with noRetry := false, cmdResult := 0 } }).twin.role = .solo →
      Does (.forceLead p) s
        (setIncomplete (promoteCmd { s with twin := { s.twin with noRetry := false, cmdResult := 0 } }))) ∧
  (∀ (s : State) (p : Path), Manager s p → s.twin.cmdBusy = false → s.twin.role = .fenced →
      s.cipher.dukBlocked = false → regWord s .twinCmdArg = s.twin.epoch → Does (.witnessGrant p) s
        (promoteCmd { s with twin := { s.twin with noRetry := false, cmdResult := 0 } })) ∧
  (∀ (s : State) (p : Path), Manager s p → s.twin.cmdBusy = false →
      Does (.divClear p) s (touchMeta (tkey 1023 8192) (modMeta (fun m => { m with divs := [] })
        { s with twin := { s.twin with noRetry := false, cmdResult := 0, divLost := 0, divFull := false } }))) ∧
  (∀ (s : State) (p : Path), Manager s p → s.twin.cmdBusy = false → s.twin.link = .up → s.twin.lanes ≠ allLanes s →
      Does (.rewiden p) s (sendUtl (.laneChange (allLanes s) false) { s with twin := { s.twin with
        noRetry := false, cmdResult := 0, proposed := some (allLanes s), cmdBusy := true } }))

/-- ZEROISE empties a slot of no live grove; ROLL of a LOADED grove slot draws a second generation; the walk re-
encrypts the next resident tile, and the end of the roll zeroises the old generation with event 477;
KEY_GENERATE and KEY_IMPORT fill an EMPTY slot that takes a key. -/
def Obligations.CipherCommands : Prop :=
  (∀ (s : State) (p : Path) (n : Nat), Manager s p → n < nKeySlots s → (slotOf s n).bind = 5 →
      Does (.zeroise p n) s (cipherResult 0 (zeroSlot n (dropSessions n s)))) ∧
  (∀ (s : State) (p : Path) (n : Nat), Manager s p → n < nKeySlots s → (slotOf s n).bind = 1 →
      (slotOf s n).state = .loaded → s.cipher.dukBlocked = false → Does (.roll p n) s (cipherResult 0 (startRoll n s))) ∧
  (∀ (s0 : State) (n t : Nat) (errs : List LineRead), let s := noteReads errs s0
      let g := (slotOf s n).target
      working s = true → (slotOf s n).state = .rolling → nextRollTile s n = some t → moving s g t = false →
      promoting s g t = false → portOpen s (regFor s 1) 2048 = true →
      let u := moved 3 288 g (t * 1024) 1024 (chargeLines (regFor s 1) 2048 (useSlot n 1024
        (useGrove g t 1024 (recrypt g t (wakeTile g t s)))))
      Does (.rollWalk n errs) s0 { u with tier := { u.tier with rollTile := SMap.set u.tier.rollTile 0 n (t + 1) } }) ∧
  (∀ (s : State) (n : Nat), working s = true → (slotOf s n).state = .rolling → nextRollTile s n = none →
      rollEnd s n ≤ SMap.get s.tier.rollTile 0 n → oldCopies s n = [] →
      (tiles s).any (fun p => p.1 = (slotOf s n).target && p.2.2.cellar) = false →
      Does (.rollComplete n) s (raise 477 (storeSlot n (setSlot n { slotOf s n with
        state := .loaded, oldKey := 0, oldCtr := 0, rollWseq := 0 } s)))) ∧
  (∀ (s : State) (p : Path) (tag n : Nat), BelvorMgr s p → keyTakes s n = true →
      Does (.keyGenerate p tag false n) s (complete p tag 0x32 0 [] (keyEntered n (generateKey n s)))) ∧
  (∀ (s : State) (p : Path) (tag n : Nat) (k : BitVec 512), BelvorMgr s p → keyTakes s n = true →
      Does (.keyImport p tag false n true k) s (complete p tag 0x33 0 [] (keyEntered n (storeSlot n (setSlot n { slotOf s n with
        state := .loaded, key := k, ctr := 0, floor := 0, warn := false, usedEmpty := false } s)))))

/-- A write of the tail within the ring lets descriptors run; each kind of descriptor at the head runs its
operation on its slot's key and writes its completion; writing 1 to STOPPED restarts the ring; a failed
self-test disables its lane with event 480; the first class to wait more than 10 µs sets SAT with event 478. -/
def Obligations.CipherRing : Prop :=
  (∀ (s : State) (p : Path) (tail : Nat), Manager s p → tail < 4096 → tail < ringSize s →
      ringSize (setFld .ciphRqTail 0 11 0 tail s) = ringSize s →
      Does (.rqTailWrite p tail) s (setFld .ciphRqTail 0 11 0 tail s)) ∧
  (∀ (s : State) (p : Path), Manager s p → Does (.ringRestart p) s (setFld .ciphRqStatus 0 31 31 0 s)) ∧
  (∀ (s : State) (c : Instr) (mode : Nat),
      ((c, mode) = (.descriptorXts, 1) ∨ (c, mode) = (.descriptorGcm, 2) ∨ (c, mode) = (.descriptorCmac, 3)
        ∨ (c, mode) = (.descriptorKwp, 4)) →
      isReady s = true → fld s .ciphRqStatus 31 31 = 0 → s.cipher.head ≠ fld s .ciphRqTail 11 0 →
      ringBase s + ringSize s * 64 ≤ s.cipher.spSize →
      let at_ := ringBase s + s.cipher.head * 64
      let d := descOf (spBytes s at_ 64)
      let r := cipherOp d (slotOf s d.slot).key (spBytes s d.src (readLen d)) (spBytes s d.aad d.aadLen)
      d.mode = mode → descCode s d = 0 → r.2 = true →
      Does c s (finishDesc at_ r.1.length 0 d.irq (spPut d.dst r.1 (useSlot d.slot 1 s)))) ∧
  (∀ (s : State) (lane : Nat), lane < nLanes s → isReady s = true → s.cipher.badLanes.contains lane = false →
      Does (.laneSelfTest lane false) s
        (raise 480 { s with cipher := { s.cipher with badLanes := s.cipher.badLanes ++ [lane] } })) ∧
  (∀ (s : State) (cls us : Nat), cls < 9 → s.cipher.lanesUp = true → 10 < us → s.cipher.sat = [] →
      Does (.cipherSaturation cls us) s (raise 478
        { bumpRc .ciphClassWait cls 31 0 us s with cipher := { s.cipher with sat := [cls] } }))

/-- VERIFY reports the first failure of a bank without applying it; SELECT of a bank that passes marks it
active; a PLDM update writes into the bank that is neither running nor active, and its activation runs
SELECT. -/
def Obligations.ImageCommands : Prop :=
  (∀ (s : State) (p : Path) (b : Nat) (v : BankVerdict), Manager s p → (b = 1 ∨ b = 2) →
      Does (.verifyBank p b v) s { s with cfg := { s.cfg with
        cmdStage := ((bankFail s b v).map (·.stage)).getD 0, cmdReason := ((bankFail s b v).map (·.reason)).getD 0 } }) ∧
  (∀ (s : State) (p : Path) (b : Nat) (v : BankVerdict), Manager s p → (b = 1 ∨ b = 2) → bankFail s b v = none →
      Does (.selectBank p b v) s (putNode (fun n => { n with active := b })
        { s with cfg := { s.cfg with cmdStage := 0, cmdReason := 0 } })) ∧
  (∀ (s : State) (b off : Nat) (w : List Word) (im : Bool), isReady s = true → (b = 1 ∨ b = 2) → b ≠ s.cfg.running →
      b ≠ s.cfg.node.active → off % 4 = 0 → off + 4 * w.length ≤ 0x800000 →
      let a := (b - 1) * 0x2000000 + (if im then 0x800000 else 0) + off
      let u := forEach w.zipIdx (fun x t => putStore (a + 4 * x.2) (storeWord t (a + 4 * x.2) &&& x.1.toNat) t)
        (eraseStarts a (4 * w.length) s)
      Does (.pldmFirmwareUpdate b off w im) s { u with cfg := { u.cfg with pldmBank := b } }) ∧
  (∀ (s : State) (b off : Nat) (w : List Word) (im : Bool), isReady s = true → b = s.cfg.running →
      Does (.pldmFirmwareUpdate b off w im) s (raise 603 s)) ∧
  (∀ (s : State) (v : BankVerdict), isReady s = true → s.cfg.pldmBank ≠ 0 → bankFail s s.cfg.pldmBank v = none →
      Does (.pldmActivate v) s (putNode (fun n => { n with active := s.cfg.pldmBank })
        { s with cfg := { s.cfg with cmdStage := 0, cmdReason := 0 } }))

/-- GROVE_CREATE, GROVE_RESIZE and GROVE_DELETE by management are stamped under source 311; GROVE_STATUS answers
with the grove's status, or 0 for a grove that a host's LD does not map; GET_VERSION is answered. -/
def Obligations.GroveCommands : Prop :=
  (∀ (s : State) (p : Path) (tag a b : Nat), BelvorMgr s p → serving s = true → holdAll s = false →
      Does (.groveCreate p tag a b) s (stampInput 311 (.log (.grove (groveReq 1 0 b a))) (.cmd p tag 0x20) (srcOf p) 0 0 s)
      ∧ Does (.groveResize p tag a b) s
          (stampInput 311 (.log (.grove (groveReq 2 a b 0))) (.cmd p tag 0x21) (srcOf p) 0 0 s)
      ∧ Does (.groveDelete p tag a) s
          (stampInput 311 (.log (.grove (groveReq 3 a 0 0))) (.cmd p tag 0x22) (srcOf p) 0 0 s)) ∧
  (∀ (s : State) (p : Path) (tag g : Nat), BelvorUp s p → Does (.groveStatus p tag g) s
      (complete p tag 0x23 0 [if seesGrove s p g then groveStatusWord s g else 0] s)) ∧
  (∀ (s : State) (p : Path) (tag : Nat), BelvorUp s p → Does (.getVersion p tag) s
      (useFree (complete p tag 0x01 0 [(Config.anyWord s.free).toNat] s)))

/-- A read of a register by a path that reaches it returns the word that readWord gives, with its side effects;
REG_READ and REG_WRITE act word by word in ascending order; a write acts by its register's rule; over Glade
a read is shifted out. -/
def Obligations.ControlAccess : Prop :=
  (∀ (s : State) (p : Path) (a : Nat), regUp s p = true →
      Does (.loReadLatch p a) s (send (.readVal p a (readWord p a s).2.1) (readWord p a s).1)
      ∧ Does (.rcRead p a) s (send (.readVal p a (readWord p a s).2.1) (readWord p a s).1)) ∧
  (∀ (s : State) (p : Path) (a : Nat) (v : Word), regUp s p = true → Does (.registerWrite p a v) s (writeWord p a v s)) ∧
  (∀ (s : State) (p : Path) (tag a n : Nat), BelvorUp s p → badRange a n = false →
      Does (.regRead p tag a n) s (complete p tag 0x02 (b2n (readWords p (wordRun a n) s).2.2)
        (readWords p (wordRun a n) s).2.1 (readWords p (wordRun a n) s).1)) ∧
  (∀ (s : State) (p : Path) (tag a : Nat) (w : List Word), BelvorUp s p → badRange a w.length = false →
      Does (.regWrite p tag a w) s (complete p tag 0x03 (b2n (writeWords p ((wordRun a w.length).zip w) s).2) []
        (writeWords p ((wordRun a w.length).zip w) s).1)) ∧
  (∀ (s : State) (a : Nat) (v : Word), regUp (loadIr 0x41 s) .glade = true → s.cfg.rdp ≠ 2 →
      Does (.gladeAccess true a v) s (writeWord .glade a v (loadIr 0x41 s))
      ∧ Does (.gladeAccess false a v) s
          (send (.jtag 0x41 (readWord .glade a (loadIr 0x41 s)).2.1) (readWord .glade a (loadIr 0x41 s)).1))

/-- The two keys open a sequence and a wrong one ends it with SEQ_ERR and event 587; behind the keys PROGRAM,
ERASE and BLANK_CHECK go to the store; a finished command gives RESULT; a read of CFG_FLASH_DATA advances
ADDR; STORE_WRITE of words within a page and STORE_ERASE go through the same rules. -/
def Obligations.StoreCommands : Prop :=
  (∀ (s : State) (p : Path), Manager s p → s.cfg.eng.unlock = 0 →
      Does (.flashUnlock p 0x4E6B21D3#32 0xB0A57C19#32) s
        (modEng (fun e => { e with unlock := 2, who := srcOf p, words := 0, cmd := 0 }) s)) ∧
  (∀ (s : State) (p : Path) (k1 k2 : Word), Manager s p → s.cfg.eng.unlock = 0 → k1 ≠ 0x4E6B21D3#32 →
      Does (.flashUnlock p k1 k2) s (raise 587 (modEng (fun e => { e with unlock := 0, result := 2 }) s))) ∧
  (∀ (s : State) (p : Path) (v : Word), Manager s p → s.cfg.eng.unlock = 2 → s.cfg.eng.who = srcOf p →
      Does (.flashProgram p v) s (dataWrite 1 v (modEng (fun x => { x with words := 0 }) s))
      ∧ Does (.flashErase p) s (dataWrite 2 0 (modEng (fun x => { x with words := 0 }) s))
      ∧ Does (.blankCheck p) s (dataWrite 3 0 (modEng (fun x => { x with words := 0 }) s))) ∧
  (∀ (s : State) (ok : Bool), s.cfg.eng.busy = true → s.cfg.eng.owed = none →
      Does (.flashCommandDone ok) s (modEng (fun e => { e with
        busy := false, todo := [], owed := none, result := (finishStore ok s).2 }) (finishStore ok s).1)) ∧
  (∀ (s : State) (p : Path), Manager s p → (flashWord p (fld s .flashAddr 26 0) s).2 = false →
      Does (.flashDataRead p) s (useFree (setRegWord .flashAddr 0 0 ((fld s .flashAddr 26 0 + 4) % 2 ^ 27)
        (send (.readVal p (regAddr .flashData) (flashWord p (fld s .flashAddr 26 0) s).1) s)))) ∧
  (∀ (s : State) (tag a : Nat) (w : List Word), BelvorMgr s .mgmt → s.cfg.eng.busy = false → uartMay s a = true →
      a % 4 = 0 → w ≠ [] → w.length ≤ 256 → a / 1024 = (a + 4 * w.length - 1) / 1024 →
      (startStore 1 a w (some (.mgmt, tag)) s).2 = true →
      Does (.storeWrite .mgmt tag false a w) s (startStore 1 a w (some (.mgmt, tag)) s).1) ∧
  (∀ (s : State) (tag a : Nat), BelvorMgr s .mgmt → s.cfg.eng.busy = false → uartMay s a = true →
      (startStore 2 a [] (some (.mgmt, tag)) s).2 = true →
      Does (.storeErase .mgmt tag false a) s (startStore 2 a [] (some (.mgmt, tag)) s).1) ∧
  (∀ (s : State) (tag : Nat), uartUp s = true → Does (.provision tag) s (useFree
      (complete .sp tag (Config.choose s.free 256) 0 [] (putNode (fun n => { n with provMark := true }) s))))

/-- A keyed write raises the read-out protection level with event 590; an authorised lowering zeroises every
slot and starts the erase, whose end raises 590 and 591 and stops the node at stage 5; CHALLENGE draws a
challenge, an accepted SUBMIT opens Glade or authorises a lowering and a failed one is counted with event
592; Glade opens once the key areas are erased; I3C takes one dynamic address. -/
def Obligations.Security : Prop :=
  (∀ (s : State) (p : Path) (v : Word), Manager s p → s.cfg.rdp < v.toNat % 4 → v.toNat % 4 ≠ 3 →
      v.toNat / 65536 = 0x5244 → s.cfg.eng.unlock = 2 → s.cfg.eng.who = srcOf p →
      Does (.rdpRaise p v) s (raise 590 (modEng (fun e => { e with unlock := 0 })
        { s with cfg := { s.cfg with rdp := v.toNat % 4 } }))) ∧
  (∀ (s : State) (p : Path) (v : Word), Manager s p → v.toNat / 65536 = 0x5244 → s.cfg.rdp = 1 → v.toNat % 4 = 0 →
      s.cfg.lowerAuth = true → ∃ u, u = zeroAllSlots (abandonStore s) ∧ Does (.rdpLower p v) s
        { u with cfg := { u.cfg with lowering := true, lowerAuth := false, spRun := false } }) ∧
  (∀ (s : State), s.cfg.lowering = true → s.pwr.state = .on → ∃ t, Does .rdpLowerEraseDone s (stopNode t)
      ∧ t.pwr.stage = 5 ∧ t.pwr.ready = false ∧ t.twin.role = .unset ∧ t.cfg.img = none) ∧
  (∀ (s : State) (p : Path) (n : Nat), Manager s p → (n = 1 ∨ n = 2) → noChallenge s n = false →
      Does (.challenge p n) s (newChallenge n s)) ∧
  (∀ (s : State) (n : Nat), (n = 1 ∨ n = 2) → noChallenge (loadIr 0x40 s) n = false → gtcRuns s = true →
      Does (.gladeAuth n) s (send (.jtag 0x40 (newChallenge n (loadIr 0x40 s)).cfg.challenge.toNat)
        (newChallenge n (loadIr 0x40 s)))) ∧
  (∀ (s : State) (p : Path), Manager s p → p ≠ .glade → s.cfg.locked = false → s.cfg.rdp ≠ 2 →
      s.cfg.pendPurpose ≠ 0 → now s - s.cfg.challengeAt ≤ 60000000000 →
      let u := { s with cfg := { s.cfg with
        pendPurpose := 0, dbg := if s.cfg.dbg = .challenged then .closed else s.cfg.dbg } }
      Does (.submit p true) s (acceptSubmit s.cfg.pendPurpose u) ∧ Does (.submit p false) s (failSubmit u)) ∧
  (∀ (s : State), s.cfg.dbg = .opening → Does .gladeOpenEraseDone s (raise 593 (raise 481 { s with
      cipher := { s.cipher with wrapped := [], logUsed := [], dukBlocked := true }
      cfg := { (forEach (keySectors 0 ++ keySectors 1) eraseSector s).cfg with dbg := .opened } }))) ∧
  (∀ (s : State) (a : Nat), i3cUp s = true → s.cfg.i3c = none → a < 128 →
      Does (.entdaa a) s { s with cfg := { s.cfg with i3c := some a } }
      ∧ Does (.setdasa a) s { s with cfg := { s.cfg with i3c := some a } })

/-- IDCODE shifts out GLB_ID, BYPASS and SAMPLE/PRELOAD leave the node alone, and EXTEST, CLAMP and HIGHZ take
the pins and trigger a Clearing with event 594 that waits for them. -/
def Obligations.Jtag : Prop :=
  (∀ (s : State), Does .idcode s (send (.jtag 1 (idCode s)) (loadIr 1 s)) ∧ Does .bypass s (loadIr 0xFF s)
      ∧ Does .samplePreload s (useFree (send (.jtag 2 (Config.anyWord s.free).toNat) (loadIr 2 s)))) ∧
  (∀ (s : State) (c : Instr) (n : Nat), ((c, n) = (.extest, 0) ∨ (c, n) = (.clamp, 3) ∨ (c, n) = (.highz, 4)) →
      clearable s = true → Does c s (raiseClearing 594 (modPwr (fun p => { p with jtagHold := true })
        { s with cfg := { s.cfg with jtagIr := n } }))) ∧
  (∀ (s : State) (e : Nat), (raiseClearing e s).flt.raised = s.flt.raised ++ [⟨e, 0, 3, none⟩]
      ∧ { raiseClearing e s with flt := s.flt } = s)

/-- POWER_ON in HOLD or GAVE_UP starts stage 1; POWER_OFF powers the node down; POWER_STATUS and POWER_LOG_READ
answer; CLEAR at READY and a Clearing trigger raise a Clearing; the end of Clearing entry puts the DIMMs in
self-refresh and starts the warm bring-up at stage 3; a vault that completes powers the node down. -/
def Obligations.PowerCommands : Prop :=
  (∀ (s : State) (p : Path) (tag : Nat), pathUp s p = true → isMgmt p = true → powerOnOk s = true →
      Does (.powerOn p tag) s (startStage1 2 (logPwr 0x0B (srcOf p) (complete p tag 0x60 0 [] s)))) ∧
  (∀ (s : State) (p : Path) (tag : Nat), pathUp s p = true → isMgmt p = true → powerOffOk s = true →
      Does (.powerOff p tag) s (powerOffNow p (complete p tag 0x61 0 [] s))) ∧
  (∀ (s : State) (p : Path) (tag : Nat), pathUp s p = true → isMgmt p = true →
      let bytes := if isReady s then logRecord s else (s.pwr.buf.map (fun r => r.bytes (tableOf s).checked)).flatten
      Does (.powerStatus p tag) s (complete p tag 0x62 0 [seqStatus s] s)
      ∧ Does (.powerLogRead p tag) s (complete p tag 0x63 0 (bytes.map (·.toNat)) s)) ∧
  (∀ (s : State) (p : Path), Manager s p → isReady s = true → Does (.clear p) s (raiseClearing 0x3FF s)) ∧
  (∀ (s : State) (e : Nat), eventListed s e = true ∨ e = 0x3FF → Does (.clearing e) s (raiseClearing e s)) ∧
  (∀ (s : State), s.pwr.stage = 0xD → Does .clearingEntryDone s (allSelfRefresh (clearReset s))
      ∧ (clearReset s).pwr.stage = 3 ∧ (clearReset s).pwr.stopped = false) ∧
  (∀ (s : State) (fails : List Nat), s.pwr.state = .cellar →
      let s1 := writeSectors (cellarIndex s).length fails (writeLm s)
      let s2 := endVault (noteRecords (modVault (fun v => { v with
        cut := 2, count := (vaultTodo s).length, crc := crc32c (Config.cellarIndex v.index) })
        (celWrite (vaultNum s1) .footer none s1)))
      Does (.vaultComplete fails) s (startDown s.pwr.toHold (allSelfRefresh (logPwr 0x05 0 (raise 563 s2)))))

/-- VDD_AON becoming valid starts stage 1; its loss leaves the AON domain without state; in stage 2 a good PG
begins the settle time, whose end begins the next step, and a step that fails takes the rails down for a
retry; RSTO_N rises with its rails; a lost rail starts a power-down without a vault; falling rails go down
in turn. -/
def Obligations.PowerSequence : Prop :=
  (∀ (s : State), s.pwr.aon = false → ∃ t, Does .vddAonValid s (startStage1 0 t) ∧ t.pwr.aon = true ∧ t.regs = []) ∧
  (∀ (s : State), s.pwr.aon = true → ∃ t, Does .vddAonLoss s t ∧ t.pwr.aon = false ∧ t.regs = [] ∧ t.clk.gtc = 0) ∧
  (∀ (s : State) (n : Nat), n < 12 → s.pwr.aon = true → s.pwr.stage = 2 → s.pwr.sub = 0 → s.pwr.retrying = false →
      stepRail s = some n → Does (.pgGood n) s (modPwr (fun p => { p with sub := 1 }) (setPg n true s))) ∧
  (∀ (s : State) (n : Nat), n < 12 → s.pwr.stage = 2 → s.pwr.sub = 0 → s.pwr.retrying = false →
      stepRail s = some n → s.pwr.pg.getLsbD n = false → Does (.pgTimeout n) s (stepFails n s)) ∧
  (∀ (s : State), s.pwr.stage = 2 → s.pwr.sub = 1 → s.pwr.retrying = false →
      Does .settleExpiry s (beginStep (s.pwr.step + 1) s)) ∧
  (∀ (s : State), s.pwr.stage = 2 → s.pwr.sub = 2 → s.pwr.retrying = true → Does .railRetryExpiry s
      (beginStep 0 (modPwr (fun p => { p with attempt := p.attempt + 1, retrying := false, sub := 0 }) s))) ∧
  (∀ (s : State) (i : Nat), i < 4 → s.pwr.state = .on → s.pwr.retrying = false → 2 ≤ s.pwr.stage →
      s.pwr.pg &&& ((tableOf s).depends[i]?).getD 0xFFF = ((tableOf s).depends[i]?).getD 0xFFF →
      Does (.rstoStretchExpiry i) s (modPwr (fun p => { p with rsto := p.rsto ||| BitVec.ofNat 4 (2 ^ i) }) s)) ∧
  (∀ (s : State) (n : Nat) (c : VaultCut), n < 12 → s.pwr.en.getLsbD n = true → s.pwr.pg.getLsbD n = true →
      s.pwr.state = .on → s.pwr.retrying = false → Does (.pgLoss n c) s
        (startDown false (sendLeaving (raisePwr 2 (logPwr 0x08 1026 (setPg n false s)))))) ∧
  (∀ (s : State) (n : Nat), n < 12 → s.pwr.downSteps.head? = some n → s.pwr.flushWait = false →
      s.pwr.en.getLsbD n = false → s.pwr.pg.getLsbD n = true →
      Does (.pgFall n) s (nextRails (setPg n false s))
      ∧ Does (.pgLowTimeout n) s (nextRails (raisePwr 3 (logPwr 0x07 1027 (railFail n s)))))

/-- A filtered INFAIL_N at READY with no vault possible powers the node down with events 4 and 5; its
deassertion lets an AUTO restart go on; ESTORE_OK's edges are logged, and its loss while the node serves
raises event 7; after the minimum off time HOLD waits with event 10; buffered log records are programmed,
and the rails held for them are released. -/
def Obligations.PowerInputs : Prop :=
  (∀ (s : State), s.pwr.aon = true → s.pwr.infail = false → isReady s = true → s.pwr.infailUps = 0 →
      canVault s = false → Does .infailNAssert s (startDown false (raisePwr 5 (sendLeaving (raisePwr 4 (logPwr 0x04 1028
        (modPwr (fun p => { p with infail := true, infailUps := p.infailUps + 1 }) s))))))) ∧
  (∀ (s : State), s.pwr.infail = true → s.pwr.stage = 0 →
      Does .infailNDeassert s (tryAuto (modPwr (fun p => { p with infail := false }) s))) ∧
  (∀ (s : State), s.pwr.aon = true → s.pwr.estore = false →
      Does .estoreOkAssert s (tryAuto (logPwr 0x11 0 (modPwr (fun p => { p with estore := true }) s)))) ∧
  (∀ (s : State), s.pwr.estore = true → isReady s = true → serving s = true →
      Does .estoreOkDeassert s (raise 7 (logPwr 0x11 1031 (modPwr (fun p => { p with estore := false }) s)))) ∧
  (∀ (s : State), s.pwr.state = .offWait → s.pwr.offPast = false → s.pwr.toHold = true →
      Does .minOffTimeExpiry s (raisePwr 10 (modPwr (fun p => { p with state := .hold }) s))) ∧
  (∀ (s : State), storeUp s = true → Does (.powerLogProgram false) s (flushLog s)) ∧
  (∀ (s : State), s.pwr.flushWait = true → Does .logFlushDone s
      (dropRails 13 (modPwr (fun p => { p with flushWait := false }) (flushLog s)).pwr.downSteps
        (modPwr (fun p => { p with flushWait := false }) (flushLog s))))

/-- What each stage does when it passes: stage 1 latches the straps, reads the stored copies and begins the
rails, stage 3 passes to 4 with the log flushed, stage 4 runs the clocks and loads the GTC at a cold bring-
up, a UART boot stops in stage 5, stage 5 looks for a bank, stage 6 applies the candidate image, stages 7
and 8 train and replay, stage 9 starts the link, and READY asserts with a new session. -/
def Obligations.BringUp : Prop :=
  (∀ (s : State) (i : Stage1In) (t : PTable), s.pwr.state = .powerUp → s.pwr.stage = 1 → s.pwr.waitSupply = false →
      s.pwr.stopped = false → i.crystalOk = true → i.unstable = false → s.cfg.lowering = false →
      let s1 := modPwr (fun p => { p with
        nodeB := i.nodeB, boot := i.boot % 4, i3cAddr := i.i3cAddr % 8, unstable := i.unstable }) s
      let s2 := readCopies 2 (readCopies 0 (reErase [0x100, 0x103, 0x300, 0x303] (markCopies 2 (markCopies 0 s1))))
      s2.pwr.sector = some t →
      Does (.stage1 i) s (beginStep 0 (modPwr (fun p => { p with table := some t, dflt := false }) s2))) ∧
  (∀ (s : State), inStage s 3 = true → s.fuse.calOk = true → s.pwr.warm = true →
      Does (.stage3 true true []) s (toStage 4 (applyRepairs (flushLog (tornFound (takeDeferred s)))))) ∧
  (∀ (s : State), inStage s 4 = true → Does (.stage4 true) s (toStage 5 { s with clk := { s.clk with
      running := clocksOn s, gtc := if s.pwr.warm then s.clk.gtc else s.pwr.aonTime } })) ∧
  (∀ (s : State) (va vb : BankVerdict) (w : Word), inStage s 5 = true → s.pwr.boot = 3 → Does (.stage5 va vb w) s
      (stopNode { clearImageRegs s with cfg := { (clearImageRegs s).cfg with spRun := true } })) ∧
  (∀ (s : State) (va vb : BankVerdict) (w : Word), inStage s 5 = true → s.pwr.boot ≠ 3 → s.cfg.cand = none →
      let s1 := clearImageRegs s
      let s2 : State := { s1 with cfg := { s1.cfg with verdictA := noteWhole 1 va s1, verdictB := noteWhole 2 vb s1 } }
      let s3 := tryBanks w (bankOrder s2) (checkSectors s2)
      Does (.stage5 va vb w) s { s3 with cfg := { s3.cfg with
        fallback := s3.cfg.running != 0 && some s3.cfg.running != (bankOrder s2).head? } }) ∧
  (∀ (s : State) (im : Image), inStage s 6 = true → s.cfg.cand = some im →
      stage6Fail s (readRaw s s.cfg.running) im = none →
      (slotOf (applyImage im { s with cfg := { s.cfg with cand := none } }) im.tiers.metaSlot).state ≠ .empty →
      Does .stage6 s (toStage 7 (applyImage im { s with cfg := { s.cfg with cand := none } }))) ∧
  (∀ (s : State) (d : List DramTrain) (n : List NandTrain), inStage s 7 = true →
      let s1 := trainDram (img s) d (mclkOn s)
      (List.range 16).any (fun n => (setOf s1 n).valid && (setOf s1 n).state != 2) = true →
      Does (.stage7 d n) s (toStage 8 (forEach (List.range 16) (fun p t => if (portOf t p).formed then
        updPort p (fun x => { x with link := .training, topWidth := 0, topRate := 0 }) t else t) (trainNand (img s) n s1)))) ∧
  (∀ (s : State) (a : Bool) (x y : List (Nat × Nat)) (z : List Nat), inStage s 8 = true → s.pwr.warm = true →
      let r := warmReplay x y s
      let s1 := sizeNeed (nameSlots (listExtents (layoutStep (img s) r.st)))
      let s2 := sizeCellar (eraseAgain z (restartSeals s1))
      Does (.stage8 a x y z) s (syncCond (toStage 9 (missingDies (flagGroves r
        { s2 with twin := { s2.twin with t1Intact := !s2.twin.needBulk } }))))) ∧
  (∀ (s : State) (a : Bool) (x y : List (Nat × Nat)) (z : List Nat), inStage s 8 = true → s.pwr.warm = false →
      let r := coldReplay a s
      let s1 := sizeNeed (nameSlots (listExtents (layoutStep (img s) (findVault r.st))))
      let s2 := sizeCellar (eraseAgain z (restartSeals s1))
      Does (.stage8 a x y z) s (syncCond (toStage 9 (missingDies (flagGroves r
        { s2 with twin := { s2.twin with t1Intact := false } }))))) ∧
  (∀ (s : State), inStage s 9 = true → s.twin.role = .unset → s.twin.link = .down → hasTwin s = true →
      let last := s.cfg.node.lastRole
      Does .stage9 s (modTwin (fun t => { t with link := .train }) (modTwin (fun t => { t with
        epoch := s.cfg.node.epoch
        applied := if last = .solo || last = .leader then s.seqr.nextSeq - 1 else t.applied }) s))) ∧
  (∀ (s : State), inStage s 9 = true → joined s = true → s.cfg.fallback = false → s.tier.unprotected = [] →
      let s1 := modPwr (fun p => { p with stage := 10, ready := true, wasReady := true, warm := false
                                          upMs := min 65535 (ceilDiv (p.aonTime - p.upAt) 1000000) }) s
      let s2 : State := { s1 with
        tier := { s1.tier with session := true, fingerprint := some (fingerprintOf (img s))
                               lifeStart := some (s1.tier.lifeStart.getD s1.clk.gtc)
                               draining := s1.tier.md.tiles.any (fun p => p.2.cellar) }
        can := { s1.can with enabled := (img s).canopy.enable }
        seqr := { s1.seqr with mergeSet := enabledSources s1 }
        integ := { s1.integ with scrubbing := true, scrubAt := now s1 }
        net := { s1.net with ports := SMap.mapVals s1.net.ports {} (fun x => if x.formed then { x with held := false } else x) } }
      let t := anchorWrite (.fingerprint (fingerprintOf (img s))) (anchorWrite (.session s1.clk.gtc) s2)
      Does .ready s (forEach t.cfg.toRewrite writeCopy { t with cfg := { t.cfg with toRewrite := [] } }))

/-- A sample period reads the sensors; a duty update steps every quadrant, and the first cut raises event 608; a
trip in stage 2 to 10 notes it and powers down to HOLD without a vault; a PPS edge captures the GTC less the
filter delay and a missing pulse raises event 627; the service processor's GTC correction is applied at a
serving node; a lost PLL or reference clock sets CLK_LOST with event 55 or 56; a crossing fault raises its
event. -/
def Obligations.ThermalAndTime : Prop :=
  (∀ (s : State) (ts : List Int), s.pwr.aon = true → Does (.thermalSample ts) s (releaseTrip (noteSpread
      (forEach (List.range (nQuads s)) noteHot (forEach (List.range 16) (takeSample ts) s))))) ∧
  (∀ (s : State), gtcRuns s = true →
      let s1 := forEach (List.range (nQuads s)) stepDuty s
      let cut := (List.range (nQuads s)).any (fun q => decide ((quadOf s1 q).duty < 16))
      (cut = false ∨ s.therm.began = true →
        Does .dutyUpdate s { s1 with therm := { s1.therm with began := cut } })
      ∧ (cut = true → s.therm.began = false →
        Does .dutyUpdate s (raise 608 { s1 with therm := { s1.therm with began := true } }))) ∧
  (∀ (s : State) (n : Nat) (t : Int), n < 16 → s.pwr.aon = true → s.pwr.trip = false → 3 ≤ (sensorOf s n).hotFor →
      (noteTrip n false t s).pwr.trip = true → s.pwr.state = .on →
      Does (.thermalTrip n false t) s (startDown true (cutAnywhere (noteTrip n false t s)))) ∧
  (∀ (s : State), gtcRuns s = true → timeFollows s = false → Does .ppsEdge s { s with clk := { s.clk with pps := some (s.clk.gtc - 100) } }) ∧
  (∀ (s : State), s.cfg.img.isSome = true → timeFollows s = false →
      (img s).clocks.timeSrc = 1 → Does .ppsMissing s (raise 627 s)) ∧
  (∀ (s : State) (hi : Word), pathUp s .sp = true → serving s = true →
      let c := signed64 (regWord s .gtcCorrLo + hi.toNat * 2 ^ 32)
      Does (.gtcCorrection .sp hi) s (correct c { s with clk := { s.clk with
        disc := (img s).clocks.timeSrc, offset := satOffset c
        locked := decide (-100 ≤ c) && decide (c ≤ 100) } })) ∧
  (∀ (s : State) (d : Nat), d < 28 → lossSeen s = true → domainOn s d = true →
      Does (.pllLockLoss d) s (raise 55 (setBit .clkLost 0 d s)) ∧ Does (.refclkLoss d) s (raise 56 (setBit .clkLost 0 d s))) ∧
  (∀ (s : State) (e : Nat), hasCrossing s e = true → collecting s = true → Does (.crossingFault e) s (raise e (portCrossing e s)))

/-- A leak lowers the count of a source that is not severe by 1; a grace timer that expires moves its severe
source up one level; writing 1 acknowledges a severe source, and ACK_ALL every source; RELEASE_GROVE and
RELEASE_PORT lift their containment. -/
def Obligations.FaultCollector : Prop :=
  (∀ (s : State) (e : Nat), eventListed s e = true → collecting s = true → (fltOf s e).severe = false → (fltOf s e).count ≠ 0 →
      Does (.leakTick e) s (setFlt e { fltOf s e with count := (fltOf s e).count - 1 } s)) ∧
  (∀ (s : State) (e : Nat), eventListed s e = true → collecting s = true → (fltOf s e).severe = true →
      (fltOf s e).timer.isSome = true →
      Does (.graceExpiry e) s (actLevel ((fltOf s e).lvl + 1) e (fltOf s e).tgt
        (driveAlert (setFlt e (armed { fltOf s e with lvl := (fltOf s e).lvl + 1 } (now s)) s)))) ∧
  (∀ (s : State) (p : Path) (k : Nat) (b : Word), Manager s p → k < 20 → Does (.severeAcknowledge p k b) s
      (forEach (bitsSet b) (fun i u => acknowledge (32 * k + i) u) s)) ∧
  (∀ (s : State) (p : Path), Manager s p → Does (.ackAll p) s (forEach (SMap.keys s.flt.src) acknowledge s)) ∧
  (∀ (s : State) (p : Path) (g : Nat), Manager s p →
      Does (.releaseGrove p g) s { s with tier := { s.tier with readOnly := s.tier.readOnly.filter (· ≠ g) } }) ∧
  (∀ (s : State) (p : Path) (n : Nat), Manager s p → isReady s = true → n < 8 → (netOf s n).formed = true →
      Does (.releasePort p n) s (updNet n (fun x => { x with held := false }) s))

/-- A scrub read of a present array advances its pointer; arming the flip hook stores its selection; PERF_GLOBAL
starts, stops and clears the global units and PERF_CTL one; the first epoch boundary after READY starts the
recorder; FREEZE, THAW and CLEAR of the record store. -/
def Obligations.IntegrityAndMonitors : Prop :=
  (∀ (s : State) (n : Nat) (err stuck : BitVec 80), macPresent s n = true → s.integ.scrubbing = true →
      isReady s = true → SMap.get s.integ.ptr 0 n ≠ 2047 →
      let w := SMap.get s.integ.ptr 0 n
      let u := perfAdd ⟨305, 5, none⟩ 0x01 1 (protRead n w true stuck (setBad n w (badOf s n w ^^^ err) s)).1
      Does (.scrubRead n err stuck) s
        { u with integ := { u.integ with ptr := SMap.set u.integ.ptr 0 n ((w + 1) % 2048) } }) ∧
  (∀ (s : State) (p : Path) (v : Word), Manager s p → fld s .intFlipSel 31 31 = 0 →
      let x := v.toNat &&& 0xC0FFFFFF
      let arm := bitOf x 31 && macPresent s (bitsOf x 23 11)
      Does (.flipArm p v) s (setRegWord .intFlipSel 0 0 (if arm then x else x &&& 0x7FFFFFFF) s)) ∧
  (∀ (s : State) (p : Path), Manager s p →
      Does (.perfStart p) s (globalUnits (fun u => setFld .perfCtl u 31 31 1) s)
      ∧ Does (.perfStop p) s (globalUnits (fun u => setFld .perfCtl u 31 31 0) s)
      ∧ Does (.perfGlobalClear p) s (globalUnits clearUnit s)) ∧
  (∀ (s : State) (p : Path) (u : Nat), Manager s p → u < 24 →
      Does (.perfUnitClear p u) s (setFld .perfCtl u 7 0 0 { s with perf := SMap.del s.perf u })) ∧
  (∀ (s : State), isReady s = true → s.recd.started = false → Does .epochBoundary s
      { s with recd := { s.recd with started := true, spanAt := boundary s, acc := [] } }) ∧
  (∀ (s : State), isReady s = true → s.recd.started = true → s.recd.frozen = false → ∃ u, Does .epochBoundary s
      { u with recd := { u.recd with acc := [], spanAt := boundary s, thawed := false } }
      ∧ u = forEach (bitsSet (BitVec.ofNat 16 (fld s .recPaths 15 0))) writeRec s) ∧
  (∀ (s : State) (p : Path), Manager s p →
      Does (.freeze p) s { s with recd := { s.recd with frozen := true } }
      ∧ (s.recd.frozen = true →
        Does (.thaw p) s { s with recd := { s.recd with frozen := false, thawed := true } }
        ∧ Does (.recClear p) s
            (setRegWord .recLost 0 0 0 { s with recd := { s.recd with store := [], full := false } })))

/-- Every command, with any operands, completes in every state, those that no run reaches among them: none is
refused, none faults. A physical event on a unit that the part lacks changes nothing (log 7). So the block
never stops: every step answers a next state. -/
def Obligations.EveryCommandCompletes : Prop :=
  (∀ (c : Instr) (s : State), ∃ t, exec c s = .next t) ∧
  (∀ (c : Instr) (s : State), unitThere c s = false → exec c s = .next s) ∧
  (∀ s : State, ∃ t, step s = .next t)

/-- Whatever the state, a well-formed command of a unit that the part has leaves no occurrence waiting: the
collector has taken all that it raised, and all that waited before it. From a state in which none waits,
every command and every step leads to such a state, with any operands; and where nothing was raised and no
condition has changed, the collector changes nothing. -/
def Obligations.OccurrencesTaken : Prop :=
  (∀ (c : Instr) (s t : State), wellFormed c = true → unitThere c s = true → exec c s = .next t → Inv t) ∧
  (∀ (c : Instr) (s t : State), Inv s → exec c s = .next t → Inv t) ∧
  (∀ s t : State, Inv s → step s = .next t → Inv t) ∧
  (∀ s : State, Resting s → settle s = s)

/-- Every command, through every reaction of the collector, a Clearing and a power-down among them, leaves the
queue of waiting commands and the fuses as they were. So a step takes exactly the command at the front, and
no run ever changes a fuse. -/
def Obligations.QueueAndFuses : Prop :=
  (∀ (c : Instr) (s t : State), exec c s = .next t → t.pending = s.pending ∧ t.fuse = s.fuse) ∧
  (∀ (c : Instr) (rest : List Instr) (s t : State), step { s with pending := c :: rest } = .next t →
      t.pending = rest ∧ t.fuse = s.fuse) ∧
  (∀ s t : State, s.pending = [] → step s = .next t → t.pending = [] ∧ t.fuse = s.fuse)

/-- The commands that keepsMemory lists change no line of any tier, no metadata of a tile or a grove, no landing
entry and nothing of Canopy by their own effect, in any state and with any operands: what they raise is
acted on by the collector after that effect (R437). -/
def Obligations.MemoryFrame : Prop :=
  (∀ (c : Instr) (s t : State), keepsMemory c = true → exec c s = .next t → Keeps s t)

/-- From every state whose memories are in canonical form, every command and every step leads to such a state,
and the state after reset is one: the lines of T1, T2 and the Cellar, the landing entries, those a vault
holds, the store and the data memory of the service processor list their addresses in rising order and list
nothing that an unlisted address reads as. The form is the choice of the model (log 4). -/
def Obligations.MemoryCanonical : Prop :=
  (∀ (c : Instr) (s t : State), Memory.wf s = true → exec c s = .next t → Memory.wf t = true) ∧
  (∀ s t : State, Memory.wf s = true → step s = .next t → Memory.wf t = true) ∧
  Memory.wf State.reset = true

/-- The address of every instance of every register decodes to that register and that instance, but for
TWIN_CMD, which shares its address: so no other address holds more than one register. A read of 0x0A00_0040
with MGMT privilege returns TWIN_DIV_DATA3 and changes nothing; a write there is a write of TWIN_CMD, and
one that names no command changes nothing. -/
def Obligations.RegisterMap : Prop :=
  (∀ (r : RegSpec) (i j : Nat), r ∈ regTable → i < r.n1 → j < r.n2 → regAt (regAddr r.id i j) = some (r, i, j)) ∧
  (∀ (r q : RegSpec) (i j k l : Nat), r ∈ regTable → q ∈ regTable → i < r.n1 → j < r.n2 → k < q.n1 → l < q.n2 →
      regAddr r.id i j = regAddr q.id k l → r = q ∧ i = k ∧ j = l) ∧
  (∀ (s : State) (p : Path), isMgmt p = true → SMap.get s.latch none (latchKey p 0x0A000040) = none →
      readWord p 0x0A000040 s = (s, divWord s 3, false)) ∧
  (∀ (s : State) (p : Path) (v : Word), Manager s p → Does (.registerWrite p 0x0A000040 v) s (writeTwinCmd p v.toNat s)) ∧
  (∀ (s : State) (p : Path) (v : Nat), v % 16 = 0 ∨ 6 < v % 16 → writeTwinCmd p v s = s)

/-- A register that has been written reads back the value written, 32 bits wide. Every other address keeps its
value, whatever register it is, the store keeps its order, and nothing but the register store changes. -/
def Obligations.RegisterStore : Prop :=
  (∀ (s : State) (id : RegId) (i j v : Nat), SMap.rising 0 s.regs = true →
      regWord (setRegWord id i j v s) id i j = v % 2 ^ 32) ∧
  (∀ (s : State) (id : RegId) (i j v a : Nat) (d : Word), SMap.rising 0 s.regs = true → a ≠ regAddr id i j →
      SMap.get (setRegWord id i j v s).regs d a = SMap.get s.regs d a) ∧
  (∀ (s : State) (id : RegId) (i j v : Nat), SMap.rising 0 s.regs = true →
      SMap.rising 0 (setRegWord id i j v s).regs = true) ∧
  (∀ (s : State) (id : RegId) (i j v : Nat), { setRegWord id i j v s with regs := s.regs } = s)

/-- A write merges into a line byte by byte: a byte its mask names is the write's, every other byte is the
line's. So a later write wins where two overlap, and a write that names no byte changes nothing. A T1 line
written reads back, and no other line of T1 changes. -/
def Obligations.LineMerge : Prop :=
  (∀ (old new : LineData) (m : Mask) (k : Nat), k < 64 →
      lineByte (mergeLine old new m) k = if m.getLsbD k then lineByte new k else lineByte old k) ∧
  (∀ (old a b : LineData) (m n : Mask), mergeLine (mergeLine old a m) b n = mergeLine old (mergeLine a b n) (m ||| n)) ∧
  (∀ (s : State) (f i : Nat) (d : LineData), SMap.wf 0 s.tier.t1 = true →
      SMap.get (putT1 f i d s).tier.t1 0 (f * 1024 + i) = d ∧ SMap.wf 0 (putT1 f i d s).tier.t1 = true
      ∧ ∀ a, a ≠ f * 1024 + i → SMap.get (putT1 f i d s).tier.t1 0 a = SMap.get s.tier.t1 0 a)

/-- Two host addresses that one decoder matches at the same DPA are the same address; a matched DPA lies in the
decoder's share of its range; of the ways of a set, exactly one matches an address of the range; and the
worked example of R265 decodes as it says. -/
def Obligations.HdmDecode : Prop :=
  (∀ (d : Decoder) (a b x : Nat), 0 < d.gran → 0 < d.ways → decodeHpa d a = some x → decodeHpa d b = some x → a = b) ∧
  (∀ (d : Decoder) (a x : Nat), 0 < d.gran → 0 < d.ways → d.size % (d.gran * d.ways) = 0 → decodeHpa d a = some x →
      d.dpaBase ≤ x ∧ x < d.dpaBase + d.size / d.ways) ∧
  (∀ (d : Decoder) (a : Nat), 0 < d.gran → 0 < d.ways → d.hpaBase ≤ a → a < d.hpaBase + d.size →
      ∃ k, k < d.ways ∧ ∀ p, (decodeHpa { d with pos := p } a).isSome = true ↔ p = k) ∧
  (∀ (d : Decoder), d.hpaBase = 0x4000000000 → 0x1235678 < d.size → d.ways = 2 → d.gran = 4096 → d.pos = 1 →
      d.dpaBase = 0x100000000 → decodeHpa d 0x4001235678 = some 0x10091A678)

/-- An admitted CXL.mem request has a DPA by its logical device's decoders; the DPA's bits above the low 24
index the LD's grove map, the entry there as the requests stamped before leave it is valid, and the line is
that of the grove offset GROVE_EXTENT x 16 MiB + DPA[23:0]. -/
def Obligations.GroveAddress : Prop :=
  (∀ (s t : State) (r : CxlReq) (write poison : Bool) (g line : Nat), checkReq s r write poison = (t, .go g line) →
      ∃ (dpa : Nat) (x : MapEntry), dpaOf s r = some dpa ∧ dpa / 2 ^ 24 < ldEntries s r.port r.ld
        ∧ entryFor s (16 * r.port + r.ld) (dpa / 2 ^ 24)
            (SMap.find s.tier.md.map (mapKey (16 * r.port + r.ld) (dpa / 2 ^ 24))) = some x
        ∧ x.valid = true ∧ g = x.grove ∧ line = (x.extent * (16 * 2 ^ 20) + dpa % 2 ^ 24) / 64) ∧
  (∀ (s : State) (r : CxlReq) (dpa : Nat), dpaOf s r = some dpa → ∃ (i : Nat) (d : Decoder), i < 4
      ∧ SMap.find (ldOf s r.port r.ld).decs i = some d ∧ decodeHpa d r.hpa = some dpa)

/-- A source's stamps never decrease: a new stamp is no lower than the source's last one, and the source keeps
it. The input that comes next is the least by GTC value, then by source number, and among equals the one
that arrived first. -/
def Obligations.StampOrder : Prop :=
  (∀ (s : State) (src : Nat), SMap.get s.seqr.marks 0 src ≤ stampNow s src
      ∧ stampNow s src ≤ max (SMap.get s.seqr.marks 0 src) (now s) ∧ now s ≤ stampNow s src + 2) ∧
  (∀ (s : State) (src org ra : Nat) (op : InOp) (ack : AckTo) (key : BitVec 64), SMap.rising 0 s.seqr.marks = true →
      SMap.get (stampInput src op ack org key ra s).seqr.marks 0 src = stampNow s src
      ∧ (stampInput src op ack org key ra s).seqr.inputs = s.seqr.inputs ++
          [{ src := src, gtc := stampNow s src, lane := src, op := op, ack := ack, origin := org, key := key, raddr := ra, seq := 0 }]
      ∧ stampNow s src ≤ stampNow (stampInput src op ack org key ra s) src) ∧
  (∀ (l : List Input) (i : Input), headOf l = some i → ∃ a b, l = a ++ i :: b
      ∧ (∀ j ∈ a, i.gtc < j.gtc ∨ (i.gtc = j.gtc ∧ i.src < j.src))
      ∧ (∀ j ∈ b, i.gtc < j.gtc ∨ (i.gtc = j.gtc ∧ i.src ≤ j.src))) ∧
  (∀ l : List Input, headOf l = none ↔ l = [])

/-- A word with no wrong bit reads clean; a single wrong bit, data or parity, is located; two wrong bits are
always found uncorrectable. -/
def Obligations.ProductCode : Prop :=
  decodeWord 0 = none ∧
  (∀ b : Nat, b < 80 → decodeWord (BitVec.ofNat 80 (2 ^ b)) = some b) ∧
  (∀ a b : Nat, a < b → b < 80 → decodeWord (BitVec.ofNat 80 (2 ^ a + 2 ^ b)) = some 80)

/-- A management register written with HOST privilege does not change: the command has no effect but the access
event of cause 1, which GLB_ACC_ERR0 and GLB_ACC_ERR1 record when they are free. A Belvor command of
management with HOST privilege is completed with 0x81 and raises event 602. Outside READY a Belvor command
other than those of the power group is completed with 0x84. -/
def Obligations.HostPrivilege : Prop :=
  (∀ (s : State) (p : Path) (n m : Nat) (e : List (Nat × Nat × ArrayCheck)), HostPath s p →
      Does (.poisonClear p) s (accessEvent true 1 p (regAddr .tierPoisonCount) s)
      ∧ Does (.clean p n e) s (accessEvent true 1 p (regAddr .canMaintCmd) s)
      ∧ Does (.invalidate p n e) s (accessEvent true 1 p (regAddr .canMaintCmd) s)
      ∧ Does (.cleanInvalidate p n e) s (accessEvent true 1 p (regAddr .canMaintCmd) s)
      ∧ Does (.zeroRange p n) s (accessEvent true 1 p (regAddr .canMaintCmd) s)
      ∧ Does (.canopyDisable p e) s (accessEvent true 1 p (regAddr .canCtl) s)
      ∧ Does (.canopyEnable p) s (accessEvent true 1 p (regAddr .canCtl) s)
      ∧ Does (.evacuate p n) s (accessEvent true 1 p (regAddr .dramEvacCmd) s)
      ∧ Does (.returnSet p n) s (accessEvent true 1 p (regAddr .dramEvacCmd) s)
      ∧ Does (.abortEvac p n) s (accessEvent true 1 p (regAddr .dramEvacCmd) s)
      ∧ Does (.closeQp p n) s (accessEvent true 1 p (regAddr .netCmd) s)
      ∧ Does (.closePeer p n) s (accessEvent true 1 p (regAddr .netCmd) s)
      ∧ Does (.handover p) s (accessEvent true 1 p (regAddr .twinDivData3) s)
      ∧ Does (.resume p) s (accessEvent true 1 p (regAddr .twinDivData3) s)
      ∧ Does (.forceLead p) s (accessEvent true 1 p (regAddr .twinDivData3) s)
      ∧ Does (.witnessGrant p) s (accessEvent true 1 p (regAddr .twinDivData3) s)
      ∧ Does (.divClear p) s (accessEvent true 1 p (regAddr .twinDivData3) s)
      ∧ Does (.rewiden p) s (accessEvent true 1 p (regAddr .twinDivData3) s)
      ∧ Does (.zeroise p n) s (accessEvent true 1 p (regAddr .ciphCmd) s)
      ∧ Does (.roll p n) s (accessEvent true 1 p (regAddr .ciphCmd) s)
      ∧ Does (.rqTailWrite p n) s (accessEvent true 1 p (regAddr .ciphRqTail) s)
      ∧ Does (.ringRestart p) s (accessEvent true 1 p (regAddr .ciphRqStatus) s)
      ∧ Does (.clear p) s (accessEvent true 1 p (regAddr .pwrCmd) s)
      ∧ Does (.ackAll p) s (accessEvent true 1 p (regAddr .fltCmd) s)
      ∧ Does (.releaseGrove p n) s (accessEvent true 1 p (regAddr .fltCmd) s)
      ∧ Does (.releasePort p n) s (accessEvent true 1 p (regAddr .fltCmd) s)
      ∧ Does (.flipArm p (BitVec.ofNat 32 m)) s (accessEvent true 1 p (regAddr .intFlipSel) s)
      ∧ Does (.perfStart p) s (accessEvent true 1 p (regAddr .perfGlobal) s)
      ∧ Does (.perfStop p) s (accessEvent true 1 p (regAddr .perfGlobal) s)
      ∧ Does (.freeze p) s (accessEvent true 1 p (regAddr .recCmd) s)
      ∧ Does (.thaw p) s (accessEvent true 1 p (regAddr .recCmd) s)
      ∧ Does (.recClear p) s (accessEvent true 1 p (regAddr .recCmd) s)
      ∧ Does (.challenge p n) s (accessEvent true 1 p (regAddr .dbgCmd) s)) ∧
  (∀ (s : State) (w : Bool) (cause : Nat) (p : Path) (addr : Nat), 3 ≤ s.pwr.stage → SMap.rising 0 s.regs = true →
      cause < 8 → srcOf p < 4096 → addr < 2 ^ 32 → fld s .glbAccErr0 31 31 = 0 →
      (accessEvent w cause p addr s).flt.raised = s.flt.raised ++ [⟨604, 0, 0, none⟩]
      ∧ regWord (accessEvent w cause p addr s) .glbAccErr1 = addr
      ∧ fld (accessEvent w cause p addr s) .glbAccErr0 31 31 = 1
      ∧ fld (accessEvent w cause p addr s) .glbAccErr0 30 30 = b2n w
      ∧ fld (accessEvent w cause p addr s) .glbAccErr0 29 27 = cause
      ∧ fld (accessEvent w cause p addr s) .glbAccErr0 11 0 = srcOf p) ∧
  (∀ (s : State) (p : Path) (tag a b : Nat) (k : BitVec 64) (ws : List Window) (any : Bool) (cls : Nat), BelvorUp s p →
      isMgmt p = false →
      Does (.groveCreate p tag a b) s (raise 602 (complete p tag 0x20 0x81 [] s))
      ∧ Does (.groveResize p tag a b) s (raise 602 (complete p tag 0x21 0x81 [] s))
      ∧ Does (.groveDelete p tag a) s (raise 602 (complete p tag 0x22 0x81 [] s))
      ∧ Does (.keyRegister p tag ws any cls) s (raise 602 (complete p tag 0x30 0x81 [] s))
      ∧ Does (.keyRevoke p tag k) s (raise 602 (complete p tag 0x31 0x81 [] s))
      ∧ Does (.keyGenerate p tag false a) s (raise 602 (complete p tag 0x32 0x81 [] s))
      ∧ Does (.storeErase p tag false a) s (raise 602 (complete p tag 0x41 0x81 [] s))
      ∧ Does (.powerOff p tag) s (raise 602 (complete p tag 0x61 0x81 [] s))) ∧
  (∀ (s : State) (p : Path) (tag a b : Nat), pathUp s p = true → isReady s = false →
      Does (.seal p tag a b 1) s (complete p tag 0x10 0x84 [] s)
      ∧ Does (.groveCreate p tag a b) s (complete p tag 0x20 0x84 [] s)
      ∧ Does (.groveStatus p tag a) s (complete p tag 0x23 0x84 [] s)
      ∧ Does (.regRead p tag a b) s (complete p tag 0x02 0x84 [] s)
      ∧ (uartUp s = false → Does (.storeErase p tag false a) s (complete p tag 0x41 0x84 [] s)))

/-- An access of an address that no register has, outside every block or inside one, reads 0 or is ignored;
either raises the access event and changes nothing else, through REG_READ, a register write and Glade alike. -/
def Obligations.UnassignedAddress : Prop :=
  (∀ (s : State) (p : Path) (addr : Nat) (v : Word), regUp s p = true → regAt (wordAddr p addr) = none →
      Does (.registerWrite p addr v) s (accessEvent true 0 p (wordAddr p addr) s)) ∧
  (∀ (s : State) (p : Path) (addr : Nat), regAt (wordAddr p addr) = none →
      readWord p addr s = (accessEvent false 0 p (wordAddr p addr) s, 0, true)) ∧
  (∀ (s : State) (p : Path) (tag addr : Nat), BelvorUp s p → badRange addr 1 = false → regAt (wordAddr p addr) = none →
      Does (.regRead p tag addr 1) s (complete p tag 0x02 1 [0] (accessEvent false 0 p (wordAddr p addr) s))) ∧
  (∀ (s : State) (w : Bool) (c : Nat) (p : Path) (addr : Nat), 3 ≤ s.pwr.stage →
      (accessEvent w c p addr s).flt.raised = s.flt.raised ++ [⟨604, 0, 0, none⟩]
      ∧ { accessEvent w c p addr s with regs := s.regs, flt := s.flt } = s)

/-- A divergence record read through TWIN_DIV_DATA0 to 3 holds its GTC value, source, grove and line in the bits
of R105. A power-log record is 64 bytes, with each field at its place of R398; the integrity of a checked
record is its CRC-32C, and CRC-32C is that of the check value. -/
def Obligations.RecordLayouts : Prop :=
  (∀ (s : State) (r : DivRec), s.tier.md.divs[fld s .twinDivIndex 19 0]? = some r → r.gtc < 2 ^ 64 → r.src < 4096 →
      r.grove < 1024 → r.line < 2 ^ 42 →
      (divWord s 3 * 2 ^ 96 + divWord s 2 * 2 ^ 64 + divWord s 1 * 2 ^ 32 + divWord s 0) / 2 ^ 64 = r.gtc
      ∧ bitsOf (divWord s 1 * 2 ^ 32 + divWord s 0) 63 52 = r.src
      ∧ bitsOf (divWord s 1 * 2 ^ 32 + divWord s 0) 51 42 = r.grove
      ∧ bitsOf (divWord s 1 * 2 ^ 32 + divWord s 0) 41 0 = r.line) ∧
  (∀ (checked : Bool) (r : PwrRec), (PwrRec.bytes checked r).length = 64) ∧
  (∀ (checked : Bool) (r : PwrRec), r.gtc < 2 ^ 64 → r.src < 2 ^ 16 → r.reason < 256 → r.step < 16 → r.attempt < 8 →
      r.stage < 16 → leAt (PwrRec.bytes checked r) 0 8 = r.gtc ∧ leAt (PwrRec.bytes checked r) 8 2 = r.src
      ∧ leAt (PwrRec.bytes checked r) 10 1 = r.reason ∧ leAt (PwrRec.bytes checked r) 11 1 = r.step + 16 * r.attempt
      ∧ leAt (PwrRec.bytes checked r) 12 2 = r.en.toNat ∧ leAt (PwrRec.bytes checked r) 14 2 = r.pg.toNat
      ∧ leAt (PwrRec.bytes checked r) 16 1 = b2n r.infail + 2 * b2n r.estore + 4 * b2n r.trip
      ∧ leAt (PwrRec.bytes checked r) 17 1 = r.stage) ∧
  (∀ (checked : Bool) (r : PwrRec) (n : Nat), n < 12 → SMap.get r.elapsed 0 n < 2 ^ 16 →
      leAt (PwrRec.bytes checked r) (18 + 2 * n) 2 = SMap.get r.elapsed 0 n) ∧
  (∀ (r : PwrRec), r.torn = false → r.seq < 2 ^ 32 → r.ups < 2 ^ 32 → leAt (PwrRec.bytes true r) 44 4 = r.seq
      ∧ leAt (PwrRec.bytes true r) 48 4 = r.ups
      ∧ leAt (PwrRec.bytes true r) 60 4 = (crc32c ((PwrRec.bytes true r).take 60)).toNat
      ∧ leAt (PwrRec.bytes false r) 60 4 = 0xFFFFFFFF) ∧
  crc32c [0x31, 0x32, 0x33, 0x34, 0x35, 0x36, 0x37, 0x38, 0x39] = 0xE3069283
end

