-- ==== Sys2Proof/Laws/Exec.lean ====
section
/-!
SUPPORT. What `exec` answers for each command: its meaning. One rewrite per constructor, so that no proof
unfolds the dispatch.
-/

namespace Sys2Proof.Machine

open Sys2Proof

@[simp] theorem exec_memRd r chk (s : State) : exec (.memRd r chk) s = execMemRd r chk s := rfl
@[simp] theorem exec_memSpecRd r (s : State) : exec (.memSpecRd r) s = execMemSpecRd r s := rfl
@[simp] theorem exec_memInv r (s : State) : exec (.memInv r) s = execMemInv r s := rfl
@[simp] theorem exec_memWr r data poison (s : State) : exec (.memWr r data poison) s = execMemWr r data poison s := rfl
@[simp] theorem exec_memWrPtl r data mask poison (s : State) : exec (.memWrPtl r data mask poison) s = execMemWrPtl r data mask poison s := rfl
@[simp] theorem exec_unsupportedM2sOpcode r rwd (s : State) : exec (.unsupportedM2sOpcode r rwd) s = execUnsupportedM2sOpcode r rwd s := rfl
@[simp] theorem exec_readWatchdog id (s : State) : exec (.readWatchdog id) s = execReadWatchdog id s := rfl
@[simp] theorem exec_gpfPhase1 port (s : State) : exec (.gpfPhase1 port) s = execGpfPhase1 port s := rfl
@[simp] theorem exec_gpfPhase2 port (s : State) : exec (.gpfPhase2 port) s = execGpfPhase2 port s := rfl
@[simp] theorem exec_gpfPhase2Complete port (s : State) : exec (.gpfPhase2Complete port) s = execGpfPhase2Complete port s := rfl
@[simp] theorem exec_gpfPhase2Overtime port (s : State) : exec (.gpfPhase2Overtime port) s = execGpfPhase2Overtime port s := rfl
@[simp] theorem exec_sourceHeartbeat src lag (s : State) : exec (.sourceHeartbeat src lag) s = execSourceHeartbeat src lag s := rfl
@[simp] theorem exec_sequencerEmit errs (s : State) : exec (.sequencerEmit errs) s = execSequencerEmit errs s := rfl
@[simp] theorem exec_mergeStall src (s : State) : exec (.mergeStall src) s = execMergeStall src s := rfl
@[simp] theorem exec_heldWriteRelease  (s : State) : exec (.heldWriteRelease) s = execHeldWriteRelease s := rfl
@[simp] theorem exec_landingDrain grove line (s : State) : exec (.landingDrain grove line) s = execLandingDrain grove line s := rfl
@[simp] theorem exec_landingDrainDone grove line o (s : State) : exec (.landingDrainDone grove line o) s = execLandingDrainDone grove line o s := rfl
@[simp] theorem exec_canopyFill grove line o chk (s : State) : exec (.canopyFill grove line o chk) s = execCanopyFill grove line o chk s := rfl
@[simp] theorem exec_evictionWritten grove line chk o (s : State) : exec (.evictionWritten grove line chk o) s = execEvictionWritten grove line chk o s := rfl
@[simp] theorem exec_promotionLineArrival grove tile (s : State) : exec (.promotionLineArrival grove tile) s = execPromotionLineArrival grove tile s := rfl
@[simp] theorem exec_promotionComplete grove tile (s : State) : exec (.promotionComplete grove tile) s = execPromotionComplete grove tile s := rfl
@[simp] theorem exec_lateBoundExpiry id (s : State) : exec (.lateBoundExpiry id) s = execLateBoundExpiry id s := rfl
@[simp] theorem exec_demotion errs (s : State) : exec (.demotion errs) s = execDemotion errs s := rfl
@[simp] theorem exec_ageSweep  (s : State) : exec (.ageSweep) s = execAgeSweep s := rfl
@[simp] theorem exec_trickle errs (s : State) : exec (.trickle errs) s = execTrickle errs s := rfl
@[simp] theorem exec_metadataTrickle  (s : State) : exec (.metadataTrickle) s = execMetadataTrickle s := rfl
@[simp] theorem exec_wearGovernorTick  (s : State) : exec (.wearGovernorTick) s = execWearGovernorTick s := rfl
@[simp] theorem exec_seal p tag grove first count (s : State) : exec (.seal p tag grove first count) s = execSeal p tag grove first count s := rfl
@[simp] theorem exec_unseal p tag grove first count (s : State) : exec (.unseal p tag grove first count) s = execUnseal p tag grove first count s := rfl
@[simp] theorem exec_sealCopy grove tile errs (s : State) : exec (.sealCopy grove tile errs) s = execSealCopy grove tile errs s := rfl
@[simp] theorem exec_post p tag v1 c (s : State) : exec (.post p tag v1 c) s = execPost p tag v1 c s := rfl
@[simp] theorem exec_append p tag v1 c (s : State) : exec (.append p tag v1 c) s = execAppend p tag v1 c s := rfl
@[simp] theorem exec_cancel p tag v1 c (s : State) : exec (.cancel p tag v1 c) s = execCancel p tag v1 c s := rfl
@[simp] theorem exec_scheduleStage  (s : State) : exec (.scheduleStage) s = execScheduleStage s := rfl
@[simp] theorem exec_scheduleEntryRetire entry (s : State) : exec (.scheduleEntryRetire entry) s = execScheduleEntryRetire entry s := rfl
@[simp] theorem exec_t2RepairDone grove tile r (s : State) : exec (.t2RepairDone grove tile r) s = execT2RepairDone grove tile r s := rfl
@[simp] theorem exec_poisonClear p (s : State) : exec (.poisonClear p) s = execPoisonClear p s := rfl
@[simp] theorem exec_cellarDrain errs (s : State) : exec (.cellarDrain errs) s = execCellarDrain errs s := rfl
@[simp] theorem exec_vaultComplete fails (s : State) : exec (.vaultComplete fails) s = execVaultComplete fails s := rfl
@[simp] theorem exec_clean p grove errs (s : State) : exec (.clean p grove errs) s = execClean p grove errs s := rfl
@[simp] theorem exec_invalidate p grove errs (s : State) : exec (.invalidate p grove errs) s = execInvalidate p grove errs s := rfl
@[simp] theorem exec_cleanInvalidate p grove errs (s : State) : exec (.cleanInvalidate p grove errs) s = execCleanInvalidate p grove errs s := rfl
@[simp] theorem exec_zeroRange p grove (s : State) : exec (.zeroRange p grove) s = execZeroRange p grove s := rfl
@[simp] theorem exec_maintComplete  (s : State) : exec (.maintComplete) s = execMaintComplete s := rfl
@[simp] theorem exec_canopyDisable p errs (s : State) : exec (.canopyDisable p errs) s = execCanopyDisable p errs s := rfl
@[simp] theorem exec_canopyEnable p (s : State) : exec (.canopyEnable p) s = execCanopyEnable p s := rfl
@[simp] theorem exec_disableComplete  (s : State) : exec (.disableComplete) s = execDisableComplete s := rfl
@[simp] theorem exec_zqCalibration ch (s : State) : exec (.zqCalibration ch) s = execZqCalibration ch s := rfl
@[simp] theorem exec_dqsDriftCompensation ch (s : State) : exec (.dqsDriftCompensation ch) s = execDqsDriftCompensation ch s := rfl
@[simp] theorem exec_refreshDue ch rank (s : State) : exec (.refreshDue ch rank) s = execRefreshDue ch rank s := rfl
@[simp] theorem exec_mr4Poll ch hotRanks (s : State) : exec (.mr4Poll ch hotRanks) s = execMr4Poll ch hotRanks s := rfl
@[simp] theorem exec_selfRefreshEntry ch (s : State) : exec (.selfRefreshEntry ch) s = execSelfRefreshEntry ch s := rfl
@[simp] theorem exec_caParityAlert ch sub replayOk (s : State) : exec (.caParityAlert ch sub replayOk) s = execCaParityAlert ch sub replayOk s := rfl
@[simp] theorem exec_patrolRead ch o peerData (s : State) : exec (.patrolRead ch o peerData) s = execPatrolRead ch o peerData s := rfl
@[simp] theorem exec_evacuate p set (s : State) : exec (.evacuate p set) s = execEvacuate p set s := rfl
@[simp] theorem exec_frameMove errs (s : State) : exec (.frameMove errs) s = execFrameMove errs s := rfl
@[simp] theorem exec_frameMoveComplete grove tile errs (s : State) : exec (.frameMoveComplete grove tile errs) s = execFrameMoveComplete grove tile errs s := rfl
@[simp] theorem exec_returnSet p set (s : State) : exec (.returnSet p set) s = execReturnSet p set s := rfl
@[simp] theorem exec_abortEvac p set (s : State) : exec (.abortEvac p set) s = execAbortEvac p set s := rfl
@[simp] theorem exec_ueClear p ch (s : State) : exec (.ueClear p ch) s = execUeClear p ch s := rfl
@[simp] theorem exec_nandReadComplete grove tile sector o (s : State) : exec (.nandReadComplete grove tile sector o) s = execNandReadComplete grove tile sector o s := rfl
@[simp] theorem exec_nandProgramDone id ok (s : State) : exec (.nandProgramDone id ok) s = execNandProgramDone id ok s := rfl
@[simp] theorem exec_nandEraseDone ch die block ok (s : State) : exec (.nandEraseDone ch die block ok) s = execNandEraseDone ch die block ok s := rfl
@[simp] theorem exec_reclaim  (s : State) : exec (.reclaim) s = execReclaim s := rfl
@[simp] theorem exec_relocation t2 reads (s : State) : exec (.relocation t2 reads) s = execRelocation t2 reads s := rfl
@[simp] theorem exec_staticWearLevel ch die (s : State) : exec (.staticWearLevel ch die) s = execStaticWearLevel ch die s := rfl
@[simp] theorem exec_readDisturbLimit ch die block (s : State) : exec (.readDisturbLimit ch die block) s = execReadDisturbLimit ch die block s := rfl
@[simp] theorem exec_stripeParityTimeout grp die vblock slot (s : State) : exec (.stripeParityTimeout grp die vblock slot) s = execStripeParityTimeout grp die vblock slot s := rfl
@[simp] theorem exec_dieDead ch die (s : State) : exec (.dieDead ch die) s = execDieDead ch die s := rfl
@[simp] theorem exec_dieRebuild second (s : State) : exec (.dieRebuild second) s = execDieRebuild second s := rfl
@[simp] theorem exec_backgroundScan t2 sector o (s : State) : exec (.backgroundScan t2 sector o) s = execBackgroundScan t2 sector o s := rfl
@[simp] theorem exec_cellarBlockErase  (s : State) : exec (.cellarBlockErase) s = execCellarBlockErase s := rfl
@[simp] theorem exec_hostLaneFailure port width rate (s : State) : exec (.hostLaneFailure port width rate) s = execHostLaneFailure port width rate s := rfl
@[simp] theorem exec_hostLinkDown port (s : State) : exec (.hostLinkDown port) s = execHostLinkDown port s := rfl
@[simp] theorem exec_hotReset port (s : State) : exec (.hotReset port) s = execHotReset port s := rfl
@[simp] theorem exec_pmeTurnOff port (s : State) : exec (.pmeTurnOff port) s = execPmeTurnOff port s := rfl
@[simp] theorem exec_decoderCommit port ld idx d (s : State) : exec (.decoderCommit port ld idx d) s = execDecoderCommit port ld idx d s := rfl
@[simp] theorem exec_initiateDynamicCapacityAdd tag port ld region es (s : State) : exec (.initiateDynamicCapacityAdd tag port ld region es) s = execInitiateDynamicCapacityAdd tag port ld region es s := rfl
@[simp] theorem exec_addDynamicCapacityResponse tag port ld es (s : State) : exec (.addDynamicCapacityResponse tag port ld es) s = execAddDynamicCapacityResponse tag port ld es s := rfl
@[simp] theorem exec_releaseDynamicCapacity tag port ld es (s : State) : exec (.releaseDynamicCapacity tag port ld es) s = execReleaseDynamicCapacity tag port ld es s := rfl
@[simp] theorem exec_forcedDynamicCapacityRelease tag port ld es (s : State) : exec (.forcedDynamicCapacityRelease tag port ld es) s = execForcedDynamicCapacityRelease tag port ld es s := rfl
@[simp] theorem exec_identifyMemoryDevice tag port ld (s : State) : exec (.identifyMemoryDevice tag port ld) s = execIdentifyMemoryDevice tag port ld s := rfl
@[simp] theorem exec_setPartitionInfo tag port ld (s : State) : exec (.setPartitionInfo tag port ld) s = execSetPartitionInfo tag port ld s := rfl
@[simp] theorem exec_setLsa tag port ld off data (s : State) : exec (.setLsa tag port ld off data) s = execSetLsa tag port ld off data s := rfl
@[simp] theorem exec_getPoisonList tag port ld dpa len (s : State) : exec (.getPoisonList tag port ld dpa len) s = execGetPoisonList tag port ld dpa len s := rfl
@[simp] theorem exec_clearPoison tag port ld dpa data (s : State) : exec (.clearPoison tag port ld dpa data) s = execClearPoison tag port ld dpa data s := rfl
@[simp] theorem exec_injectPoison tag port ld dpa (s : State) : exec (.injectPoison tag port ld dpa) s = execInjectPoison tag port ld dpa s := rfl
@[simp] theorem exec_ideKmKeyProg port tx key (s : State) : exec (.ideKmKeyProg port tx key) s = execIdeKmKeyProg port tx key s := rfl
@[simp] theorem exec_keyGo port containment (s : State) : exec (.keyGo port containment) s = execKeyGo port containment s := rfl
@[simp] theorem exec_ideFail port (s : State) : exec (.ideFail port) s = execIdeFail port s := rfl
@[simp] theorem exec_isolate p port (s : State) : exec (.isolate p port) s = execIsolate p port s := rfl
@[simp] theorem exec_hostPortRelease p port (s : State) : exec (.hostPortRelease p port) s = execHostPortRelease p port s := rfl
@[simp] theorem exec_retrain p port width rate (s : State) : exec (.retrain p port width rate) s = execRetrain p port width rate s := rfl
@[simp] theorem exec_logClear p port (s : State) : exec (.logClear p port) s = execLogClear p port s := rfl
@[simp] theorem exec_hello h b (s : State) : exec (.hello h b) s = execHello h b s := rfl
@[simp] theorem exec_write h data (s : State) : exec (.write h data) s = execWrite h data s := rfl
@[simp] theorem exec_readReq h (s : State) : exec (.readReq h) s = execReadReq h s := rfl
@[simp] theorem exec_flush h level (s : State) : exec (.flush h level) s = execFlush h level s := rfl
@[simp] theorem exec_flushAck qpn psn (s : State) : exec (.flushAck qpn psn) s = execFlushAck qpn psn s := rfl
@[simp] theorem exec_atomicFadd h addend (s : State) : exec (.atomicFadd h addend) s = execAtomicFadd h addend s := rfl
@[simp] theorem exec_atomicCas h compare swap (s : State) : exec (.atomicCas h compare swap) s = execAtomicCas h compare swap s := rfl
@[simp] theorem exec_ack h ntf (s : State) : exec (.ack h ntf) s = execAck h ntf s := rfl
@[simp] theorem exec_credit h (s : State) : exec (.credit h) s = execCredit h s := rfl
@[simp] theorem exec_notify h target value (s : State) : exec (.notify h target value) s = execNotify h target value s := rfl
@[simp] theorem exec_notifyDelivery id (s : State) : exec (.notifyDelivery id) s = execNotifyDelivery id s := rfl
@[simp] theorem exec_notifyRetransmit qpn (s : State) : exec (.notifyRetransmit qpn) s = execNotifyRetransmit qpn s := rfl
@[simp] theorem exec_notifyUndelivered id (s : State) : exec (.notifyUndelivered id) s = execNotifyUndelivered id s := rfl
@[simp] theorem exec_close h reason (s : State) : exec (.close h reason) s = execClose h reason s := rfl
@[simp] theorem exec_peerClose h (s : State) : exec (.peerClose h) s = execPeerClose h s := rfl
@[simp] theorem exec_closeComplete qpn (s : State) : exec (.closeComplete qpn) s = execCloseComplete qpn s := rfl
@[simp] theorem exec_reservedOpcode h code (s : State) : exec (.reservedOpcode h code) s = execReservedOpcode h code s := rfl
@[simp] theorem exec_ackDelayExpiry qpn (s : State) : exec (.ackDelayExpiry qpn) s = execAckDelayExpiry qpn s := rfl
@[simp] theorem exec_qpContextFetch qpn (s : State) : exec (.qpContextFetch qpn) s = execQpContextFetch qpn s := rfl
@[simp] theorem exec_peerIdleTimeout peer (s : State) : exec (.peerIdleTimeout peer) s = execPeerIdleTimeout peer s := rfl
@[simp] theorem exec_keyRegister p tag ws any cls (s : State) : exec (.keyRegister p tag ws any cls) s = execKeyRegister p tag ws any cls s := rfl
@[simp] theorem exec_keyRevoke p tag key (s : State) : exec (.keyRevoke p tag key) s = execKeyRevoke p tag key s := rfl
@[simp] theorem exec_revocationComplete key (s : State) : exec (.revocationComplete key) s = execRevocationComplete key s := rfl
@[simp] theorem exec_closeQp p qpn (s : State) : exec (.closeQp p qpn) s = execCloseQp p qpn s := rfl
@[simp] theorem exec_closePeer p peer (s : State) : exec (.closePeer p peer) s = execClosePeer p peer s := rfl
@[simp] theorem exec_arpRequest port ip (s : State) : exec (.arpRequest port ip) s = execArpRequest port ip s := rfl
@[simp] theorem exec_neighborSolicitation port ip (s : State) : exec (.neighborSolicitation port ip) s = execNeighborSolicitation port ip s := rfl
@[simp] theorem exec_icmpEcho port ip v6 (s : State) : exec (.icmpEcho port ip v6) s = execIcmpEcho port ip v6 s := rfl
@[simp] theorem exec_pauseFrame port (s : State) : exec (.pauseFrame port) s = execPauseFrame port s := rfl
@[simp] theorem exec_ptpEventMessage port tx mtype seqId (s : State) : exec (.ptpEventMessage port tx mtype seqId) s = execPtpEventMessage port tx mtype seqId s := rfl
@[simp] theorem exec_ptpTimestampPop p port (s : State) : exec (.ptpTimestampPop p port) s = execPtpTimestampPop p port s := rfl
@[simp] theorem exec_netLinkChange port up (s : State) : exec (.netLinkChange port up) s = execNetLinkChange port up s := rfl
@[simp] theorem exec_stampedInput h first recs (s : State) : exec (.stampedInput h first recs) s = execStampedInput h first recs s := rfl
@[simp] theorem exec_landingAck h credit ackSeq applied (s : State) : exec (.landingAck h credit ackSeq applied) s = execLandingAck h credit ackSeq applied s := rfl
@[simp] theorem exec_heartbeat h role credit ackSeq applied (s : State) : exec (.heartbeat h role credit ackSeq applied) s = execHeartbeat h role credit ackSeq applied s := rfl
@[simp] theorem exec_timeFrame h t1 t2 t3 (s : State) : exec (.timeFrame h t1 t2 t3) s = execTimeFrame h t1 t2 t3 s := rfl
@[simp] theorem exec_digest h first value (s : State) : exec (.digest h first value) s = execDigest h first value s := rfl
@[simp] theorem exec_resyncData h c (s : State) : exec (.resyncData h c) s = execResyncData h c s := rfl
@[simp] theorem exec_epochFrame h endSeq role (s : State) : exec (.epochFrame h endSeq role) s = execEpochFrame h endSeq role s := rfl
@[simp] theorem exec_reservedFrameType h type (s : State) : exec (.reservedFrameType h type) s = execReservedFrameType h type s := rfl
@[simp] theorem exec_negotiate h n rtt (s : State) : exec (.negotiate h n rtt) s = execNegotiate h n rtt s := rfl
@[simp] theorem exec_retryReq h expected (s : State) : exec (.retryReq h expected) s = execRetryReq h expected s := rfl
@[simp] theorem exec_laneChange h mask confirm (s : State) : exec (.laneChange h mask confirm) s = execLaneChange h mask confirm s := rfl
@[simp] theorem exec_leaving h lastSeq (s : State) : exec (.leaving h lastSeq) s = execLeaving h lastSeq s := rfl
@[simp] theorem exec_release h (s : State) : exec (.release h) s = execRelease h s := rfl
@[simp] theorem exec_releaseAck h (s : State) : exec (.releaseAck h) s = execReleaseAck h s := rfl
@[simp] theorem exec_resyncStart h bulk start (s : State) : exec (.resyncStart h bulk start) s = execResyncStart h bulk start s := rfl
@[simp] theorem exec_resyncDone h last (s : State) : exec (.resyncDone h last) s = execResyncDone h last s := rfl
@[simp] theorem exec_repairReq h grove tile mask (s : State) : exec (.repairReq h grove tile mask) s = execRepairReq h grove tile mask s := rfl
@[simp] theorem exec_rekey h rand (s : State) : exec (.rekey h rand) s = execRekey h rand s := rfl
@[simp] theorem exec_handoverFrame h lastSeq (s : State) : exec (.handoverFrame h lastSeq) s = execHandoverFrame h lastSeq s := rfl
@[simp] theorem exec_handoverAck h epoch (s : State) : exec (.handoverAck h epoch) s = execHandoverAck h epoch s := rfl
@[simp] theorem exec_recopy h last tiles (s : State) : exec (.recopy h last tiles) s = execRecopy h last tiles s := rfl
@[simp] theorem exec_heartbeatTimer  (s : State) : exec (.heartbeatTimer) s = execHeartbeatTimer s := rfl
@[simp] theorem exec_timeTimer  (s : State) : exec (.timeTimer) s = execTimeTimer s := rfl
@[simp] theorem exec_negotiateTimer  (s : State) : exec (.negotiateTimer) s = execNegotiateTimer s := rfl
@[simp] theorem exec_thbExpiry  (s : State) : exec (.thbExpiry) s = execThbExpiry s := rfl
@[simp] theorem exec_leaderUtlSilence  (s : State) : exec (.leaderUtlSilence) s = execLeaderUtlSilence s := rfl
@[simp] theorem exec_fenceExpiry  (s : State) : exec (.fenceExpiry) s = execFenceExpiry s := rfl
@[simp] theorem exec_tjoinExpiry  (s : State) : exec (.tjoinExpiry) s = execTjoinExpiry s := rfl
@[simp] theorem exec_lagHoldStart  (s : State) : exec (.lagHoldStart) s = execLagHoldStart s := rfl
@[simp] theorem exec_lagHoldLong  (s : State) : exec (.lagHoldLong) s = execLagHoldLong s := rfl
@[simp] theorem exec_handoverSend  (s : State) : exec (.handoverSend) s = execHandoverSend s := rfl
@[simp] theorem exec_resyncChunkRead errs (s : State) : exec (.resyncChunkRead errs) s = execResyncChunkRead errs s := rfl
@[simp] theorem exec_resyncChunkInstall  (s : State) : exec (.resyncChunkInstall) s = execResyncChunkInstall s := rfl
@[simp] theorem exec_resyncComplete  (s : State) : exec (.resyncComplete) s = execResyncComplete s := rfl
@[simp] theorem exec_utlTrainLock mask (s : State) : exec (.utlTrainLock mask) s = execUtlTrainLock mask s := rfl
@[simp] theorem exec_utlTrainTimeout  (s : State) : exec (.utlTrainTimeout) s = execUtlTrainTimeout s := rfl
@[simp] theorem exec_utlNegotiateTimeout  (s : State) : exec (.utlNegotiateTimeout) s = execUtlNegotiateTimeout s := rfl
@[simp] theorem exec_utlRetryTimer  (s : State) : exec (.utlRetryTimer) s = execUtlRetryTimer s := rfl
@[simp] theorem exec_utlLaneFault healthy (s : State) : exec (.utlLaneFault healthy) s = execUtlLaneFault healthy s := rfl
@[simp] theorem exec_laneChangeTimeout  (s : State) : exec (.laneChangeTimeout) s = execLaneChangeTimeout s := rfl
@[simp] theorem exec_rekeyCount  (s : State) : exec (.rekeyCount) s = execRekeyCount s := rfl
@[simp] theorem exec_handover p (s : State) : exec (.handover p) s = execHandover p s := rfl
@[simp] theorem exec_resume p (s : State) : exec (.resume p) s = execResume p s := rfl
@[simp] theorem exec_forceLead p (s : State) : exec (.forceLead p) s = execForceLead p s := rfl
@[simp] theorem exec_witnessGrant p (s : State) : exec (.witnessGrant p) s = execWitnessGrant p s := rfl
@[simp] theorem exec_divClear p (s : State) : exec (.divClear p) s = execDivClear p s := rfl
@[simp] theorem exec_rewiden p (s : State) : exec (.rewiden p) s = execRewiden p s := rfl
@[simp] theorem exec_zeroise p slot (s : State) : exec (.zeroise p slot) s = execZeroise p slot s := rfl
@[simp] theorem exec_roll p slot (s : State) : exec (.roll p slot) s = execRoll p slot s := rfl
@[simp] theorem exec_rollWalk slot errs (s : State) : exec (.rollWalk slot errs) s = execRollWalk slot errs s := rfl
@[simp] theorem exec_rollComplete slot (s : State) : exec (.rollComplete slot) s = execRollComplete slot s := rfl
@[simp] theorem exec_keyGenerate p tag v1 slot (s : State) : exec (.keyGenerate p tag v1 slot) s = execKeyGenerate p tag v1 slot s := rfl
@[simp] theorem exec_keyImport p tag v1 slot unwrapOk key (s : State) : exec (.keyImport p tag v1 slot unwrapOk key) s = execKeyImport p tag v1 slot unwrapOk key s := rfl
@[simp] theorem exec_rqTailWrite p tail (s : State) : exec (.rqTailWrite p tail) s = execRqTailWrite p tail s := rfl
@[simp] theorem exec_descriptorXts  (s : State) : exec (.descriptorXts) s = execDescriptorXts s := rfl
@[simp] theorem exec_descriptorGcm  (s : State) : exec (.descriptorGcm) s = execDescriptorGcm s := rfl
@[simp] theorem exec_descriptorCmac  (s : State) : exec (.descriptorCmac) s = execDescriptorCmac s := rfl
@[simp] theorem exec_descriptorKwp  (s : State) : exec (.descriptorKwp) s = execDescriptorKwp s := rfl
@[simp] theorem exec_ringRestart p (s : State) : exec (.ringRestart p) s = execRingRestart p s := rfl
@[simp] theorem exec_laneSelfTest lane ok (s : State) : exec (.laneSelfTest lane ok) s = execLaneSelfTest lane ok s := rfl
@[simp] theorem exec_cipherSaturation cls us (s : State) : exec (.cipherSaturation cls us) s = execCipherSaturation cls us s := rfl
@[simp] theorem exec_verifyBank p bank v (s : State) : exec (.verifyBank p bank v) s = execVerifyBank p bank v s := rfl
@[simp] theorem exec_selectBank p bank v (s : State) : exec (.selectBank p bank v) s = execSelectBank p bank v s := rfl
@[simp] theorem exec_groveCreate p tag tmpl extents (s : State) : exec (.groveCreate p tag tmpl extents) s = execGroveCreate p tag tmpl extents s := rfl
@[simp] theorem exec_groveResize p tag grove extents (s : State) : exec (.groveResize p tag grove extents) s = execGroveResize p tag grove extents s := rfl
@[simp] theorem exec_groveDelete p tag grove (s : State) : exec (.groveDelete p tag grove) s = execGroveDelete p tag grove s := rfl
@[simp] theorem exec_groveStatus p tag grove (s : State) : exec (.groveStatus p tag grove) s = execGroveStatus p tag grove s := rfl
@[simp] theorem exec_getVersion p tag (s : State) : exec (.getVersion p tag) s = execGetVersion p tag s := rfl
@[simp] theorem exec_regRead p tag addr count (s : State) : exec (.regRead p tag addr count) s = execRegRead p tag addr count s := rfl
@[simp] theorem exec_regWrite p tag addr words (s : State) : exec (.regWrite p tag addr words) s = execRegWrite p tag addr words s := rfl
@[simp] theorem exec_storeWrite p tag v1 addr words (s : State) : exec (.storeWrite p tag v1 addr words) s = execStoreWrite p tag v1 addr words s := rfl
@[simp] theorem exec_storeErase p tag v1 addr (s : State) : exec (.storeErase p tag v1 addr) s = execStoreErase p tag v1 addr s := rfl
@[simp] theorem exec_provision tag (s : State) : exec (.provision tag) s = execProvision tag s := rfl
@[simp] theorem exec_powerOn p tag (s : State) : exec (.powerOn p tag) s = execPowerOn p tag s := rfl
@[simp] theorem exec_powerOff p tag (s : State) : exec (.powerOff p tag) s = execPowerOff p tag s := rfl
@[simp] theorem exec_powerStatus p tag (s : State) : exec (.powerStatus p tag) s = execPowerStatus p tag s := rfl
@[simp] theorem exec_powerLogRead p tag (s : State) : exec (.powerLogRead p tag) s = execPowerLogRead p tag s := rfl
@[simp] theorem exec_clear p (s : State) : exec (.clear p) s = execClear p s := rfl
@[simp] theorem exec_clearing event (s : State) : exec (.clearing event) s = execClearing event s := rfl
@[simp] theorem exec_clearingEntryDone  (s : State) : exec (.clearingEntryDone) s = execClearingEntryDone s := rfl
@[simp] theorem exec_vddAonValid  (s : State) : exec (.vddAonValid) s = execVddAonValid s := rfl
@[simp] theorem exec_stage1 ix (s : State) : exec (.stage1 ix) s = execStage1 ix s := rfl
@[simp] theorem exec_pgGood n (s : State) : exec (.pgGood n) s = execPgGood n s := rfl
@[simp] theorem exec_pgTimeout n (s : State) : exec (.pgTimeout n) s = execPgTimeout n s := rfl
@[simp] theorem exec_settleExpiry  (s : State) : exec (.settleExpiry) s = execSettleExpiry s := rfl
@[simp] theorem exec_railRetryExpiry  (s : State) : exec (.railRetryExpiry) s = execRailRetryExpiry s := rfl
@[simp] theorem exec_rstoStretchExpiry ix (s : State) : exec (.rstoStretchExpiry ix) s = execRstoStretchExpiry ix s := rfl
@[simp] theorem exec_stage3 fuseOk bistOk badLanes (s : State) : exec (.stage3 fuseOk bistOk badLanes) s = execStage3 fuseOk bistOk badLanes s := rfl
@[simp] theorem exec_stage4 locked (s : State) : exec (.stage4 locked) s = execStage4 locked s := rfl
@[simp] theorem exec_stage5 va vb fwVersion (s : State) : exec (.stage5 va vb fwVersion) s = execStage5 va vb fwVersion s := rfl
@[simp] theorem exec_stage6  (s : State) : exec (.stage6) s = execStage6 s := rfl
@[simp] theorem exec_stage7 dram nand (s : State) : exec (.stage7 dram nand) s = execStage7 dram nand s := rfl
@[simp] theorem exec_stage8 anchorReadable badMeta badData badErase (s : State) : exec (.stage8 anchorReadable badMeta badData badErase) s = execStage8 anchorReadable badMeta badData badErase s := rfl
@[simp] theorem exec_stage9  (s : State) : exec (.stage9) s = execStage9 s := rfl
@[simp] theorem exec_ready  (s : State) : exec (.ready) s = execReady s := rfl
@[simp] theorem exec_infailNAssert  (s : State) : exec (.infailNAssert) s = execInfailNAssert s := rfl
@[simp] theorem exec_infailNDeassert  (s : State) : exec (.infailNDeassert) s = execInfailNDeassert s := rfl
@[simp] theorem exec_estoreOkAssert  (s : State) : exec (.estoreOkAssert) s = execEstoreOkAssert s := rfl
@[simp] theorem exec_estoreOkDeassert  (s : State) : exec (.estoreOkDeassert) s = execEstoreOkDeassert s := rfl
@[simp] theorem exec_pgLoss n cut (s : State) : exec (.pgLoss n cut) s = execPgLoss n cut s := rfl
@[simp] theorem exec_pgFall n (s : State) : exec (.pgFall n) s = execPgFall n s := rfl
@[simp] theorem exec_pgLowTimeout n (s : State) : exec (.pgLowTimeout n) s = execPgLowTimeout n s := rfl
@[simp] theorem exec_logFlushDone  (s : State) : exec (.logFlushDone) s = execLogFlushDone s := rfl
@[simp] theorem exec_minOffTimeExpiry  (s : State) : exec (.minOffTimeExpiry) s = execMinOffTimeExpiry s := rfl
@[simp] theorem exec_powerLogProgram torn (s : State) : exec (.powerLogProgram torn) s = execPowerLogProgram torn s := rfl
@[simp] theorem exec_thermalSample temps (s : State) : exec (.thermalSample temps) s = execThermalSample temps s := rfl
@[simp] theorem exec_dutyUpdate  (s : State) : exec (.dutyUpdate) s = execDutyUpdate s := rfl
@[simp] theorem exec_thermalTrip sensor analog temp (s : State) : exec (.thermalTrip sensor analog temp) s = execThermalTrip sensor analog temp s := rfl
@[simp] theorem exec_ppsEdge  (s : State) : exec (.ppsEdge) s = execPpsEdge s := rfl
@[simp] theorem exec_ppsMissing  (s : State) : exec (.ppsMissing) s = execPpsMissing s := rfl
@[simp] theorem exec_gtcCorrection p hi (s : State) : exec (.gtcCorrection p hi) s = execGtcCorrection p hi s := rfl
@[simp] theorem exec_pllLockLoss domain (s : State) : exec (.pllLockLoss domain) s = execPllLockLoss domain s := rfl
@[simp] theorem exec_refclkLoss domain (s : State) : exec (.refclkLoss domain) s = execRefclkLoss domain s := rfl
@[simp] theorem exec_crossingFault event (s : State) : exec (.crossingFault event) s = execCrossingFault event s := rfl
@[simp] theorem exec_leakTick event (s : State) : exec (.leakTick event) s = execLeakTick event s := rfl
@[simp] theorem exec_graceExpiry event (s : State) : exec (.graceExpiry event) s = execGraceExpiry event s := rfl
@[simp] theorem exec_severeAcknowledge p k bits (s : State) : exec (.severeAcknowledge p k bits) s = execSevereAcknowledge p k bits s := rfl
@[simp] theorem exec_ackAll p (s : State) : exec (.ackAll p) s = execAckAll p s := rfl
@[simp] theorem exec_releaseGrove p grove (s : State) : exec (.releaseGrove p grove) s = execReleaseGrove p grove s := rfl
@[simp] theorem exec_releasePort p port (s : State) : exec (.releasePort p port) s = execReleasePort p port s := rfl
@[simp] theorem exec_scrubRead id err stuck (s : State) : exec (.scrubRead id err stuck) s = execScrubRead id err stuck s := rfl
@[simp] theorem exec_flipArm p v (s : State) : exec (.flipArm p v) s = execFlipArm p v s := rfl
@[simp] theorem exec_allocationGrant pool (s : State) : exec (.allocationGrant pool) s = execAllocationGrant pool s := rfl
@[simp] theorem exec_perfStart p (s : State) : exec (.perfStart p) s = execPerfStart p s := rfl
@[simp] theorem exec_perfStop p (s : State) : exec (.perfStop p) s = execPerfStop p s := rfl
@[simp] theorem exec_perfGlobalClear p (s : State) : exec (.perfGlobalClear p) s = execPerfGlobalClear p s := rfl
@[simp] theorem exec_perfUnitClear p unit (s : State) : exec (.perfUnitClear p unit) s = execPerfUnitClear p unit s := rfl
@[simp] theorem exec_epochBoundary  (s : State) : exec (.epochBoundary) s = execEpochBoundary s := rfl
@[simp] theorem exec_freeze p (s : State) : exec (.freeze p) s = execFreeze p s := rfl
@[simp] theorem exec_thaw p (s : State) : exec (.thaw p) s = execThaw p s := rfl
@[simp] theorem exec_recClear p (s : State) : exec (.recClear p) s = execRecClear p s := rfl
@[simp] theorem exec_flashUnlock p k1 k2 (s : State) : exec (.flashUnlock p k1 k2) s = execFlashUnlock p k1 k2 s := rfl
@[simp] theorem exec_flashProgram p data (s : State) : exec (.flashProgram p data) s = execFlashProgram p data s := rfl
@[simp] theorem exec_flashErase p (s : State) : exec (.flashErase p) s = execFlashErase p s := rfl
@[simp] theorem exec_blankCheck p (s : State) : exec (.blankCheck p) s = execBlankCheck p s := rfl
@[simp] theorem exec_flashCommandDone verifyOk (s : State) : exec (.flashCommandDone verifyOk) s = execFlashCommandDone verifyOk s := rfl
@[simp] theorem exec_flashDataRead p (s : State) : exec (.flashDataRead p) s = execFlashDataRead p s := rfl
@[simp] theorem exec_rdpRaise p v (s : State) : exec (.rdpRaise p v) s = execRdpRaise p v s := rfl
@[simp] theorem exec_rdpLower p v (s : State) : exec (.rdpLower p v) s = execRdpLower p v s := rfl
@[simp] theorem exec_rdpLowerEraseDone  (s : State) : exec (.rdpLowerEraseDone) s = execRdpLowerEraseDone s := rfl
@[simp] theorem exec_idcode  (s : State) : exec (.idcode) s = execIdcode s := rfl
@[simp] theorem exec_bypass  (s : State) : exec (.bypass) s = execBypass s := rfl
@[simp] theorem exec_samplePreload  (s : State) : exec (.samplePreload) s = execSamplePreload s := rfl
@[simp] theorem exec_extest  (s : State) : exec (.extest) s = execExtest s := rfl
@[simp] theorem exec_clamp  (s : State) : exec (.clamp) s = execClamp s := rfl
@[simp] theorem exec_highz  (s : State) : exec (.highz) s = execHighz s := rfl
@[simp] theorem exec_gladeAuth purpose (s : State) : exec (.gladeAuth purpose) s = execGladeAuth purpose s := rfl
@[simp] theorem exec_gladeAccess wr addr data (s : State) : exec (.gladeAccess wr addr data) s = execGladeAccess wr addr data s := rfl
@[simp] theorem exec_challenge p purpose (s : State) : exec (.challenge p purpose) s = execChallenge p purpose s := rfl
@[simp] theorem exec_submit p accepted (s : State) : exec (.submit p accepted) s = execSubmit p accepted s := rfl
@[simp] theorem exec_gladeOpenEraseDone  (s : State) : exec (.gladeOpenEraseDone) s = execGladeOpenEraseDone s := rfl
@[simp] theorem exec_entdaa addr (s : State) : exec (.entdaa addr) s = execEntdaa addr s := rfl
@[simp] theorem exec_setdasa addr (s : State) : exec (.setdasa addr) s = execSetdasa addr s := rfl
@[simp] theorem exec_getLdInfo tag (s : State) : exec (.getLdInfo tag) s = execGetLdInfo tag s := rfl
@[simp] theorem exec_getLdAllocations tag port (s : State) : exec (.getLdAllocations tag port) s = execGetLdAllocations tag port s := rfl
@[simp] theorem exec_getMultiHeadedInfo tag (s : State) : exec (.getMultiHeadedInfo tag) s = execGetMultiHeadedInfo tag s := rfl
@[simp] theorem exec_bindLd tag port ld (s : State) : exec (.bindLd tag port ld) s = execBindLd tag port ld s := rfl
@[simp] theorem exec_unbindLd tag port ld (s : State) : exec (.unbindLd tag port ld) s = execUnbindLd tag port ld s := rfl
@[simp] theorem exec_setLdAllocations tag port (s : State) : exec (.setLdAllocations tag port) s = execSetLdAllocations tag port s := rfl
@[simp] theorem exec_pldmFirmwareUpdate bank off words image (s : State) : exec (.pldmFirmwareUpdate bank off words image) s = execPldmFirmwareUpdate bank off words image s := rfl
@[simp] theorem exec_pldmActivate v (s : State) : exec (.pldmActivate v) s = execPldmActivate v s := rfl
@[simp] theorem exec_loReadLatch p addr (s : State) : exec (.loReadLatch p addr) s = execLoReadLatch p addr s := rfl
@[simp] theorem exec_rcRead p addr (s : State) : exec (.rcRead p addr) s = execRcRead p addr s := rfl
@[simp] theorem exec_registerWrite p addr v (s : State) : exec (.registerWrite p addr v) s = execRegisterWrite p addr v s := rfl
@[simp] theorem exec_caRecoveryComplete ch sub ok (s : State) : exec (.caRecoveryComplete ch sub ok) s = execCaRecoveryComplete ch sub ok s := rfl
@[simp] theorem exec_returnTrainingComplete set ok (s : State) : exec (.returnTrainingComplete set ok) s = execReturnTrainingComplete set ok s := rfl
@[simp] theorem exec_hostLinkUp port width rate (s : State) : exec (.hostLinkUp port width rate) s = execHostLinkUp port width rate s := rfl
@[simp] theorem exec_configurationRequest port ld addr (s : State) : exec (.configurationRequest port ld addr) s = execConfigurationRequest port ld addr s := rfl
@[simp] theorem exec_spdmMessage port authOk (s : State) : exec (.spdmMessage port authOk) s = execSpdmMessage port authOk s := rfl
@[simp] theorem exec_vddAonLoss  (s : State) : exec (.vddAonLoss) s = execVddAonLoss s := rfl

end Sys2Proof.Machine
end

