-- ==== Sys2Proof/Laws/FrameShared.lean ====
section
/-!
SUPPORT. The frame of the block's operations, file by file: the operations of Ops to Access
leave the queue of waiting commands and the fuses alone. One lemma per operation and per meaning of a command.
-/

namespace Sys2Proof.Machine

open Sys2Proof

set_option maxRecDepth 20000

/-- What no command writes: the queue of waiting commands and the fuses. -/
def State.outer (s : State) : List Instr × Fuse := (s.pending, s.fuse)

@[simp] theorem outer_fold (s : State) : ((s.pending, s.fuse) : List Instr × Fuse) = s.outer := rfl

@[simp] theorem outer_mk (a b c d e f g h i j k l m n o p q r s t u v w x y) :
    (State.mk a b c d e f g h i j k l m n o p q r s t u v w x y).outer = (a, b) := rfl

@[simp] theorem outer_ite (c : Prop) [Decidable c] (a b : State) :
    (if c then a else b).outer = if c then a.outer else b.outer := apply_ite _ c a b

@[simp] theorem outer_forEach {α : Type} (l : List α) (g : α → State → State) (h : ∀ a t, (g a t).outer = t.outer)
    (s : State) : (forEach l g s).outer = s.outer := by
  unfold forEach
  induction l generalizing s with
  | nil => rfl
  | cons a l ih => rw [List.foldl, ih, h]

theorem outer_foldl {α β : Type} (f : State × β → α → State × β) (h : ∀ a x, (f a x).1.outer = a.1.outer) :
    ∀ (l : List α) (a : State × β), (l.foldl f a).1.outer = a.1.outer
  | [], _ => rfl
  | x :: l, a => by rw [List.foldl, outer_foldl f h l, h]

/-! ### Ops -/

@[simp] theorem outer_send (o : Out) (s : State) : (send o s).outer = s.outer := by unfold send; simp

@[simp] theorem outer_sendAll (os : List Out) (s : State) : (sendAll os s).outer = s.outer := by
  unfold sendAll
  simp

@[simp] theorem outer_bumpId (s : State) : (bumpId s).outer = s.outer := by unfold bumpId; simp
@[simp] theorem outer_useFree (s : State) : (useFree s).outer = s.outer := by unfold useFree; simp

@[simp] theorem outer_setRegWord (id : RegId) (i j : Nat) (v : Nat) (s : State) :
    (setRegWord id i j v s).outer = s.outer := by
  unfold setRegWord
  simp

@[simp] theorem outer_setFld (id : RegId) (i hi lo x : Nat) (s : State) :
    (setFld id i hi lo x s).outer = s.outer := by
  unfold setFld
  simp

@[simp] theorem outer_bumpRc (id : RegId) (i hi lo n : Nat) (s : State) :
    (bumpRc id i hi lo n s).outer = s.outer := by
  unfold bumpRc
  simp

@[simp] theorem outer_maxRc (id : RegId) (i hi lo n : Nat) (s : State) : (maxRc id i hi lo n s).outer = s.outer := by
  unfold maxRc
  simp

@[simp] theorem outer_setBit (id : RegId) (i n : Nat) (s : State) : (setBit id i n s).outer = s.outer := by
  unfold setBit
  simp

@[simp] theorem outer_raiseAt (e tgt : Nat) (s : State) : (raiseAt e tgt s).outer = s.outer := by
  unfold raiseAt
  simp

@[simp] theorem outer_raise (e : Nat) (s : State) : (raise e s).outer = s.outer := by unfold raise; simp

@[simp] theorem outer_raiseClearing (e : Nat) (s : State) : (raiseClearing e s).outer = s.outer := by
  unfold raiseClearing
  simp

@[simp] theorem outer_raiseOff (e : Nat) (s : State) : (raiseOff e s).outer = s.outer := by unfold raiseOff; simp

@[simp] theorem outer_onlyIf (b : Bool) (f : State → State) (s : State) (h1 : ∀ t, (f t).outer = t.outer) :
    (onlyIf b f s).outer = s.outer := by
  unfold onlyIf
  (try dsimp only)
  (repeat' split) <;> simp [*]

@[simp] theorem outer_accessEvent (write : Bool) (cause : Nat) (p : Path) (addr : Nat) (s : State) :
    (accessEvent write cause p addr s).outer = s.outer := by
  unfold accessEvent
  simp

@[simp] theorem outer_mailboxIrq (p : Path) (code : Nat) (s : State) : (mailboxIrq p code s).outer = s.outer := by
  unfold mailboxIrq
  (try dsimp only)
  (repeat' split) <;> simp

@[simp] theorem outer_complete (p : Path) (tag code result : Nat) (body : List Nat) (s : State) :
    (complete p tag code result body s).outer = s.outer := by
  unfold complete
  simp

@[simp] theorem outer_mboxDone (port ld tag result : Nat) (body : List Nat) (s : State) :
    (mboxDone port ld tag result body s).outer = s.outer := by
  unfold mboxDone
  simp

@[simp] theorem outer_mgmtOnly (p : Path) (tag code : Nat) (f : State → State) (s : State) (h1 : ∀ t,
    (f t).outer = t.outer) : (mgmtOnly p tag code f s).outer = s.outer := by
  unfold mgmtOnly
  (try dsimp only)
  (repeat' split) <;> simp [*]

@[simp] theorem outer_mgmtWrite (p : Path) (addr : Nat) (f : State → State) (s : State) (h1 : ∀ t,
    (f t).outer = t.outer) : (mgmtWrite p addr f s).outer = s.outer := by
  unfold mgmtWrite
  (try dsimp only)
  (repeat' split) <;> simp [*]

@[simp] theorem outer_raisePwr (e : Nat) (s : State) : (raisePwr e s).outer = s.outer := by unfold raisePwr; simp

@[simp] theorem outer_logPwr (reason src : Nat) (s : State) : (logPwr reason src s).outer = s.outer := by
  unfold logPwr
  simp

@[simp] theorem outer_eraseSector (n : Nat) (s : State) : (eraseSector n s).outer = s.outer := by
  unfold eraseSector
  simp

@[simp] theorem outer_updCopy (item bank : Nat) (f : CopySt → CopySt) (s : State) :
    (updCopy item bank f s).outer = s.outer := by
  unfold updCopy
  simp

@[simp] theorem outer_writeCopy (item : Nat) (s : State) : (writeCopy item s).outer = s.outer := by
  unfold writeCopy
  simp

@[simp] theorem outer_putNode (f : NodeRec → NodeRec) (s : State) : (putNode f s).outer = s.outer := by
  unfold putNode
  simp

@[simp] theorem outer_putRepairs (l : List RepairRec) (s : State) : (putRepairs l s).outer = s.outer := by
  unfold putRepairs
  simp

@[simp] theorem outer_takeCopy (item : Nat) (c : Option CopySt) (s : State) :
    (takeCopy item c s).outer = s.outer := by
  unfold takeCopy
  (try dsimp only)
  (repeat' split) <;> simp

@[simp] theorem outer_markCopies (item : Nat) (s : State) : (markCopies item s).outer = s.outer := by
  unfold markCopies
  simp

@[simp] theorem outer_readCopies (item : Nat) (s : State) : (readCopies item s).outer = s.outer := by
  unfold readCopies
  simp

/-! ### Prot -/

@[simp] theorem outer_setBad (m w : Nat) (e : BitVec 80) (s : State) : (setBad m w e s).outer = s.outer := by
  unfold setBad
  simp

@[simp] theorem outer_protWrite (m w : Nat) (s : State) : (protWrite m w s).outer = s.outer := by
  unfold protWrite
  simp

@[simp] theorem outer_hardFault (m w b : Nat) (s : State) : (hardFault m w b s).outer = s.outer := by
  unfold hardFault
  (try dsimp only)
  (repeat' split) <;> simp

@[simp] theorem outer_uncorrectable (m w : Nat) (scrub : Bool) (s : State) :
    (uncorrectable m w scrub s).outer = s.outer := by
  unfold uncorrectable
  simp

@[simp] theorem outer_protRead (m w : Nat) (scrub : Bool) (stuck : BitVec 80) (s : State) :
    ((protRead m w scrub stuck s).1).outer = s.outer := by
  unfold protRead
  (try dsimp only)
  (repeat' split) <;> simp

@[simp] theorem outer_protGet (c key : Nat) (s : State) : (protGet c key s).outer = s.outer := by
  unfold protGet
  simp

@[simp] theorem outer_protPut (c key : Nat) (s : State) : (protPut c key s).outer = s.outer := by
  unfold protPut
  simp

/-! ### TierOps -/

@[simp] theorem outer_touchMeta (key : Nat) (s : State) : (touchMeta key s).outer = s.outer := by
  unfold touchMeta
  simp

@[simp] theorem outer_modMeta (f : Meta → Meta) (s : State) : (modMeta f s).outer = s.outer := by
  unfold modMeta
  simp

@[simp] theorem outer_setTile (g t : Nat) (x : Tile) (s : State) : (setTile g t x s).outer = s.outer := by
  unfold setTile
  simp

@[simp] theorem outer_updTile (g t : Nat) (f : Tile → Tile) (s : State) : (updTile g t f s).outer = s.outer := by
  unfold updTile
  simp

@[simp] theorem outer_touchAge (g t : Nat) (s : State) : (touchAge g t s).outer = s.outer := by
  unfold touchAge
  simp

@[simp] theorem outer_notePoison (g t : Nat) (sectors : BitVec 16) (s : State) :
    (notePoison g t sectors s).outer = s.outer := by
  unfold notePoison
  simp

@[simp] theorem outer_logPoison (g t : Nat) (sectors : BitVec 16) (origin : Nat) (s : State) :
    (logPoison g t sectors origin s).outer = s.outer := by
  have last : ∀ u : State, u.outer = s.outer → (let s1 := u
      if s1.tier.plogFull then s1
      else raise 579 { s1 with tier := { s1.tier with plogFull := true } }).outer = s.outer := by
    intro u h
    dsimp only
    split
    · exact h
    · rw [outer_raise]; exact h
  unfold logPoison
  split
  · rfl
  · split
    · rfl
    · exact last _ (outer_bumpRc ..)

@[simp] theorem outer_poisonLines (g t : Nat) (m : BitVec 1024) (origin : Nat) (s : State) :
    (poisonLines g t m origin s).outer = s.outer := by
  unfold poisonLines
  (try dsimp only)
  (repeat' split) <;> simp

@[simp] theorem outer_settleMissing (g t : Nat) (s : State) : (settleMissing g t s).outer = s.outer := by
  unfold settleMissing
  simp

@[simp] theorem outer_clearPoison (g line : Nat) (s0 : State) : (clearPoison g line s0).outer = s0.outer := by
  unfold clearPoison
  (try dsimp only)
  (repeat' split) <;> simp

@[simp] theorem outer_countPoisonRead (g t : Nat) (s : State) : (countPoisonRead g t s).outer = s.outer := by
  unfold countPoisonRead
  simp

@[simp] theorem outer_updSet (n : Nat) (f : DramSet → DramSet) (s : State) : (updSet n f s).outer = s.outer := by
  unfold updSet
  simp

@[simp] theorem outer_putT1 (f i : Nat) (d : LineData) (s : State) : (putT1 f i d s).outer = s.outer := by
  unfold putT1
  simp

@[simp] theorem outer_markT1 (f i : Nat) (s : State) : (markT1 f i s).outer = s.outer := by unfold markT1; simp

@[simp] theorem outer_noteRead (f i : Nat) (o : DramRead) (s : State) : (noteRead f i o s).outer = s.outer := by
  unfold noteRead
  simp

@[simp] theorem outer_noteReads (errs : List LineRead) (s : State) : (noteReads errs s).outer = s.outer := by
  unfold noteReads
  refine outer_forEach _ _ (fun e u => ?_) _
  split <;> simp

@[simp] theorem outer_markDirty (g t sec : Nat) (s : State) : (markDirty g t sec s).outer = s.outer := by
  unfold markDirty
  simp

@[simp] theorem outer_writeT1 (g line : Nat) (d : LineData) (m : Mask) (s : State) :
    (writeT1 g line d m s).outer = s.outer := by
  unfold writeT1
  (try dsimp only)
  (repeat' split) <;> simp

@[simp] theorem outer_takeFrame (g t f : Nat) (s : State) : (takeFrame g t f s).outer = s.outer := by
  unfold takeFrame
  simp

@[simp] theorem outer_dropFrame (f : Nat) (s : State) : (dropFrame f s).outer = s.outer := by unfold dropFrame; simp

@[simp] theorem outer_dropReloc (g t : Nat) (s : State) : (dropReloc g t s).outer = s.outer := by
  unfold dropReloc
  simp

@[simp] theorem outer_dropT2 (g t : Nat) (s : State) : (dropT2 g t s).outer = s.outer := by
  unfold dropT2
  (try dsimp only)
  (repeat' split) <;> simp

@[simp] theorem outer_dropTile (g t : Nat) (s : State) : (dropTile g t s).outer = s.outer := by
  unfold dropTile
  (try dsimp only)
  (repeat' split) <;> simp

@[simp] theorem outer_firstFrame (g t : Nat) (s : State) : (firstFrame g t s).outer = s.outer := by
  unfold firstFrame
  (try dsimp only)
  (repeat' split) <;> simp

@[simp] theorem outer_chargeLines (n k : Nat) (s : State) : (chargeLines n k s).outer = s.outer := by
  unfold chargeLines
  simp

/-! ### Ftl -/

@[simp] theorem outer_updDieAt (k : Nat) (f : Die → Die) (s : State) : (updDieAt k f s).outer = s.outer := by
  unfold updDieAt
  simp

@[simp] theorem outer_updDie (ch die : Nat) (f : Die → Die) (s : State) : (updDie ch die f s).outer = s.outer := by
  unfold updDie
  simp

@[simp] theorem outer_putOwner (n g t kind : Nat) (cipher : List LineData) (s : State) :
    (putOwner n g t kind cipher s).outer = s.outer := by
  unfold putOwner
  simp

@[simp] theorem outer_addBytes (n : Nat) (s : State) : (addBytes n s).outer = s.outer := by unfold addBytes; simp

@[simp] theorem outer_nandEvent (n off : Nat) (s : State) : (nandEvent n off s).outer = s.outer := by
  unfold nandEvent
  simp

@[simp] theorem outer_mediaFault (ch bit : Nat) (s : State) : (mediaFault ch bit s).outer = s.outer := by
  unfold mediaFault
  simp

@[simp] theorem outer_ftlCause (bit : Nat) (s : State) : (ftlCause bit s).outer = s.outer := by
  unfold ftlCause
  simp

@[simp] theorem outer_dieStep (k : Nat) (s : State) : (dieStep k s).outer = s.outer := by
  unfold dieStep
  (try dsimp only)
  (repeat' split) <;> simp

@[simp] theorem outer_runDie (k : Nat) (s : State) : (runDie k s).outer = s.outer := by unfold runDie; simp

@[simp] theorem outer_pushDie (k : Nat) (o : DieOp) (s : State) : (pushDie k o s).outer = s.outer := by
  unfold pushDie
  simp

@[simp] theorem outer_endCur (k : Nat) (s : State) : (endCur k s).outer = s.outer := by unfold endCur; simp
@[simp] theorem outer_hurry (g t : Nat) (s : State) : (hurry g t s).outer = s.outer := by unfold hurry; simp

@[simp] theorem outer_startErase (b : Nat) (s : State) : (startErase b s).outer = s.outer := by
  unfold startErase
  simp

@[simp] theorem outer_openSuper (n : Nat) (s : State) : (openSuper n s).outer = s.outer := by unfold openSuper; simp

@[simp] theorem outer_queueWl (prio n : Nat) (s : State) : (queueWl prio n s).outer = s.outer := by
  unfold queueWl
  simp

theorem outer_placeProg {p : Prog} {avoid : Option Nat} {s u : State} (h : placeProg p avoid s = some u) :
    u.outer = s.outer := by
  unfold placeProg at h
  split at h
  · contradiction
  · cases h
    rw [outer_queueWl]
    exact (outer_openSuper ..).trans (outer_useFree _)

@[simp] theorem outer_closeStripe (key : Nat) (s : State) : (closeStripe key s).outer = s.outer := by
  unfold closeStripe
  split
  · rfl
  · extract_lets n pads nd s1
    have h1 : s1.outer = s.outer := outer_forEach _ _ (fun _ _ => outer_putOwner ..) _
    clear_value s1
    split
    · rw [outer_addBytes, outer_putOwner, outer_mk]; exact h1
    · rw [outer_mk]; exact h1

@[simp] theorem outer_noteStripe (n : Nat) (cipher : List LineData) (s : State) :
    (noteStripe n cipher s).outer = s.outer := by
  unfold noteStripe
  split
  · rfl
  · extract_lets key x own y nd s1
    have h1 : s1.outer = s.outer := rfl
    clear_value s1
    split
    · rw [outer_closeStripe, h1]
    · exact h1

@[simp] theorem outer_programSlot (n g t kind : Nat) (l : List LineData) (s : State) :
    (programSlot n g t kind l s).outer = s.outer := by
  unfold programSlot
  simp

@[simp] theorem outer_padSlot (n : Nat) (s : State) : (padSlot n s).outer = s.outer := by unfold padSlot; simp

@[simp] theorem outer_queueReloc (n : Nat) (s : State) : (queueReloc n s).outer = s.outer := by
  unfold queueReloc
  simp

@[simp] theorem outer_settleDie (k : Nat) (s : State) : (settleDie k s).outer = s.outer := by unfold settleDie; simp
@[simp] theorem outer_retireDie (k : Nat) (s : State) : (retireDie k s).outer = s.outer := by unfold retireDie; simp

@[simp] theorem outer_startRebuild (s : State) : (startRebuild s).outer = s.outer := by
  unfold startRebuild
  (try dsimp only)
  (repeat' split) <;> simp

@[simp] theorem outer_rewrite (k : Nat) (p : Prog) (s : State) : (rewrite k p s).outer = s.outer := by
  unfold rewrite
  extract_lets td s1
  have h1 : s1.outer = s.outer := rfl
  clear_value s1
  cases h : placeProg p (some k) s1
  · simpa using h1
  · simpa using (outer_placeProg h).trans h1

@[simp] theorem outer_killDie (k : Nat) (s : State) : (killDie k s).outer = s.outer := by
  unfold killDie
  extract_lets d s1 nd s2
  have h1 : s1.outer = s.outer := by simp [s1]
  have h2 : s2.outer = s.outer := h1
  clear_value s2
  split
  · rw [outer_startRebuild, outer_forEach _ _ (fun _ _ => outer_rewrite ..), h2]
  · rfl

@[simp] theorem outer_dieFail (k : Nat) (s : State) : (dieFail k s).outer = s.outer := by unfold dieFail; simp

@[simp] theorem outer_retireBlock (b : Nat) (s : State) : (retireBlock b s).outer = s.outer := by
  unfold retireBlock
  simp

@[simp] theorem outer_settleBlock (b : Nat) (s : State) : (settleBlock b s).outer = s.outer := by
  unfold settleBlock
  simp

@[simp] theorem outer_countBlock (b k : Nat) (s : State) : (countBlock b k s).outer = s.outer := by
  unfold countBlock
  simp

@[simp] theorem outer_countReads (n k : Nat) (s : State) : (countReads n k s).outer = s.outer := by
  unfold countReads
  simp

@[simp] theorem outer_reapDie (k : Nat) (s : State) : (reapDie k s).outer = s.outer := by unfold reapDie; simp

@[simp] theorem outer_askRead (p : Promo) (s : State) : (askRead p s).outer = s.outer := by
  unfold askRead
  (try dsimp only)
  (repeat' split) <;> simp

@[simp] theorem outer_growCellar (s : State) : (growCellar s).outer = s.outer := by unfold growCellar; simp
@[simp] theorem outer_settleNand (s : State) : (settleNand s).outer = s.outer := by
  unfold settleNand
  extract_lets s0 s1 s2
  have h0 : s0.outer = s.outer := by simp [s0]
  have h1 : s1.outer = s.outer := by rw [← h0]; simp [s1]
  have h2 : s2.outer = s.outer := by rw [← h1]; simp [s2]
  clear_value s2
  rw [outer_growCellar, outer_forEach _ _ (fun _ _ => outer_settleDie ..), h2]

@[simp] theorem outer_celWrite (v : Nat) (x : CelSect) (key : Option Nat) (s : State) :
    (celWrite v x key s).outer = s.outer := by
  unfold celWrite
  (try dsimp only)
  (repeat' split) <;> simp

@[simp] theorem outer_celWriteN (v : Nat) (x : CelSect) (n : Nat) (s : State) :
    (celWriteN v x n s).outer = s.outer := by
  unfold celWriteN
  simp

@[simp] theorem outer_celErase (b : Nat) (s : State) : (celErase b s).outer = s.outer := by unfold celErase; simp

@[simp] theorem outer_anchorPut (i : Nat) (fresh : Bool) (r : AnchorRec) (s : State) :
    (anchorPut i fresh r s).outer = s.outer := by
  unfold anchorPut
  simp

@[simp] theorem outer_anchorWrite (r : AnchorRec) (s : State) : (anchorWrite r s).outer = s.outer := by
  unfold anchorWrite
  simp

/-! ### Channel -/

@[simp] theorem outer_updCh (n : Nat) (f : DramCh → DramCh) (s : State) : (updCh n f s).outer = s.outer := by
  unfold updCh
  simp

@[simp] theorem outer_dramEvent (n off : Nat) (s : State) : (dramEvent n off s).outer = s.outer := by
  unfold dramEvent
  simp

@[simp] theorem outer_logUe (f i src cls action : Nat) (s : State) :
    (logUe f i src cls action s).outer = s.outer := by
  unfold logUe
  simp

@[simp] theorem outer_demandUe (f i src cls : Nat) (s : State) : (demandUe f i src cls s).outer = s.outer := by
  unfold demandUe
  simp

@[simp] theorem outer_updRank (ch r : Nat) (f : Rank → Rank) (s : State) : (updRank ch r f s).outer = s.outer := by
  unfold updRank
  simp

@[simp] theorem outer_wakeCh (n : Nat) (s : State) : (wakeCh n s).outer = s.outer := by unfold wakeCh; simp

@[simp] theorem outer_wakeLine (f i : Nat) (s : State) : (wakeLine f i s).outer = s.outer := by
  unfold wakeLine
  simp

@[simp] theorem outer_wakeFrame (f : Nat) (s : State) : (wakeFrame f s).outer = s.outer := by
  unfold wakeFrame
  (try dsimp only)
  (repeat' split) <;> simp

@[simp] theorem outer_wakeTile (g t : Nat) (s : State) : (wakeTile g t s).outer = s.outer := by
  unfold wakeTile
  (try dsimp only)
  (repeat' split) <;> simp

@[simp] theorem outer_updSub (k : Nat) (f : DramSub → DramSub) (s : State) : (updSub k f s).outer = s.outer := by
  unfold updSub
  simp

@[simp] theorem outer_endBurst (ch rank : Nat) (s : State) : (endBurst ch rank s).outer = s.outer := by
  unfold endBurst
  simp

@[simp] theorem outer_issueOne (k : Nat) (s : State) : (issueOne k s).outer = s.outer := by
  unfold issueOne
  (try dsimp only)
  (repeat' split) <;> simp

theorem outer_passReq {kind : ReqKind} {g a lines n : Nat} {s u : State} (h : passReq kind g a lines n s = some u) :
    u.outer = s.outer := by
  unfold passReq at h
  split at h
  · contradiction
  · dsimp only at h
    split at h
    · contradiction
    · cases h
      split <;> simp

@[simp] theorem outer_issueTo (fuel : Nat) (kind : ReqKind) (g a k : Nat) (s : State) :
    (issueTo fuel kind g a k s).outer = s.outer := by
  induction fuel generalizing s with
  | zero => rfl
  | succ n ih =>
    unfold issueTo
    split
    · split
      · rfl
      · rw [ih, outer_issueOne]
    · rfl

theorem outer_finishReq {kind : ReqKind} {g a : Nat} {s u : State} (h : finishReq kind g a s = some u) :
    u.outer = s.outer := by
  unfold finishReq at h
  split at h
  · contradiction
  · dsimp only at h
    split at h
    · split at h
      · contradiction
      · cases h; simp
    · contradiction

@[simp] theorem outer_dropReqs (g t : Nat) (s : State) : (dropReqs g t s).outer = s.outer := by
  unfold dropReqs
  simp

@[simp] theorem outer_dropEvicts (g t : Nat) (s : State) : (dropEvicts g t s).outer = s.outer := by
  unfold dropEvicts
  simp

@[simp] theorem outer_schedule (s : State) : (schedule s).outer = s.outer := by unfold schedule; simp

/-! ### CanopyOps -/

@[simp] theorem outer_updCanSet (k : Nat) (f : CanSet → CanSet) (s : State) : (updCanSet k f s).outer = s.outer := by
  unfold updCanSet
  simp

@[simp] theorem outer_putWay (k w : Nat) (x : Way) (s : State) : (putWay k w x s).outer = s.outer := by
  unfold putWay
  simp

@[simp] theorem outer_dropWay (k w : Nat) (s : State) : (dropWay k w s).outer = s.outer := by unfold dropWay; simp

@[simp] theorem outer_touchWay (k w : Nat) (s : State) : (touchWay k w s).outer = s.outer := by
  unfold touchWay
  simp

@[simp] theorem outer_updLine (g a : Nat) (f : Way → Way) (s : State) : (updLine g a f s).outer = s.outer := by
  unfold updLine
  (try dsimp only)
  (repeat' split) <;> simp

@[simp] theorem outer_setWf (sl : Nat) (l : List WfLine) (s : State) : (setWf sl l s).outer = s.outer := by
  unfold setWf
  simp

@[simp] theorem outer_setTrk (sl : Nat) (l : List TrkEntry) (s : State) : (setTrk sl l s).outer = s.outer := by
  unfold setTrk
  simp

@[simp] theorem outer_dropWf (g a : Nat) (s : State) : (dropWf g a s).outer = s.outer := by unfold dropWf; simp

@[simp] theorem outer_pushWf (g a : Nat) (st : LineState) (d : LineData) (s : State) :
    (pushWf g a st d s).outer = s.outer := by
  unfold pushWf
  simp

theorem outer_passEntry (acc : State × List TrkEntry) (x : TrkEntry) :
    (passEntry acc x).1.outer = acc.1.outer := by
  unfold passEntry
  extract_lets s held
  have h0 : s.outer = acc.1.outer := outer_firstFrame ..
  clear_value s
  repeat' split
  · rfl
  · rfl
  · next h => exact (outer_passReq h).trans h0
  · rfl

@[simp] theorem outer_passTrk (sl : Nat) (s : State) : (passTrk sl s).outer = s.outer := by
  unfold passTrk
  rw [outer_setTrk, outer_foldl _ (fun a x => outer_passEntry a x)]

@[simp] theorem outer_pushTrk (g a : Nat) (d : LineData) (m : Mask) (walk : Bool) (src : Option Nat)
    (s : State) : (pushTrk g a d m walk src s).outer = s.outer := by
  unfold pushTrk
  simp

@[simp] theorem outer_setLand (g a : Nat) (e : Option LandEntry) (s : State) : (setLand g a e s).outer = s.outer := by
  unfold setLand
  simp

@[simp] theorem outer_landGet (g a : Nat) (s : State) : (landGet g a s).outer = s.outer := by unfold landGet; simp

@[simp] theorem outer_landMerge (g a : Nat) (d : LineData) (m : Mask) (seq src : Nat) (s : State) :
    (landMerge g a d m seq src s).outer = s.outer := by
  unfold landMerge
  simp

@[simp] theorem outer_canErrLog (e sl way set g : Nat) (s : State) :
    (canErrLog e sl way set g s).outer = s.outer := by
  unfold canErrLog
  simp

@[simp] theorem outer_dropErrs (p : ErrPlace) (tags : Bool) (s : State) : (dropErrs p tags s).outer = s.outer := by
  unfold dropErrs
  simp

@[simp] theorem outer_addErr (g a : Nat) (chk : ArrayCheck) (s : State) : (addErr g a chk s).outer = s.outer := by
  unfold addErr
  (try dsimp only)
  (repeat' split) <;> simp

@[simp] theorem outer_addErrs (errs : List (Nat × Nat × ArrayCheck)) (s : State) :
    (addErrs errs s).outer = s.outer := by
  unfold addErrs
  simp

@[simp] theorem outer_loseWay (e k w g : Nat) (s : State) : (loseWay e k w g s).outer = s.outer := by
  unfold loseWay
  simp

@[simp] theorem outer_tagError (e : ArrErr) (s : State) : ((tagError e s).1).outer = s.outer := by
  unfold tagError
  (try dsimp only)
  (repeat' split) <;> simp

@[simp] theorem outer_checkTags (here : Nat → Bool) (s : State) : ((checkTags here s).1).outer = s.outer := by
  unfold checkTags
  rw [outer_foldl]
  exact fun e acc => outer_tagError acc e.1

@[simp] theorem outer_dataError (k w : Nat) (x : Way) (chk : ArrayCheck) (s : State) :
    ((dataError k w x chk s).1).outer = s.outer := by
  unfold dataError
  (try dsimp only)
  (repeat' split) <;> simp

@[simp] theorem outer_dataCheck (k w : Nat) (x : Way) (s : State) : ((dataCheck k w x s).1).outer = s.outer := by
  unfold dataCheck
  rw [outer_foldl, outer_dropErrs]
  intro acc e
  split <;> simp

@[simp] theorem outer_wfCheck (g a : Nat) (s : State) : (wfCheck g a s).outer = s.outer := by unfold wfCheck; simp

@[simp] theorem outer_trkCheck (g a : Nat) (s : State) : ((trkCheck g a s).1).outer = s.outer := by
  unfold trkCheck
  (try dsimp only)
  (repeat' split) <;> simp

@[simp] theorem outer_checkWrite (g a : Nat) (m : Mask) (s : State) : (checkWrite g a m s).outer = s.outer := by
  unfold checkWrite
  (try dsimp only)
  (repeat' split) <;> simp

@[simp] theorem outer_evict (k w : Nat) (s : State) : (evict k w s).outer = s.outer := by
  unfold evict
  (try dsimp only)
  (repeat' split) <;> simp

@[simp] theorem outer_install (g a cls : Nat) (st : LineState) (pin fill : Bool) (d : LineData) (m : Mask)
    (s : State) : (install g a cls st pin fill d m s).outer = s.outer := by
  unfold install
  (try dsimp only)
  (repeat' split) <;> simp

@[simp] theorem outer_recallLine (g a : Nat) (x : WfLine) (s : State) : (recallLine g a x s).outer = s.outer := by
  unfold recallLine
  simp

@[simp] theorem outer_setMiss (sl : Nat) (l : List Miss) (s : State) : (setMiss sl l s).outer = s.outer := by
  unfold setMiss
  simp

theorem outer_passFill (acc : State × List Miss) (m : Miss) : (passFill acc m).1.outer = acc.1.outer := by
  unfold passFill
  repeat' split
  · rfl
  · next h => exact outer_passReq h
  · rfl

@[simp] theorem outer_passMiss (sl : Nat) (s : State) : (passMiss sl s).outer = s.outer := by
  unfold passMiss
  rw [outer_setMiss, outer_foldl _ (fun a x => outer_passFill a x)]

@[simp] theorem outer_passAll (s : State) : (passAll s).outer = s.outer := by unfold passAll; simp

@[simp] theorem outer_joinMiss (g a n : Nat) (w : Waiter) (s : State) : (joinMiss g a n w s).outer = s.outer := by
  unfold joinMiss
  (try dsimp only)
  (repeat' split) <;> simp

@[simp] theorem outer_fillFor (g a n : Nat) (s : State) : (fillFor g a n s).outer = s.outer := by
  unfold fillFor
  (try dsimp only)
  (repeat' split) <;> simp

@[simp] theorem outer_flushTracker (g t : Nat) (s : State) : (flushTracker g t s).outer = s.outer := by
  unfold flushTracker
  simp

@[simp] theorem outer_invalidateWay (x : Nat × Nat × Way) (s : State) : (invalidateWay x s).outer = s.outer := by
  unfold invalidateWay
  (try dsimp only)
  (repeat' split) <;> simp

@[simp] theorem outer_settleTile (g t : Nat) (s : State) : (settleTile g t s).outer = s.outer := by
  unfold settleTile
  simp

@[simp] theorem outer_cleanDirty (s : State) : (cleanDirty s).outer = s.outer := by
  unfold cleanDirty
  refine outer_forEach _ _ (fun p t => ?_) _
  split
  · rfl
  · extract_lets c u
    have hc : c.1.outer = t.outer := outer_dataCheck ..
    have hu : u.outer = c.1.outer := (outer_dropEvicts ..).trans (outer_flushTracker ..)
    clear_value u
    clear_value c
    repeat' split
    · exact hc
    · rw [outer_putWay, outer_landMerge, hc]
    · rw [outer_putWay, outer_writeT1, outer_chargeLines, hu, hc]
    · rw [outer_putWay, outer_writeT1, outer_chargeLines, hu, hc]

@[simp] theorem outer_forget (mine : Nat → Nat → Bool) (s : State) : (forget mine s).outer = s.outer := by
  unfold forget
  simp

@[simp] theorem outer_unsend (g t : Nat) (s : State) : (unsend g t s).outer = s.outer := by unfold unsend; simp

/-! ### MonOps -/

@[simp] theorem outer_bumpPerf (u c n : Nat) (s : State) : (bumpPerf u c n s).outer = s.outer := by
  unfold bumpPerf
  simp

@[simp] theorem outer_perfUnit (r : PReq) (ev n u : Nat) (s : State) : (perfUnit r ev n u s).outer = s.outer := by
  unfold perfUnit
  simp

@[simp] theorem outer_perfAdd (r : PReq) (ev n : Nat) (s : State) : (perfAdd r ev n s).outer = s.outer := by
  unfold perfAdd
  simp

@[simp] theorem outer_perfLat (r : PReq) (ns : Nat) (s : State) : (perfLat r ns s).outer = s.outer := by
  unfold perfLat
  simp

@[simp] theorem outer_moved (cls src g a n : Nat) (s : State) : (moved cls src g a n s).outer = s.outer := by
  unfold moved
  simp

@[simp] theorem outer_ttLookup (r : PReq) (g t : Nat) (s : State) : (ttLookup r g t s).outer = s.outer := by
  unfold ttLookup
  simp

@[simp] theorem outer_recSample (p v : Nat) (s : State) : (recSample p v s).outer = s.outer := by
  unfold recSample
  simp

@[simp] theorem outer_updPort (p : Nat) (f : HostPort → HostPort) (s : State) : (updPort p f s).outer = s.outer := by
  unfold updPort
  simp

@[simp] theorem outer_updLd (p l : Nat) (f : Ld → Ld) (s : State) : (updLd p l f s).outer = s.outer := by
  unfold updLd
  simp

@[simp] theorem outer_postRec (p l log kind : Nat) (detail : List Nat) (s : State) :
    (postRec p l log kind detail s).outer = s.outer := by
  unfold postRec
  simp

@[simp] theorem outer_portEvent (p off : Nat) (s : State) : (portEvent p off s).outer = s.outer := by
  unfold portEvent
  simp

@[simp] theorem outer_portReset (p : Nat) (s : State) : (portReset p s).outer = s.outer := by unfold portReset; simp

@[simp] theorem outer_portInternal (p : Nat) (s : State) : (portInternal p s).outer = s.outer := by
  unfold portInternal
  simp

@[simp] theorem outer_hostDown (p : Nat) (s : State) : (hostDown p s).outer = s.outer := by unfold hostDown; simp

@[simp] theorem outer_setSlot (n : Nat) (x : Slot) (s : State) : (setSlot n x s).outer = s.outer := by
  unfold setSlot
  simp

@[simp] theorem outer_zeroSlot (n : Nat) (s : State) : (zeroSlot n s).outer = s.outer := by unfold zeroSlot; simp

@[simp] theorem outer_setWrap (n gen : Nat) (w : Option Wrapped) (s : State) :
    (setWrap n gen w s).outer = s.outer := by
  unfold setWrap
  simp

@[simp] theorem outer_appendWrap (k : Nat) (s : State) : (appendWrap k s).outer = s.outer := by
  unfold appendWrap
  simp

@[simp] theorem outer_storeSlot (n : Nat) (s : State) : (storeSlot n s).outer = s.outer := by unfold storeSlot; simp
@[simp] theorem outer_startRoll (n : Nat) (s : State) : (startRoll n s).outer = s.outer := by unfold startRoll; simp

@[simp] theorem outer_slotExhausted (n : Nat) (s : State) : (slotExhausted n s).outer = s.outer := by
  unfold slotExhausted
  (try dsimp only)
  (repeat' split) <;> simp

@[simp] theorem outer_countSlot (n k : Nat) (s : State) : (countSlot n k s).outer = s.outer := by
  unfold countSlot
  simp

@[simp] theorem outer_useSlot (n k : Nat) (s : State) : (useSlot n k s).outer = s.outer := by unfold useSlot; simp

@[simp] theorem outer_useGrove (g t k : Nat) (s : State) : (useGrove g t k s).outer = s.outer := by
  unfold useGrove
  simp

/-! ### IntegOps -/

@[simp] theorem outer_setMapEntry (src e : Nat) (x : Option MapEntry) (s : State) :
    (setMapEntry src e x s).outer = s.outer := by
  unfold setMapEntry
  simp

@[simp] theorem outer_readMapEntry (src e : Nat) (s : State) : ((readMapEntry src e s).1).outer = s.outer := by
  unfold readMapEntry
  simp

/-! ### UtlOps -/

@[simp] theorem outer_derive (n : Nat) (s : State) : (derive n s).outer = s.outer := by
  unfold derive
  (try dsimp only)
  (repeat' split) <;> simp

@[simp] theorem outer_sessionKeys (own peer : BitVec 256) (s : State) : (sessionKeys own peer s).outer = s.outer := by
  unfold sessionKeys
  simp

@[simp] theorem outer_txFrame (f : Frame) (s : State) : (txFrame f s).outer = s.outer := by unfold txFrame; simp
@[simp] theorem outer_sendUtl (f : Frame) (s : State) : (sendUtl f s).outer = s.outer := by unfold sendUtl; simp
@[simp] theorem outer_pumpTx (fuel : Nat) (s : State) : (pumpTx fuel s).outer = s.outer := by
  induction fuel generalizing s with
  | zero => rfl
  | succ n ih =>
    unfold pumpTx
    split
    · rfl
    · split
      · rw [ih]; rfl
      · rfl

@[simp] theorem outer_sendNet (f : Frame) (s : State) : (sendNet f s).outer = s.outer := by
  unfold sendNet
  (try dsimp only)
  (repeat' split) <;> simp

@[simp] theorem outer_sendBoth (f : Frame) (s : State) : (sendBoth f s).outer = s.outer := by unfold sendBoth; simp

@[simp] theorem outer_sendLandingAck (s : State) : (sendLandingAck s).outer = s.outer := by
  unfold sendLandingAck
  simp

@[simp] theorem outer_utlDown (s : State) : (utlDown s).outer = s.outer := by unfold utlDown; simp

/-! ### DataOps -/

@[simp] theorem outer_updQp (n : Nat) (f : Qp → Qp) (s : State) : (updQp n f s).outer = s.outer := by
  unfold updQp
  (try dsimp only)
  (repeat' split) <;> simp

@[simp] theorem outer_updPeer (n : Nat) (f : Peer → Peer) (s : State) : (updPeer n f s).outer = s.outer := by
  unfold updPeer
  (try dsimp only)
  (repeat' split) <;> simp

@[simp] theorem outer_sendPeer (n eng : Nat) (o : Out) (s : State) : (sendPeer n eng o s).outer = s.outer := by
  unfold sendPeer
  (try dsimp only)
  (repeat' split) <;> simp

@[simp] theorem outer_sendQp (q : Nat) (o : Out) (s : State) : (sendQp q o s).outer = s.outer := by
  unfold sendQp
  (try dsimp only)
  (repeat' split) <;> simp

@[simp] theorem outer_sendIp (ip : BitVec 128) (eng : Nat) (o : Out) (s : State) :
    (sendIp ip eng o s).outer = s.outer := by
  unfold sendIp
  (try dsimp only)
  (repeat' split) <;> simp

@[simp] theorem outer_sendNakTo (ip : BitVec 128) (qpn psn code addr : Nat) (hint : Bool) (s : State) :
    (sendNakTo ip qpn psn code addr hint s).outer = s.outer := by
  unfold sendNakTo
  simp

@[simp] theorem outer_sendNak (qpn psn code addr : Nat) (s : State) :
    (sendNak qpn psn code addr s).outer = s.outer := by
  unfold sendNak
  simp

@[simp] theorem outer_impliesAck (q psn : Nat) (s : State) : (impliesAck q psn s).outer = s.outer := by
  unfold impliesAck
  simp

@[simp] theorem outer_refuseCxl (r : CxlReq) (reason : Nat) (write : Bool) (dpa : Nat) (g : Option Nat)
    (s : State) : (refuseCxl r reason write dpa g s).outer = s.outer := by
  unfold refuseCxl
  simp

@[simp] theorem outer_setMark (src g : Nat) (s : State) : (setMark src g s).outer = s.outer := by
  unfold setMark
  simp

@[simp] theorem outer_stampInput (src : Nat) (op : InOp) (ack : AckTo) (origin : Nat) (key : BitVec 64)
    (raddr : Nat) (s : State) : (stampInput src op ack origin key raddr s).outer = s.outer := by
  unfold stampInput
  simp

@[simp] theorem outer_localInput (op : InOp) (s : State) : (localInput op s).outer = s.outer := by
  unfold localInput
  simp

@[simp] theorem outer_localPass (src : Nat) (s : State) : (localPass src s).outer = s.outer := by
  unfold localPass
  simp

@[simp] theorem outer_answerAck (a : AckTo) (level : Level) (gtc src : Nat) (s : State) :
    (answerAck a level gtc src s).outer = s.outer := by
  unfold answerAck
  (try dsimp only)
  (repeat' split) <;> simp

@[simp] theorem outer_updPlacing (id : Nat) (f : Placing → Placing) (s : State) :
    (updPlacing id f s).outer = s.outer := by
  unfold updPlacing
  simp

@[simp] theorem outer_tryAck (id : Nat) (s : State) : (tryAck id s).outer = s.outer := by
  unfold tryAck
  (try dsimp only)
  (repeat' split) <;> simp

@[simp] theorem outer_pieceDone (id : Nat) (s : State) : (pieceDone id s).outer = s.outer := by
  unfold pieceDone
  simp

@[simp] theorem outer_mirrorToLocal (s : State) : (mirrorToLocal s).outer = s.outer := by unfold mirrorToLocal; simp

@[simp] theorem outer_mirrorAcked (upto : Nat) (s : State) : (mirrorAcked upto s).outer = s.outer := by
  unfold mirrorAcked
  simp

@[simp] theorem outer_foldDigest (seq : Nat) (r : StampRec) (s : State) : (foldDigest seq r s).outer = s.outer := by
  unfold foldDigest
  simp

@[simp] theorem outer_flushRecs (fuel : Nat) (s : State) : (flushRecs fuel s).outer = s.outer := by
  induction fuel generalizing s with
  | zero => rfl
  | succ n ih =>
    unfold flushRecs
    split <;> simp [ih]

@[simp] theorem outer_fillRec (seq : Nat) (r : StampRec) (s : State) : (fillRec seq r s).outer = s.outer := by
  unfold fillRec
  simp

@[simp] theorem outer_retain (seq g line gtc src : Nat) (s : State) :
    (retain seq g line gtc src s).outer = s.outer := by
  unfold retain
  simp

@[simp] theorem outer_enqueue (q : QAcc) (s : State) : (enqueue q s).outer = s.outer := by unfold enqueue; simp

@[simp] theorem outer_answerRead (id g a : Nat) (d : Option LineData) (hit : Bool) (s : State) :
    (answerRead id g a d hit s).outer = s.outer := by
  unfold answerRead
  (try dsimp only)
  (repeat' split) <;> simp

@[simp] theorem outer_finishJob (j : ReadJob) (s : State) : (finishJob j s).outer = s.outer := by
  unfold finishJob
  (try dsimp only)
  (repeat' split) <;> simp

@[simp] theorem outer_gotLine (id g a : Nat) (d : Option LineData) (s : State) :
    (gotLine id g a d s).outer = s.outer := by
  unfold gotLine
  (try dsimp only)
  (repeat' split) <;> simp

@[simp] theorem outer_mergeWay (g a : Nat) (d : LineData) (m : Mask) (st : LineState) (s : State) :
    (mergeWay g a d m st s).outer = s.outer := by
  unfold mergeWay
  (try dsimp only)
  (repeat' split) <;> simp

@[simp] theorem outer_mergeWf (g a : Nat) (d : LineData) (m : Mask) (st : LineState) (s : State) :
    (mergeWf g a d m st s).outer = s.outer := by
  unfold mergeWf
  simp

@[simp] theorem outer_allocWrite (g a n : Nat) (d : LineData) (m : Mask) (st : LineState) (s : State) :
    (allocWrite g a n d m st s).outer = s.outer := by
  unfold allocWrite
  simp

@[simp] theorem outer_landWrite (id g : Nat) (p : Piece) (seq : Nat) (s0 : State) :
    (landWrite id g p seq s0).outer = s0.outer := by
  unfold landWrite
  (try dsimp only)
  (repeat' split) <;> simp

@[simp] theorem outer_volApply (id g : Nat) (p : Piece) (s0 : State) : (volApply id g p s0).outer = s0.outer := by
  unfold volApply
  (try dsimp only)
  (repeat' split) <;> simp

@[simp] theorem outer_atomicDone (a : AckTo) (orig : BitVec 64) (s : State) :
    (atomicDone a orig s).outer = s.outer := by
  unfold atomicDone
  (try dsimp only)
  (repeat' split) <;> simp

@[simp] theorem outer_atomicExec (id seq : Nat) (i : Input) (d : Option LineData) (s : State) :
    (atomicExec id seq i d s).outer = s.outer := by
  unfold atomicExec
  (try dsimp only)
  (repeat' split) <;> simp

@[simp] theorem outer_deliver (g a : Nat) (d : Option LineData) (hit : Bool) (w : Waiter) (s : State) :
    (deliver g a d hit w s).outer = s.outer := by
  unfold deliver
  (try dsimp only)
  (repeat' split) <;> simp

@[simp] theorem outer_updPromo (g t : Nat) (f : Promo → Promo) (s : State) : (updPromo g t f s).outer = s.outer := by
  unfold updPromo
  simp

@[simp] theorem outer_startPromo {g t kind line : Nat} {pin : Bool} {s u : State}
    (h : startPromo g t kind line pin s = some u) : u.outer = s.outer := by
  unfold startPromo at h
  split at h
  · contradiction
  · split at h
    · contradiction
    · extract_lets p s1 td s2 s3 at h
      have h1 : s1.outer = s.outer := outer_takeFrame ..
      clear_value s1
      have h2 : s2.outer = s.outer := h1
      clear_value s2
      have h3 : s3.outer = s2.outer := by
        unfold s3
        repeat' split
        all_goals first
          | rfl
          | exact outer_pushDie ..
      clear_value s3
      cases h
      rw [outer_localPass, outer_onlyIf _ _ _ (fun _ => outer_perfAdd ..), h3, h2]

@[simp] theorem outer_startPromo_getD {g t kind line : Nat} {pin : Bool} {s u : State} (hu : u.outer = s.outer) :
    ((startPromo g t kind line pin s).getD u).outer = s.outer := by
  cases h : startPromo g t kind line pin s with
  | none => exact hu
  | some v => exact outer_startPromo h

@[simp] theorem outer_noFrame (s : State) : (noFrame s).outer = s.outer := by unfold noFrame; simp
@[simp] theorem outer_demand (g a : Nat) (w : Waiter) (s : State) : (demand g a w s).outer = s.outer := by
  unfold demand
  split
  · rename_i h
    rw [outer_updPromo, outer_startPromo h]
  · simp

@[simp] theorem outer_directRead (g a : Nat) (s : State) : (directRead g a s).outer = s.outer := by
  unfold directRead
  split
  · simp
  · extract_lets p
    have hp : p.2.outer = s.outer := outer_onlyIf _ _ _ (fun _ => outer_raise ..)
    clear_value p
    rw [outer_startPromo_getD ((outer_noFrame s).trans hp.symm), hp]

@[simp] theorem outer_serveLates (g t : Nat) (s : State) : (serveLates g t s).outer = s.outer := by
  unfold serveLates
  simp

@[simp] theorem outer_lateTouch (g a : Nat) (w : Waiter) (q : QEntry) (s : State) :
    (lateTouch g a w q s).outer = s.outer := by
  unfold lateTouch
  simp

@[simp] theorem outer_readCold (g a : Nat) (w : Waiter) (s : State) : (readCold g a w s).outer = s.outer := by
  unfold readCold
  (try dsimp only)
  (repeat' split) <;> simp

@[simp] theorem outer_sampleHit (g a : Nat) (s : State) : (sampleHit g a s).outer = s.outer := by
  unfold sampleHit
  simp

@[simp] theorem outer_readBelow (g a : Nat) (w : Waiter) (r : PReq) (s : State) :
    (readBelow g a w r s).outer = s.outer := by
  unfold readBelow
  (try dsimp only)
  (repeat' split) <;> simp

@[simp] theorem outer_readHit (g a k n : Nat) (y : Way) (slow : Bool) (w : Waiter) (r : PReq) (s : State) :
    (readHit g a k n y slow w r s).outer = s.outer := by
  unfold readHit
  simp

@[simp] theorem outer_readLine (g a : Nat) (w : Waiter) (r : PReq) (s0 : State) :
    (readLine g a w r s0).outer = s0.outer := by
  unfold readLine
  (try dsimp only)
  (repeat' split) <;> simp

@[simp] theorem outer_readAt (g a : Nat) (w : Waiter) (r : PReq) (s : State) :
    (readAt g a w r s).outer = s.outer := by
  unfold readAt
  simp

@[simp] theorem outer_placePiece (id g seq : Nat) (land : Bool) (p : Piece) (s0 : State) :
    (placePiece id g seq land p s0).outer = s0.outer := by
  unfold placePiece
  simp

@[simp] theorem outer_retryOne (q : QAcc) (s : State) : (retryOne q s).outer = s.outer := by
  unfold retryOne
  (try dsimp only)
  (repeat' split) <;> simp

@[simp] theorem outer_retryLate (l : LateTouch) (s : State) : (retryLate l s).outer = s.outer := by
  unfold retryLate
  simp

@[simp] theorem outer_runQueue (s0 : State) : (runQueue s0).outer = s0.outer := by unfold runQueue; simp

@[simp] theorem outer_passLine (g a : Nat) (s : State) : (passLine g a s).outer = s.outer := by
  unfold passLine
  (try dsimp only)
  (repeat' split) <;> simp

/-! ### CopOps -/

@[simp] theorem outer_poolSettle (p : Nat) (s : State) : (poolSettle p s).outer = s.outer := by
  unfold poolSettle
  simp

@[simp] theorem outer_copSettle (s : State) : (copSettle s).outer = s.outer := by unfold copSettle; simp
@[simp] theorem outer_copAlloc {p owner : Nat} {grant : Bool} {s u : State}
    (h : copAlloc p owner grant s = some u) : u.outer = s.outer := by
  unfold copAlloc at h
  (repeat' split at h) <;> simp at h <;> subst h <;> simp

@[simp] theorem outer_badFree (double : Bool) (blk idx owner who : Nat) (s : State) :
    (badFree double blk idx owner who s).outer = s.outer := by
  unfold badFree
  simp

@[simp] theorem outer_setOwner (blk idx : Nat) (heir : Option Nat) (s : State) :
    (setOwner blk idx heir s).outer = s.outer := by
  unfold setOwner
  (try dsimp only)
  (repeat' split) <;> simp

@[simp] theorem outer_copHand (blk idx who : Nat) (heir : Option Nat) (s : State) :
    (copHand blk idx who heir s).outer = s.outer := by
  unfold copHand
  (try dsimp only)
  (repeat' split) <;> simp

@[simp] theorem outer_copFree (p owner : Nat) (s : State) : (copFree p owner s).outer = s.outer := by
  unfold copFree
  (try dsimp only)
  (repeat' split) <;> simp

@[simp] theorem outer_reapBufs (s : State) : (reapBufs s).outer = s.outer := by unfold reapBufs; simp

@[simp] theorem outer_copRead (mem : Nat) (s : State) : ((copRead mem s).1).outer = s.outer := by
  unfold copRead
  (try dsimp only)
  (repeat' split) <;> simp

/-! ### DramOps -/

@[simp] theorem outer_corrected (f i : Nat) (s : State) : (corrected f i s).outer = s.outer := by
  unfold corrected
  simp

@[simp] theorem outer_fromPeer (g t i : Nat) (s : State) : ((fromPeer g t i s).1).outer = s.outer := by
  unfold fromPeer
  simp

@[simp] theorem outer_copierSource (g t i f src : Nat) (s : State) :
    ((copierSource g t i f src s).1).outer = s.outer := by
  unfold copierSource
  (try dsimp only)
  (repeat' split) <;> simp

@[simp] theorem outer_copierLine (g t i src : Nat) (s : State) : ((copierLine g t i src s).1).outer = s.outer := by
  unfold copierLine
  (try dsimp only)
  (repeat' split) <;> simp

@[simp] theorem outer_copierScan (g t src : Nat) (s : State) : (copierScan g t src s).outer = s.outer := by
  unfold copierScan
  apply outer_forEach
  intro i u
  dsimp only
  split <;> simp

@[simp] theorem outer_setChannels (n : Nat) (f : DramCh → DramCh) (s : State) :
    (setChannels n f s).outer = s.outer := by
  unfold setChannels
  simp

@[simp] theorem outer_startEvac (n : Nat) (s : State) : (startEvac n s).outer = s.outer := by unfold startEvac; simp
@[simp] theorem outer_tryEvac (n : Nat) (s : State) : (tryEvac n s).outer = s.outer := by unfold tryEvac; simp

@[simp] theorem outer_finishEvac (s : State) : (finishEvac s).outer = s.outer := by
  unfold finishEvac
  (try dsimp only)
  (repeat' split) <;> simp

/-! ### PowerOps -/

@[simp] theorem outer_modPwr (f : Pwr → Pwr) (s : State) : (modPwr f s).outer = s.outer := by unfold modPwr; simp

@[simp] theorem outer_updNet (p : Nat) (f : NetPort → NetPort) (s : State) : (updNet p f s).outer = s.outer := by
  unfold updNet
  simp

@[simp] theorem outer_netDown (p : Nat) (s : State) : (netDown p s).outer = s.outer := by unfold netDown; simp
@[simp] theorem outer_netHold (p : Nat) (s : State) : (netHold p s).outer = s.outer := by unfold netHold; simp
@[simp] theorem outer_sendLeaving (s : State) : (sendLeaving s).outer = s.outer := by unfold sendLeaving; simp

@[simp] theorem outer_placeQueued (q : QAcc) (s : State) : (placeQueued q s).outer = s.outer := by
  unfold placeQueued
  (try dsimp only)
  (repeat' split) <;> simp

@[simp] theorem outer_quiesce (s : State) : (quiesce s).outer = s.outer := by unfold quiesce; simp
@[simp] theorem outer_linksDown (s : State) : (linksDown s).outer = s.outer := by unfold linksDown; simp

@[simp] theorem outer_putStore (a v : Nat) (s : State) : (putStore a v s).outer = s.outer := by
  unfold putStore
  simp

@[simp] theorem outer_abandonStore (s : State) : (abandonStore s).outer = s.outer := by
  unfold abandonStore
  (try dsimp only)
  (repeat' split) <;> simp

@[simp] theorem outer_cutKeyErase (s : State) : (cutKeyErase s).outer = s.outer := by unfold cutKeyErase; simp
@[simp] theorem outer_writeRecord (k : Nat) (s : State) : (writeRecord k s).outer = s.outer := by
  unfold writeRecord
  extract_lets x s1
  have h1 : s1.outer = s.outer := by
    refine outer_forEach _ _ (fun i t => ?_) _
    dsimp only
    rw [outer_mk, outer_fold]
  clear_value s1
  rw [outer_useSlot, outer_useGrove, outer_celWrite, outer_mk]
  exact h1

@[simp] theorem outer_writeSectors (n : Nat) (fails : List Nat) (s : State) :
    (writeSectors n fails s).outer = s.outer := by
  unfold writeSectors
  simp

@[simp] theorem outer_modVault (f : Vault → Vault) (s : State) : (modVault f s).outer = s.outer := by
  unfold modVault
  simp

@[simp] theorem outer_noteRecords (s : State) : (noteRecords s).outer = s.outer := by unfold noteRecords; simp
@[simp] theorem outer_quietNand (s : State) : (quietNand s).outer = s.outer := by unfold quietNand; simp
@[simp] theorem outer_cellarAction (s : State) : (cellarAction s).outer = s.outer := by unfold cellarAction; simp
@[simp] theorem outer_writeLm (s : State) : (writeLm s).outer = s.outer := by unfold writeLm; simp
@[simp] theorem outer_endVault (s : State) : (endVault s).outer = s.outer := by unfold endVault; simp

@[simp] theorem outer_cutVault (c : VaultCut) (s : State) : (cutVault c s).outer = s.outer := by
  unfold cutVault
  (try dsimp only)
  (repeat' split) <;> simp

@[simp] theorem outer_powerLoss (s : State) : (powerLoss s).outer = s.outer := by unfold powerLoss; simp

@[simp] theorem outer_setEn (n : Nat) (on : Bool) (s : State) : (setEn n on s).outer = s.outer := by
  unfold setEn
  simp

@[simp] theorem outer_setPg (n : Nat) (on : Bool) (s : State) : (setPg n on s).outer = s.outer := by
  unfold setPg
  simp

@[simp] theorem outer_railFail (n : Nat) (s : State) : (railFail n s).outer = s.outer := by unfold railFail; simp
@[simp] theorem outer_railsOff (s : State) : (railsOff s).outer = s.outer := by unfold railsOff; simp
@[simp] theorem outer_dropRails (fuel : Nat) (l : List Nat) (s : State) : (dropRails fuel l s).outer = s.outer := by
  induction fuel generalizing l s with
  | zero => rfl
  | succ k ih =>
    cases l with
    | nil => simp [dropRails]
    | cons n rest =>
      unfold dropRails
      split
      · simp
      · dsimp only
        split
        · simp
        · rw [ih]; simp

@[simp] theorem outer_startDown (toHold : Bool) (s : State) : (startDown toHold s).outer = s.outer := by
  unfold startDown
  simp

@[simp] theorem outer_vaultDown (toHold : Bool) (s : State) : (vaultDown toHold s).outer = s.outer := by
  unfold vaultDown
  simp

@[simp] theorem outer_beginStep (k : Nat) (s : State) : (beginStep k s).outer = s.outer := by
  unfold beginStep
  (try dsimp only)
  (repeat' split) <;> simp

@[simp] theorem outer_stepFails (n : Nat) (s : State) : (stepFails n s).outer = s.outer := by unfold stepFails; simp

@[simp] theorem outer_startStage1 (kind : Nat) (s : State) : (startStage1 kind s).outer = s.outer := by
  unfold startStage1
  simp

@[simp] theorem outer_tryAuto (s : State) : (tryAuto s).outer = s.outer := by unfold tryAuto; simp
@[simp] theorem outer_stopNode (s : State) : (stopNode s).outer = s.outer := by unfold stopNode; simp

@[simp] theorem outer_startClearing (evt : Nat) (s : State) : (startClearing evt s).outer = s.outer := by
  unfold startClearing
  simp

@[simp] theorem outer_freeWork (s : State) : (freeWork s).outer = s.outer := by unfold freeWork; simp

@[simp] theorem outer_allSelfRefresh (s : State) : (allSelfRefresh s).outer = s.outer := by
  unfold allSelfRefresh
  simp

@[simp] theorem outer_clearReset (s0 : State) : (clearReset s0).outer = s0.outer := by unfold clearReset; simp

/-! ### React -/

@[simp] theorem outer_setFlt (e : Nat) (x : FltSrc) (s : State) : (setFlt e x s).outer = s.outer := by
  unfold setFlt
  simp

@[simp] theorem outer_driveAlert (s : State) : (driveAlert s).outer = s.outer := by unfold driveAlert; simp
@[simp] theorem outer_setSticky (e : Nat) (s : State) : (setSticky e s).outer = s.outer := by unfold setSticky; simp

@[simp] theorem outer_noteFirst (e g : Nat) (s : State) : (noteFirst e g s).outer = s.outer := by
  unfold noteFirst
  simp

@[simp] theorem outer_occur (r : Raised) (s : State) : ((occur r s).1).outer = s.outer := by
  unfold occur
  (try dsimp only)
  (repeat' split) <;> simp

@[simp] theorem outer_notify (e : Nat) (s : State) : (notify e s).outer = s.outer := by unfold notify; simp

@[simp] theorem outer_isolatePort (p : Nat) (s : State) : (isolatePort p s).outer = s.outer := by
  unfold isolatePort
  simp

@[simp] theorem outer_retireChannel (n : Nat) (s : State) : (retireChannel n s).outer = s.outer := by
  unfold retireChannel
  simp

@[simp] theorem outer_contain (e tgt : Nat) (s : State) : (contain e tgt s).outer = s.outer := by
  have h : ∀ (l : List Nat), (forEach l (fun p t => if (netOf t p).formed then netHold p t else t) s).outer = s.outer :=
    fun l => outer_forEach _ _ (fun p t => by split <;> simp) _
  unfold contain
  simp only [outer_ite, h, outer_tryEvac, outer_retireChannel, outer_isolatePort, outer_netHold, outer_localInput,
    outer_setBit, outer_forEach, implies_true, ite_self]

@[simp] theorem outer_powerOff (e : Nat) (s : State) : (powerOff e s).outer = s.outer := by unfold powerOff; simp

@[simp] theorem outer_actAll (hits : List Hit) (forced : List (Nat × Nat)) (s : State) :
    (actAll hits forced s).outer = s.outer := by
  unfold actAll
  (try dsimp only)
  (repeat' split) <;> simp

@[simp] theorem outer_takeBatch (batch : List Raised) (s : State) : (takeBatch batch s).outer = s.outer := by
  unfold takeBatch
  dsimp only
  split
  · simp
  · rw [outer_driveAlert, outer_actAll, outer_foldl]
    intro a x
    exact outer_occur ..

@[simp] theorem outer_drainRaised (fuel : Nat) (s : State) : (drainRaised fuel s).outer = s.outer := by
  induction fuel generalizing s with
  | zero => rfl
  | succ k ih =>
    unfold drainRaised
    split
    · rfl
    · dsimp only
      split
      · rw [ih, outer_takeBatch]; rfl
      · rfl

@[simp] theorem outer_syncCond (s : State) : (syncCond s).outer = s.outer := by unfold syncCond; simp
@[simp] theorem outer_condChange (s : State) : (condChange s).outer = s.outer := by unfold condChange; simp
@[simp] theorem outer_ceilChange (s : State) : (ceilChange s).outer = s.outer := by unfold ceilChange; simp
@[simp] theorem outer_settle (s : State) : (settle s).outer = s.outer := by unfold settle; simp
theorem outer_done {u t : State} (h : done u = .next t) : t.outer = u.outer := by
  unfold done at h
  rw [← Host.Outcome.next.inj h, outer_settle]

theorem outer_onUnit {ok : Bool} {s u t : State} (h : onUnit ok s u = .next t) (hu : u.outer = s.outer) :
    t.outer = s.outer := by
  unfold onUnit at h
  split at h
  · exact (outer_done h).trans hu
  · exact Host.Outcome.next.inj h ▸ rfl

/-! ### Access -/

@[simp] theorem outer_refuseOpen (p : Path) (tag code : Nat) (s : State) :
    (refuseOpen p tag code s).outer = s.outer := by
  unfold refuseOpen
  simp

@[simp] theorem outer_belvor (p : Path) (tag code : Nat) (f : State → State) (s : State) (h1 : ∀ t,
    (f t).outer = t.outer) : (belvor p tag code f s).outer = s.outer := by
  unfold belvor
  (try dsimp only)
  (repeat' split) <;> simp [*]

@[simp] theorem outer_belvorMgmt (p : Path) (tag code : Nat) (f : State → State) (s : State) (h1 : ∀ t,
    (f t).outer = t.outer) : (belvorMgmt p tag code f s).outer = s.outer := by
  unfold belvorMgmt
  (try dsimp only)
  (repeat' split) <;> simp [*]

@[simp] theorem outer_fromV2 (v1 : Bool) (p : Path) (tag code : Nat) (f : State → State) (s : State)
    (h1 : ∀ t, (f t).outer = t.outer) : (fromV2 v1 p tag code f s).outer = s.outer := by
  unfold fromV2
  (try dsimp only)
  (repeat' split) <;> simp [*]

@[simp] theorem outer_belvorPower (p : Path) (tag code : Nat) (f : State → State) (s : State) (h1 : ∀ t,
    (f t).outer = t.outer) : (belvorPower p tag code f s).outer = s.outer := by
  unfold belvorPower
  (try dsimp only)
  (repeat' split) <;> simp [*]

@[simp] theorem outer_ctlWrite (p : Path) (addr : Nat) (f : State → State) (s : State) (h1 : ∀ t,
    (f t).outer = t.outer) : (ctlWrite p addr f s).outer = s.outer := by
  unfold ctlWrite
  (try dsimp only)
  (repeat' split) <;> simp [*]

@[simp] theorem outer_refuseWrite (p : Path) (addr : Nat) (s : State) : (refuseWrite p addr s).outer = s.outer := by
  unfold refuseWrite
  simp

end Sys2Proof.Machine
end

