-- ==== Sys2Proof/Machine/Balls.lean ====
section
/-!
DEFINITION. The ball map (R510 to R518), which balls an SBX4808 connects (R511), and what the memories' and the UART's
balls show (R520).
-/

namespace Sys2Proof.Machine

open Sys2Proof

/-! ## Names (R510) -/

/-- R510: the 19 letters of row names. -/
def rowLetters : List Char := ['A', 'B', 'C', 'D', 'E', 'F', 'G', 'H', 'J', 'K', 'L', 'M', 'N', 'P', 'T', 'U', 'V', 'W', 'Y']

/-- R510: the letters of row `r`, 1 to 88. -/
def rowName (r : Nat) : List Char :=
  let at_ (k : Nat) : List Char := (rowLetters[k]?).toList
  if r ≤ 19 then at_ (r - 1) else at_ ((r - 20) / 19) ++ at_ ((r - 20) % 19)

/-- R510: a row or column mirrored. -/
def mirror (k : Nat) : Nat := 89 - k

/-- R510: the quadrant of a ball: 0 NW, 1 NE, 2 SW, 3 SE. -/
def ballQuad (r c : Nat) : Nat := 2 * b2n (decide (44 < r)) + b2n (decide (44 < c))

/-! ## What a ball carries (R511) -/

/-- The rails of R518. -/
inductive BallRail | coreN | coreS | sram | hsio | hstx | ddrphy | ddr | nandio | io18 | pll | aon | aonIo
  deriving DecidableEq, Repr

/-- R514: a signal of a DDR5 channel; `sub` 0 is subchannel A, and the last Bool is true for _T. -/
inductive DramPin
  | dqs (sub b : Nat) (t : Bool)
  | dq (sub n : Nat)
  | ca (sub n : Nat)
  | par (sub : Nat)
  | csN (sub n : Nat)
  | ck (sub : Nat) (t : Bool)
  | resetN
  | alertN
  deriving DecidableEq, Repr

/-- R515: a signal of a NAND channel. -/
inductive NandPin
  | dq (n : Nat)
  | dqs (t : Bool)
  | re (t : Bool)
  | weN
  | ale
  | cle
  | wpN
  | rbN
  | ceN (n : Nat)
  deriving DecidableEq, Repr

/-- R511: what a ball carries. -/
inductive Ball
  | vss
  | rsvd
  | rail (r : BallRail)
  | host (group lane : Nat) (tx t : Bool)
  | net (lane : Nat) (tx t : Bool)
  | twin (lane : Nat) (tx t : Bool)
  | dram (ch : Nat) (p : DramPin)
  | nand (ch : Nat) (p : NandPin)
  | dscl (q : Nat)
  | dsda (q : Nat)
  | en (n : Nat)
  | rsto (n : Nat)
  | pg (n : Nat)
  | stage (n : Nat)
  | infailN
  | estoreOk
  | thermtripN
  | faultN
  | ready
  | alertN
  | xtalIn
  | xtalOut
  | nodeB
  | strapBoot (n : Nat)
  | strapI3c (n : Nat)
  | ppsIn
  | i3cScl
  | i3cSda
  | uartTx
  | uartRx
  | tck
  | tms
  | tdi
  | tdo
  | trstN
  | srefclk (n : Nat) (t : Bool)
  | hrefclk (g : Nat) (t : Bool)
  /-- REXT_S0, REXT_S1, then REXT_H0 to REXT_H3 -/
  | rext (n : Nat)
  deriving DecidableEq, Repr

/-! ## SerDes (R512, R513) -/

/-- R512: host group 0's ball by row and column; the other groups mirror it. -/
def hostBall (g r c : Nat) : Ball :=
  let l := (r - 9) / 2
  if (r - 9) % 2 = 0 then
    match c with
    | 2 => .host g l true true
    | 3 => .host g l true false
    | 5 => .rail .hstx
    | 8 => .rail .hsio
    | _ => .vss
  else
    match c with
    | 1 => .rail .hsio
    | 6 => .host g l false true
    | 7 => .host g l false false
    | _ => .vss

/-- R513: the lane of a slot; the south slots carry the higher lanes. -/
def laneOf (south : Bool) (slot : Nat) (tx t : Bool) : Ball :=
  let up := if south then 8 else 0
  if slot < 4 then .net (up + slot) tx t
  else if slot < 12 then .twin (up + slot - 4) tx t
  else .net (up + slot - 8) tx t

/-- R513: a ball of the lane slots, by row 1 to 8 (mirrored in the south) and column. -/
def slotBall (south : Bool) (r c : Nat) : Ball :=
  let slot := (c - 13) / 4
  match r, (c - 13) % 4 with
  | 2, 0 => laneOf south slot true true
  | 2, 1 => laneOf south slot true false
  | 6, 2 => laneOf south slot false true
  | 6, 3 => laneOf south slot false false
  | 4, 0 => .rail .hstx
  | 8, 0 => .rail .hsio
  | 8, 2 => .rail .hsio
  | _, _ => .vss

/-! ## Memories (R514, R515) -/

/-- R514: signal `k` of subchannel `x`, 0 to 73. -/
def subPin (x k : Nat) : DramPin :=
  if k < 60 then
    match k % 6 with
    | 0 => .dqs x (k / 6) true
    | 1 => .dqs x (k / 6) false
    | j => .dq x (4 * (k / 6) + (j - 2))
  else if k < 67 then .ca x (k - 60)
  else if k = 67 then .par x
  else if k < 72 then .csN x (k - 68)
  else .ck x (k == 72)

/-- R514: signal `k` of a channel, 0 to 149. -/
def dramPin (k : Nat) : DramPin :=
  if k < 74 then subPin 0 k else if k = 74 then .resetN else if k < 149 then subPin 1 (k - 75) else .alertN

/-- R514: a ball of a channel's tile, by its row and column. -/
def dramBall (ch r c : Nat) : Ball :=
  if c = 7 then .rail (if r % 2 = 0 then .ddrphy else .ddr)
  else if c = 15 then .vss
  else
    let k := 14 * r + (if c < 7 then c else c - 1)
    if k < 150 then .dram ch (dramPin k) else .vss

/-- R515: signal `k` of a NAND channel, 0 to 32. -/
def nandPin (k : Nat) : NandPin :=
  if k < 8 then .dq k
  else
    match k with
    | 8 => .dqs true
    | 9 => .dqs false
    | 10 => .re true
    | 11 => .re false
    | 12 => .weN
    | 13 => .ale
    | 14 => .cle
    | 15 => .wpN
    | 16 => .rbN
    | n => .ceN (n - 17)

/-- R515: a ball of a NAND channel's tile. -/
def nandBall (ch r c : Nat) : Ball :=
  if r = 11 then (if c = 0 then .rail .nandio else .vss) else .nand ch (nandPin (3 * r + c))

/-! ## Control, clocks and the fill (R516 to R518) -/

/-- A ball named singly. -/
def named (l : List (Nat × Nat × Ball)) (r c : Nat) : Option Ball :=
  (l.find? (fun x => x.1 = r && x.2.1 = c)).map (·.2.2)

/-- R516: the control balls, row and column, but for those of a run of rows A to E. -/
def ctlBalls : List (Nat × Nat × Ball) :=
  [(4, 5, .infailN), (4, 6, .estoreOk), (4, 7, .thermtripN), (4, 8, .faultN), (5, 1, .ready), (5, 6, .alertN),
   (7, 1, .xtalIn), (7, 3, .xtalOut), (1, 88, .nodeB), (1, 87, .strapBoot 0), (1, 86, .strapBoot 1), (1, 85, .strapI3c 0),
   (1, 84, .strapI3c 1), (1, 83, .strapI3c 2), (1, 82, .ppsIn), (2, 88, .i3cScl), (2, 87, .i3cSda), (3, 88, .uartTx),
   (3, 87, .uartRx), (4, 88, .tck), (4, 87, .tms), (4, 86, .tdi), (4, 85, .tdo), (4, 84, .trstN),
   (5, 7, .rail .aonIo), (5, 8, .rail .aonIo), (6, 2, .rail .aonIo), (6, 4, .rail .aonIo), (1, 81, .rail .aonIo), (2, 82, .rail .aonIo),
   (2, 84, .rail .aonIo), (2, 86, .rail .aonIo), (8, 2, .rail .aon), (8, 4, .rail .aon), (8, 6, .rail .aon), (8, 8, .rail .aon),
   (3, 82, .rail .io18), (3, 84, .rail .io18), (3, 86, .rail .io18), (4, 82, .rail .io18), (5, 82, .rail .io18), (5, 84, .rail .io18),
   (5, 86, .rail .io18), (5, 88, .rail .io18)]

/-- R516: the corner blocks of rows A to H and DE to DM. -/
def cornerBall (r c : Nat) : Ball :=
  if r = 1 && c ≤ 8 then .en (c - 1)
  else if r = 2 && c ≤ 4 then .en (c + 7)
  else if r = 2 && c ≤ 8 then .rsto (c - 5)
  else if r = 3 && c ≤ 8 then .pg (c - 1)
  else if r = 4 && c ≤ 4 then .pg (c + 7)
  else if r = 5 && 2 ≤ c && c ≤ 5 then .stage (c - 2)
  else if r = 81 || r = 82 then .rsvd
  else if r = 83 && (c ≤ 4 || 85 ≤ c) then .rsvd
  else (named ctlBalls r c).getD .vss

/-- R517: the clock balls and the power balls near them. -/
def clkBalls : List (Nat × Nat × Ball) :=
  [(4, 10, .srefclk 0 true), (4, 11, .srefclk 0 false), (85, 10, .srefclk 1 true), (85, 11, .srefclk 1 false), (42, 2, .hrefclk 0 true), (42, 3, .hrefclk 0 false),
   (42, 87, .hrefclk 1 true), (42, 86, .hrefclk 1 false), (47, 2, .hrefclk 2 true), (47, 3, .hrefclk 2 false), (47, 87, .hrefclk 3 true), (47, 86, .hrefclk 3 false),
   (7, 10, .rext 0), (82, 10, .rext 1), (42, 6, .rext 2), (42, 83, .rext 3), (47, 6, .rext 4), (47, 83, .rext 5),
   (2, 9, .rail .pll), (2, 12, .rail .pll), (6, 9, .rail .pll), (6, 12, .rail .pll), (87, 9, .rail .pll), (87, 12, .rail .pll),
   (83, 9, .rail .pll), (83, 12, .rail .pll), (41, 5, .rail .pll), (43, 5, .rail .pll), (46, 5, .rail .pll), (48, 5, .rail .pll),
   (41, 84, .rail .pll), (43, 84, .rail .pll), (46, 84, .rail .pll), (48, 84, .rail .pll), (2, 77, .rail .hsio), (2, 79, .rail .hsio),
   (4, 78, .rail .hsio), (4, 80, .rail .hsio), (6, 77, .rail .hsio), (6, 79, .rail .hsio), (8, 78, .rail .hsio), (8, 80, .rail .hsio),
   (87, 77, .rail .hsio), (87, 79, .rail .hsio), (85, 78, .rail .hsio), (85, 80, .rail .hsio), (83, 77, .rail .hsio), (83, 79, .rail .hsio),
   (81, 78, .rail .hsio), (81, 80, .rail .hsio)]

/-- R517: the blocks between the corners and the lanes, and between the host groups. -/
def clkBall (r c : Nat) : Ball :=
  if 41 ≤ r && r ≤ 48 && (c = 8 || c = 81) then .rail .hsio else (named clkBalls r c).getD .vss

/-- R518: the sideband balls of the strips. -/
def sideBalls : List (Nat × Nat × Ball) :=
  [(9, 41, .dscl 0), (9, 45, .dscl 1), (80, 42, .dscl 2), (80, 46, .dscl 3), (9, 43, .dsda 0), (9, 47, .dsda 1),
   (80, 44, .dsda 2), (80, 48, .dsda 3)]

/-- R518: the strips between the DDR5 tiles. -/
def stripBall (r c : Nat) : Ball :=
  match named sideBalls r c with
  | some b => b
  | none =>
    if (r + c) % 2 = 0 then .vss
    else
      match c with
      | 41 => .rail .ddr
      | 48 => .rail .ddr
      | 42 => .rail .ddrphy
      | 47 => .rail .ddrphy
      | 43 => .rail .nandio
      | 46 => .rail .nandio
      | _ => .rail .sram

/-- R518: the centre. -/
def centreBall (r c : Nat) : Ball :=
  if (r + c) % 2 = 0 then .vss
  else if c ≤ 34 || 55 ≤ c then .rail .sram
  else .rail (if r ≤ 44 then .coreN else .coreS)

/-- R510 to R518: what the ball at row `r` and column `c`, 1 to 88 each, carries. -/
def ballAt (r c : Nat) : Ball :=
  let r0 := if 44 < r then mirror r else r
  let c0 := if 44 < c then mirror c else c
  let q := ballQuad r c
  if c0 ≤ 8 then
    if r0 ≤ 8 then cornerBall r c else if r0 ≤ 40 then hostBall q r0 c0 else clkBall r c
  else if r0 ≤ 8 then
    if c0 ≤ 12 then clkBall r c else slotBall (decide (44 < r)) r0 c
  else if r0 ≤ 32 then
    if c0 ≤ 40 then dramBall (4 * q + 2 * ((r0 - 9) / 12) + (c0 - 9) / 16) ((r0 - 9) % 12) ((c0 - 9) % 16) else stripBall r c
  else if c0 ≤ 32 then nandBall (8 * q + (c0 - 9) / 3) (r0 - 33) ((c0 - 9) % 3)
  else centreBall r c

/-- R511: the ball is connected on the part: an SBX4808 leaves the signals of disabled interfaces unconnected. -/
def connected (s : State) (b : Ball) : Bool :=
  !isSmall s || match b with
    | .host g _ _ _ => decide (g < 2)
    | .net l _ _ => decide (l < 8)
    | .twin l _ _ => decide (l < 8)
    | .dram n _ => decide (n < 8)
    | .nand m _ => decide (m < 16)
    | .dscl q => decide (q < 2)
    | .dsda q => decide (q < 2)
    | .srefclk n _ => n == 0
    | .hrefclk g _ => decide (g < 2)
    | .rext n => n == 0 || n == 2 || n == 3
    | _ => true

/-! ## What the memories' and the UART's balls show (R520) -/

/-- Dn_RESET_N: driven from VDDQ_DDR good, low until training (R206, R228). -/
def dramResetPin (s : State) (n : Nat) : Option Bool := if s.pwr.pg.getLsbD 6 then some (chOf s n).resetN else none

/-- Nm_CE_N: driven high, but for a transfer, from VDD_NANDIO good. -/
def nandCePin (s : State) : Option Bool := if s.pwr.pg.getLsbD 7 then some true else none

/-- Nm_WP_N: driven from VDD_NANDIO good, low until stage 7 completes. -/
def nandWpPin (s : State) : Option Bool :=
  if s.pwr.pg.getLsbD 7 then some (decide (8 ≤ s.pwr.stage) && s.pwr.stage != 0xC) else none

/-- UART_TX: idle high from stage 3. -/
def uartTxPin (s : State) : Option Bool := if 3 ≤ s.pwr.stage then some true else none

end Sys2Proof.Machine
end

