-- ==== Sys2Proof/Laws/FrameData.lean ====
section
/-!
SUPPORT. The frame of the block's operations, file by file: twin and
logical operations, emission, ticks, hosts, power and VRMP
leave the queue of waiting commands and the fuses alone. One lemma per operation and per meaning of a command.
-/

namespace Sys2Proof.Machine

open Sys2Proof

set_option maxRecDepth 20000

/-! ### TwinOps -/

@[simp] theorem outer_modTwin (f : Twin → Twin) (s : State) : (modTwin f s).outer = s.outer := by
  unfold modTwin
  simp

@[simp] theorem outer_setRole (r : Role) (s : State) : (setRole r s).outer = s.outer := by unfold setRole; simp
@[simp] theorem outer_setEpoch (e : Nat) (s : State) : (setEpoch e s).outer = s.outer := by unfold setEpoch; simp

@[simp] theorem outer_openBitmap (start : Nat) (s : State) : (openBitmap start s).outer = s.outer := by
  unfold openBitmap
  simp

@[simp] theorem outer_toSolo (s : State) : (toSolo s).outer = s.outer := by unfold toSolo; simp
@[simp] theorem outer_refuseHeld_refuseAck (a : AckTo) (s : State) : (refuseHeld.refuseAck a s).outer = s.outer := by
  unfold refuseHeld.refuseAck
  split <;> simp

@[simp] theorem outer_refuseHeld (h : HeldReq) (s : State) : (refuseHeld h s).outer = s.outer := by
  unfold refuseHeld
  split <;> simp

@[simp] theorem outer_refuseAllHeld (s : State) : (refuseAllHeld s).outer = s.outer := by unfold refuseAllHeld; simp

@[simp] theorem outer_refuseWaiting (a : AckTo) (dpa : Nat) (s : State) :
    (refuseWaiting a dpa s).outer = s.outer := by
  unfold refuseWaiting
  (try dsimp only)
  (repeat' split) <;> simp

@[simp] theorem outer_dropQps (reason : Nat) (s : State) : (dropQps reason s).outer = s.outer := by
  unfold dropQps
  simp

@[simp] theorem outer_fence (s : State) : (fence s).outer = s.outer := by unfold fence; simp

@[simp] theorem outer_grantCredit (chunk : Bool) (bytes : Nat) (s : State) :
    (grantCredit chunk bytes s).outer = s.outer := by
  unfold grantCredit
  simp

@[simp] theorem outer_holdRx (owner bytes : Nat) (s : State) : (holdRx owner bytes s).outer = s.outer := by
  unfold holdRx
  split
  · rename_i p _
    cases h : copAlloc p owner true s with
    | none => rfl
    | some u => exact outer_copAlloc h
  · rfl

@[simp] theorem outer_freeRx (owner : Nat) (chunk : Bool) (bytes : Nat) (s : State) :
    (freeRx owner chunk bytes s).outer = s.outer := by
  unfold freeRx
  (try dsimp only)
  (repeat' split) <;> simp

@[simp] theorem outer_freeApplied (upto : Nat) (s : State) : (freeApplied upto s).outer = s.outer := by
  unfold freeApplied
  simp

@[simp] theorem outer_dropRx (s : State) : (dropRx s).outer = s.outer := by unfold dropRx; simp

@[simp] theorem outer_sendRecopy (l : List (Nat × Nat)) (s : State) : (sendRecopy l s).outer = s.outer := by
  unfold sendRecopy
  simp

@[simp] theorem outer_toJoining (bulk : Bool) (tiles : List (Nat × Nat)) (s : State) :
    (toJoining bulk tiles s).outer = s.outer := by
  unfold toJoining
  simp

@[simp] theorem outer_streamError (s : State) : (streamError s).outer = s.outer := by unfold streamError; simp
@[simp] theorem outer_addDiv (r : Retained) (s : State) : (addDiv r s).outer = s.outer := by unfold addDiv; simp
@[simp] theorem outer_dropWaits (s : State) : (dropWaits s).outer = s.outer := by unfold dropWaits; simp

@[simp] theorem outer_diverge (endSeq epoch : Nat) (s : State) : (diverge endSeq epoch s).outer = s.outer := by
  unfold diverge
  simp

@[simp] theorem outer_higherEpoch (epoch : Nat) (endSeq : Option Nat) (s : State) :
    (higherEpoch epoch endSeq s).outer = s.outer := by
  unfold higherEpoch
  (try dsimp only)
  (repeat' split) <;> simp

/-! ### LogicOps -/

@[simp] theorem outer_sealProgress (s : State) : (sealProgress s).outer = s.outer := by unfold sealProgress; simp

@[simp] theorem outer_applySeal (g first count gtc src : Nat) (ack : AckTo) (s : State) :
    (applySeal g first count gtc src ack s).outer = s.outer := by
  unfold applySeal
  simp

@[simp] theorem outer_applyUnseal (g first count : Nat) (s : State) :
    (applyUnseal g first count s).outer = s.outer := by
  unfold applyUnseal
  simp

@[simp] theorem outer_unpinLines (g t : Nat) (s : State) : (unpinLines g t s).outer = s.outer := by
  unfold unpinLines
  simp

@[simp] theorem outer_unschedule (g t : Nat) (s : State) : (unschedule g t s).outer = s.outer := by
  unfold unschedule
  (try dsimp only)
  (repeat' split) <;> simp

@[simp] theorem outer_retireEntry (q : QEntry) (s : State) : (retireEntry q s).outer = s.outer := by
  unfold retireEntry
  simp

@[simp] theorem outer_addEntry (c : SchedCmd) (e : SchedEntry) (s : State) : (addEntry c e s).outer = s.outer := by
  unfold addEntry
  simp

@[simp] theorem outer_applySched (c : SchedCmd) (s : State) : (applySched c s).outer = s.outer := by
  unfold applySched
  simp

@[simp] theorem outer_forgetTile (g t : Nat) (s : State) : (forgetTile g t s).outer = s.outer := by
  unfold forgetTile
  simp

@[simp] theorem outer_releaseTile (g t : Nat) (s : State) : (releaseTile g t s).outer = s.outer := by
  unfold releaseTile
  simp

@[simp] theorem outer_generateKey (n : Nat) (s : State) : (generateKey n s).outer = s.outer := by
  unfold generateKey
  simp

@[simp] theorem outer_sizeNeed (s : State) : (sizeNeed s).outer = s.outer := by unfold sizeNeed; simp

@[simp] theorem outer_setGrove (g : Nat) (r : Option GroveRec) (s : State) : (setGrove g r s).outer = s.outer := by
  unfold setGrove
  simp

@[simp] theorem outer_applyCreate (r : GroveRec) (s : State) : (applyCreate r s).outer = s.outer := by
  unfold applyCreate
  simp

@[simp] theorem outer_applyResize (g extents : Nat) (s : State) : (applyResize g extents s).outer = s.outer := by
  unfold applyResize
  (try dsimp only)
  (repeat' split) <;> simp

@[simp] theorem outer_applyDelete (g : Nat) (s : State) : (applyDelete g s).outer = s.outer := by
  unfold applyDelete
  (try dsimp only)
  (repeat' split) <;> simp

@[simp] theorem outer_applyGrove (r : GroveRec) (s : State) : (applyGrove r s).outer = s.outer := by
  unfold applyGrove
  (try dsimp only)
  (repeat' split) <;> simp

@[simp] theorem outer_setKey_ (k : BitVec 64) (r : Option KeyRec) (s : State) : (setKey_ k r s).outer = s.outer := by
  unfold setKey_
  simp

@[simp] theorem outer_freeKey (k : BitVec 64) (s : State) : (freeKey k s).outer = s.outer := by unfold freeKey; simp

@[simp] theorem outer_applyLsa (ld off : Nat) (d : List Byte) (s : State) :
    (applyLsa ld off d s).outer = s.outer := by
  unfold applyLsa
  simp

@[simp] theorem outer_applyMeta (op : RecOp) (gtc src : Nat) (ack : AckTo) (s : State) :
    (applyMeta op gtc src ack s).outer = s.outer := by
  unfold applyMeta
  (try dsimp only)
  (repeat' split) <;> simp

/-! ### Emit -/

@[simp] theorem outer_refuseVrmp (q psn code addr : Nat) (s : State) :
    (refuseVrmp q psn code addr s).outer = s.outer := by
  unfold refuseVrmp
  simp

@[simp] theorem outer_refuseData (i : Input) (reason code : Nat) (s : State) :
    (refuseData i reason code s).outer = s.outer := by
  unfold refuseData
  (try dsimp only)
  (repeat' split) <;> simp

@[simp] theorem outer_refuseCmd (i : Input) (code event : Nat) (s : State) :
    (refuseCmd i code event s).outer = s.outer := by
  unfold refuseCmd
  (try dsimp only)
  (repeat' split) <;> simp

@[simp] theorem outer_takeNumber (r : Option StampRec) (s : State) : (takeNumber r s).outer = s.outer := by
  unfold takeNumber
  simp

@[simp] theorem outer_addPlacing (i : Input) (seq n : Nat) (l : Level) (s : State) :
    (addPlacing i seq n l s).outer = s.outer := by
  unfold addPlacing
  simp

@[simp] theorem outer_applyPieces (id g seq : Nat) (land : Bool) (ps : List Piece) (s : State) :
    (applyPieces id g seq land ps s).outer = s.outer := by
  unfold applyPieces
  simp

@[simp] theorem outer_emitWrite (i : Input) (g : Nat) (ps : List Piece) (s : State) :
    (emitWrite i g ps s).outer = s.outer := by
  unfold emitWrite
  (try dsimp only)
  (repeat' split) <;> simp

@[simp] theorem outer_emitAtomic (i : Input) (g off : Nat) (s : State) : (emitAtomic i g off s).outer = s.outer := by
  unfold emitAtomic
  (try dsimp only)
  (repeat' split) <;> simp

@[simp] theorem outer_emitFlush (i : Input) (q : Nat) (l : Level) (s : State) :
    (emitFlush i q l s).outer = s.outer := by
  unfold emitFlush
  simp

@[simp] theorem outer_emitSeal (i : Input) (op : RecOp) (g f n : Nat) (isSeal : Bool) (s : State) :
    (emitSeal i op g f n isSeal s).outer = s.outer := by
  unfold emitSeal
  simp

@[simp] theorem outer_emitSched (i : Input) (c : SchedCmd) (s : State) : (emitSched i c s).outer = s.outer := by
  unfold emitSched
  simp

@[simp] theorem outer_emitGrove (i : Input) (r : GroveRec) (s : State) : (emitGrove i r s).outer = s.outer := by
  unfold emitGrove
  (try dsimp only)
  (repeat' split) <;> simp

@[simp] theorem outer_emitKey (i : Input) (k : KeyRec) (s : State) : (emitKey i k s).outer = s.outer := by
  unfold emitKey
  (try dsimp only)
  (repeat' split) <;> simp

@[simp] theorem outer_emitRevoke (i : Input) (k : BitVec 64) (s : State) : (emitRevoke i k s).outer = s.outer := by
  unfold emitRevoke
  simp

@[simp] theorem outer_emitOwn (i : Input) (s : State) : (emitOwn i s).outer = s.outer := by
  unfold emitOwn
  (try dsimp only)
  (repeat' split) <;> simp

@[simp] theorem outer_noteApplied (seq gtc : Nat) (s : State) : (noteApplied seq gtc s).outer = s.outer := by
  unfold noteApplied
  simp

@[simp] theorem outer_replayed (r : StampRec) (lane : Nat) (s : State) : (replayed r lane s).outer = s.outer := by
  unfold replayed
  (try dsimp only)
  (repeat' split) <;> simp

@[simp] theorem outer_applyReplay (seq : Nat) (r : StampRec) (lane : Nat) (s : State) :
    (applyReplay seq r lane s).outer = s.outer := by
  unfold applyReplay
  (try dsimp only)
  (repeat' split) <;> simp

@[simp] theorem outer_takeInput (i : Input) (s : State) : (takeInput i s).outer = s.outer := by
  unfold takeInput
  simp

@[simp] theorem outer_emitLoop (fuel : Nat) (s : State) :
    (emitLoop fuel s).outer = s.outer := by
  induction fuel generalizing s with
  | zero => rfl
  | succ n ih =>
    unfold emitLoop
    (repeat' split) <;> simp [ih]

/-! ### Tick -/

@[simp] theorem outer_gtcTick (s : State) : (gtcTick s).outer = s.outer := by unfold gtcTick; simp
@[simp] theorem outer_aonTick (s : State) : (aonTick s).outer = s.outer := by unfold aonTick; simp
@[simp] theorem outer_refill (n : Nat) (s : State) : (refill n s).outer = s.outer := by unfold refill; simp
@[simp] theorem outer_unitTick (u : Nat) (s : State) : (unitTick u s).outer = s.outer := by unfold unitTick; simp
@[simp] theorem outer_channelTick (s : State) : (channelTick s).outer = s.outer := by unfold channelTick; simp
@[simp] theorem outer_tick (s : State) : (tick s).outer = s.outer := by unfold tick; simp

/-! ### Host -/

@[simp] theorem outer_checkReq (s : State) (r : CxlReq) (write poison : Bool) :
    ((checkReq s r write poison).1).outer = s.outer := by
  unfold checkReq
  (try dsimp only)
  (repeat' split) <;> simp

@[simp] theorem outer_checkInv (s : State) (r : CxlReq) : ((checkInv s r).1).outer = s.outer := by
  have k : (checkReq s r false false).1.outer = s.outer := outer_checkReq ..
  unfold checkInv
  split
  · next h => rw [h] at k; exact k
  · exact k

@[simp] theorem outer_overflow (p : Nat) (s : State) : (overflow p s).outer = s.outer := by unfold overflow; simp

@[simp] theorem outer_onReq (r : CxlReq) (f : State → State) (s : State) (h1 : ∀ t, (f t).outer = t.outer) :
    (onReq r f s).outer = s.outer := by
  unfold onReq
  (try dsimp only)
  (repeat' split) <;> simp [*]

@[simp] theorem outer_onRwd (r : CxlReq) (f : State → State) (s : State) (h1 : ∀ t, (f t).outer = t.outer) :
    (onRwd r f s).outer = s.outer := by
  unfold onRwd
  (try dsimp only)
  (repeat' split) <;> simp [*]

@[simp] theorem outer_startRead (r : CxlReq) (g line : Nat) (chk : ArrayCheck) (s0 : State) :
    (startRead r g line chk s0).outer = s0.outer := by
  unfold startRead
  simp

theorem outer_execMemRd {r : CxlReq} {chk : ArrayCheck} {s t : State}
    (h : execMemRd r chk s = .next t) : t.outer = s.outer := by
  unfold execMemRd at h
  refine outer_onUnit h ?_
  apply outer_onReq
  intro t
  (try dsimp only)
  (repeat' split) <;> simp

theorem outer_execMemSpecRd {r : CxlReq} {s t : State} (h : execMemSpecRd r s = .next t) : t.outer = s.outer := by
  unfold execMemSpecRd at h
  refine outer_onUnit h ?_
  apply outer_onReq
  intro t
  (try dsimp only)
  (repeat' split) <;> simp

theorem outer_execMemInv {r : CxlReq} {s t : State} (h : execMemInv r s = .next t) : t.outer = s.outer := by
  unfold execMemInv at h
  refine outer_onUnit h ?_
  apply outer_onReq
  intro t
  (try dsimp only)
  (repeat' split) <;> simp

theorem outer_execUnsupportedM2sOpcode {r : CxlReq} {rwd : Bool} {s t : State}
    (h : execUnsupportedM2sOpcode r rwd s = .next t) : t.outer = s.outer := by
  unfold execUnsupportedM2sOpcode at h
  refine outer_onUnit h ?_
  (try dsimp only)
  (repeat' split) <;> simp

theorem outer_execReadWatchdog {id : Nat} {s t : State}
    (h : execReadWatchdog id s = .next t) : t.outer = s.outer := by
  unfold execReadWatchdog at h
  rw [outer_done h]
  (try dsimp only)
  (repeat' split) <;> simp

@[simp] theorem outer_stampCxl (r : CxlReq) (g : Nat) (p : Piece) (dpa : Nat) (s : State) :
    (stampCxl r g p dpa s).outer = s.outer := by
  unfold stampCxl
  simp

@[simp] theorem outer_admitCxl (r : CxlReq) (g : Nat) (p : Piece) (s : State) :
    (admitCxl r g p s).outer = s.outer := by
  unfold admitCxl
  simp

@[simp] theorem outer_memWrite (r : CxlReq) (data : LineData) (mask : Mask) (poison : Bool) (s : State) :
    (memWrite r data mask poison s).outer = s.outer := by
  unfold memWrite
  apply outer_onRwd
  intro t
  dsimp only
  split
  · simp
  · simp
  · split <;> simp

theorem outer_execMemWr {r : CxlReq} {data : LineData} {poison : Bool} {s t : State}
    (h : execMemWr r data poison s = .next t) : t.outer = s.outer := by
  unfold execMemWr at h
  refine outer_onUnit h ?_
  simp

theorem outer_execMemWrPtl {r : CxlReq} {data : LineData} {mask : Mask} {poison : Bool} {s t : State}
    (h : execMemWrPtl r data mask poison s = .next t) : t.outer = s.outer := by
  unfold execMemWrPtl at h
  refine outer_onUnit h ?_
  simp

theorem outer_execGpfPhase1 {port : Nat} {s t : State} (h : execGpfPhase1 port s = .next t) : t.outer = s.outer := by
  unfold execGpfPhase1 at h
  refine outer_onUnit h ?_
  simp

theorem outer_execGpfPhase2 {port : Nat} {s t : State} (h : execGpfPhase2 port s = .next t) : t.outer = s.outer := by
  unfold execGpfPhase2 at h
  refine outer_onUnit h ?_
  simp

theorem outer_execGpfPhase2Complete {port : Nat} {s t : State}
    (h : execGpfPhase2Complete port s = .next t) : t.outer = s.outer := by
  unfold execGpfPhase2Complete at h
  refine outer_onUnit h ?_
  (try dsimp only)
  (repeat' split) <;> simp

theorem outer_execGpfPhase2Overtime {port : Nat} {s t : State}
    (h : execGpfPhase2Overtime port s = .next t) : t.outer = s.outer := by
  unfold execGpfPhase2Overtime at h
  refine outer_onUnit h ?_
  simp

@[simp] theorem outer_retrainTo (p w r : Nat) (s : State) : (retrainTo p w r s).outer = s.outer := by
  unfold retrainTo
  simp

@[simp] theorem outer_retrainBoth (p width rate : Nat) (s : State) :
    (retrainBoth p width rate s).outer = s.outer := by
  unfold retrainBoth
  simp

@[simp] theorem outer_linkUp (p width rate : Nat) (s : State) : (linkUp p width rate s).outer = s.outer := by
  unfold linkUp
  simp

theorem outer_execHostLinkUp {port width rate : Nat} {s t : State}
    (h : execHostLinkUp port width rate s = .next t) : t.outer = s.outer := by
  unfold execHostLinkUp at h
  refine outer_onUnit h ?_
  simp

theorem outer_execHostLaneFailure {port width rate : Nat} {s t : State}
    (h : execHostLaneFailure port width rate s = .next t) : t.outer = s.outer := by
  unfold execHostLaneFailure at h
  refine outer_onUnit h ?_
  simp

theorem outer_execHostLinkDown {port : Nat} {s t : State}
    (h : execHostLinkDown port s = .next t) : t.outer = s.outer := by
  unfold execHostLinkDown at h
  refine outer_onUnit h ?_
  simp

theorem outer_execHotReset {port : Nat} {s t : State} (h : execHotReset port s = .next t) : t.outer = s.outer := by
  unfold execHotReset at h
  refine outer_onUnit h ?_
  simp

theorem outer_execPmeTurnOff {port : Nat} {s t : State}
    (h : execPmeTurnOff port s = .next t) : t.outer = s.outer := by
  unfold execPmeTurnOff at h
  refine outer_onUnit h ?_
  simp

@[simp] theorem outer_portCmd (p : Path) (port : Nat) (f : State → State) (s : State) (h1 : ∀ t,
    (f t).outer = t.outer) : (portCmd p port f s).outer = s.outer := by
  unfold portCmd
  (try dsimp only)
  (repeat' split) <;> simp [*]

theorem outer_execIsolate {p : Path} {port : Nat} {s t : State}
    (h : execIsolate p port s = .next t) : t.outer = s.outer := by
  unfold execIsolate at h
  refine outer_onUnit h ?_
  simp

@[simp] theorem outer_rejoin (port : Nat) (s : State) : (rejoin port s).outer = s.outer := by unfold rejoin; simp

theorem outer_execHostPortRelease {p : Path} {port : Nat} {s t : State}
    (h : execHostPortRelease p port s = .next t) : t.outer = s.outer := by
  unfold execHostPortRelease at h
  refine outer_onUnit h ?_
  simp

theorem outer_execRetrain {p : Path} {port width rate : Nat} {s t : State}
    (h : execRetrain p port width rate s = .next t) : t.outer = s.outer := by
  unfold execRetrain at h
  refine outer_onUnit h ?_
  simp

theorem outer_execLogClear {p : Path} {port : Nat} {s t : State}
    (h : execLogClear p port s = .next t) : t.outer = s.outer := by
  unfold execLogClear at h
  refine outer_onUnit h ?_
  simp

theorem outer_execConfigurationRequest {port ld addr : Nat} {s t : State}
    (h : execConfigurationRequest port ld addr s = .next t) : t.outer = s.outer := by
  unfold execConfigurationRequest at h
  refine outer_onUnit h ?_
  simp

theorem outer_execDecoderCommit {port ld idx : Nat} {d : Decoder} {s t : State}
    (h : execDecoderCommit port ld idx d s = .next t) : t.outer = s.outer := by
  unfold execDecoderCommit at h
  refine outer_onUnit h ?_
  simp

theorem outer_execSpdmMessage {port : Nat} {authOk : Bool} {s t : State}
    (h : execSpdmMessage port authOk s = .next t) : t.outer = s.outer := by
  unfold execSpdmMessage at h
  refine outer_onUnit h ?_
  simp

theorem outer_execIdeKmKeyProg {port : Nat} {tx : Bool} {key : BitVec 256} {s t : State}
    (h : execIdeKmKeyProg port tx key s = .next t) : t.outer = s.outer := by
  unfold execIdeKmKeyProg at h
  refine outer_onUnit h ?_
  (try dsimp only)
  (repeat' split) <;> simp

theorem outer_execKeyGo {port : Nat} {containment : Bool} {s t : State}
    (h : execKeyGo port containment s = .next t) : t.outer = s.outer := by
  unfold execKeyGo at h
  refine outer_onUnit h ?_
  simp

@[simp] theorem outer_zeroIde (port : Nat) (s : State) : (zeroIde port s).outer = s.outer := by
  unfold zeroIde
  apply outer_forEach
  intro d t
  split <;> simp

theorem outer_execIdeFail {port : Nat} {s t : State} (h : execIdeFail port s = .next t) : t.outer = s.outer := by
  unfold execIdeFail at h
  refine outer_onUnit h ?_
  simp

@[simp] theorem outer_onFm (f : State → State) (s : State) (h1 : ∀ t, (f t).outer = t.outer) :
    (onFm f s).outer = s.outer := by
  unfold onFm
  (try dsimp only)
  (repeat' split) <;> simp [*]

@[simp] theorem outer_onMailbox (port ld : Nat) (f : State → State) (s : State) (h1 : ∀ t,
    (f t).outer = t.outer) : (onMailbox port ld f s).outer = s.outer := by
  unfold onMailbox
  (try dsimp only)
  (repeat' split) <;> simp [*]

theorem outer_execInitiateDynamicCapacityAdd {tag port ld region : Nat} {es : List DcExtent} {s t : State}
    (h : execInitiateDynamicCapacityAdd tag port ld region es s = .next t) : t.outer = s.outer := by
  unfold execInitiateDynamicCapacityAdd at h
  refine outer_onUnit h ?_
  simp

@[simp] theorem outer_stampMgmt (op : InOp) (ack : AckTo) (origin : Nat) (s : State) :
    (stampMgmt op ack origin s).outer = s.outer := by
  unfold stampMgmt
  simp

@[simp] theorem outer_stampMaps (src : Nat) (es : List (DcExtent × (Nat → MapEntry))) (ack : AckTo)
    (s : State) : (stampMaps src es ack s).outer = s.outer := by
  unfold stampMaps
  simp

@[simp] theorem outer_awaitDcd (tag port ld n : Nat) (s : State) : (awaitDcd tag port ld n s).outer = s.outer := by
  unfold awaitDcd
  simp

theorem outer_execAddDynamicCapacityResponse {tag port ld : Nat} {es : List DcExtent} {s t : State}
    (h : execAddDynamicCapacityResponse tag port ld es s = .next t) : t.outer = s.outer := by
  unfold execAddDynamicCapacityResponse at h
  refine outer_onUnit h ?_
  simp

@[simp] theorem outer_unlist (port ld : Nat) (es : List DcExtent) (s : State) :
    (unlist port ld es s).outer = s.outer := by
  unfold unlist
  simp

theorem outer_execReleaseDynamicCapacity {tag port ld : Nat} {es : List DcExtent} {s t : State}
    (h : execReleaseDynamicCapacity tag port ld es s = .next t) : t.outer = s.outer := by
  unfold execReleaseDynamicCapacity at h
  refine outer_onUnit h ?_
  simp

theorem outer_execForcedDynamicCapacityRelease {tag port ld : Nat} {es : List DcExtent} {s t : State}
    (h : execForcedDynamicCapacityRelease tag port ld es s = .next t) : t.outer = s.outer := by
  unfold execForcedDynamicCapacityRelease at h
  refine outer_onUnit h ?_
  simp

theorem outer_execGetLdInfo {tag : Nat} {s t : State} (h : execGetLdInfo tag s = .next t) : t.outer = s.outer := by
  unfold execGetLdInfo at h
  rw [outer_done h]
  simp

theorem outer_execGetLdAllocations {tag port : Nat} {s t : State}
    (h : execGetLdAllocations tag port s = .next t) : t.outer = s.outer := by
  unfold execGetLdAllocations at h
  refine outer_onUnit h ?_
  simp

theorem outer_execGetMultiHeadedInfo {tag : Nat} {s t : State}
    (h : execGetMultiHeadedInfo tag s = .next t) : t.outer = s.outer := by
  unfold execGetMultiHeadedInfo at h
  rw [outer_done h]
  simp

@[simp] theorem outer_setBind (port ld : Nat) (b : Bool) (s : State) : (setBind port ld b s).outer = s.outer := by
  unfold setBind
  simp

theorem outer_execBindLd {tag port ld : Nat} {s t : State}
    (h : execBindLd tag port ld s = .next t) : t.outer = s.outer := by
  unfold execBindLd at h
  refine outer_onUnit h ?_
  simp

theorem outer_execUnbindLd {tag port ld : Nat} {s t : State}
    (h : execUnbindLd tag port ld s = .next t) : t.outer = s.outer := by
  unfold execUnbindLd at h
  refine outer_onUnit h ?_
  simp

theorem outer_execSetLdAllocations {tag port : Nat} {s t : State}
    (h : execSetLdAllocations tag port s = .next t) : t.outer = s.outer := by
  unfold execSetLdAllocations at h
  refine outer_onUnit h ?_
  simp

theorem outer_execIdentifyMemoryDevice {tag port ld : Nat} {s t : State}
    (h : execIdentifyMemoryDevice tag port ld s = .next t) : t.outer = s.outer := by
  unfold execIdentifyMemoryDevice at h
  refine outer_onUnit h ?_
  simp

theorem outer_execSetPartitionInfo {tag port ld : Nat} {s t : State}
    (h : execSetPartitionInfo tag port ld s = .next t) : t.outer = s.outer := by
  unfold execSetPartitionInfo at h
  refine outer_onUnit h ?_
  simp

theorem outer_execSetLsa {tag port ld off : Nat} {data : List Byte} {s t : State}
    (h : execSetLsa tag port ld off data s = .next t) : t.outer = s.outer := by
  unfold execSetLsa at h
  refine outer_onUnit h ?_
  simp

theorem outer_execGetPoisonList {tag port ld dpa len : Nat} {s t : State}
    (h : execGetPoisonList tag port ld dpa len s = .next t) : t.outer = s.outer := by
  unfold execGetPoisonList at h
  refine outer_onUnit h ?_
  simp

theorem outer_execClearPoison {tag port ld dpa : Nat} {data : LineData} {s t : State}
    (h : execClearPoison tag port ld dpa data s = .next t) : t.outer = s.outer := by
  unfold execClearPoison at h
  refine outer_onUnit h ?_
  apply outer_onMailbox
  intro t
  (try dsimp only)
  (repeat' split) <;> simp

theorem outer_execInjectPoison {tag port ld dpa : Nat} {s t : State}
    (h : execInjectPoison tag port ld dpa s = .next t) : t.outer = s.outer := by
  unfold execInjectPoison at h
  refine outer_onUnit h ?_
  simp

/-! ### Power -/

theorem outer_execVddAonValid {s t : State} (h : execVddAonValid s = .next t) : t.outer = s.outer := by
  unfold execVddAonValid at h
  rw [outer_done h]
  simp

theorem outer_execVddAonLoss {s t : State} (h : execVddAonLoss s = .next t) : t.outer = s.outer := by
  unfold execVddAonLoss at h
  rw [outer_done h]
  simp

@[simp] theorem outer_reErase (l : List Nat) (s : State) : (reErase l s).outer = s.outer := by unfold reErase; simp
@[simp] theorem outer_massErase (s : State) : (massErase s).outer = s.outer := by unfold massErase; simp

theorem outer_execStage1 {i : Stage1In} {s t : State} (h : execStage1 i s = .next t) : t.outer = s.outer := by
  unfold execStage1 at h
  rw [outer_done h]
  (try dsimp only)
  (repeat' split) <;> simp

theorem outer_execPgGood {n : Nat} {s t : State} (h : execPgGood n s = .next t) : t.outer = s.outer := by
  unfold execPgGood at h
  refine outer_onUnit h ?_
  simp

theorem outer_execPgTimeout {n : Nat} {s t : State} (h : execPgTimeout n s = .next t) : t.outer = s.outer := by
  unfold execPgTimeout at h
  refine outer_onUnit h ?_
  simp

theorem outer_execSettleExpiry {s t : State} (h : execSettleExpiry s = .next t) : t.outer = s.outer := by
  unfold execSettleExpiry at h
  rw [outer_done h]
  simp

theorem outer_execRailRetryExpiry {s t : State} (h : execRailRetryExpiry s = .next t) : t.outer = s.outer := by
  unfold execRailRetryExpiry at h
  rw [outer_done h]
  simp

theorem outer_execRstoStretchExpiry {i : Nat} {s t : State}
    (h : execRstoStretchExpiry i s = .next t) : t.outer = s.outer := by
  unfold execRstoStretchExpiry at h
  refine outer_onUnit h ?_
  simp

theorem outer_execPgLoss {n : Nat} {cut : VaultCut} {s t : State}
    (h : execPgLoss n cut s = .next t) : t.outer = s.outer := by
  unfold execPgLoss at h
  refine outer_onUnit h ?_
  simp

@[simp] theorem outer_nextRails (s : State) : (nextRails s).outer = s.outer := by unfold nextRails; simp

theorem outer_execPgFall {n : Nat} {s t : State} (h : execPgFall n s = .next t) : t.outer = s.outer := by
  unfold execPgFall at h
  refine outer_onUnit h ?_
  simp

theorem outer_execPgLowTimeout {n : Nat} {s t : State} (h : execPgLowTimeout n s = .next t) : t.outer = s.outer := by
  unfold execPgLowTimeout at h
  refine outer_onUnit h ?_
  simp

@[simp] theorem outer_pushRing (r : PwrRec) (s : State) : (pushRing r s).outer = s.outer := by unfold pushRing; simp
@[simp] theorem outer_flushLog (s : State) : (flushLog s).outer = s.outer := by unfold flushLog; simp

theorem outer_execPowerLogProgram {torn : Bool} {s t : State}
    (h : execPowerLogProgram torn s = .next t) : t.outer = s.outer := by
  unfold execPowerLogProgram at h
  rw [outer_done h]
  (try dsimp only)
  (repeat' split) <;> simp

theorem outer_execLogFlushDone {s t : State} (h : execLogFlushDone s = .next t) : t.outer = s.outer := by
  unfold execLogFlushDone at h
  rw [outer_done h]
  simp

theorem outer_execInfailNAssert {s t : State} (h : execInfailNAssert s = .next t) : t.outer = s.outer := by
  unfold execInfailNAssert at h
  rw [outer_done h]
  simp

theorem outer_execInfailNDeassert {s t : State} (h : execInfailNDeassert s = .next t) : t.outer = s.outer := by
  unfold execInfailNDeassert at h
  rw [outer_done h]
  simp

theorem outer_execEstoreOkAssert {s t : State} (h : execEstoreOkAssert s = .next t) : t.outer = s.outer := by
  unfold execEstoreOkAssert at h
  rw [outer_done h]
  simp

theorem outer_execEstoreOkDeassert {s t : State} (h : execEstoreOkDeassert s = .next t) : t.outer = s.outer := by
  unfold execEstoreOkDeassert at h
  rw [outer_done h]
  simp

theorem outer_execMinOffTimeExpiry {s t : State} (h : execMinOffTimeExpiry s = .next t) : t.outer = s.outer := by
  unfold execMinOffTimeExpiry at h
  rw [outer_done h]
  simp

@[simp] theorem outer_powerOffNow (p : Path) (s : State) : (powerOffNow p s).outer = s.outer := by
  unfold powerOffNow
  (try dsimp only)
  (repeat' split) <;> simp

theorem outer_execPowerOn {p : Path} {tag : Nat} {s t : State}
    (h : execPowerOn p tag s = .next t) : t.outer = s.outer := by
  unfold execPowerOn at h
  rw [outer_done h]
  simp

theorem outer_execPowerOff {p : Path} {tag : Nat} {s t : State}
    (h : execPowerOff p tag s = .next t) : t.outer = s.outer := by
  unfold execPowerOff at h
  rw [outer_done h]
  simp

theorem outer_execPowerStatus {p : Path} {tag : Nat} {s t : State}
    (h : execPowerStatus p tag s = .next t) : t.outer = s.outer := by
  unfold execPowerStatus at h
  rw [outer_done h]
  simp

theorem outer_execPowerLogRead {p : Path} {tag : Nat} {s t : State}
    (h : execPowerLogRead p tag s = .next t) : t.outer = s.outer := by
  unfold execPowerLogRead at h
  rw [outer_done h]
  simp

theorem outer_execClear {p : Path} {s t : State} (h : execClear p s = .next t) : t.outer = s.outer := by
  unfold execClear at h
  rw [outer_done h]
  simp

theorem outer_execClearing {event : Nat} {s t : State} (h : execClearing event s = .next t) : t.outer = s.outer := by
  unfold execClearing at h
  refine outer_onUnit h ?_
  simp

theorem outer_execClearingEntryDone {s t : State} (h : execClearingEntryDone s = .next t) : t.outer = s.outer := by
  unfold execClearingEntryDone at h
  rw [outer_done h]
  simp

theorem outer_execVaultComplete {fails : List Nat} {s t : State}
    (h : execVaultComplete fails s = .next t) : t.outer = s.outer := by
  unfold execVaultComplete at h
  rw [outer_done h]
  simp

/-! ### VrmpOps -/

@[simp] theorem outer_sumCredit (s : State) : (sumCredit s).outer = s.outer := by unfold sumCredit; simp

@[simp] theorem outer_toldLimits (q : Nat) (s : State) : (toldLimits q s).outer = s.outer := by
  unfold toldLimits
  (try dsimp only)
  (repeat' split) <;> simp

@[simp] theorem outer_sendAck (q : Nat) (s : State) : (sendAck q s).outer = s.outer := by
  unfold sendAck
  (try dsimp only)
  (repeat' split) <;> simp

@[simp] theorem outer_maybeCredit (q : Nat) (s : State) : (maybeCredit q s).outer = s.outer := by
  unfold maybeCredit
  (try dsimp only)
  (repeat' split) <;> simp

@[simp] theorem outer_freeCharge (q n : Nat) (s : State) : (freeCharge q n s).outer = s.outer := by
  unfold freeCharge
  (try dsimp only)
  (repeat' split) <;> simp

@[simp] theorem outer_takeCharge (q n : Nat) (s : State) : (takeCharge q n s).outer = s.outer := by
  unfold takeCharge
  (try dsimp only)
  (repeat' split) <;> simp

@[simp] theorem outer_keepBuffer (q n : Nat) (s : State) : (keepBuffer q n s).outer = s.outer := by
  have last : ∀ (p o : Nat) (u : State), ((copAlloc p o true u).getD u).outer = u.outer := by
    intro p o u
    cases h : copAlloc p o true u with
    | none => rfl
    | some v => exact outer_copAlloc h
  unfold keepBuffer
  dsimp only
  split
  · rw [last]; rfl
  · rfl

@[simp] theorem outer_freeBuffer (q n : Nat) (s : State) : (freeBuffer q n s).outer = s.outer := by
  unfold freeBuffer
  (try dsimp only)
  (repeat' split) <;> simp

@[simp] theorem outer_dropWaiting (q : Nat) (s : State) : (dropWaiting q s).outer = s.outer := by
  unfold dropWaiting
  simp

@[simp] theorem outer_freeQp (q : Nat) (s : State) : (freeQp q s).outer = s.outer := by
  unfold freeQp
  (try dsimp only)
  (repeat' split) <;> simp

@[simp] theorem outer_freePeer (p : Nat) (s : State) : (freePeer p s).outer = s.outer := by unfold freePeer; simp

@[simp] theorem outer_finishPeer (p : Nat) (s : State) : (finishPeer p s).outer = s.outer := by
  unfold finishPeer
  (try dsimp only)
  (repeat' split) <;> simp

@[simp] theorem outer_closeQpWith (reason q : Nat) (s : State) : (closeQpWith reason q s).outer = s.outer := by
  unfold closeQpWith
  (try dsimp only)
  (repeat' split) <;> simp

@[simp] theorem outer_acceptReq (h : Pkt) (b : ReqBody) (s : State) : (acceptReq h b s).outer = s.outer := by
  unfold acceptReq
  (try dsimp only)
  (repeat' split) <;> simp

@[simp] theorem outer_refuseReq (h : Pkt) (b : ReqBody) (code addr : Nat) (s : State) :
    (refuseReq h b code addr s).outer = s.outer := by
  unfold refuseReq
  simp

@[simp] theorem outer_touchKey (k : BitVec 64) (s : State) : (touchKey k s).outer = s.outer := by
  unfold touchKey
  simp

@[simp] theorem outer_stampVrmp (h : Pkt) (b : ReqBody) (op : InOp) (s : State) :
    (stampVrmp h b op s).outer = s.outer := by
  unfold stampVrmp
  simp

@[simp] theorem outer_touchCtx (q : Nat) (s : State) : (touchCtx q s).outer = s.outer := by unfold touchCtx; simp
@[simp] theorem outer_noteLimit (h : Pkt) (s : State) : (noteLimit h s).outer = s.outer := by unfold noteLimit; simp

@[simp] theorem outer_step1 (h : Pkt) (f : State → State) (s : State) (h1 : ∀ t, (f t).outer = t.outer) :
    (step1 h f s).outer = s.outer := by
  unfold step1
  (try dsimp only)
  (repeat' split) <;> simp [*]

@[simp] theorem outer_gate (h : Pkt) (hdr : Bool) (words : Option Nat) (f : State → State) (h1 : ∀ t, (f t).outer = t.outer)
    (s : State) : (gate h hdr words f s).outer = s.outer := by
  unfold gate
  apply outer_step1
  intro t
  split
  · simp
  · split
    · simp
    · split
      · simp
      · split
        · simp
        · rw [h1]; simp

@[simp] theorem outer_violation (h : Pkt) (s : State) : (violation h s).outer = s.outer := by
  unfold violation
  (try dsimp only)
  (repeat' split) <;> simp

@[simp] theorem outer_nakSequence (h : Pkt) (exp : Nat) (at_ : Option Nat) (s : State) :
    (nakSequence h exp at_ s).outer = s.outer := by
  unfold nakSequence
  simp

/-! ### Vrmp -/

@[simp] theorem outer_startJob (h : Pkt) (g off : Nat) (s : State) : (startJob h g off s).outer = s.outer := by
  unfold startJob
  simp

@[simp] theorem outer_doRead (h : Pkt) (first : Bool) (s : State) : (doRead h first s).outer = s.outer := by
  unfold doRead
  (try dsimp only)
  (repeat' split) <;> simp

@[simp] theorem outer_doData (h : Pkt) (b : ReqBody) (g : Nat) (lines : List Nat) (op : InOp)
    (atomic : Bool) (s : State) : (doData h b g lines op atomic s).outer = s.outer := by
  unfold doData
  simp

@[simp] theorem outer_doWrite (h : Pkt) (d : List Byte) (s : State) : (doWrite h d s).outer = s.outer := by
  unfold doWrite
  (try dsimp only)
  (repeat' split) <;> simp

@[simp] theorem outer_doAtomic (h : Pkt) (b : ReqBody) (op : Nat → Nat → InOp) (s : State) :
    (doAtomic h b op s).outer = s.outer := by
  unfold doAtomic
  (try dsimp only)
  (repeat' split) <;> simp

@[simp] theorem outer_doFlush (h : Pkt) (l : Nat) (s : State) : (doFlush h l s).outer = s.outer := by
  unfold doFlush
  (try dsimp only)
  (repeat' split) <;> simp

@[simp] theorem outer_doNotify (h : Pkt) (target value : Nat) (s : State) :
    (doNotify h target value s).outer = s.outer := by
  unfold doNotify
  (try dsimp only)
  (repeat' split) <;> simp

@[simp] theorem outer_doClose (h : Pkt) (reason : Nat) (s : State) : (doClose h reason s).outer = s.outer := by
  unfold doClose
  simp

@[simp] theorem outer_doReq (h : Pkt) (b : ReqBody) (s : State) : (doReq h b s).outer = s.outer := by
  unfold doReq
  (try dsimp only)
  (repeat' split) <;> simp

@[simp] theorem outer_duplicate_again (h : Pkt) (s : State) (x : Qp) : (duplicate.again h s x).outer = s.outer := by
  unfold duplicate.again
  (repeat' split) <;> simp

@[simp] theorem outer_duplicate (h : Pkt) (b : ReqBody) (s : State) : (duplicate h b s).outer = s.outer := by
  unfold duplicate
  (repeat' split) <;> simp

@[simp] theorem outer_serveReq (h : Pkt) (b : ReqBody) (s : State) : (serveReq h b s).outer = s.outer := by
  unfold serveReq
  extract_lets s1
  have h1 : s1.outer = s.outer := outer_touchKey ..
  clear_value s1
  rw [← h1]
  (repeat' split) <;> simp

@[simp] theorem outer_request (h : Pkt) (b : ReqBody) (s : State) : (request h b s).outer = s.outer := by
  unfold request
  apply outer_gate
  intro t
  (repeat' split) <;> simp

theorem outer_execWrite {h : Pkt} {data : List Byte} {s t : State}
    (h : execWrite h data s = .next t) : t.outer = s.outer := by
  unfold execWrite at h
  refine outer_onUnit h ?_
  simp

theorem outer_execReadReq {h : Pkt} {s t : State} (h : execReadReq h s = .next t) : t.outer = s.outer := by
  unfold execReadReq at h
  refine outer_onUnit h ?_
  simp

theorem outer_execFlush {h : Pkt} {level : Nat} {s t : State}
    (h : execFlush h level s = .next t) : t.outer = s.outer := by
  unfold execFlush at h
  refine outer_onUnit h ?_
  simp

theorem outer_execAtomicFadd {h : Pkt} {addend : BitVec 64} {s t : State}
    (h : execAtomicFadd h addend s = .next t) : t.outer = s.outer := by
  unfold execAtomicFadd at h
  refine outer_onUnit h ?_
  simp

theorem outer_execAtomicCas {h : Pkt} {compare swap : BitVec 64} {s t : State}
    (h : execAtomicCas h compare swap s = .next t) : t.outer = s.outer := by
  unfold execAtomicCas at h
  refine outer_onUnit h ?_
  simp

theorem outer_execNotify {h : Pkt} {target value : Nat} {s t : State}
    (h : execNotify h target value s = .next t) : t.outer = s.outer := by
  unfold execNotify at h
  refine outer_onUnit h ?_
  simp

theorem outer_execClose {h : Pkt} {reason : Nat} {s t : State}
    (h : execClose h reason s = .next t) : t.outer = s.outer := by
  unfold execClose at h
  refine outer_onUnit h ?_
  simp

theorem outer_execReservedOpcode {h : Pkt} {code : Nat} {s t : State}
    (h : execReservedOpcode h code s = .next t) : t.outer = s.outer := by
  unfold execReservedOpcode at h
  refine outer_onUnit h ?_
  simp

theorem outer_execAck {h : Pkt} {ntf : Bool} {s t : State} (h : execAck h ntf s = .next t) : t.outer = s.outer := by
  unfold execAck at h
  refine outer_onUnit h ?_
  simp

theorem outer_execCredit {h : Pkt} {s t : State} (h : execCredit h s = .next t) : t.outer = s.outer := by
  unfold execCredit at h
  refine outer_onUnit h ?_
  simp

theorem outer_execFlushAck {qpn psn : Nat} {s t : State}
    (h : execFlushAck qpn psn s = .next t) : t.outer = s.outer := by
  unfold execFlushAck at h
  rw [outer_done h]
  (try dsimp only)
  (repeat' split) <;> simp

theorem outer_execAckDelayExpiry {qpn : Nat} {s t : State}
    (h : execAckDelayExpiry qpn s = .next t) : t.outer = s.outer := by
  unfold execAckDelayExpiry at h
  rw [outer_done h]
  (try dsimp only)
  (repeat' split) <;> simp

@[simp] theorem outer_evictCtx (s : State) : (evictCtx s).outer = s.outer := by
  unfold evictCtx
  (try dsimp only)
  (repeat' split) <;> simp

theorem outer_execQpContextFetch {qpn : Nat} {s t : State} (h : execQpContextFetch qpn s = .next t) :
    t.outer = s.outer := by
  unfold execQpContextFetch at h
  rw [outer_done h]
  split
  · rfl
  · extract_lets mine nd s1 s2
    have h1 : s1.outer = s.outer := (outer_touchCtx ..).trans (outer_evictCtx _)
    clear_value s1
    have h2 : s2.outer = s1.outer := by
      unfold s2
      cases mine
      · rfl
      · exact outer_recSample ..
    clear_value s2
    rw [outer_forEach _ _ (fun w t => (outer_serveReq ..).trans (outer_freeBuffer ..)), h2, h1]

theorem outer_execCloseComplete {qpn : Nat} {s t : State}
    (h : execCloseComplete qpn s = .next t) : t.outer = s.outer := by
  unfold execCloseComplete at h
  rw [outer_done h]
  (try dsimp only)
  (repeat' split) <;> simp

theorem outer_execPeerClose {h : Pkt} {s t : State} (h : execPeerClose h s = .next t) : t.outer = s.outer := by
  unfold execPeerClose at h
  refine outer_onUnit h ?_
  apply outer_step1
  intro t
  (try dsimp only)
  (repeat' split) <;> simp

theorem outer_execPeerIdleTimeout {peer : Nat} {s t : State}
    (h : execPeerIdleTimeout peer s = .next t) : t.outer = s.outer := by
  unfold execPeerIdleTimeout at h
  rw [outer_done h]
  simp

@[simp] theorem outer_dropNote (id : Nat) (s : State) : (dropNote id s).outer = s.outer := by unfold dropNote; simp

theorem outer_execNotifyDelivery {id : Nat} {s t : State}
    (h : execNotifyDelivery id s = .next t) : t.outer = s.outer := by
  unfold execNotifyDelivery at h
  rw [outer_done h]
  (try dsimp only)
  (repeat' split) <;> simp

theorem outer_execNotifyRetransmit {qpn : Nat} {s t : State}
    (h : execNotifyRetransmit qpn s = .next t) : t.outer = s.outer := by
  unfold execNotifyRetransmit at h
  rw [outer_done h]
  (try dsimp only)
  (repeat' split) <;> simp

theorem outer_execNotifyUndelivered {id : Nat} {s t : State}
    (h : execNotifyUndelivered id s = .next t) : t.outer = s.outer := by
  unfold execNotifyUndelivered at h
  rw [outer_done h]
  (try dsimp only)
  (repeat' split) <;> simp

@[simp] theorem outer_helloRefused (ip : BitVec 128) (cookie status : Nat) (full : Bool) (s : State) :
    (helloRefused ip cookie status full s).outer = s.outer := by
  unfold helloRefused
  simp

@[simp] theorem outer_sendHello (slot : Option Nat) (gcm : Bool) (o : Out) (s : State) :
    (sendHello slot gcm o s).outer = s.outer := by
  unfold sendHello
  (try dsimp only)
  (repeat' split) <;> simp

@[simp] theorem outer_keepCookie (n cookie : Nat) (o : Out) (s : State) :
    (keepCookie n cookie o s).outer = s.outer := by
  unfold keepCookie
  simp

@[simp] theorem outer_helloPeer (h : Pkt) (b : HelloBody) (n : Nat) (c : PeerClass) (s : State) :
    (helloPeer h b n c s).outer = s.outer := by
  have derived : ∀ (gcm : Bool) (slot : Nat) (u : State), (if gcm then useSlot slot 5 u else u).outer = u.outer := by
    intro gcm slot u
    split <;> simp
  have last : ∀ (k slot : Nat) (gcm : Bool) (c : Option Nat) (o : Out) (p : Peer) (u : State), u.outer = s.outer →
      (keepCookie k b.cookie o (sendHello c gcm o (if gcm then useSlot slot 5 (sumCredit (useFree { u with net := { u.net with
        peers := SMap.set u.net.peers none k (some p) } })) else sumCredit (useFree { u with net := { u.net with
        peers := SMap.set u.net.peers none k (some p) } })))).outer = s.outer := by
    intro k slot gcm c o p u hu
    rw [outer_keepCookie, outer_sendHello, derived, outer_sumCredit, outer_useFree, outer_mk]
    exact hu
  unfold helloPeer
  extract_lets v gcmHere feats agreed old id
  clear_value v gcmHere feats agreed old id
  split
  · exact outer_helloRefused ..
  · split
    · exact outer_helloRefused ..
    · split
      · exact outer_helloRefused ..
      · split
        · exact outer_helloRefused ..
        · extract_lets s1 s2 lim rand gcm slot key der p nd o
          have h1 : s1.outer = s.outer := by
            unfold s1
            split
            · rw [outer_freePeer, outer_forEach _ _ (fun _ _ => outer_freeQp ..)]
            · rfl
          have h2 : s2.outer = s.outer := (outer_sumCredit _).trans h1
          clear_value s2
          exact last _ _ _ _ _ _ _ h2

@[simp] theorem outer_helloQp (h : Pkt) (b : HelloBody) (c : PeerClass) (s : State) :
    (helloQp h b c s).outer = s.outer := by
  unfold helloQp
  (try dsimp only)
  (repeat' split) <;> simp

theorem outer_execHello {h : Pkt} {b : HelloBody} {s t : State}
    (h : execHello h b s = .next t) : t.outer = s.outer := by
  unfold execHello at h
  refine outer_onUnit h ?_
  apply outer_step1
  intro t
  (try dsimp only)
  (repeat' split) <;> simp

@[simp] theorem outer_stampCmd (p : Path) (tag code : Nat) (op : RecOp) (s : State) :
    (stampCmd p tag code op s).outer = s.outer := by
  unfold stampCmd
  simp

theorem outer_execKeyRegister {p : Path} {tag : Nat} {ws : List Window} {any : Bool} {cls : Nat} {s t : State}
    (h : execKeyRegister p tag ws any cls s = .next t) : t.outer = s.outer := by
  unfold execKeyRegister at h
  rw [outer_done h]
  simp

theorem outer_execKeyRevoke {p : Path} {tag : Nat} {key : BitVec 64} {s t : State}
    (h : execKeyRevoke p tag key s = .next t) : t.outer = s.outer := by
  unfold execKeyRevoke at h
  rw [outer_done h]
  simp

theorem outer_execRevocationComplete {key : BitVec 64} {s t : State}
    (h : execRevocationComplete key s = .next t) : t.outer = s.outer := by
  unfold execRevocationComplete at h
  rw [outer_done h]
  (try dsimp only)
  (repeat' split) <;> simp

theorem outer_execCloseQp {p : Path} {qpn : Nat} {s t : State}
    (h : execCloseQp p qpn s = .next t) : t.outer = s.outer := by
  unfold execCloseQp at h
  rw [outer_done h]
  simp

theorem outer_execClosePeer {p : Path} {peer : Nat} {s t : State} (h : execClosePeer p peer s = .next t) :
    t.outer = s.outer := by
  unfold execClosePeer at h
  rw [outer_done h]
  apply outer_ctlWrite
  intro t
  split
  · rfl
  · dsimp only
    split <;> simp

end Sys2Proof.Machine
end

