-- ==== Sys2Proof/Laws/FrameTiers.lean ====
section
/-!
SUPPORT. The frame of the block's operations, file by file: the sequencer, Canopy, the tiers, DRAM and NAND
leave the queue of waiting commands and the fuses alone. One lemma per operation and per meaning of a command.
-/

namespace Sys2Proof.Machine

open Sys2Proof

set_option maxRecDepth 20000

/-! ### Seqr -/

theorem outer_execSourceHeartbeat {src lag : Nat} {s t : State}
    (h : execSourceHeartbeat src lag s = .next t) : t.outer = s.outer := by
  unfold execSourceHeartbeat at h
  refine outer_onUnit h ?_
  simp

theorem outer_execSequencerEmit {errs : List (Nat × Nat × ArrayCheck)} {s t : State}
    (h : execSequencerEmit errs s = .next t) : t.outer = s.outer := by
  unfold execSequencerEmit at h
  rw [outer_done h]
  simp

theorem outer_execMergeStall {src : Nat} {s t : State} (h : execMergeStall src s = .next t) : t.outer = s.outer := by
  unfold execMergeStall at h
  refine outer_onUnit h ?_
  simp

@[simp] theorem outer_releaseHeld (h : HeldReq) (s : State) : (releaseHeld h s).outer = s.outer := by
  unfold releaseHeld
  (try dsimp only)
  (repeat' split) <;> simp

theorem outer_execHeldWriteRelease {s t : State} (h : execHeldWriteRelease s = .next t) : t.outer = s.outer := by
  unfold execHeldWriteRelease at h
  rw [outer_done h]
  (try dsimp only)
  (repeat' split) <;> simp

@[simp] theorem outer_updLand (g a : Nat) (f : LandEntry → LandEntry) (s : State) :
    (updLand g a f s).outer = s.outer := by
  unfold updLand
  (try dsimp only)
  (repeat' split) <;> simp

theorem outer_execLandingDrain {grove line : Nat} {s t : State} (h : execLandingDrain grove line s = .next t) :
    t.outer = s.outer := by
  unfold execLandingDrain at h
  extract_lets tl at h
  rw [outer_done h]
  repeat' split
  · rfl
  · rfl
  · rfl
  · simp
  · simp
  · exact outer_startPromo_getD (outer_noFrame s)
  · rfl
  · next e => simpa using outer_passReq e

@[simp] theorem outer_discarded (src : Nat) (s : State) : (discarded src s).outer = s.outer := by
  unfold discarded
  simp

@[simp] theorem outer_readBefore (f i : Nat) (m : Mask) (o : DramRead) (s : State) :
    (readBefore f i m o s).outer = s.outer := by
  unfold readBefore
  simp

@[simp] theorem outer_drainInto (g a : Nat) (e : LandEntry) (o : DramRead) (s : State) :
    (drainInto g a e o s).outer = s.outer := by
  unfold drainInto
  (try dsimp only)
  (repeat' split) <;> simp

@[simp] theorem outer_landedToClean (g a : Nat) (s : State) : (landedToClean g a s).outer = s.outer := by
  unfold landedToClean
  simp

theorem outer_execLandingDrainDone {grove line : Nat} {o : DramRead} {s t : State}
    (h : execLandingDrainDone grove line o s = .next t) : t.outer = s.outer := by
  unfold execLandingDrainDone at h
  rw [outer_done h]
  split
  · rfl
  · split
    · rfl
    · split
      · simp
      · split
        · rfl
        · next e =>
          have k := outer_finishReq e
          dsimp only
          split <;> simpa using k

/-! ### NetPort -/

@[simp] theorem outer_netDrop (p : Nat) (s : State) : (netDrop p s).outer = s.outer := by unfold netDrop; simp

theorem outer_execArpRequest {port : Nat} {ip : BitVec 128} {s t : State}
    (h : execArpRequest port ip s = .next t) : t.outer = s.outer := by
  unfold execArpRequest at h
  refine outer_onUnit h ?_
  simp

theorem outer_execNeighborSolicitation {port : Nat} {ip : BitVec 128} {s t : State}
    (h : execNeighborSolicitation port ip s = .next t) : t.outer = s.outer := by
  unfold execNeighborSolicitation at h
  refine outer_onUnit h ?_
  simp

theorem outer_execIcmpEcho {port : Nat} {ip : BitVec 128} {v6 : Bool} {s t : State}
    (h : execIcmpEcho port ip v6 s = .next t) : t.outer = s.outer := by
  unfold execIcmpEcho at h
  refine outer_onUnit h ?_
  simp

theorem outer_execPauseFrame {port : Nat} {s t : State}
    (h : execPauseFrame port s = .next t) : t.outer = s.outer := by
  unfold execPauseFrame at h
  refine outer_onUnit h ?_
  simp

theorem outer_execPtpEventMessage {port : Nat} {tx : Bool} {mtype seqId : Nat} {s t : State}
    (h : execPtpEventMessage port tx mtype seqId s = .next t) : t.outer = s.outer := by
  unfold execPtpEventMessage at h
  refine outer_onUnit h ?_
  simp

theorem outer_execNetLinkChange {port : Nat} {up : Bool} {s t : State}
    (h : execNetLinkChange port up s = .next t) : t.outer = s.outer := by
  unfold execNetLinkChange at h
  refine outer_onUnit h ?_
  simp

/-! ### CanopyMaint -/

@[simp] theorem outer_failedAccess (w : Waiter) (s : State) : (failedAccess w s).outer = s.outer := by
  unfold failedAccess
  (try dsimp only)
  (repeat' split) <;> simp

@[simp] theorem outer_readEvents (g a f src : Nat) (o : DramRead) (s0 : State) :
    (readEvents g a f src o s0).outer = s0.outer := by
  unfold readEvents
  (try dsimp only)
  (repeat' split) <;> simp

@[simp] theorem outer_installFill (g a : Nat) (d : Option LineData) (s : State) :
    (installFill g a d s).outer = s.outer := by
  unfold installFill
  (try dsimp only)
  (repeat' split) <;> simp

@[simp] theorem outer_freeMiss (g a : Nat) (s : State) : (freeMiss g a s).outer = s.outer := by
  unfold freeMiss
  simp

@[simp] theorem outer_takeFill (g a f : Nat) (m : Miss) (o : DramRead) (chk : ArrayCheck) (s0 : State) :
    (takeFill g a f m o chk s0).outer = s0.outer := by
  unfold takeFill
  (try dsimp only)
  (repeat' split) <;> simp

theorem outer_execCanopyFill {grove line : Nat} {o : DramRead} {chk : ArrayCheck} {s t : State}
    (h : execCanopyFill grove line o chk s = .next t) : t.outer = s.outer := by
  unfold execCanopyFill at h
  rw [outer_done h]
  repeat' split
  · rfl
  · rfl
  · next e => exact (outer_takeFill ..).trans ((outer_finishReq e).trans (outer_passMiss ..))
  · rfl
  · extract_lets s1 s2
    have h1 : s1.outer = s.outer := outer_freeMiss ..
    clear_value s1
    have h2 : s2.outer = s1.outer := by
      unfold s2
      (repeat' split) <;> simp
    clear_value s2
    rw [outer_forEach _ _ (fun _ _ => outer_readAt ..), h2, h1]
  · rfl

@[simp] theorem outer_writeEntry (x : TrkEntry) (o : DramRead) (s : State) : (writeEntry x o s).outer = s.outer := by
  unfold writeEntry
  (try dsimp only)
  (repeat' split) <;> simp

theorem outer_writeOldest {g a : Nat} {o : DramRead} {s u : State} (h : writeOldest g a o s = some u) :
    u.outer = s.outer := by
  unfold writeOldest at h
  obtain ⟨v, e, h⟩ := Option.bind_eq_some_iff.mp h
  obtain ⟨x, -, h⟩ := Option.map_eq_some_iff.mp h
  rw [← h, outer_writeEntry, outer_setTrk, outer_finishReq e, outer_passTrk]

@[simp] theorem outer_makeRoom (fuel g a n : Nat) (s : State) : (makeRoom fuel g a n s).outer = s.outer := by
  induction fuel generalizing s with
  | zero => rfl
  | succ k ih =>
    unfold makeRoom
    split
    · rfl
    · split
      · next x _ =>
        cases e : writeOldest x.grove x.line .clean s
        · rfl
        · exact (ih _).trans (outer_writeOldest e)
      · rfl

theorem outer_walkWay {op : MaintOp} {all : Bool} {k w : Nat} {x : Way} {s u : State}
    (h : walkWay op all k w x s = some u) : u.outer = s.outer := by
  have hs : ∀ t : State, ({ t with can := { t.can with skipped := satAdd 32 t.can.skipped 1 } } : State).outer = t.outer :=
    fun _ => rfl
  unfold walkWay at h
  extract_lets skip pin dirty c s1 at h
  have hc : c.1.outer = s.outer := by
    unfold c
    split <;> simp
  clear_value c
  have h1 : s1.outer = s.outer := by
    unfold s1
    split <;> simp [hc]
  clear_value s1
  have h2 : (if dirty = true then putWay k w { x with st := .clean } s1 else s1).outer = s.outer := by
    split <;> simp [h1]
  repeat' split at h
  all_goals first
    | contradiction
    | (cases h)
  all_goals first
    | exact h1
    | (rw [hs]; exact h2)
    | (rw [hs])
    | (rw [outer_dropWay]; exact h1)
    | (rw [outer_dropWay])
    | exact h2
    | (rw [outer_putWay]; exact h1)

@[simp] theorem outer_walkOn (x : Walk) (here : Nat → Option Nat) (s : State) : (walkOn x here s).outer = s.outer := by
  unfold walkOn
  extract_lets inSet s1 r a1 a2 s2
  have h1 : s1.outer = s.outer := outer_checkTags ..
  clear_value s1
  have hr : r.1.outer = s.outer := by
    rw [← h1]
    refine outer_foldl _ (fun acc e => ?_) _ _
    dsimp only
    repeat' split
    · rfl
    · rfl
    · next e => exact outer_walkWay e
    · rfl
  clear_value r
  have h2 : s2.outer = s.outer := hr
  clear_value s2
  repeat' split
  · exact hr
  · exact h2
  · rw [outer_forEach _ _ (fun _ _ => outer_setWf ..), h2]

@[simp] theorem outer_walkMore (s : State) : (walkMore s).outer = s.outer := by
  unfold walkMore
  (try dsimp only)
  (repeat' split) <;> simp

theorem outer_execEvictionWritten {grove line : Nat} {chk : ArrayCheck} {o : DramRead} {s t : State}
    (h : execEvictionWritten grove line chk o s = .next t) : t.outer = s.outer := by
  unfold execEvictionWritten at h
  rw [outer_done h]
  split
  · rfl
  · extract_lets cd c
    have hc : c.1.outer = s.outer := by
      unfold c
      rw [outer_trkCheck]
      split <;> rfl
    clear_value c
    repeat' split
    · exact hc
    · rfl
    · next e => rw [outer_walkMore, outer_runQueue, outer_writeOldest e, hc]

@[simp] theorem outer_maintCmd (p : Path) (g num : Nat) (f : State → State) (s : State) (h1 : ∀ t,
    (f t).outer = t.outer) : (maintCmd p g num f s).outer = s.outer := by
  unfold maintCmd
  (try dsimp only)
  (repeat' split) <;> simp [*]

@[simp] theorem outer_maintWalk (p : Path) (g num : Nat) (op : MaintOp) (errs : List (Nat × Nat × ArrayCheck))
    (s : State) : (maintWalk p g num op errs s).outer = s.outer := by
  unfold maintWalk
  rw [outer_maintCmd]
  intro t
  simp

theorem outer_execClean {p : Path} {grove : Nat} {errs : List (Nat × Nat × ArrayCheck)} {s t : State}
    (h : execClean p grove errs s = .next t) : t.outer = s.outer := by
  unfold execClean at h
  rw [outer_done h]
  simp

theorem outer_execInvalidate {p : Path} {grove : Nat} {errs : List (Nat × Nat × ArrayCheck)} {s t : State}
    (h : execInvalidate p grove errs s = .next t) : t.outer = s.outer := by
  unfold execInvalidate at h
  rw [outer_done h]
  simp

theorem outer_execCleanInvalidate {p : Path} {grove : Nat} {errs : List (Nat × Nat × ArrayCheck)} {s t : State}
    (h : execCleanInvalidate p grove errs s = .next t) : t.outer = s.outer := by
  unfold execCleanInvalidate at h
  rw [outer_done h]
  simp

@[simp] theorem outer_stampZero (g : Nat) (x : Nat × Nat) (s : State) : (stampZero g x s).outer = s.outer := by
  unfold stampZero
  simp

@[simp] theorem outer_startZero (g : Nat) (s : State) : (startZero g s).outer = s.outer := by unfold startZero; simp

theorem outer_execZeroRange {p : Path} {grove : Nat} {s t : State}
    (h : execZeroRange p grove s = .next t) : t.outer = s.outer := by
  unfold execZeroRange at h
  rw [outer_done h]
  simp

theorem outer_execMaintComplete {s t : State} (h : execMaintComplete s = .next t) : t.outer = s.outer := by
  unfold execMaintComplete at h
  rw [outer_done h]
  simp

@[simp] theorem outer_cleanAll (errs : List (Nat × Nat × ArrayCheck)) (s : State) :
    (cleanAll errs s).outer = s.outer := by
  unfold cleanAll
  simp

@[simp] theorem outer_canopyOff (p : Path) (errs : List (Nat × Nat × ArrayCheck)) (s : State) :
    (canopyOff p errs s).outer = s.outer := by
  unfold canopyOff
  simp

@[simp] theorem outer_canopyOn (p : Path) (s : State) : (canopyOn p s).outer = s.outer := by unfold canopyOn; simp

theorem outer_execCanopyDisable {p : Path} {errs : List (Nat × Nat × ArrayCheck)} {s t : State}
    (h : execCanopyDisable p errs s = .next t) : t.outer = s.outer := by
  unfold execCanopyDisable at h
  rw [outer_done h]
  simp

theorem outer_execCanopyEnable {p : Path} {s t : State} (h : execCanopyEnable p s = .next t) : t.outer = s.outer := by
  unfold execCanopyEnable at h
  rw [outer_done h]
  simp

theorem outer_execDisableComplete {s t : State} (h : execDisableComplete s = .next t) : t.outer = s.outer := by
  unfold execDisableComplete at h
  rw [outer_done h]
  simp

/-! ### TierWork -/

@[simp] theorem outer_spend (k : ProgKind) (forced : Bool) (s : State) : (spend k forced s).outer = s.outer := by
  unfold spend
  simp

theorem outer_takeBuf {need : Bool} {s u : State} (h : takeBuf need s = some u) : u.outer = s.outer := by
  unfold takeBuf at h
  split at h
  · exact outer_copAlloc h
  · cases h; rfl

@[simp] theorem outer_readUse (g t : Nat) (s u : State) : (readUse g t s u).outer = u.outer := by
  unfold readUse
  simp

@[simp] theorem outer_startProg {k : ProgKind} {g t : Nat} {forced : Bool} {s u : State}
    (h : startProg k g t forced s = some u) : u.outer = s.outer := by
  unfold startProg at h
  split at h
  · contradiction
  · extract_lets s1 p at h
    have h1 : s1.outer = s.outer := by simp [s1]
    clear_value p
    clear_value s1
    obtain ⟨v, e, h⟩ := Option.map_eq_some_iff.mp h
    obtain ⟨w, b, e⟩ := Option.bind_eq_some_iff.mp e
    rw [← h]
    simp [outer_placeProg e, outer_takeBuf b, h1]

@[simp] theorem outer_t2Pressure (s : State) : (t2Pressure s).outer = s.outer := by unfold t2Pressure; simp
@[simp] theorem outer_tryProg (k : ProgKind) (g t : Nat) (forced : Bool) (s : State) :
    (tryProg k g t forced s).outer = s.outer := by
  unfold tryProg
  cases h : startProg k g t forced s with
  | none => simp
  | some u => exact outer_startProg h

@[simp] theorem outer_freeFrame (g t : Nat) (s : State) : (freeFrame g t s).outer = s.outer := by
  unfold freeFrame
  (try dsimp only)
  (repeat' split) <;> simp

@[simp] theorem outer_demoteTile (cls g t : Nat) (k : ProgKind) (forced : Bool) (s : State) :
    (demoteTile cls g t k forced s).outer = s.outer := by
  unfold demoteTile
  simp

@[simp] theorem outer_pinOverflow (id : Nat) (s : State) : (pinOverflow id s).outer = s.outer := by
  unfold pinOverflow
  (try dsimp only)
  (repeat' split) <;> simp

@[simp] theorem outer_pinLine (id g a : Nat) (s : State) : (pinLine id g a s).outer = s.outer := by
  unfold pinLine
  extract_lets s1 k held st s0
  have h1 : s1.outer = s.outer := outer_makeRoom ..
  have h0 : s0.outer = s1.outer := outer_dropWf ..
  clear_value s0
  clear_value s1
  clear_value held
  rw [← h1]
  cases held <;> (dsimp only; (repeat' split) <;> simp [h0])

@[simp] theorem outer_pinTile (id g t : Nat) (s : State) : (pinTile id g t s).outer = s.outer := by
  unfold pinTile
  split
  · rfl
  · exact outer_forEach _ _ (fun _ _ => outer_pinLine ..) _

@[simp] theorem outer_fillFrame (g t f : Nat) (s : State) : (fillFrame g t f s).outer = s.outer := by
  unfold fillFrame
  apply outer_forEach
  intro i u
  split <;> simp

@[simp] theorem outer_noteResident (g t : Nat) (s : State) : (noteResident g t s).outer = s.outer := by
  unfold noteResident
  simp

@[simp] theorem outer_serveWaiters (g t : Nat) (here : Nat → Bool) (s : State) :
    (serveWaiters g t here s).outer = s.outer := by
  unfold serveWaiters
  (try dsimp only)
  (repeat' split) <;> simp

@[simp] theorem outer_endPromo (g t : Nat) (s : State) : (endPromo g t s).outer = s.outer := by
  unfold endPromo
  split
  · rfl
  · extract_lets pin s1 a1 s2 a2 s3 s4 s5 a3 s6 s7 s8 s9
    have h1 : s1.outer = s.outer := (outer_fillFrame ..).trans (outer_wakeFrame ..)
    clear_value s1
    have h2 : s2.outer = s.outer := (outer_setTile ..).trans h1
    clear_value s2
    have h3 : s3.outer = s.outer := by
      unfold s3
      split
      · exact h2
      · exact h2
    clear_value s3
    have h4 : s4.outer = s.outer := by simp [s4, h3]
    clear_value s4
    have h5 : s5.outer = s.outer := by simp [s5, h4]
    clear_value s5
    have h6 : s6.outer = s.outer := h5
    clear_value s6
    have h7 : s7.outer = s.outer := by simp [s7, h6]
    clear_value s7
    have h8 : s8.outer = s.outer := by
      unfold s8
      (repeat' split) <;> simp [h7]
    clear_value s8
    have h9 : s9.outer = s.outer := by
      unfold s9
      split <;> simp [h8]
    clear_value s9
    rw [outer_runQueue, outer_noteResident, h9]

@[simp] theorem outer_finishSeal (g t : Nat) (s : State) : (finishSeal g t s).outer = s.outer := by
  unfold finishSeal
  simp

/-! ### Tiers -/

theorem outer_execPromotionLineArrival {grove tile : Nat} {s t : State}
    (h : execPromotionLineArrival grove tile s = .next t) : t.outer = s.outer := by
  unfold execPromotionLineArrival at h
  rw [outer_done h]
  (try dsimp only)
  (repeat' split) <;> simp

theorem outer_execPromotionComplete {grove tile : Nat} {s t : State}
    (h : execPromotionComplete grove tile s = .next t) : t.outer = s.outer := by
  unfold execPromotionComplete at h
  rw [outer_done h]
  (try dsimp only)
  (repeat' split) <;> simp

theorem outer_execLateBoundExpiry {id : Nat} {s t : State}
    (h : execLateBoundExpiry id s = .next t) : t.outer = s.outer := by
  unfold execLateBoundExpiry at h
  rw [outer_done h]
  (try dsimp only)
  (repeat' split) <;> simp

theorem outer_execDemotion {errs : List LineRead} {s t : State}
    (h : execDemotion errs s = .next t) : t.outer = s.outer := by
  unfold execDemotion at h
  rw [outer_done h]
  (try dsimp only)
  (repeat' split) <;> simp

theorem outer_execAgeSweep {s t : State} (h : execAgeSweep s = .next t) : t.outer = s.outer := by
  unfold execAgeSweep at h
  rw [outer_done h]
  simp

theorem outer_execTrickle {errs : List LineRead} {s t : State}
    (h : execTrickle errs s = .next t) : t.outer = s.outer := by
  unfold execTrickle at h
  rw [outer_done h]
  (try dsimp only)
  (repeat' split) <;> simp

theorem outer_execMetadataTrickle {s t : State} (h : execMetadataTrickle s = .next t) : t.outer = s.outer := by
  unfold execMetadataTrickle at h
  rw [outer_done h]
  simp

theorem outer_execWearGovernorTick {s t : State} (h : execWearGovernorTick s = .next t) : t.outer = s.outer := by
  unfold execWearGovernorTick at h
  rw [outer_done h]
  simp

@[simp] theorem outer_stampFrom (src : Nat) (op : InOp) (ack : AckTo) (origin : Nat) (s : State) :
    (stampFrom src op ack origin s).outer = s.outer := by
  unfold stampFrom
  simp

@[simp] theorem outer_postCmd (v1 : Bool) (p : Path) (tag code : Nat) (op : RecOp) (s : State) :
    (postCmd v1 p tag code op s).outer = s.outer := by
  unfold postCmd
  (try dsimp only)
  (repeat' split) <;> simp

theorem outer_execSeal {p : Path} {tag grove first count : Nat} {s t : State}
    (h : execSeal p tag grove first count s = .next t) : t.outer = s.outer := by
  unfold execSeal at h
  rw [outer_done h]
  simp

theorem outer_execUnseal {p : Path} {tag grove first count : Nat} {s t : State}
    (h : execUnseal p tag grove first count s = .next t) : t.outer = s.outer := by
  unfold execUnseal at h
  rw [outer_done h]
  simp

theorem outer_execPost {p : Path} {tag : Nat} {v1 : Bool} {c : SchedCmd} {s t : State}
    (h : execPost p tag v1 c s = .next t) : t.outer = s.outer := by
  unfold execPost at h
  rw [outer_done h]
  simp

theorem outer_execAppend {p : Path} {tag : Nat} {v1 : Bool} {c : SchedCmd} {s t : State}
    (h : execAppend p tag v1 c s = .next t) : t.outer = s.outer := by
  unfold execAppend at h
  rw [outer_done h]
  simp

theorem outer_execCancel {p : Path} {tag : Nat} {v1 : Bool} {c : SchedCmd} {s t : State}
    (h : execCancel p tag v1 c s = .next t) : t.outer = s.outer := by
  unfold execCancel at h
  rw [outer_done h]
  simp

theorem outer_execSealCopy {grove tile : Nat} {errs : List LineRead} {s t : State}
    (h : execSealCopy grove tile errs s = .next t) : t.outer = s.outer := by
  unfold execSealCopy at h
  rw [outer_done h]
  simp

@[simp] theorem outer_stageTile (q : QEntry) (t : Nat) (s : State) : (stageTile q t s).outer = s.outer := by
  unfold stageTile
  extract_lets p
  have hp : p.2.outer = s.outer := outer_onlyIf _ _ _ (fun _ => outer_raise ..)
  clear_value p
  rw [outer_startPromo_getD ((outer_copFree ..).trans (outer_noFrame _)), hp]

theorem outer_execScheduleStage {s t : State} (h : execScheduleStage s = .next t) : t.outer = s.outer := by
  unfold execScheduleStage at h
  rw [outer_done h]
  split
  · rfl
  · split
    · rfl
    · split
      · rename_i e
        rw [outer_stageTile, outer_copAlloc e]
      · split <;> rfl

theorem outer_execAllocationGrant {pool : Nat} {s t : State} (h : execAllocationGrant pool s = .next t) :
    t.outer = s.outer := by
  unfold execAllocationGrant at h
  refine outer_onUnit h ?_
  split
  · rfl
  · split
    · rfl
    · rename_i u e
      have k : ∀ l, ({ u with cop := { u.cop with waiting := l } } : State).outer = s.outer := fun _ =>
        (rfl : _ = u.outer).trans (outer_copAlloc e)
      dsimp only
      split
      · rw [outer_stageTile]; exact k _
      · rw [outer_copFree]; exact k _

theorem outer_execScheduleEntryRetire {entry : Nat} {s t : State}
    (h : execScheduleEntryRetire entry s = .next t) : t.outer = s.outer := by
  unfold execScheduleEntryRetire at h
  rw [outer_done h]
  (try dsimp only)
  (repeat' split) <;> simp

@[simp] theorem outer_putCellar (r : Repair) (l : List LineData) (s : State) : (putCellar r l s).outer = s.outer := by
  unfold putCellar
  refine outer_forEach _ _ (fun x u => ?_) _
  split
  · rfl
  · dsimp only
    rw [outer_celWrite, outer_mk, outer_fold]

theorem outer_putRepair {r : Repair} {l : List LineData} {s u : State} (h : putRepair r l s = some u) :
    u.outer = s.outer := by
  unfold putRepair at h
  split at h
  · cases h; exact outer_putCellar ..
  · extract_lets p at h
    clear_value p
    obtain ⟨v, e, h⟩ := Option.map_eq_some_iff.mp h
    obtain ⟨w, b, e⟩ := Option.bind_eq_some_iff.mp e
    rw [← h]
    simp [outer_placeProg e, outer_takeBuf b]

@[simp] theorem outer_endRepair (r : Repair) (s : State) : (endRepair r s).outer = s.outer := by
  unfold endRepair
  simp

@[simp] theorem outer_repairDone (g t : Nat) (r : RepairResult) (s : State) : (repairDone g t r s).outer = s.outer := by
  unfold repairDone
  split
  · rfl
  · extract_lets good
    have hg : ∀ ev l, (good ev l).outer = s.outer := by
      intro ev l
      unfold good
      split
      · rfl
      · split
        · rename_i u e
          rw [outer_endRepair, outer_raise, outer_putRepair e]
        · simp
    clear_value good
    (repeat' split) <;> simp [hg]

theorem outer_execT2RepairDone {grove tile : Nat} {r : RepairResult} {s t : State}
    (h : execT2RepairDone grove tile r s = .next t) : t.outer = s.outer := by
  unfold execT2RepairDone at h
  rw [outer_done h]
  simp

theorem outer_execPoisonClear {p : Path} {s t : State} (h : execPoisonClear p s = .next t) : t.outer = s.outer := by
  unfold execPoisonClear at h
  rw [outer_done h]
  apply outer_ctlWrite
  intro t
  (try dsimp only)
  (repeat' split) <;> simp

@[simp] theorem outer_endDrain (s : State) : (endDrain s).outer = s.outer := by unfold endDrain; simp

theorem outer_execCellarDrain {errs : List LineRead} {s t : State}
    (h : execCellarDrain errs s = .next t) : t.outer = s.outer := by
  unfold execCellarDrain at h
  rw [outer_done h]
  (try dsimp only)
  (repeat' split) <;> simp

/-! ### Dram -/

theorem outer_execZqCalibration {ch : Nat} {s t : State}
    (h : execZqCalibration ch s = .next t) : t.outer = s.outer := by
  unfold execZqCalibration at h
  refine outer_onUnit h ?_
  simp

theorem outer_execDqsDriftCompensation {ch : Nat} {s t : State}
    (h : execDqsDriftCompensation ch s = .next t) : t.outer = s.outer := by
  unfold execDqsDriftCompensation at h
  refine outer_onUnit h ?_
  simp

@[simp] theorem outer_closeRows (ch rank : Nat) (s : State) : (closeRows ch rank s).outer = s.outer := by
  unfold closeRows
  simp

theorem outer_execRefreshDue {ch rank : Nat} {s t : State}
    (h : execRefreshDue ch rank s = .next t) : t.outer = s.outer := by
  unfold execRefreshDue at h
  refine outer_onUnit h ?_
  simp

theorem outer_execMr4Poll {ch : Nat} {hotRanks : List Nat} {s t : State}
    (h : execMr4Poll ch hotRanks s = .next t) : t.outer = s.outer := by
  unfold execMr4Poll at h
  refine outer_onUnit h ?_
  simp

theorem outer_execSelfRefreshEntry {ch : Nat} {s t : State}
    (h : execSelfRefreshEntry ch s = .next t) : t.outer = s.outer := by
  unfold execSelfRefreshEntry at h
  refine outer_onUnit h ?_
  simp

@[simp] theorem outer_loseMetaLine (t i : Nat) (s : State) : (loseMetaLine t i s).outer = s.outer := by
  unfold loseMetaLine
  (try dsimp only)
  repeat' first | (simp; done) | (refine (outer_forEach _ _ (fun _ _ => ?_) _).trans ?_) | split

@[simp] theorem outer_repairMeta (n f i cls src : Nat) (m : Nat × Nat) (s : State) :
    (repairMeta n f i cls src m s).outer = s.outer := by
  unfold repairMeta
  simp

@[simp] theorem outer_patrolRepair (n f i cls : Nat) (peer : Option LineData) (s0 : State) :
    (patrolRepair n f i cls peer s0).outer = s0.outer := by
  unfold patrolRepair
  (try dsimp only)
  (repeat' split) <;> simp

@[simp] theorem outer_rewriteClean (f i : Nat) (s : State) : (rewriteClean f i s).outer = s.outer := by
  unfold rewriteClean
  simp

@[simp] theorem outer_patrolStep (n : Nat) (s : State) : (patrolStep n s).outer = s.outer := by
  unfold patrolStep
  simp

theorem outer_execPatrolRead {ch : Nat} {o : DramRead} {peerData : Option LineData} {s t : State}
    (h : execPatrolRead ch o peerData s = .next t) : t.outer = s.outer := by
  unfold execPatrolRead at h
  refine outer_onUnit h ?_
  (try dsimp only)
  (repeat' split) <;> simp

theorem outer_execCaParityAlert {ch sub : Nat} {replayOk : Bool} {s t : State}
    (h : execCaParityAlert ch sub replayOk s = .next t) : t.outer = s.outer := by
  unfold execCaParityAlert at h
  refine outer_onUnit h ?_
  simp

theorem outer_execCaRecoveryComplete {ch sub : Nat} {ok : Bool} {s t : State}
    (h : execCaRecoveryComplete ch sub ok s = .next t) : t.outer = s.outer := by
  unfold execCaRecoveryComplete at h
  refine outer_onUnit h ?_
  simp

theorem outer_execUeClear {p : Path} {ch : Nat} {s t : State}
    (h : execUeClear p ch s = .next t) : t.outer = s.outer := by
  unfold execUeClear at h
  rw [outer_done h]
  simp

@[simp] theorem outer_evacResult (n r : Nat) (s : State) : (evacResult n r s).outer = s.outer := by
  unfold evacResult
  simp

theorem outer_execEvacuate {p : Path} {set : Nat} {s t : State}
    (h : execEvacuate p set s = .next t) : t.outer = s.outer := by
  unfold execEvacuate at h
  rw [outer_done h]
  simp

@[simp] theorem outer_startMove (g t dst : Nat) (s : State) : (startMove g t dst s).outer = s.outer := by
  unfold startMove
  (try dsimp only)
  (repeat' split) <;> simp

@[simp] theorem outer_rehome (r : MetaRun) (first : Bool) (f : Nat) (s : State) :
    (rehome r first f s).outer = s.outer := by
  unfold rehome
  simp

theorem outer_moveMeta {n : Nat} {s u : State} (h : moveMeta n s = some u) : u.outer = s.outer := by
  unfold moveMeta at h
  split at h
  · contradiction
  · extract_lets first at h
    split at h
    · contradiction
    · obtain ⟨f, -, e⟩ := Option.map_eq_some_iff.mp h
      rw [← e]
      simp

@[simp] theorem outer_evacDemote (ok : Nat → Nat → Bool) (s : State) : (evacDemote ok s).outer = s.outer := by
  unfold evacDemote
  (try dsimp only)
  (repeat' split) <;> simp

theorem outer_execFrameMove {errs : List LineRead} {s t : State} (h : execFrameMove errs s = .next t) :
    t.outer = s.outer := by
  unfold execFrameMove at h
  extract_lets s0 at h
  have h0 : s0.outer = s.outer := outer_noteReads ..
  clear_value s0
  rw [outer_done h, ← h0]
  split
  · rfl
  · rename_i n _
    split
    · rfl
    · extract_lets l first room freeUp
      have k : freeUp.outer = s0.outer := by
        unfold freeUp
        split <;> simp
      clear_value freeUp
      have km : ((moveMeta n s0).getD freeUp).outer = s0.outer := by
        cases e : moveMeta n s0
        · exact k
        · exact outer_moveMeta e
      split
      · rw [outer_finishEvac, km]
      · (repeat' split) <;> simp [k]

theorem outer_execFrameMoveComplete {grove tile : Nat} {errs : List LineRead} {s t : State}
    (h : execFrameMoveComplete grove tile errs s = .next t) : t.outer = s.outer := by
  unfold execFrameMoveComplete at h
  extract_lets s0 at h
  have h0 : s0.outer = s.outer := outer_noteReads ..
  clear_value s0
  rw [outer_done h, ← h0]
  split
  · rfl
  · split
    · rfl
    · extract_lets s1 s2 s3 a1 s4
      have h1 : s1.outer = s0.outer := by simp [s1]
      clear_value s1
      have h2 : s2.outer = s1.outer := by
        refine outer_forEach _ _ (fun i u => ?_) _
        dsimp only
        split <;> simp
      clear_value s2
      have h3 : s3.outer = s2.outer := by simp [s3]
      clear_value s3
      have h4 : s4.outer = s3.outer := by
        unfold s4
        rw [outer_moved, outer_chargeLines, outer_mk, outer_fold]
      clear_value s4
      rw [outer_finishEvac, outer_runQueue, h4, h3, h2, h1]

theorem outer_execReturnSet {p : Path} {set : Nat} {s t : State}
    (h : execReturnSet p set s = .next t) : t.outer = s.outer := by
  unfold execReturnSet at h
  rw [outer_done h]
  simp

@[simp] theorem outer_saveTrain (c : Nat) (t : DramTrain) (s : State) : (saveTrain c t s).outer = s.outer := by
  unfold saveTrain
  simp

theorem outer_execReturnTrainingComplete {set : Nat} {dram : List DramTrain} {s t : State}
    (h : execReturnTrainingComplete set dram s = .next t) : t.outer = s.outer := by
  unfold execReturnTrainingComplete at h
  rw [outer_done h]
  split
  · rfl
  · extract_lets x chs ok a1 s1 s2 a2
    have h1 : s1.outer = s.outer := by
      refine (outer_forEach _ _ (fun k u => ?_) _).trans rfl
      split <;> simp
    clear_value s1
    have h2 : s2.outer = s1.outer := by
      refine outer_forEach _ _ (fun k u => ?_) _
      split <;> simp
    clear_value s2
    split
    · rw [outer_runQueue, outer_setChannels, outer_updSet, h2, h1]
    · rw [outer_setChannels, outer_updSet, outer_mk]
      exact h1

theorem outer_execAbortEvac {p : Path} {set : Nat} {s t : State}
    (h : execAbortEvac p set s = .next t) : t.outer = s.outer := by
  unfold execAbortEvac at h
  rw [outer_done h]
  apply outer_ctlWrite
  intro t
  (try dsimp only)
  (repeat' split) <;> simp

/-! ### Nand -/

@[simp] theorem outer_startRepair (g t : Nat) (sectors : BitVec 16) (origin : Nat) (s : State) :
    (startRepair g t sectors origin s).outer = s.outer := by
  unfold startRepair
  simp

@[simp] theorem outer_ladder (ch : Nat) (o : Ladder) (s : State) : (ladder ch o s).outer = s.outer := by
  unfold ladder
  (try dsimp only)
  (repeat' split) <;> simp

@[simp] theorem outer_readWhole (n : Nat) (reads : List (Nat × Ladder)) (s : State) :
    (readWhole n reads s).outer = s.outer := by
  unfold readWhole
  simp

@[simp] theorem outer_readStripe (n : Nat) (s : State) : (readStripe n s).outer = s.outer := by
  unfold readStripe
  simp

@[simp] theorem outer_readSlot (g t n sec origin : Nat) (o : Ladder) (s : State) :
    (readSlot g t n sec origin o s).outer = s.outer := by
  unfold readSlot
  (try dsimp only)
  (repeat' split) <;> simp

@[simp] theorem outer_cwRead (g t sec : Nat) (s : State) : (cwRead g t sec s).outer = s.outer := by
  unfold cwRead
  simp

theorem outer_execNandReadComplete {grove tile sector : Nat} {o : Ladder} {s t : State}
    (h : execNandReadComplete grove tile sector o s = .next t) : t.outer = s.outer := by
  unfold execNandReadComplete at h
  rw [outer_done h]
  (try dsimp only)
  (repeat' split) <;> simp

@[simp] theorem outer_scanAt (t2 sector : Nat) (o : Ladder) (s : State) : (scanAt t2 sector o s).outer = s.outer := by
  unfold scanAt
  (try dsimp only)
  (repeat' split) <;> simp

theorem outer_execBackgroundScan {t2 sector : Nat} {o : Ladder} {s t : State}
    (h : execBackgroundScan t2 sector o s = .next t) : t.outer = s.outer := by
  unfold execBackgroundScan at h
  rw [outer_done h]
  split
  · rfl
  · extract_lets s1 took late a1 s2
    have h1 : s1.outer = s.outer := outer_scanAt ..
    clear_value s1
    clear_value late took
    have h2 : s2.outer = s1.outer := by
      unfold s2
      rw [outer_onlyIf _ _ _ (fun _ => outer_ftlCause ..), outer_mk, outer_fold]
    clear_value s2
    split
    · rw [outer_mk]; exact h2.trans h1
    · rw [outer_mk]; exact h2.trans h1

@[simp] theorem outer_freeIfClean (g t : Nat) (s : State) : (freeIfClean g t s).outer = s.outer := by
  unfold freeIfClean
  simp

@[simp] theorem outer_afterProg (p : Prog) (s : State) : (afterProg p s).outer = s.outer := by
  unfold afterProg
  (try dsimp only)
  (repeat' split) <;> simp

@[simp] theorem outer_progOk (p : Prog) (s : State) : (progOk p s).outer = s.outer := by unfold progOk; simp
@[simp] theorem outer_padRest (w : Nat) (s : State) : (padRest w s).outer = s.outer := by unfold padRest; simp
@[simp] theorem outer_wlOk (w : Nat) (s : State) : (wlOk w s).outer = s.outer := by unfold wlOk; simp
@[simp] theorem outer_wlFailed (w : Nat) (s : State) : (wlFailed w s).outer = s.outer := by unfold wlFailed; simp

@[simp] theorem outer_wlBegin (w : Nat) (s : State) : (wlBegin w s).outer = s.outer := by
  unfold wlBegin
  (try dsimp only)
  (repeat' split) <;> simp

@[simp] theorem outer_inVault (s : State) : (inVault s).outer = s.outer := by unfold inVault; simp

theorem outer_execNandProgramDone {id : Nat} {ok : Bool} {s t : State}
    (h : execNandProgramDone id ok s = .next t) : t.outer = s.outer := by
  unfold execNandProgramDone at h
  rw [outer_done h]
  (try dsimp only)
  (repeat' split) <;> simp

@[simp] theorem outer_releaseSuper (k : Nat) (s : State) : (releaseSuper k s).outer = s.outer := by
  unfold releaseSuper
  apply outer_forEach
  intro n u
  (repeat' split) <;> simp

@[simp] theorem outer_noteCrit (s : State) : (noteCrit s).outer = s.outer := by unfold noteCrit; simp

theorem outer_execReclaim {s t : State} (h : execReclaim s = .next t) : t.outer = s.outer := by
  unfold execReclaim at h
  rw [outer_done h]
  (try dsimp only)
  (repeat' split) <;> simp

@[simp] theorem outer_rollReloc (g n : Nat) (s : State) : (rollReloc g n s).outer = s.outer := by
  unfold rollReloc
  (try dsimp only)
  (repeat' split) <;> simp

@[simp] theorem outer_relocate (n : Nat) (reads : List (Nat × Ladder)) (s : State) :
    (relocate n reads s).outer = s.outer := by
  have hd : ∀ u : State, ({ u with nand := { u.nand with relocs := u.nand.relocs.filter (· ≠ n) } } : State).outer = u.outer :=
    fun _ => rfl
  unfold relocate
  extract_lets drop
  split
  · exact hd s
  · rename_i g t _
    split
    · rfl
    · split
      · exact (hd _).trans (by simp)
      · extract_lets p
        clear_value p
        split
        · rename_i u e
          obtain ⟨w, b, e⟩ := Option.bind_eq_some_iff.mp e
          refine (hd _).trans ?_
          simp [outer_placeProg e, outer_takeBuf b]
        · simp

theorem outer_execRelocation {t2 : Nat} {reads : List (Nat × Ladder)} {s t : State}
    (h : execRelocation t2 reads s = .next t) : t.outer = s.outer := by
  unfold execRelocation at h
  rw [outer_done h]
  simp

@[simp] theorem outer_erased (b : Nat) (s : State) : (erased b s).outer = s.outer := by unfold erased; simp

@[simp] theorem outer_dropUnprotected (b : Nat) (s : State) : (dropUnprotected b s).outer = s.outer := by
  unfold dropUnprotected
  simp

@[simp] theorem outer_closeSuper (b : Nat) (s : State) : (closeSuper b s).outer = s.outer := by
  unfold closeSuper
  simp

theorem outer_execNandEraseDone {ch die block : Nat} {ok : Bool} {s t : State}
    (h : execNandEraseDone ch die block ok s = .next t) : t.outer = s.outer := by
  unfold execNandEraseDone at h
  refine outer_onUnit h ?_
  simp

theorem outer_execStaticWearLevel {ch die : Nat} {s t : State}
    (h : execStaticWearLevel ch die s = .next t) : t.outer = s.outer := by
  unfold execStaticWearLevel at h
  refine outer_onUnit h ?_
  (try dsimp only)
  (repeat' split) <;> simp

theorem outer_execReadDisturbLimit {ch die block : Nat} {s t : State}
    (h : execReadDisturbLimit ch die block s = .next t) : t.outer = s.outer := by
  unfold execReadDisturbLimit at h
  refine outer_onUnit h ?_
  simp

theorem outer_execStripeParityTimeout {grp die vblock slot : Nat} {s t : State}
    (h : execStripeParityTimeout grp die vblock slot s = .next t) : t.outer = s.outer := by
  unfold execStripeParityTimeout at h
  refine outer_onUnit h ?_
  (try dsimp only)
  (repeat' split) <;> simp

@[simp] theorem outer_endRebuild (s : State) : (endRebuild s).outer = s.outer := by unfold endRebuild; simp
theorem outer_execDieRebuild {reads : List (Nat × Ladder)} {s t : State} (h : execDieRebuild reads s = .next t) :
    t.outer = s.outer := by
  unfold execDieRebuild at h
  rw [outer_done h]
  split
  · rfl
  · split
    · simp
    · rename_i n rest _
      extract_lets a1 s1 member climbed s2 a2
      have h1 : s1.outer = s.outer := rfl
      have hc : ∀ u : State, (climbed u).outer = u.outer := by
        intro u
        refine (outer_forEach _ _ (fun r v => ?_) _).trans (outer_readStripe ..)
        rw [outer_countReads, outer_ladder]
      clear_value s1
      clear_value climbed
      have h2 : s2.outer = s1.outer := by
        unfold s2
        split
        · exact hc _
        · rfl
      clear_value s2
      split
      · simpa using h1
      · rename_i g t _
        extract_lets p
        clear_value p
        split
        · rw [outer_endRebuild, outer_startRepair, outer_mk]
          exact h2.trans h1
        · split
          · rename_i u e
            obtain ⟨w, b, e⟩ := Option.bind_eq_some_iff.mp e
            rw [outer_endRebuild, hc, outer_spend, outer_bumpId, outer_placeProg e, outer_takeBuf b, outer_dropReloc, h1]
          · rw [outer_t2Pressure]

theorem outer_execDieDead {ch die : Nat} {s t : State} (h : execDieDead ch die s = .next t) : t.outer = s.outer := by
  unfold execDieDead at h
  refine outer_onUnit h ?_
  simp

@[simp] theorem outer_celCompact (s : State) : (celCompact s).outer = s.outer := by
  unfold celCompact
  (try dsimp only)
  (repeat' split) <;> simp

theorem outer_execCellarBlockErase {s t : State} (h : execCellarBlockErase s = .next t) : t.outer = s.outer := by
  unfold execCellarBlockErase at h
  rw [outer_done h]
  simp

end Sys2Proof.Machine
end

