-- ==== Sys2Proof/Laws/FrameNode.lean ====
section
/-!
SUPPORT. The frame of the block's operations, file by file: the
twins, the cipher engine, bring-up, monitoring and control space
leave the queue of waiting commands and the fuses alone. One lemma per operation and per meaning of a command.
-/

namespace Sys2Proof.Machine

open Sys2Proof

set_option maxRecDepth 20000

/-! ### TwinWork -/

@[simp] theorem outer_applyReceived (fuel : Nat) (s : State) : (applyReceived fuel s).outer = s.outer := by
  induction fuel generalizing s with
  | zero => rfl
  | succ n ih =>
    unfold applyReceived
    split <;> simp [ih]

@[simp] theorem outer_promoteTo (e : Nat) (s : State) : (promoteTo e s).outer = s.outer := by
  have h : (applyReceived (s.seqr.inputs.length + 1) s).outer = s.outer := outer_applyReceived ..
  unfold promoteTo
  split
  · simp
  · generalize applyReceived (s.seqr.inputs.length + 1) s = u at h
    dsimp only
    split
    · exact h
    · simp [h]

@[simp] theorem outer_promote (s : State) : (promote s).outer = s.outer := by unfold promote; simp

@[simp] theorem outer_joinUnder (epoch last : Nat) (s : State) : (joinUnder epoch last s).outer = s.outer := by
  unfold joinUnder
  simp

@[simp] theorem outer_rank_ (n : NegRec) (s : State) : (rank_ n s).outer = s.outer := by
  unfold rank_
  (repeat' split) <;> simp

@[simp] theorem outer_elect (n : NegRec) (s : State) : (elect n s).outer = s.outer := by
  unfold elect
  (try dsimp only)
  (repeat' split) <;> simp

@[simp] theorem outer_epochGate (h : FrameHdr) (endSeq : Option Nat) (ack : Bool) (f : State → State)
    (s : State) (h1 : ∀ t, (f t).outer = t.outer) : (epochGate h endSeq ack f s).outer = s.outer := by
  unfold epochGate
  (try dsimp only)
  (repeat' split) <;> simp [*]

@[simp] theorem outer_ackFrames (upto : Nat) (s : State) : (ackFrames upto s).outer = s.outer := by
  unfold ackFrames
  simp

@[simp] theorem outer_onUtl (h : FrameHdr) (endSeq : Option Nat) (ack : Bool) (f : State → State)
    (s : State) (h1 : ∀ t, (f t).outer = t.outer) : (onUtl h endSeq ack f s).outer = s.outer := by
  unfold onUtl
  (try dsimp only)
  (repeat' split) <;> simp [*]

@[simp] theorem outer_onNet (h : FrameHdr) (endSeq : Option Nat) (f : State → State) (s : State) (h1 : ∀ t,
    (f t).outer = t.outer) : (onNet h endSeq f s).outer = s.outer := by
  unfold onNet
  (try dsimp only)
  (repeat' split) <;> simp [*]

@[simp] theorem outer_onEither (h : FrameHdr) (endSeq : Option Nat) (f : State → State) (s : State)
    (h1 : ∀ t, (f t).outer = t.outer) : (onEither h endSeq f s).outer = s.outer := by
  unfold onEither
  (try dsimp only)
  (repeat' split) <;> simp [*]

@[simp] theorem outer_dropLink (e : Nat) (s : State) : (dropLink e s).outer = s.outer := by unfold dropLink; simp

@[simp] theorem outer_takeCredit (c : Nat) (s : State) : (takeCredit c s).outer = s.outer := by
  unfold takeCredit
  simp

@[simp] theorem outer_takeAck (ackSeq : Nat) (s : State) : (takeAck ackSeq s).outer = s.outer := by
  unfold takeAck
  simp

@[simp] theorem outer_takeReport (applied : Nat) (s : State) : (takeReport applied s).outer = s.outer := by
  unfold takeReport
  simp

/-! ### Resync -/

@[simp] theorem outer_copyLine (g a src : Nat) (s : State) : ((copyLine g a src s).1).outer = s.outer := by
  unfold copyLine
  (try dsimp only)
  (repeat' split) <;> simp

@[simp] theorem outer_chunkCorrected (g t c : Nat) (s : State) : (chunkCorrected g t c s).outer = s.outer := by
  unfold chunkCorrected
  (try dsimp only)
  (repeat' split) <;> simp

@[simp] theorem outer_chunkLines (g t c src : Nat) (s : State) : ((chunkLines g t c src s).1).outer = s.outer := by
  unfold chunkLines
  extract_lets s1 r
  have h1 : s1.outer = s.outer := outer_chunkCorrected ..
  clear_value s1
  have hr : r.1.outer = s1.outer := outer_foldl _ (fun a x => by simp) _ _
  clear_value r
  simp [hr, h1]

@[simp] theorem outer_startResync (s : State) : (startResync s).outer = s.outer := by unfold startResync; simp
@[simp] theorem outer_resyncIfAsked (s : State) : (resyncIfAsked s).outer = s.outer := by unfold resyncIfAsked; simp

theorem outer_execRecopy {h : FrameHdr} {last : Bool} {ts : List (Nat × Nat)} {s t : State}
    (h : execRecopy h last ts s = .next t) : t.outer = s.outer := by
  unfold execRecopy at h
  rw [outer_done h]
  simp

@[simp] theorem outer_sendChunk (g t c : Nat) (b : ChunkBody) (s : State) :
    (sendChunk g t c b s).outer = s.outer := by
  unfold sendChunk
  simp

@[simp] theorem outer_doneIfLast (s : State) : (doneIfLast s).outer = s.outer := by unfold doneIfLast; simp

theorem outer_execResyncChunkRead {errs : List LineRead} {s t : State}
    (h : execResyncChunkRead errs s = .next t) : t.outer = s.outer := by
  unfold execResyncChunkRead at h
  rw [outer_done h]
  (try dsimp only)
  (repeat' split) <;> simp

@[simp] theorem outer_clearSchedules (s : State) : (clearSchedules s).outer = s.outer := by
  unfold clearSchedules
  simp

theorem outer_execResyncStart {h : FrameHdr} {bulk : Bool} {start : Nat} {s t : State}
    (h : execResyncStart h bulk start s = .next t) : t.outer = s.outer := by
  unfold execResyncStart at h
  rw [outer_done h]
  simp

theorem outer_execResyncDone {h : FrameHdr} {last : Nat} {s t : State}
    (h : execResyncDone h last s = .next t) : t.outer = s.outer := by
  unfold execResyncDone at h
  rw [outer_done h]
  simp

@[simp] theorem outer_confirmSeal (g t : Nat) (s : State) : (confirmSeal g t s).outer = s.outer := by
  unfold confirmSeal
  simp

@[simp] theorem outer_waitSeal (g t gtc src : Nat) (s : State) : (waitSeal g t gtc src s).outer = s.outer := by
  unfold waitSeal
  simp

@[simp] theorem outer_sealAs (x : Nat × Nat × Nat × Nat) (s : State) : (sealAs x s).outer = s.outer := by
  unfold sealAs
  simp

@[simp] theorem outer_compareSeal (g t gtc src : Nat) (s : State) : (compareSeal g t gtc src s).outer = s.outer := by
  unfold compareSeal
  simp

@[simp] theorem outer_takeRepair (c : Chunk) (l : Option (List LineData)) (s : State) :
    (takeRepair c l s).outer = s.outer := by
  unfold takeRepair
  (try dsimp only)
  (repeat' split) <;> simp

theorem outer_execResyncData {h : FrameHdr} {c : Chunk} {s t : State}
    (h : execResyncData h c s = .next t) : t.outer = s.outer := by
  unfold execResyncData at h
  rw [outer_done h]
  (try dsimp only)
  (repeat' split) <;> simp

@[simp] theorem outer_beginTile (g t : Nat) (s : State) : (beginTile g t s).outer = s.outer := by
  unfold beginTile
  simp

@[simp] theorem outer_forgetLines (g lo : Nat) (s : State) : (forgetLines g lo s).outer = s.outer := by
  unfold forgetLines
  simp

@[simp] theorem outer_fillChunk (g t c : Nat) (ls : List LineData) (m : BitVec 128) (s : State) :
    (fillChunk g t c ls m s).outer = s.outer := by
  unfold fillChunk
  (try dsimp only)
  (repeat' split) <;> simp

@[simp] theorem outer_tileInstalled (g t : Nat) (s : State) : (tileInstalled g t s).outer = s.outer := by
  unfold tileInstalled
  (try dsimp only)
  (repeat' split) <;> simp

@[simp] theorem outer_installMeta (m : StampRec) (s : State) : (installMeta m s).outer = s.outer := by
  unfold installMeta
  (try dsimp only)
  (repeat' split) <;> simp

@[simp] theorem outer_installChunk (c : Chunk) (s : State) : (installChunk c s).outer = s.outer := by
  unfold installChunk
  (try dsimp only)
  (repeat' split) <;> simp

theorem outer_execResyncChunkInstall {s t : State} (h : execResyncChunkInstall s = .next t) : t.outer = s.outer := by
  unfold execResyncChunkInstall at h
  rw [outer_done h]
  (try dsimp only)
  (repeat' split) <;> simp

theorem outer_execResyncComplete {s t : State} (h : execResyncComplete s = .next t) : t.outer = s.outer := by
  unfold execResyncComplete at h
  rw [outer_done h]
  (try dsimp only)
  (repeat' split) <;> simp

theorem outer_execRepairReq {h : FrameHdr} {grove tile : Nat} {mask : BitVec 16} {s t : State}
    (h : execRepairReq h grove tile mask s = .next t) : t.outer = s.outer := by
  unfold execRepairReq at h
  rw [outer_done h]
  simp

/-! ### Twin -/

@[simp] theorem outer_queueReplay (seq : Nat) (r : StampRec) (s : State) : (queueReplay seq r s).outer = s.outer := by
  unfold queueReplay
  simp

@[simp] theorem outer_takeRecords (first : Nat) (recs : List StampRec) (s : State) :
    (takeRecords first recs s).outer = s.outer := by
  have fold : ∀ (w : Nat) (l : List (StampRec × Nat)) (u : State),
      (l.foldl (fun u x => queueReplay (w + x.2) x.1 u) u).outer = u.outer := by
    intro w l
    induction l with
    | nil => exact fun _ => rfl
    | cons x l ih => intro u; rw [List.foldl, ih, outer_queueReplay]
  unfold takeRecords
  dsimp only
  generalize (if first ≤ s.twin.ackSeq + 1 then recs.drop (s.twin.ackSeq + 1 - first) else []) = new
  split
  · simp
  · rw [outer_sendLandingAck]
    split <;> simp [fold]

theorem outer_execStampedInput {h : FrameHdr} {first : Nat} {recs : List StampRec} {s t : State}
    (h : execStampedInput h first recs s = .next t) : t.outer = s.outer := by
  unfold execStampedInput at h
  rw [outer_done h]
  simp

theorem outer_execLandingAck {h : FrameHdr} {credit ackSeq applied : Nat} {s t : State}
    (h : execLandingAck h credit ackSeq applied s = .next t) : t.outer = s.outer := by
  unfold execLandingAck at h
  rw [outer_done h]
  simp

@[simp] theorem outer_peerReports (r : Role) (net : Bool) (s : State) : (peerReports r net s).outer = s.outer := by
  unfold peerReports
  (try dsimp only)
  (repeat' split) <;> simp

theorem outer_execHeartbeat {h : FrameHdr} {role : Role} {credit _ackSeq applied : Nat} {s t : State}
    (h : execHeartbeat h role credit _ackSeq applied s = .next t) : t.outer = s.outer := by
  unfold execHeartbeat at h
  rw [outer_done h]
  simp

theorem outer_execEpochFrame {h : FrameHdr} {endSeq : Nat} {role : Role} {s t : State}
    (h : execEpochFrame h endSeq role s = .next t) : t.outer = s.outer := by
  unfold execEpochFrame at h
  rw [outer_done h]
  simp

theorem outer_execReservedFrameType {h : FrameHdr} {type : Nat} {s t : State}
    (h : execReservedFrameType h type s = .next t) : t.outer = s.outer := by
  unfold execReservedFrameType at h
  rw [outer_done h]
  simp

theorem outer_execDigest {h : FrameHdr} {first : Nat} {value : BitVec 128} {s t : State}
    (h : execDigest h first value s = .next t) : t.outer = s.outer := by
  unfold execDigest at h
  rw [outer_done h]
  apply outer_onUtl
  intro t
  (try dsimp only)
  (repeat' split) <;> simp

theorem outer_execLeaving {h : FrameHdr} {lastSeq : Nat} {s t : State}
    (h : execLeaving h lastSeq s = .next t) : t.outer = s.outer := by
  unfold execLeaving at h
  rw [outer_done h]
  apply outer_onEither
  intro t
  (try dsimp only)
  (repeat' split) <;> simp

theorem outer_execRelease {h : FrameHdr} {s t : State} (h : execRelease h s = .next t) : t.outer = s.outer := by
  unfold execRelease at h
  rw [outer_done h]
  (try dsimp only)
  (repeat' split) <;> simp

theorem outer_execReleaseAck {h : FrameHdr} {s t : State} (h : execReleaseAck h s = .next t) : t.outer = s.outer := by
  unfold execReleaseAck at h
  rw [outer_done h]
  simp

@[simp] theorem outer_takeTime (off : Int) (s : State) : (takeTime off s).outer = s.outer := by
  unfold takeTime
  simp

theorem outer_execTimeFrame {h : FrameHdr} {t1 t2 t3 : Nat} {s t : State}
    (h : execTimeFrame h t1 t2 t3 s = .next t) : t.outer = s.outer := by
  unfold execTimeFrame at h
  rw [outer_done h]
  simp

theorem outer_execTimeTimer {s t : State} (h : execTimeTimer s = .next t) : t.outer = s.outer := by
  unfold execTimeTimer at h
  rw [outer_done h]
  simp

@[simp] theorem outer_newKeys (own peer : BitVec 256) (s : State) : (newKeys own peer s).outer = s.outer := by
  unfold newKeys
  simp

theorem outer_execRekey {h : FrameHdr} {rand : BitVec 256} {s t : State}
    (h : execRekey h rand s = .next t) : t.outer = s.outer := by
  unfold execRekey at h
  rw [outer_done h]
  simp

theorem outer_execRekeyCount {s t : State} (h : execRekeyCount s = .next t) : t.outer = s.outer := by
  unfold execRekeyCount at h
  rw [outer_done h]
  simp

theorem outer_execHandoverFrame {h : FrameHdr} {lastSeq : Nat} {s t : State}
    (h : execHandoverFrame h lastSeq s = .next t) : t.outer = s.outer := by
  unfold execHandoverFrame at h
  rw [outer_done h]
  simp

theorem outer_execHandoverAck {h : FrameHdr} {epoch : Nat} {s t : State}
    (h : execHandoverAck h epoch s = .next t) : t.outer = s.outer := by
  unfold execHandoverAck at h
  rw [outer_done h]
  simp

theorem outer_execHandoverSend {s t : State} (h : execHandoverSend s = .next t) : t.outer = s.outer := by
  unfold execHandoverSend at h
  rw [outer_done h]
  simp

@[simp] theorem outer_loseUtl (s : State) : (loseUtl s).outer = s.outer := by unfold loseUtl; simp
@[simp] theorem outer_loseNet (s : State) : (loseNet s).outer = s.outer := by unfold loseNet; simp
@[simp] theorem outer_noteSilence (s : State) : (noteSilence s).outer = s.outer := by unfold noteSilence; simp

theorem outer_execHeartbeatTimer {s t : State} (h : execHeartbeatTimer s = .next t) : t.outer = s.outer := by
  unfold execHeartbeatTimer at h
  rw [outer_done h]
  simp

theorem outer_execThbExpiry {s t : State} (h : execThbExpiry s = .next t) : t.outer = s.outer := by
  unfold execThbExpiry at h
  rw [outer_done h]
  simp

theorem outer_execLeaderUtlSilence {s t : State} (h : execLeaderUtlSilence s = .next t) : t.outer = s.outer := by
  unfold execLeaderUtlSilence at h
  rw [outer_done h]
  simp

theorem outer_execFenceExpiry {s t : State} (h : execFenceExpiry s = .next t) : t.outer = s.outer := by
  unfold execFenceExpiry at h
  rw [outer_done h]
  simp

theorem outer_execTjoinExpiry {s t : State} (h : execTjoinExpiry s = .next t) : t.outer = s.outer := by
  unfold execTjoinExpiry at h
  rw [outer_done h]
  simp

theorem outer_execLagHoldStart {s t : State} (h : execLagHoldStart s = .next t) : t.outer = s.outer := by
  unfold execLagHoldStart at h
  rw [outer_done h]
  simp

theorem outer_execLagHoldLong {s t : State} (h : execLagHoldLong s = .next t) : t.outer = s.outer := by
  unfold execLagHoldLong at h
  rw [outer_done h]
  simp

@[simp] theorem outer_twinCmd (p : Path) (f : State → State) (s : State) (h1 : ∀ t, (f t).outer = t.outer) :
    (twinCmd p f s).outer = s.outer := by
  unfold twinCmd
  (try dsimp only)
  (repeat' split) <;> simp [*]

@[simp] theorem outer_twinResult (n : Nat) (s : State) : (twinResult n s).outer = s.outer := by
  unfold twinResult
  simp

theorem outer_execHandover {p : Path} {s t : State} (h : execHandover p s = .next t) : t.outer = s.outer := by
  unfold execHandover at h
  rw [outer_done h]
  simp

@[simp] theorem outer_promoteCmd (s : State) : (promoteCmd s).outer = s.outer := by unfold promoteCmd; simp

theorem outer_execResume {p : Path} {s t : State} (h : execResume p s = .next t) : t.outer = s.outer := by
  unfold execResume at h
  rw [outer_done h]
  simp

@[simp] theorem outer_setIncomplete (s : State) : (setIncomplete s).outer = s.outer := by unfold setIncomplete; simp

@[simp] theorem outer_poisonTile (x : Nat × Nat) (s : State) : (poisonTile x s).outer = s.outer := by
  unfold poisonTile
  (try dsimp only)
  (repeat' split) <;> simp

@[simp] theorem outer_missingFrom (have_ : List (Nat × Nat)) (s : State) : (missingFrom have_ s).outer = s.outer := by
  unfold missingFrom
  simp

theorem outer_execForceLead {p : Path} {s t : State} (h : execForceLead p s = .next t) : t.outer = s.outer := by
  unfold execForceLead at h
  rw [outer_done h]
  simp

theorem outer_execWitnessGrant {p : Path} {s t : State} (h : execWitnessGrant p s = .next t) : t.outer = s.outer := by
  unfold execWitnessGrant at h
  rw [outer_done h]
  apply outer_twinCmd
  intro t
  (try dsimp only)
  (repeat' split) <;> simp

theorem outer_execDivClear {p : Path} {s t : State} (h : execDivClear p s = .next t) : t.outer = s.outer := by
  unfold execDivClear at h
  rw [outer_done h]
  simp

/-! ### Link -/

theorem outer_execUtlRetryTimer {s t : State} (h : execUtlRetryTimer s = .next t) : t.outer = s.outer := by
  unfold execUtlRetryTimer at h
  rw [outer_done h]
  simp

theorem outer_execUtlTrainLock {mask : BitVec 16} {s t : State}
    (h : execUtlTrainLock mask s = .next t) : t.outer = s.outer := by
  unfold execUtlTrainLock at h
  rw [outer_done h]
  simp

theorem outer_execUtlTrainTimeout {s t : State} (h : execUtlTrainTimeout s = .next t) : t.outer = s.outer := by
  unfold execUtlTrainTimeout at h
  rw [outer_done h]
  simp

theorem outer_execUtlNegotiateTimeout {s t : State}
    (h : execUtlNegotiateTimeout s = .next t) : t.outer = s.outer := by
  unfold execUtlNegotiateTimeout at h
  rw [outer_done h]
  simp

theorem outer_execNegotiateTimer {s t : State} (h : execNegotiateTimer s = .next t) : t.outer = s.outer := by
  unfold execNegotiateTimer at h
  rw [outer_done h]
  simp

@[simp] theorem outer_linkStarts (n : NegRec) (rtt : Nat) (s : State) : (linkStarts n rtt s).outer = s.outer := by
  unfold linkStarts
  simp

theorem outer_execNegotiate {h : FrameHdr} {n : NegRec} {rtt : Nat} {s t : State}
    (h : execNegotiate h n rtt s = .next t) : t.outer = s.outer := by
  unfold execNegotiate at h
  rw [outer_done h]
  simp

@[simp] theorem outer_resend (expected : Nat) (s : State) : (resend expected s).outer = s.outer := by
  unfold resend
  simp

theorem outer_execRetryReq {h : FrameHdr} {expected : Nat} {s t : State}
    (h : execRetryReq h expected s = .next t) : t.outer = s.outer := by
  unfold execRetryReq at h
  rw [outer_done h]
  simp

@[simp] theorem outer_useLanes (m : BitVec 16) (s : State) : (useLanes m s).outer = s.outer := by
  unfold useLanes
  (try dsimp only)
  (repeat' split) <;> simp

theorem outer_execLaneChange {h : FrameHdr} {mask : BitVec 16} {confirm : Bool} {s t : State}
    (h : execLaneChange h mask confirm s = .next t) : t.outer = s.outer := by
  unfold execLaneChange at h
  rw [outer_done h]
  simp

theorem outer_execUtlLaneFault {healthy : BitVec 16} {s t : State}
    (h : execUtlLaneFault healthy s = .next t) : t.outer = s.outer := by
  unfold execUtlLaneFault at h
  rw [outer_done h]
  (try dsimp only)
  (repeat' split) <;> simp

theorem outer_execLaneChangeTimeout {s t : State} (h : execLaneChangeTimeout s = .next t) : t.outer = s.outer := by
  unfold execLaneChangeTimeout at h
  rw [outer_done h]
  simp

theorem outer_execRewiden {p : Path} {s t : State} (h : execRewiden p s = .next t) : t.outer = s.outer := by
  unfold execRewiden at h
  rw [outer_done h]
  simp

/-! ### Cipher -/

@[simp] theorem outer_dropSessions (n : Nat) (s : State) : (dropSessions n s).outer = s.outer := by
  unfold dropSessions
  (try dsimp only)
  (repeat' split) <;> simp

@[simp] theorem outer_cipherResult (n : Nat) (s : State) : (cipherResult n s).outer = s.outer := by
  unfold cipherResult
  simp

theorem outer_execZeroise {p : Path} {slot : Nat} {s t : State}
    (h : execZeroise p slot s = .next t) : t.outer = s.outer := by
  unfold execZeroise at h
  rw [outer_done h]
  simp

theorem outer_execRoll {p : Path} {slot : Nat} {s t : State}
    (h : execRoll p slot s = .next t) : t.outer = s.outer := by
  unfold execRoll at h
  rw [outer_done h]
  simp

@[simp] theorem outer_recrypt (g t : Nat) (s : State) : (recrypt g t s).outer = s.outer := by
  unfold recrypt
  split
  · rfl
  · apply outer_forEach
    intro i u
    dsimp only
    split <;> simp

theorem outer_execRollWalk {slot : Nat} {errs : List LineRead} {s t : State}
    (h : execRollWalk slot errs s = .next t) : t.outer = s.outer := by
  unfold execRollWalk at h
  rw [outer_done h]
  (try dsimp only)
  (repeat' split) <;> simp

theorem outer_execRollComplete {slot : Nat} {s t : State}
    (h : execRollComplete slot s = .next t) : t.outer = s.outer := by
  unfold execRollComplete at h
  rw [outer_done h]
  simp

@[simp] theorem outer_refuseKey (p : Path) (tag code : Nat) (s : State) :
    (refuseKey p tag code s).outer = s.outer := by
  unfold refuseKey
  simp

@[simp] theorem outer_keyEntered (n : Nat) (s : State) : (keyEntered n s).outer = s.outer := by
  unfold keyEntered
  simp

theorem outer_execKeyGenerate {p : Path} {tag : Nat} {v1 : Bool} {slot : Nat} {s t : State}
    (h : execKeyGenerate p tag v1 slot s = .next t) : t.outer = s.outer := by
  unfold execKeyGenerate at h
  rw [outer_done h]
  refine outer_belvor _ _ _ _ _ (fun t => outer_fromV2 _ _ _ _ _ _ (fun u => outer_mgmtOnly _ _ _ _ _ (fun v => ?_)))
  split <;> simp

theorem outer_execKeyImport {p : Path} {tag : Nat} {v1 : Bool} {slot : Nat} {unwrapOk : Bool} {key : BitVec 512} {s t : State}
    (h : execKeyImport p tag v1 slot unwrapOk key s = .next t) : t.outer = s.outer := by
  unfold execKeyImport at h
  rw [outer_done h]
  refine outer_belvor _ _ _ _ _ (fun t => outer_fromV2 _ _ _ _ _ _ (fun u => outer_mgmtOnly _ _ _ _ _ (fun v => ?_)))
  dsimp only
  split <;> simp

@[simp] theorem outer_stopRing (s : State) : (stopRing s).outer = s.outer := by unfold stopRing; simp

theorem outer_execRqTailWrite {p : Path} {tail : Nat} {s t : State}
    (h : execRqTailWrite p tail s = .next t) : t.outer = s.outer := by
  unfold execRqTailWrite at h
  rw [outer_done h]
  simp

theorem outer_execRingRestart {p : Path} {s t : State} (h : execRingRestart p s = .next t) : t.outer = s.outer := by
  unfold execRingRestart at h
  rw [outer_done h]
  simp

@[simp] theorem outer_spPut (a : Nat) (bs : List Byte) (s : State) : (spPut a bs s).outer = s.outer := by
  unfold spPut
  simp

@[simp] theorem outer_finishDesc (at_ outLen code : Nat) (irq : Bool) (s : State) :
    (finishDesc at_ outLen code irq s).outer = s.outer := by
  unfold finishDesc
  simp

@[simp] theorem outer_runDesc (mode : Nat) (s : State) : (runDesc mode s).outer = s.outer := by unfold runDesc; simp

theorem outer_execDescriptorXts {s t : State} (h : execDescriptorXts s = .next t) : t.outer = s.outer := by
  unfold execDescriptorXts at h
  rw [outer_done h]
  simp

theorem outer_execDescriptorGcm {s t : State} (h : execDescriptorGcm s = .next t) : t.outer = s.outer := by
  unfold execDescriptorGcm at h
  rw [outer_done h]
  simp

theorem outer_execDescriptorCmac {s t : State} (h : execDescriptorCmac s = .next t) : t.outer = s.outer := by
  unfold execDescriptorCmac at h
  rw [outer_done h]
  simp

theorem outer_execDescriptorKwp {s t : State} (h : execDescriptorKwp s = .next t) : t.outer = s.outer := by
  unfold execDescriptorKwp at h
  rw [outer_done h]
  simp

theorem outer_execLaneSelfTest {lane : Nat} {ok : Bool} {s t : State}
    (h : execLaneSelfTest lane ok s = .next t) : t.outer = s.outer := by
  unfold execLaneSelfTest at h
  refine outer_onUnit h ?_
  simp

theorem outer_execCipherSaturation {cls us : Nat} {s t : State} (h : execCipherSaturation cls us s = .next t) :
    t.outer = s.outer := by
  unfold execCipherSaturation at h
  refine outer_onUnit h ?_
  split
  · rfl
  · extract_lets s1 l a1
    have h1 : s1.outer = s.outer := outer_bumpRc ..
    clear_value s1
    rw [outer_onlyIf _ _ _ (by simp), outer_mk]
    exact h1

/-! ### Bringup -/

@[simp] theorem outer_toStage (n : Nat) (s : State) : (toStage n s).outer = s.outer := by unfold toStage; simp

@[simp] theorem outer_useSpare (m : Nat) (col : Bool) (s : State) : (useSpare m col s).outer = s.outer := by
  unfold useSpare
  simp

@[simp] theorem outer_applyRepairs (s : State) : (applyRepairs s).outer = s.outer := by unfold applyRepairs; simp
@[simp] theorem outer_takeDeferred (s : State) : (takeDeferred s).outer = s.outer := by unfold takeDeferred; simp
@[simp] theorem outer_tornFound (s : State) : (tornFound s).outer = s.outer := by unfold tornFound; simp

@[simp] theorem outer_disableLanes (l : List Nat) (s : State) : (disableLanes l s).outer = s.outer := by
  unfold disableLanes
  simp

theorem outer_execStage3 {fuseOk bistOk : Bool} {badLanes : List Nat} {s t : State}
    (h : execStage3 fuseOk bistOk badLanes s = .next t) : t.outer = s.outer := by
  unfold execStage3 at h
  rw [outer_done h]
  simp

theorem outer_execStage4 {locked : Bool} {s t : State} (h : execStage4 locked s = .next t) : t.outer = s.outer := by
  unfold execStage4 at h
  rw [outer_done h]
  simp

@[simp] theorem outer_noteFail (bank : Nat) (f : ImgFail) (s : State) : (noteFail bank f s).outer = s.outer := by
  unfold noteFail
  simp

@[simp] theorem outer_tryBanks (fwVersion : Word) (l : List Nat) (s : State) :
    (tryBanks fwVersion l s).outer = s.outer := by
  induction l generalizing s with
  | nil => simp [tryBanks]
  | cons b rest ih =>
    unfold tryBanks
    split
    · rw [ih]; simp
    · simp

@[simp] theorem outer_clearImageRegs (s : State) : (clearImageRegs s).outer = s.outer := by
  unfold clearImageRegs
  simp

@[simp] theorem outer_checkSectors (s : State) : (checkSectors s).outer = s.outer := by unfold checkSectors; simp

theorem outer_execStage5 {va vb : BankVerdict} {fwVersion : Word} {s t : State}
    (h : execStage5 va vb fwVersion s = .next t) : t.outer = s.outer := by
  unfold execStage5 at h
  rw [outer_done h]
  simp

@[simp] theorem outer_setRegs (id : RegId) (vs : List Nat) (s : State) : (setRegs id vs s).outer = s.outer := by
  unfold setRegs
  simp

@[simp] theorem outer_applyMediaRegs (im : Image) (s : State) : (applyMediaRegs im s).outer = s.outer := by
  unfold applyMediaRegs
  simp

@[simp] theorem outer_applyTierRegs (im : Image) (s : State) : (applyTierRegs im s).outer = s.outer := by
  unfold applyTierRegs
  simp

@[simp] theorem outer_applyPortRegs (im : Image) (s : State) : (applyPortRegs im s).outer = s.outer := by
  unfold applyPortRegs
  simp

@[simp] theorem outer_applyUnitRegs (im : Image) (s : State) : (applyUnitRegs im s).outer = s.outer := by
  unfold applyUnitRegs
  simp

@[simp] theorem outer_applyFaults (im : Image) (s : State) : (applyFaults im s).outer = s.outer := by
  unfold applyFaults
  simp

@[simp] theorem outer_applyPower (im : Image) (s : State) : (applyPower im s).outer = s.outer := by
  unfold applyPower
  simp

@[simp] theorem outer_loadSlot (im : Image) (x : ImgSlot) (s : State) : (loadSlot im x s).outer = s.outer := by
  unfold loadSlot
  (try dsimp only)
  (repeat' split) <;> simp

@[simp] theorem outer_genSlots (im : Image) (s : State) : (genSlots im s).outer = s.outer := by
  unfold genSlots
  simp

@[simp] theorem outer_applySlots (im : Image) (s : State) : (applySlots im s).outer = s.outer := by
  unfold applySlots
  simp

@[simp] theorem outer_applyHosts (im : Image) (s : State) : (applyHosts im s).outer = s.outer := by
  unfold applyHosts
  simp

@[simp] theorem outer_applyNets (im : Image) (s : State) : (applyNets im s).outer = s.outer := by
  unfold applyNets
  simp

@[simp] theorem outer_applyFigures (im : Image) (s : State) : (applyFigures im s).outer = s.outer := by
  unfold applyFigures
  simp

@[simp] theorem outer_applyImage (im : Image) (s : State) : (applyImage im s).outer = s.outer := by
  unfold applyImage
  simp

theorem outer_execStage6 {s t : State} (h : execStage6 s = .next t) : t.outer = s.outer := by
  unfold execStage6 at h
  rw [outer_done h]
  (try dsimp only)
  (repeat' split) <;> simp

/-! ### Replay -/

@[simp] theorem outer_coldChan (im : Image) (c : Nat) (r : Option DramTrain) (s : State) :
    (coldChan im c r s).outer = s.outer := by
  unfold coldChan
  (try dsimp only)
  (repeat' split) <;> simp

@[simp] theorem outer_coldSets (im : Image) (s : State) : (coldSets im s).outer = s.outer := by
  unfold coldSets
  simp

@[simp] theorem outer_placeMeta (fuel t k : Nat) (s : State) : (placeMeta fuel t k s).outer = s.outer := by
  induction fuel generalizing t k s with
  | zero => rfl
  | succ n ih =>
    unfold placeMeta
    extract_lets on top
    clear_value on top
    split
    · rfl
    · split
      · rfl
      · extract_lets m
        split
        · rfl
        · exact ih ..
      · exact ih ..

@[simp] theorem outer_coldMeta (im : Image) (s : State) : (coldMeta im s).outer = s.outer := by
  unfold coldMeta
  simp

@[simp] theorem outer_keepMeta (n fuel : Nat) (s : State) : (keepMeta n fuel s).outer = s.outer := by
  induction fuel generalizing s with
  | zero => rfl
  | succ k ih =>
    unfold keepMeta
    split
    · rfl
    · extract_lets a b s1
      have h1 : s1.outer = s.outer := by
        unfold s1
        split
        · exact outer_forEach _ _ (fun _ _ => outer_loseMetaLine ..) _
        · rfl
      clear_value s1
      split
      · rw [ih, outer_useFree, outer_rehome, h1]
      · exact h1

@[simp] theorem outer_loseFrame (x : Nat × Nat × Nat) (s : State) : (loseFrame x s).outer = s.outer := by
  unfold loseFrame
  simp

@[simp] theorem outer_loseSet (n : Nat) (s : State) : (loseSet n s).outer = s.outer := by unfold loseSet; simp

@[simp] theorem outer_warmChan (c : Nat) (r : Option DramTrain) (s : State) : (warmChan c r s).outer = s.outer := by
  unfold warmChan
  simp

@[simp] theorem outer_trainDram (im : Image) (d : List DramTrain) (s : State) :
    (trainDram im d s).outer = s.outer := by
  unfold trainDram
  simp

@[simp] theorem outer_trainDie (ch die : Nat) (chOk ok : Bool) (s : State) :
    (trainDie ch die chOk ok s).outer = s.outer := by
  unfold trainDie
  simp

@[simp] theorem outer_trainNandCh (im : Image) (c : Nat) (r : Option NandTrain) (s : State) :
    (trainNandCh im c r s).outer = s.outer := by
  unfold trainNandCh
  (try dsimp only)
  (repeat' split) <;> simp

@[simp] theorem outer_trainNand (im : Image) (l : List NandTrain) (s : State) :
    (trainNand im l s).outer = s.outer := by
  unfold trainNand
  simp

@[simp] theorem outer_mclkOn (s : State) : (mclkOn s).outer = s.outer := by unfold mclkOn; simp

theorem outer_execStage7 {dram : List DramTrain} {nand : List NandTrain} {s t : State}
    (h : execStage7 dram nand s = .next t) : t.outer = s.outer := by
  unfold execStage7 at h
  rw [outer_done h]
  simp

@[simp] theorem outer_poisonMissing (v : Vault) (s : State) : (poisonMissing v s).outer = s.outer := by
  unfold poisonMissing
  simp

@[simp] theorem outer_fromVault (v : Vault) (s : State) : (fromVault v s).st.outer = s.outer := by
  unfold fromVault
  simp

@[simp] theorem outer_fromTrickle (k : Bool) (s : State) : (fromTrickle k s).st.outer = s.outer := rfl

@[simp] theorem outer_coldReplay (b : Bool) (s : State) : (coldReplay b s).st.outer = s.outer := by
  unfold coldReplay
  (repeat' split) <;> simp

@[simp] theorem outer_warmReplay (bm bd : List (Nat × Nat)) (s : State) : (warmReplay bm bd s).st.outer = s.outer := by
  unfold warmReplay
  extract_lets keyOf found gone bad land1 land2 inTable landed vols again
  exact (outer_forEach _ _ (fun _ _ => outer_releaseTile ..) _).trans rfl

@[simp] theorem outer_relayGroves (im : Image) (s : State) : (relayGroves im s).outer = s.outer := by
  unfold relayGroves
  extract_lets s1
  have h1 : s1.outer = s.outer := by
    refine outer_forEach _ _ (fun p t => ?_) _
    split <;> simp
  clear_value s1
  exact h1

@[simp] theorem outer_applyRelayout (im : Image) (s : State) : (applyRelayout im s).outer = s.outer := by
  unfold applyRelayout
  simp

@[simp] theorem outer_layoutStep (im : Image) (s : State) : (layoutStep im s).outer = s.outer := by
  unfold layoutStep
  simp

@[simp] theorem outer_listExtents (s : State) : (listExtents s).outer = s.outer := by
  unfold listExtents
  split
  · rfl
  · apply outer_forEach
    intro p t
    (repeat' split) <;> simp

@[simp] theorem outer_restartSeals (s : State) : (restartSeals s).outer = s.outer := by unfold restartSeals; simp

@[simp] theorem outer_eraseOne (bad : List Nat) (p : Nat) (s : State) : (eraseOne bad p s).outer = s.outer := by
  unfold eraseOne
  simp

@[simp] theorem outer_eraseAgain (bad : List Nat) (s : State) : (eraseAgain bad s).outer = s.outer := by
  unfold eraseAgain
  simp

@[simp] theorem outer_sizeCellar (s : State) : (sizeCellar s).outer = s.outer := by unfold sizeCellar; simp

@[simp] theorem outer_missingDie (k : Nat) (s : State) : (missingDie k s).outer = s.outer := by
  unfold missingDie
  simp

@[simp] theorem outer_missingDies (s : State) : (missingDies s).outer = s.outer := by unfold missingDies; simp
@[simp] theorem outer_nameSlots (s : State) : (nameSlots s).outer = s.outer := by unfold nameSlots; simp

@[simp] theorem outer_flagGroves (r : Replay) (s : State) : (flagGroves r s).outer = s.outer := by
  unfold flagGroves
  simp

@[simp] theorem outer_findVault (s : State) : (findVault s).outer = s.outer := by
  unfold findVault
  (try dsimp only)
  (repeat' split) <;> simp

theorem outer_execStage8 {anchorReadable : Bool} {badMeta badData : List (Nat × Nat)} {badErase : List Nat} {s t : State}
    (h : execStage8 anchorReadable badMeta badData badErase s = .next t) : t.outer = s.outer := by
  unfold execStage8 at h
  rw [outer_done h]
  split
  · rfl
  · extract_lets im r s0 s1 s2 a1 s3
    have hr : r.st.outer = s.outer := by
      unfold r
      split <;> simp
    clear_value r
    have h0 : s0.outer = s.outer := by
      unfold s0
      split <;> simp [hr]
    clear_value s0
    have h2 : s2.outer = s.outer := by simp [s2, s1, h0]
    clear_value s2
    have h3 : s3.outer = s.outer := h2
    clear_value s3
    rw [outer_syncCond, outer_toStage, outer_missingDies, outer_flagGroves, h3]

theorem outer_execStage9 {s t : State} (h : execStage9 s = .next t) : t.outer = s.outer := by
  unfold execStage9 at h
  rw [outer_done h]
  simp

theorem outer_execReady {s t : State} (h : execReady s = .next t) : t.outer = s.outer := by
  unfold execReady at h
  rw [outer_done h]
  simp

/-! ### Thermal -/

@[simp] theorem outer_takeSample (temps : List Int) (n : Nat) (s : State) :
    (takeSample temps n s).outer = s.outer := by
  unfold takeSample
  simp

@[simp] theorem outer_updQuad (q : Nat) (f : Quad → Quad) (s : State) : (updQuad q f s).outer = s.outer := by
  unfold updQuad
  simp

@[simp] theorem outer_noteHot (q : Nat) (s : State) : (noteHot q s).outer = s.outer := by
  unfold noteHot
  (try dsimp only)
  (repeat' split) <;> simp

@[simp] theorem outer_noteSpread (s : State) : (noteSpread s).outer = s.outer := by
  unfold noteSpread
  (try dsimp only)
  (repeat' split) <;> simp

@[simp] theorem outer_releaseTrip (s : State) : (releaseTrip s).outer = s.outer := by unfold releaseTrip; simp

theorem outer_execThermalSample {temps : List Int} {s t : State}
    (h : execThermalSample temps s = .next t) : t.outer = s.outer := by
  unfold execThermalSample at h
  rw [outer_done h]
  simp

@[simp] theorem outer_stepDuty (q : Nat) (s : State) : (stepDuty q s).outer = s.outer := by unfold stepDuty; simp

theorem outer_execDutyUpdate {s t : State} (h : execDutyUpdate s = .next t) : t.outer = s.outer := by
  unfold execDutyUpdate at h
  rw [outer_done h]
  simp

@[simp] theorem outer_cutAnywhere (s : State) : (cutAnywhere s).outer = s.outer := by unfold cutAnywhere; simp

@[simp] theorem outer_noteTrip (n : Nat) (analog : Bool) (t : Int) (s : State) :
    (noteTrip n analog t s).outer = s.outer := by
  unfold noteTrip
  simp

theorem outer_execThermalTrip {sensor : Nat} {analog : Bool} {temp : Int} {s t : State}
    (h : execThermalTrip sensor analog temp s = .next t) : t.outer = s.outer := by
  unfold execThermalTrip at h
  refine outer_onUnit h ?_
  (try dsimp only)
  (repeat' split) <;> simp

theorem outer_execPpsEdge {s t : State} (h : execPpsEdge s = .next t) : t.outer = s.outer := by
  unfold execPpsEdge at h
  rw [outer_done h]
  simp

theorem outer_execPpsMissing {s t : State} (h : execPpsMissing s = .next t) : t.outer = s.outer := by
  unfold execPpsMissing at h
  rw [outer_done h]
  simp

@[simp] theorem outer_correct (c : Int) (s : State) : (correct c s).outer = s.outer := by unfold correct; simp

theorem outer_execGtcCorrection {p : Path} {hi : Word} {s t : State}
    (h : execGtcCorrection p hi s = .next t) : t.outer = s.outer := by
  unfold execGtcCorrection at h
  rw [outer_done h]
  (try dsimp only)
  (repeat' split) <;> simp

@[simp] theorem outer_clkLost (d event : Nat) (s : State) : (clkLost d event s).outer = s.outer := by
  unfold clkLost
  simp

theorem outer_execPllLockLoss {domain : Nat} {s t : State}
    (h : execPllLockLoss domain s = .next t) : t.outer = s.outer := by
  unfold execPllLockLoss at h
  refine outer_onUnit h ?_
  simp

theorem outer_execRefclkLoss {domain : Nat} {s t : State}
    (h : execRefclkLoss domain s = .next t) : t.outer = s.outer := by
  unfold execRefclkLoss at h
  refine outer_onUnit h ?_
  simp

@[simp] theorem outer_portCrossing (e : Nat) (s : State) : (portCrossing e s).outer = s.outer := by
  unfold portCrossing
  simp

theorem outer_execCrossingFault {event : Nat} {s t : State}
    (h : execCrossingFault event s = .next t) : t.outer = s.outer := by
  unfold execCrossingFault at h
  refine outer_onUnit h ?_
  simp

/-! ### Faults -/

theorem outer_execLeakTick {event : Nat} {s t : State} (h : execLeakTick event s = .next t) : t.outer = s.outer := by
  unfold execLeakTick at h
  refine outer_onUnit h ?_
  simp

@[simp] theorem outer_actLevel (l e tgt : Nat) (s : State) : (actLevel l e tgt s).outer = s.outer := by
  unfold actLevel
  (try dsimp only)
  (repeat' split) <;> simp

theorem outer_execGraceExpiry {event : Nat} {s t : State}
    (h : execGraceExpiry event s = .next t) : t.outer = s.outer := by
  unfold execGraceExpiry at h
  refine outer_onUnit h ?_
  simp

@[simp] theorem outer_acknowledge (e : Nat) (s : State) : (acknowledge e s).outer = s.outer := by
  unfold acknowledge
  simp

theorem outer_execSevereAcknowledge {p : Path} {k : Nat} {bits : Word} {s t : State}
    (h : execSevereAcknowledge p k bits s = .next t) : t.outer = s.outer := by
  unfold execSevereAcknowledge at h
  rw [outer_done h]
  simp

theorem outer_execAckAll {p : Path} {s t : State} (h : execAckAll p s = .next t) : t.outer = s.outer := by
  unfold execAckAll at h
  rw [outer_done h]
  simp

theorem outer_execReleaseGrove {p : Path} {grove : Nat} {s t : State}
    (h : execReleaseGrove p grove s = .next t) : t.outer = s.outer := by
  unfold execReleaseGrove at h
  rw [outer_done h]
  apply outer_ctlWrite
  intro t
  (try dsimp only)
  (repeat' split) <;> simp

theorem outer_execReleasePort {p : Path} {port : Nat} {s t : State}
    (h : execReleasePort p port s = .next t) : t.outer = s.outer := by
  unfold execReleasePort at h
  rw [outer_done h]
  simp

@[simp] theorem outer_endLap (m : Nat) (s : State) : (endLap m s).outer = s.outer := by unfold endLap; simp

theorem outer_execScrubRead {id : Nat} {err stuck : BitVec 80} {s t : State}
    (h : execScrubRead id err stuck s = .next t) : t.outer = s.outer := by
  unfold execScrubRead at h
  refine outer_onUnit h ?_
  simp

theorem outer_execFlipArm {p : Path} {v : Word} {s t : State}
    (h : execFlipArm p v s = .next t) : t.outer = s.outer := by
  unfold execFlipArm at h
  rw [outer_done h]
  simp

@[simp] theorem outer_globalUnits (f : Nat → State → State) (s : State) (h1 : ∀ x0 t,
    (f x0 t).outer = t.outer) : (globalUnits f s).outer = s.outer := by
  unfold globalUnits
  (try dsimp only)
  (repeat' split) <;> simp [*]

@[simp] theorem outer_clearUnit (u : Nat) (s : State) : (clearUnit u s).outer = s.outer := by unfold clearUnit; simp

theorem outer_execPerfStart {p : Path} {s t : State} (h : execPerfStart p s = .next t) : t.outer = s.outer := by
  unfold execPerfStart at h
  rw [outer_done h]
  simp

theorem outer_execPerfStop {p : Path} {s t : State} (h : execPerfStop p s = .next t) : t.outer = s.outer := by
  unfold execPerfStop at h
  rw [outer_done h]
  simp

theorem outer_execPerfGlobalClear {p : Path} {s t : State}
    (h : execPerfGlobalClear p s = .next t) : t.outer = s.outer := by
  unfold execPerfGlobalClear at h
  rw [outer_done h]
  simp

theorem outer_execPerfUnitClear {p : Path} {unit : Nat} {s t : State}
    (h : execPerfUnitClear p unit s = .next t) : t.outer = s.outer := by
  unfold execPerfUnitClear at h
  rw [outer_done h]
  simp

@[simp] theorem outer_writeRec (p : Nat) (s : State) : (writeRec p s).outer = s.outer := by
  unfold writeRec
  (try dsimp only)
  (repeat' split) <;> simp

theorem outer_execEpochBoundary {s t : State} (h : execEpochBoundary s = .next t) : t.outer = s.outer := by
  unfold execEpochBoundary at h
  rw [outer_done h]
  simp

theorem outer_execFreeze {p : Path} {s t : State} (h : execFreeze p s = .next t) : t.outer = s.outer := by
  unfold execFreeze at h
  rw [outer_done h]
  apply outer_ctlWrite
  intro t
  (try dsimp only)
  (repeat' split) <;> simp

theorem outer_execThaw {p : Path} {s t : State} (h : execThaw p s = .next t) : t.outer = s.outer := by
  unfold execThaw at h
  rw [outer_done h]
  simp

theorem outer_execRecClear {p : Path} {s t : State} (h : execRecClear p s = .next t) : t.outer = s.outer := by
  unfold execRecClear at h
  rw [outer_done h]
  simp

/-! ### Store -/

@[simp] theorem outer_modEng (f : FlashEng → FlashEng) (s : State) : (modEng f s).outer = s.outer := by
  unfold modEng
  simp

@[simp] theorem outer_seqErr (s : State) : (seqErr s).outer = s.outer := by unfold seqErr; simp

@[simp] theorem outer_startStore (cmd a : Nat) (data : List Word) (owed : Option (Path × Nat)) (s : State) :
    ((startStore cmd a data owed s).1).outer = s.outer := by
  unfold startStore
  (try dsimp only)
  (repeat' split) <;> simp

@[simp] theorem outer_dataWrite (cmd : Nat) (data : Word) (s : State) : (dataWrite cmd data s).outer = s.outer := by
  unfold dataWrite
  simp

@[simp] theorem outer_flashWrite (p : Path) (id : RegId) (f : State → State) (s : State) (h1 : ∀ t,
    (f t).outer = t.outer) : (flashWrite p id f s).outer = s.outer := by
  unfold flashWrite
  (try dsimp only)
  (repeat' split) <;> simp [*]

@[simp] theorem outer_flashOp (p : Path) (cmd : Nat) (data : Word) (s : State) :
    (flashOp p cmd data s).outer = s.outer := by
  unfold flashOp
  simp

theorem outer_execFlashUnlock {p : Path} {k1 k2 : Word} {s t : State}
    (h : execFlashUnlock p k1 k2 s = .next t) : t.outer = s.outer := by
  unfold execFlashUnlock at h
  rw [outer_done h]
  simp

theorem outer_execFlashProgram {p : Path} {data : Word} {s t : State}
    (h : execFlashProgram p data s = .next t) : t.outer = s.outer := by
  unfold execFlashProgram at h
  rw [outer_done h]
  simp

theorem outer_execFlashErase {p : Path} {s t : State} (h : execFlashErase p s = .next t) : t.outer = s.outer := by
  unfold execFlashErase at h
  rw [outer_done h]
  simp

theorem outer_execBlankCheck {p : Path} {s t : State} (h : execBlankCheck p s = .next t) : t.outer = s.outer := by
  unfold execBlankCheck at h
  rw [outer_done h]
  simp

@[simp] theorem outer_writeFlashCmd (p : Path) (v : Nat) (s : State) : (writeFlashCmd p v s).outer = s.outer := by
  unfold writeFlashCmd
  simp

@[simp] theorem outer_writeFlashAddr (p : Path) (v : Nat) (s : State) : (writeFlashAddr p v s).outer = s.outer := by
  unfold writeFlashAddr
  simp

@[simp] theorem outer_writeFlashData (p : Path) (v : Word) (s : State) : (writeFlashData p v s).outer = s.outer := by
  unfold writeFlashData
  simp

@[simp] theorem outer_programWords (a : Nat) (l : List Word) (s : State) : (programWords a l s).outer = s.outer := by
  unfold programWords
  simp

@[simp] theorem outer_failErase (n : Nat) (s : State) : (failErase n s).outer = s.outer := by unfold failErase; simp

@[simp] theorem outer_finishStore (ok : Bool) (s : State) : ((finishStore ok s).1).outer = s.outer := by
  unfold finishStore
  (try dsimp only)
  (repeat' split) <;> simp

theorem outer_execFlashCommandDone {verifyOk : Bool} {s t : State}
    (h : execFlashCommandDone verifyOk s = .next t) : t.outer = s.outer := by
  unfold execFlashCommandDone at h
  rw [outer_done h]
  (try dsimp only)
  (repeat' split) <;> simp

@[simp] theorem outer_readFlashData (p : Path) (s : State) : (readFlashData p s).outer = s.outer := by
  unfold readFlashData
  simp

theorem outer_execFlashDataRead {p : Path} {s t : State}
    (h : execFlashDataRead p s = .next t) : t.outer = s.outer := by
  unfold execFlashDataRead at h
  rw [outer_done h]
  simp

@[simp] theorem outer_belvorStore (v1 : Bool) (p : Path) (tag code : Nat) (f : State → State) (s : State)
    (h1 : ∀ t, (f t).outer = t.outer) : (belvorStore v1 p tag code f s).outer = s.outer := by
  unfold belvorStore
  split
  · exact outer_fromV2 _ _ _ _ _ _ h1
  · exact outer_belvor _ _ _ _ _ (fun t => outer_fromV2 _ _ _ _ _ _ (fun u => outer_mgmtOnly _ _ _ _ _ h1))

@[simp] theorem outer_storeCmd (p : Path) (tag code cmd a : Nat) (data : List Word) (s : State) :
    (storeCmd p tag code cmd a data s).outer = s.outer := by
  unfold storeCmd
  simp

theorem outer_execStoreWrite {p : Path} {tag : Nat} {v1 : Bool} {addr : Nat} {words : List Word} {s t : State}
    (h : execStoreWrite p tag v1 addr words s = .next t) : t.outer = s.outer := by
  unfold execStoreWrite at h
  rw [outer_done h]
  refine outer_belvorStore _ _ _ _ _ _ (fun t => ?_)
  split <;> simp

theorem outer_execStoreErase {p : Path} {tag : Nat} {v1 : Bool} {addr : Nat} {s t : State}
    (h : execStoreErase p tag v1 addr s = .next t) : t.outer = s.outer := by
  unfold execStoreErase at h
  rw [outer_done h]
  exact outer_belvorStore _ _ _ _ _ _ (fun t => outer_storeCmd ..)

theorem outer_execProvision {tag : Nat} {s t : State} (h : execProvision tag s = .next t) : t.outer = s.outer := by
  unfold execProvision at h
  rw [outer_done h]
  simp

theorem outer_execGetVersion {p : Path} {tag : Nat} {s t : State}
    (h : execGetVersion p tag s = .next t) : t.outer = s.outer := by
  unfold execGetVersion at h
  rw [outer_done h]
  simp

@[simp] theorem outer_imageCmd (bank : Nat) (v : BankVerdict) (sel : Bool) (s : State) :
    (imageCmd bank v sel s).outer = s.outer := by
  unfold imageCmd
  simp

@[simp] theorem outer_imageWrite (p : Path) (bank : Nat) (v : BankVerdict) (sel : Bool) (s : State) :
    (imageWrite p bank v sel s).outer = s.outer := by
  unfold imageWrite
  simp

theorem outer_execVerifyBank {p : Path} {bank : Nat} {v : BankVerdict} {s t : State}
    (h : execVerifyBank p bank v s = .next t) : t.outer = s.outer := by
  unfold execVerifyBank at h
  rw [outer_done h]
  simp

theorem outer_execSelectBank {p : Path} {bank : Nat} {v : BankVerdict} {s t : State}
    (h : execSelectBank p bank v s = .next t) : t.outer = s.outer := by
  unfold execSelectBank at h
  rw [outer_done h]
  simp

@[simp] theorem outer_eraseStarts (a n : Nat) (s : State) : (eraseStarts a n s).outer = s.outer := by
  unfold eraseStarts
  simp

theorem outer_execPldmFirmwareUpdate {bank off : Nat} {words : List Word} {image : Bool} {s t : State}
    (h : execPldmFirmwareUpdate bank off words image s = .next t) : t.outer = s.outer := by
  unfold execPldmFirmwareUpdate at h
  rw [outer_done h]
  simp

theorem outer_execPldmActivate {v : BankVerdict} {s t : State}
    (h : execPldmActivate v s = .next t) : t.outer = s.outer := by
  unfold execPldmActivate at h
  rw [outer_done h]
  simp

@[simp] theorem outer_zeroAllSlots (s : State) : (zeroAllSlots s).outer = s.outer := by unfold zeroAllSlots; simp

theorem outer_execRdpRaise {p : Path} {v : Word} {s t : State}
    (h : execRdpRaise p v s = .next t) : t.outer = s.outer := by
  unfold execRdpRaise at h
  rw [outer_done h]
  simp

theorem outer_execRdpLower {p : Path} {v : Word} {s t : State}
    (h : execRdpLower p v s = .next t) : t.outer = s.outer := by
  unfold execRdpLower at h
  rw [outer_done h]
  simp

theorem outer_execRdpLowerEraseDone {s t : State} (h : execRdpLowerEraseDone s = .next t) : t.outer = s.outer := by
  unfold execRdpLowerEraseDone at h
  rw [outer_done h]
  simp

@[simp] theorem outer_loadIr (n : Nat) (s : State) : (loadIr n s).outer = s.outer := by unfold loadIr; simp

theorem outer_execIdcode {s t : State} (h : execIdcode s = .next t) : t.outer = s.outer := by
  unfold execIdcode at h
  rw [outer_done h]
  simp

theorem outer_execBypass {s t : State} (h : execBypass s = .next t) : t.outer = s.outer := by
  unfold execBypass at h
  rw [outer_done h]
  simp

theorem outer_execSamplePreload {s t : State} (h : execSamplePreload s = .next t) : t.outer = s.outer := by
  unfold execSamplePreload at h
  rw [outer_done h]
  simp

@[simp] theorem outer_takePins (n : Nat) (s : State) : (takePins n s).outer = s.outer := by unfold takePins; simp

theorem outer_execExtest {s t : State} (h : execExtest s = .next t) : t.outer = s.outer := by
  unfold execExtest at h
  rw [outer_done h]
  simp

theorem outer_execClamp {s t : State} (h : execClamp s = .next t) : t.outer = s.outer := by
  unfold execClamp at h
  rw [outer_done h]
  simp

theorem outer_execHighz {s t : State} (h : execHighz s = .next t) : t.outer = s.outer := by
  unfold execHighz at h
  rw [outer_done h]
  simp

@[simp] theorem outer_newChallenge (purpose : Nat) (s : State) : (newChallenge purpose s).outer = s.outer := by
  unfold newChallenge
  simp

theorem outer_execChallenge {p : Path} {purpose : Nat} {s t : State}
    (h : execChallenge p purpose s = .next t) : t.outer = s.outer := by
  unfold execChallenge at h
  rw [outer_done h]
  simp

theorem outer_execGladeAuth {purpose : Nat} {s t : State}
    (h : execGladeAuth purpose s = .next t) : t.outer = s.outer := by
  unfold execGladeAuth at h
  rw [outer_done h]
  simp

@[simp] theorem outer_failSubmit (s : State) : (failSubmit s).outer = s.outer := by unfold failSubmit; simp

@[simp] theorem outer_acceptSubmit (purpose : Nat) (s : State) : (acceptSubmit purpose s).outer = s.outer := by
  unfold acceptSubmit
  simp

theorem outer_execSubmit {p : Path} {accepted : Bool} {s t : State}
    (h : execSubmit p accepted s = .next t) : t.outer = s.outer := by
  unfold execSubmit at h
  rw [outer_done h]
  simp

theorem outer_execGladeOpenEraseDone {s t : State} (h : execGladeOpenEraseDone s = .next t) : t.outer = s.outer := by
  unfold execGladeOpenEraseDone at h
  rw [outer_done h]
  simp

theorem outer_execEntdaa {addr : Nat} {s t : State} (h : execEntdaa addr s = .next t) : t.outer = s.outer := by
  unfold execEntdaa at h
  rw [outer_done h]
  simp

theorem outer_execSetdasa {addr : Nat} {s t : State} (h : execSetdasa addr s = .next t) : t.outer = s.outer := by
  unfold execSetdasa at h
  rw [outer_done h]
  simp

/-! ### Control -/

@[simp] theorem outer_setLatch (p : Path) (addr : Nat) (v : Option Word) (s : State) :
    (setLatch p addr v s).outer = s.outer := by
  unfold setLatch
  simp

@[simp] theorem outer_latchReg (p : Path) (id : RegId) (i j : Nat) (s : State) :
    (latchReg p id i j s).outer = s.outer := by
  unfold latchReg
  (try dsimp only)
  (repeat' split) <;> simp

@[simp] theorem outer_latchPair (p : Path) (id : RegId) (i j : Nat) (s : State) :
    (latchPair p id i j s).outer = s.outer := by
  unfold latchPair
  (try dsimp only)
  (repeat' split) <;> simp

@[simp] theorem outer_clearRc (r : RegSpec) (i j : Nat) (s : State) : (clearRc r i j s).outer = s.outer := by
  unfold clearRc
  simp

@[simp] theorem outer_popPtp (p : Path) (i : Nat) (s : State) : (popPtp p i s).outer = s.outer := by
  unfold popPtp
  simp

@[simp] theorem outer_readEffect (p : Path) (r : RegSpec) (i j : Nat) (s : State) :
    (readEffect p r i j s).outer = s.outer := by
  unfold readEffect
  simp

@[simp] theorem outer_readFlash (p : Path) (s : State) : ((readFlash p s).1).outer = s.outer := by
  unfold readFlash
  (try dsimp only)
  (repeat' split) <;> simp

@[simp] theorem outer_readWord (p : Path) (addr0 : Nat) (s : State) : ((readWord p addr0 s).1).outer = s.outer := by
  unfold readWord
  (try dsimp only)
  (repeat' split) <;> simp

@[simp] theorem outer_load (p : Path) (addr : Nat) (s : State) : (load p addr s).outer = s.outer := by
  unfold load
  simp

theorem outer_execLoReadLatch {p : Path} {addr : Nat} {s t : State}
    (h : execLoReadLatch p addr s = .next t) : t.outer = s.outer := by
  unfold execLoReadLatch at h
  rw [outer_done h]
  simp

theorem outer_execRcRead {p : Path} {addr : Nat} {s t : State}
    (h : execRcRead p addr s = .next t) : t.outer = s.outer := by
  unfold execRcRead at h
  rw [outer_done h]
  simp

theorem outer_execPtpTimestampPop {p : Path} {port : Nat} {s t : State}
    (h : execPtpTimestampPop p port s = .next t) : t.outer = s.outer := by
  unfold execPtpTimestampPop at h
  rw [outer_done h]
  simp

@[simp] theorem outer_storeFields (p : Path) (addr : Nat) (r : RegSpec) (i j v : Nat) (s : State) :
    (storeFields p addr r i j v s).outer = s.outer := by
  unfold storeFields
  simp

@[simp] theorem outer_plainWrite (p : Path) (addr : Nat) (r : RegSpec) (i j v : Nat) (s : State) :
    (plainWrite p addr r i j v s).outer = s.outer := by
  unfold plainWrite
  simp

theorem outer_afterCmd {o : Host.Outcome State Fault Refusal} {s : State}
    (h : ∀ t, o = .next t → t.outer = s.outer) : (afterCmd o s).outer = s.outer := by
  unfold afterCmd
  split
  · exact h _ rfl
  · rfl

@[simp] theorem outer_writePwrCmd (p : Path) (v : Nat) (s : State) : (writePwrCmd p v s).outer = s.outer := by
  unfold writePwrCmd
  dsimp only
  split
  · split <;> simp
  · split <;> simp
  · exact outer_afterCmd (fun _ h => outer_execClear h)
  · rfl

@[simp] theorem outer_writeCorrLo (p : Path) (v : Nat) (s : State) : (writeCorrLo p v s).outer = s.outer := by
  unfold writeCorrLo
  simp

@[simp] theorem outer_writeCanCtl (p : Path) (r : RegSpec) (v : Nat) (s : State) :
    (writeCanCtl p r v s).outer = s.outer := by
  unfold writeCanCtl
  dsimp only
  split
  · exact (outer_afterCmd (fun _ h => outer_execCanopyEnable h)).trans (outer_storeFields ..)
  · exact (outer_afterCmd (fun _ h => outer_execCanopyDisable h)).trans (outer_storeFields ..)

@[simp] theorem outer_writeMaint (p : Path) (v : Nat) (s : State) :
    (writeMaint p v s).outer = s.outer := by
  unfold writeMaint
  split
  · exact outer_afterCmd (fun _ h => outer_execClean h)
  · exact outer_afterCmd (fun _ h => outer_execInvalidate h)
  · exact outer_afterCmd (fun _ h => outer_execCleanInvalidate h)
  · exact outer_afterCmd (fun _ h => outer_execZeroRange h)
  · simp

@[simp] theorem outer_writeEvac (p : Path) (v : Nat) (s : State) :
    (writeEvac p v s).outer = s.outer := by
  unfold writeEvac
  split
  · exact outer_afterCmd (fun _ h => outer_execEvacuate h)
  · exact outer_afterCmd (fun _ h => outer_execReturnSet h)
  · exact outer_afterCmd (fun _ h => outer_execAbortEvac h)
  · rfl

@[simp] theorem outer_writeHostCmd (p : Path) (port v : Nat) (s : State) :
    (writeHostCmd p port v s).outer = s.outer := by
  unfold writeHostCmd
  split
  · exact outer_afterCmd (fun _ h => outer_execIsolate h)
  · exact outer_afterCmd (fun _ h => outer_execHostPortRelease h)
  · exact outer_afterCmd (fun _ h => (outer_execRetrain h).trans (outer_useFree _))
  · exact outer_afterCmd (fun _ h => outer_execLogClear h)
  · rfl

@[simp] theorem outer_writeNetCmd (p : Path) (v : Nat) (s : State) : (writeNetCmd p v s).outer = s.outer := by
  unfold writeNetCmd
  split
  · exact outer_afterCmd (fun _ h => outer_execCloseQp h)
  · exact outer_afterCmd (fun _ h => outer_execClosePeer h)
  · rfl

@[simp] theorem outer_writeTwinCmd (p : Path) (v : Nat) (s : State) :
    (writeTwinCmd p v s).outer = s.outer := by
  unfold writeTwinCmd
  split
  · exact outer_afterCmd (fun _ h => outer_execHandover h)
  · exact outer_afterCmd (fun _ h => outer_execResume h)
  · exact outer_afterCmd (fun _ h => outer_execForceLead h)
  · exact outer_afterCmd (fun _ h => outer_execWitnessGrant h)
  · exact outer_afterCmd (fun _ h => outer_execDivClear h)
  · exact outer_afterCmd (fun _ h => outer_execRewiden h)
  · rfl

@[simp] theorem outer_writeCipherCmd (p : Path) (v : Nat) (s : State) :
    (writeCipherCmd p v s).outer = s.outer := by
  unfold writeCipherCmd
  split
  · exact outer_afterCmd (fun _ h => outer_execZeroise h)
  · exact outer_afterCmd (fun _ h => outer_execRoll h)
  · rfl

@[simp] theorem outer_writeSrcCfg (p : Path) (v : Nat) (s : State) : (writeSrcCfg p v s).outer = s.outer := by
  unfold writeSrcCfg
  simp

@[simp] theorem outer_writeSrcWin (p : Path) (v : Nat) (s : State) : (writeSrcWin p v s).outer = s.outer := by
  unfold writeSrcWin
  simp

@[simp] theorem outer_writeFltCmd (p : Path) (v : Nat) (s : State) :
    (writeFltCmd p v s).outer = s.outer := by
  unfold writeFltCmd
  split
  · exact outer_afterCmd (fun _ h => outer_execReleaseGrove h)
  · exact outer_afterCmd (fun _ h => outer_execReleasePort h)
  · exact outer_afterCmd (fun _ h => outer_execAckAll h)
  · rfl

@[simp] theorem outer_writePerfGlobal (p : Path) (v : Nat) (s : State) :
    (writePerfGlobal p v s).outer = s.outer := by
  unfold writePerfGlobal
  split
  · exact outer_afterCmd (fun _ h => outer_execPerfStart h)
  · exact outer_afterCmd (fun _ h => outer_execPerfStop h)
  · exact outer_afterCmd (fun _ h => outer_execPerfGlobalClear h)
  · rfl

@[simp] theorem outer_writeRecCmd (p : Path) (v : Nat) (s : State) :
    (writeRecCmd p v s).outer = s.outer := by
  unfold writeRecCmd
  split
  · exact outer_afterCmd (fun _ h => outer_execFreeze h)
  · exact outer_afterCmd (fun _ h => outer_execThaw h)
  · exact outer_afterCmd (fun _ h => outer_execRecClear h)
  · rfl

@[simp] theorem outer_writeFlashKey (p : Path) (v : Word) (s : State) : (writeFlashKey p v s).outer = s.outer := by
  unfold writeFlashKey
  simp

@[simp] theorem outer_writeImageCmd (p : Path) (v : Nat) (s : State) : (writeImageCmd p v s).outer = s.outer := by
  unfold writeImageCmd
  split
  · exact outer_afterCmd (fun _ h => (outer_execVerifyBank h).trans (outer_useFree _))
  · exact outer_afterCmd (fun _ h => (outer_execSelectBank h).trans (outer_useFree _))
  · rfl

@[simp] theorem outer_writeDbgCmd (p : Path) (v : Nat) (s : State) : (writeDbgCmd p v s).outer = s.outer := by
  unfold writeDbgCmd
  split
  · exact outer_afterCmd (fun _ h => outer_execChallenge h)
  · exact outer_afterCmd (fun _ h => (outer_execSubmit h).trans (outer_useFree _))
  · rfl

@[simp] theorem outer_writePerfCtl (p : Path) (addr : Nat) (r : RegSpec) (i v : Nat) (s : State) :
    (writePerfCtl p addr r i v s).outer = s.outer := by
  unfold writePerfCtl
  simp

@[simp] theorem outer_writeRdp (p : Path) (v : Word) (s : State) : (writeRdp p v s).outer = s.outer := by
  unfold writeRdp
  split
  · exact outer_afterCmd (fun _ h => outer_execRdpLower h)
  · exact outer_afterCmd (fun _ h => outer_execRdpRaise h)

@[simp] theorem outer_cmdWrite (p : Path) (addr : Nat) (r : RegSpec) (i j : Nat) (v : Word) (s : State) :
    (cmdWrite p addr r i j v s).outer = s.outer := by
  unfold cmdWrite
  extract_lets n
  split
  all_goals first
    | (simp; done)
    | (refine outer_afterCmd (fun _ h => ?_); with_reducible exact outer_execGtcCorrection h)
    | (refine outer_afterCmd (fun _ h => ?_); with_reducible exact outer_execRqTailWrite h)
    | (refine outer_afterCmd (fun _ h => ?_); with_reducible exact outer_execFlipArm h)
    | (refine outer_afterCmd (fun _ h => ?_); with_reducible exact outer_execSevereAcknowledge h)
    | (split
       · refine outer_afterCmd (fun _ h => ?_)
         with_reducible exact outer_execUeClear h
       · rfl)
    | (split
       · refine outer_afterCmd (fun _ h => ?_)
         with_reducible exact outer_execRingRestart h
       · rfl)

@[simp] theorem outer_writeWord (p : Path) (addr0 : Nat) (v : Word) (s : State) :
    (writeWord p addr0 v s).outer = s.outer := by
  unfold writeWord
  (try dsimp only)
  (repeat' split) <;> simp

theorem outer_execRegisterWrite {p : Path} {addr : Nat} {v : Word} {s t : State}
    (h : execRegisterWrite p addr v s = .next t) : t.outer = s.outer := by
  unfold execRegisterWrite at h
  rw [outer_done h]
  simp

@[simp] theorem outer_readWords (p : Path) (l : List Nat) (s : State) : ((readWords p l s).1).outer = s.outer := by
  induction l generalizing s with
  | nil => rfl
  | cons a l ih => simp [readWords, ih]

theorem outer_execRegRead {p : Path} {tag addr count : Nat} {s t : State}
    (h : execRegRead p tag addr count s = .next t) : t.outer = s.outer := by
  unfold execRegRead at h
  rw [outer_done h]
  simp

@[simp] theorem outer_writeCounted (p : Path) (addr : Nat) (v : Word) (s : State) :
    ((writeCounted p addr v s).1).outer = s.outer := by
  unfold writeCounted
  simp

@[simp] theorem outer_writeWords (p : Path) (l : List (Nat × Word)) (s : State) : ((writeWords p l s).1).outer = s.outer := by
  induction l generalizing s with
  | nil => rfl
  | cons w l ih =>
    unfold writeWords
    split
    · rfl
    · simp [ih]

theorem outer_execRegWrite {p : Path} {tag addr : Nat} {words : List Word} {s t : State}
    (h : execRegWrite p tag addr words s = .next t) : t.outer = s.outer := by
  unfold execRegWrite at h
  rw [outer_done h]
  simp

theorem outer_execGladeAccess {wr : Bool} {addr : Nat} {data : Word} {s t : State}
    (h : execGladeAccess wr addr data s = .next t) : t.outer = s.outer := by
  unfold execGladeAccess at h
  rw [outer_done h]
  simp

/-! ### Grove -/

theorem outer_execGroveCreate {p : Path} {tag tmpl extents : Nat} {s t : State}
    (h : execGroveCreate p tag tmpl extents s = .next t) : t.outer = s.outer := by
  unfold execGroveCreate at h
  rw [outer_done h]
  simp

theorem outer_execGroveResize {p : Path} {tag grove extents : Nat} {s t : State}
    (h : execGroveResize p tag grove extents s = .next t) : t.outer = s.outer := by
  unfold execGroveResize at h
  rw [outer_done h]
  simp

theorem outer_execGroveDelete {p : Path} {tag grove : Nat} {s t : State}
    (h : execGroveDelete p tag grove s = .next t) : t.outer = s.outer := by
  unfold execGroveDelete at h
  rw [outer_done h]
  simp

theorem outer_execGroveStatus {p : Path} {tag grove : Nat} {s t : State}
    (h : execGroveStatus p tag grove s = .next t) : t.outer = s.outer := by
  unfold execGroveStatus at h
  rw [outer_done h]
  simp

end Sys2Proof.Machine
end

