-- ==== Sys2Proof/Laws/Map.lean ====
section
/-!
SUPPORT. The laws of the sparse maps: every operation keeps the canonical form, a read after a write gives the
value written, and a write leaves every other key alone.
-/

namespace Sys2Proof

variable {V : Type}

/-! ## Keys in order -/

theorem SMap.rising_mono {lo lo' : Nat} (h : lo' ≤ lo) : ∀ {m : SMap V}, SMap.rising lo m = true → SMap.rising lo' m = true
  | [], _ => rfl
  | (a, _) :: rest, r => by
    simp only [SMap.rising, Bool.and_eq_true, decide_eq_true_eq] at r ⊢
    exact ⟨by omega, r.2⟩

theorem SMap.rising_le {lo : Nat} : ∀ {m : SMap V}, SMap.rising lo m = true → ∀ p ∈ m, lo ≤ p.1
  | [], _, p, hp => by simp at hp
  | (a, v) :: rest, r, p, hp => by
    simp only [SMap.rising, Bool.and_eq_true, decide_eq_true_eq] at r
    rcases List.mem_cons.1 hp with rfl | hp
    · exact r.1
    · have := SMap.rising_le r.2 p hp; omega

theorem SMap.rising_del {lo : Nat} (k : Nat) : ∀ {m : SMap V}, SMap.rising lo m = true → SMap.rising lo (SMap.del m k) = true
  | [], _ => rfl
  | (a, v) :: rest, r => by
    have r' := r
    simp only [SMap.rising, Bool.and_eq_true, decide_eq_true_eq] at r'
    unfold SMap.del
    split
    · exact r
    · split
      · exact SMap.rising_mono (by omega) r'.2
      · simp only [SMap.rising, Bool.and_eq_true, decide_eq_true_eq]
        exact ⟨r'.1, SMap.rising_del k r'.2⟩

theorem SMap.rising_put {lo k : Nat} (x : V) (hk : lo ≤ k) :
    ∀ {m : SMap V}, SMap.rising lo m = true → SMap.rising lo (SMap.put m k x) = true
  | [], _ => by simp [SMap.put, SMap.rising, hk]
  | (a, v) :: rest, r => by
    have r' := r
    simp only [SMap.rising, Bool.and_eq_true, decide_eq_true_eq] at r'
    unfold SMap.put
    split
    · simp only [SMap.rising, Bool.and_eq_true, decide_eq_true_eq]
      exact ⟨hk, by omega, r'.2⟩
    · split
      · rename_i h1 h2
        simp only [SMap.rising, Bool.and_eq_true, decide_eq_true_eq]
        exact ⟨hk, h2 ▸ r'.2⟩
      · simp only [SMap.rising, Bool.and_eq_true, decide_eq_true_eq]
        exact ⟨r'.1, SMap.rising_put x (by omega) r'.2⟩

/-! ## Reading -/

theorem SMap.get_below {lo k : Nat} (d : V) : ∀ {m : SMap V}, SMap.rising lo m = true → k < lo → SMap.get m d k = d
  | [], _, _ => rfl
  | (a, v) :: rest, r, h => by
    simp only [SMap.rising, Bool.and_eq_true, decide_eq_true_eq] at r
    unfold SMap.get
    rw [if_pos (by omega)]

/-- A read after a put of the same key gives the value put. -/
@[simp] theorem SMap.get_put_same (d : V) (k : Nat) (x : V) : ∀ m : SMap V, SMap.get (SMap.put m k x) d k = x
  | [] => by simp [SMap.put, SMap.get]
  | (a, v) :: rest => by
    unfold SMap.put
    split
    · simp [SMap.get]
    · split
      · simp [SMap.get]
      · unfold SMap.get
        rw [if_neg (by omega), if_neg (by omega)]
        exact SMap.get_put_same d k x rest

/-- A put leaves every other key alone. -/
theorem SMap.get_put_other (d : V) {k j : Nat} (x : V) (h : j ≠ k) : ∀ m : SMap V, SMap.get (SMap.put m k x) d j = SMap.get m d j
  | [] => by simp [SMap.put, SMap.get, h]
  | (a, v) :: rest => by
    unfold SMap.put
    split
    · conv_lhs => unfold SMap.get
      split
      · conv_rhs => unfold SMap.get
        rw [if_pos (by omega)]
      · rfl
    · split
      · rename_i h2
        subst h2
        unfold SMap.get
        simp only [h, if_false]
      · unfold SMap.get
        rw [SMap.get_put_other d x h rest]

theorem SMap.get_del_same (d : V) {lo k : Nat} : ∀ {m : SMap V}, SMap.rising lo m = true → SMap.get (SMap.del m k) d k = d
  | [], _ => rfl
  | (a, v) :: rest, r => by
    simp only [SMap.rising, Bool.and_eq_true, decide_eq_true_eq] at r
    unfold SMap.del
    split
    · rename_i h; unfold SMap.get; rw [if_pos h]
    · split
      · rename_i h1 h2
        exact SMap.get_below d r.2 (by omega)
      · unfold SMap.get
        rw [if_neg (by omega), if_neg (by omega)]
        exact SMap.get_del_same d r.2

theorem SMap.get_del_other (d : V) {lo k j : Nat} (h : j ≠ k) :
    ∀ {m : SMap V}, SMap.rising lo m = true → SMap.get (SMap.del m k) d j = SMap.get m d j
  | [], _ => rfl
  | (a, v) :: rest, r => by
    simp only [SMap.rising, Bool.and_eq_true, decide_eq_true_eq] at r
    unfold SMap.del
    split
    · rfl
    · split
      · rename_i h1 h2
        subst h2
        conv_rhs => unfold SMap.get
        split
        · exact SMap.get_below d r.2 (by omega)
        · rfl
      · unfold SMap.get
        rw [SMap.get_del_other d h r.2]

variable [DecidableEq V]

theorem SMap.wf_rising {d : V} {m : SMap V} (h : SMap.wf d m = true) : SMap.rising 0 m = true := by
  simp only [SMap.wf, Bool.and_eq_true] at h; exact h.1

theorem SMap.wf_ne {d : V} {m : SMap V} (h : SMap.wf d m = true) : ∀ p ∈ m, p.2 ≠ d := by
  simp only [SMap.wf, Bool.and_eq_true, List.all_eq_true, decide_eq_true_eq] at h; exact h.2

theorem SMap.wf_intro {d : V} {m : SMap V} (h : SMap.rising 0 m = true) (k : ∀ p ∈ m, p.2 ≠ d) : SMap.wf d m = true := by
  simp only [SMap.wf, Bool.and_eq_true, List.all_eq_true, decide_eq_true_eq]; exact ⟨h, k⟩

@[simp] theorem SMap.wf_nil (d : V) : SMap.wf d ([] : SMap V) = true := rfl

/-- A read after a write of the same key gives the value written. -/
theorem SMap.get_set_same {d : V} {m : SMap V} (h : SMap.wf d m = true) (k : Nat) (x : V) :
    SMap.get (SMap.set m d k x) d k = x := by
  unfold SMap.set
  split
  · rename_i e; rw [SMap.get_del_same d (SMap.wf_rising h), e]
  · exact SMap.get_put_same d k x m

/-- A write leaves every other key alone. -/
theorem SMap.get_set_other {d : V} {m : SMap V} (h : SMap.wf d m = true) {k j : Nat} (x : V) (n : j ≠ k) :
    SMap.get (SMap.set m d k x) d j = SMap.get m d j := by
  unfold SMap.set
  split
  · exact SMap.get_del_other d n (SMap.wf_rising h)
  · exact SMap.get_put_other d x n m

omit [DecidableEq V] in
theorem SMap.mem_del {m : SMap V} {k : Nat} {p : Nat × V} (h : p ∈ SMap.del m k) : p ∈ m := by
  induction m with
  | nil => exact h
  | cons q rest ih =>
    unfold SMap.del at h
    split at h
    · exact h
    · split at h
      · exact List.mem_cons_of_mem _ h
      · rcases List.mem_cons.1 h with rfl | h
        · exact List.mem_cons_self
        · exact List.mem_cons_of_mem _ (ih h)

omit [DecidableEq V] in
theorem SMap.mem_put {m : SMap V} {k : Nat} {x : V} {p : Nat × V} (h : p ∈ SMap.put m k x) : p = (k, x) ∨ p ∈ m := by
  induction m with
  | nil => simpa [SMap.put] using h
  | cons q rest ih =>
    unfold SMap.put at h
    split at h
    · rcases List.mem_cons.1 h with rfl | h
      · exact .inl rfl
      · exact .inr h
    · split at h
      · rcases List.mem_cons.1 h with rfl | h
        · exact .inl rfl
        · exact .inr (List.mem_cons_of_mem _ h)
      · rcases List.mem_cons.1 h with rfl | h
        · exact .inr List.mem_cons_self
        · rcases ih h with e | e
          · exact .inl e
          · exact .inr (List.mem_cons_of_mem _ e)

/-- A write keeps the canonical form. -/
theorem SMap.wf_set {d : V} {m : SMap V} (h : SMap.wf d m = true) (k : Nat) (x : V) : SMap.wf d (SMap.set m d k x) = true := by
  unfold SMap.set
  split
  · exact SMap.wf_intro (SMap.rising_del k (SMap.wf_rising h)) (fun p hp => SMap.wf_ne h p (SMap.mem_del hp))
  · rename_i e
    refine SMap.wf_intro (SMap.rising_put x (Nat.zero_le k) (SMap.wf_rising h)) (fun p hp => ?_)
    rcases SMap.mem_put hp with rfl | hp
    · exact e
    · exact SMap.wf_ne h p hp

/-- Removing a key keeps the canonical form. -/
theorem SMap.wf_del {d : V} {m : SMap V} (h : SMap.wf d m = true) (k : Nat) : SMap.wf d (SMap.del m k) = true :=
  SMap.wf_intro (SMap.rising_del k (SMap.wf_rising h)) (fun p hp => SMap.wf_ne h p (SMap.mem_del hp))

/-- Putting a value other than the unlisted one keeps the canonical form. -/
theorem SMap.wf_put {d : V} {m : SMap V} (h : SMap.wf d m = true) (k : Nat) {x : V} (hx : x ≠ d) : SMap.wf d (SMap.put m k x) = true := by
  refine SMap.wf_intro (SMap.rising_put x (Nat.zero_le k) (SMap.wf_rising h)) (fun p hp => ?_)
  rcases SMap.mem_put hp with rfl | hp
  · exact hx
  · exact SMap.wf_ne h p hp

/-- Changing a key keeps the canonical form. -/
theorem SMap.wf_upd {d : V} {m : SMap V} (h : SMap.wf d m = true) (k : Nat) (f : V → V) : SMap.wf d (SMap.upd m d k f) = true :=
  SMap.wf_set h k _

theorem SMap.get_upd_same {d : V} {m : SMap V} (h : SMap.wf d m = true) (k : Nat) (f : V → V) :
    SMap.get (SMap.upd m d k f) d k = f (SMap.get m d k) := SMap.get_set_same h k _

theorem SMap.get_upd_other {d : V} {m : SMap V} (h : SMap.wf d m = true) {k j : Nat} (f : V → V) (n : j ≠ k) :
    SMap.get (SMap.upd m d k f) d j = SMap.get m d j := SMap.get_set_other h _ n

omit [DecidableEq V] in
theorem SMap.rising_filter {lo : Nat} (q : Nat × V → Bool) : ∀ {m : SMap V}, SMap.rising lo m = true → SMap.rising lo (m.filter q) = true
  | [], _ => rfl
  | (a, v) :: rest, r => by
    have r' := r
    simp only [SMap.rising, Bool.and_eq_true, decide_eq_true_eq] at r'
    rw [List.filter_cons]
    split
    · simp only [SMap.rising, Bool.and_eq_true, decide_eq_true_eq]
      exact ⟨r'.1, SMap.rising_filter q r'.2⟩
    · exact SMap.rising_mono (by omega) (SMap.rising_filter q r'.2)

/-- Removing keys keeps the canonical form. -/
theorem SMap.wf_filterKeys {d : V} {m : SMap V} (h : SMap.wf d m = true) (keep : Nat → Bool) :
    SMap.wf d (SMap.filterKeys m keep) = true :=
  SMap.wf_intro (SMap.rising_filter _ (SMap.wf_rising h)) (fun p hp => SMap.wf_ne h p (List.mem_of_mem_filter hp))

theorem SMap.rising_mapVals {lo : Nat} (d : V) (f : V → V) :
    ∀ {m : SMap V}, SMap.rising lo m = true → SMap.rising lo (SMap.mapVals m d f) = true
  | [], _ => rfl
  | (a, v) :: rest, r => by
    have r' := r
    simp only [SMap.rising, Bool.and_eq_true, decide_eq_true_eq] at r'
    have ih := SMap.rising_mapVals d f r'.2
    unfold SMap.mapVals at ih ⊢
    by_cases e : f v = d
    · rw [List.filterMap_cons_none (by simp [e])]
      exact SMap.rising_mono (by omega) ih
    · rw [List.filterMap_cons_some (b := (a, f v)) (by simp [e])]
      simp only [SMap.rising, Bool.and_eq_true, decide_eq_true_eq]
      exact ⟨r'.1, ih⟩

/-- Changing every listed value keeps the canonical form. -/
theorem SMap.wf_mapVals {d : V} {m : SMap V} (h : SMap.wf d m = true) (f : V → V) : SMap.wf d (SMap.mapVals m d f) = true := by
  refine SMap.wf_intro (SMap.rising_mapVals d f (SMap.wf_rising h)) (fun p hp => ?_)
  simp only [SMap.mapVals, List.mem_filterMap] at hp
  obtain ⟨q, -, e⟩ := hp
  split at e
  · cases e
  · cases e; assumption

/-- Writing a run keeps the canonical form. -/
theorem SMap.wf_writeRun {d : V} (base : Nat) (xs : List V) : ∀ {m : SMap V}, SMap.wf d m = true → SMap.wf d (SMap.writeRun m d base xs) = true := by
  induction xs generalizing base with
  | nil => exact fun h => h
  | cons x rest ih => exact fun h => ih (base + 1) (SMap.wf_set h base x)

/-- A run leaves the keys outside it alone. -/
theorem SMap.get_writeRun_other {d : V} {j : Nat} (xs : List V) :
    ∀ {base : Nat} {m : SMap V}, SMap.wf d m = true → (j < base ∨ base + xs.length ≤ j) → SMap.get (SMap.writeRun m d base xs) d j = SMap.get m d j := by
  induction xs with
  | nil => exact fun _ _ => rfl
  | cons x rest ih =>
    intro base m h hj
    simp only [List.length_cons] at hj
    show SMap.get (SMap.writeRun (SMap.set m d base x) d (base + 1) rest) d j = _
    rw [ih (SMap.wf_set h base x) (by omega), SMap.get_set_other h x (by omega)]

/-- A run reads back. -/
theorem SMap.get_writeRun_same {d : V} (xs : List V) :
    ∀ {base : Nat} {m : SMap V} (i : Nat) (hi : i < xs.length), SMap.wf d m = true → SMap.get (SMap.writeRun m d base xs) d (base + i) = xs[i] := by
  induction xs with
  | nil => intro _ _ i hi; simp at hi
  | cons x rest ih =>
    intro base m i hi h
    show SMap.get (SMap.writeRun (SMap.set m d base x) d (base + 1) rest) d (base + i) = _
    cases i with
    | zero =>
      rw [SMap.get_writeRun_other rest (SMap.wf_set h base x) (by omega)]
      exact SMap.get_set_same h base x
    | succ i =>
      have := ih (base := base + 1) i (by simpa using hi) (SMap.wf_set h base x)
      rw [show base + (i + 1) = base + 1 + i by omega]
      simpa using this

end Sys2Proof
end

