-- ==== Sys2Proof/Laws/Memory.lean ====
section
/-!
SUPPORT. The operations that write memory keep its canonical form: the lines of a tier, landing entries, the
store, the service processor's data memory, and what a vault takes. Every other operation leaves these fields as
they are, and `memory_wf_of` carries the form over.
-/

namespace Sys2Proof.Machine

open Sys2Proof

theorem memory_wf_reset : Memory.wf State.reset = true := rfl

/-- The form depends on these fields alone. -/
theorem memory_wf_of {s t : State} (h : Memory.wf s = true) (t1 : t.tier.t1 = s.tier.t1) (t2 : t.tier.t2 = s.tier.t2)
    (cel : t.tier.cel = s.tier.cel) (vault : t.tier.vault = s.tier.vault) (land : t.can.land = s.can.land)
    (flash : t.cfg.flash = s.cfg.flash) (sp : t.cipher.spMem = s.cipher.spMem) : Memory.wf t = true := by
  unfold Memory.wf at h ⊢
  rw [t1, t2, cel, vault, land, flash, sp]
  exact h

theorem memory_wf_and {s : State} : Memory.wf s = true ↔
    SMap.wf 0 s.tier.t1 = true ∧ SMap.wf 0 s.tier.t2 = true ∧ SMap.wf 0 s.tier.cel = true ∧ SMap.wf none s.can.land = true
      ∧ s.tier.vault.all (fun v => SMap.wf none v.land) = true ∧ SMap.wf 0xFF s.cfg.flash = true
      ∧ SMap.wf 0 s.cipher.spMem = true := by
  simp only [Memory.wf, Bool.and_eq_true, and_assoc]

/-! ## Lines -/

theorem memory_wf_putT1 {s : State} (h : Memory.wf s = true) (f i : Nat) (d : LineData) : Memory.wf (putT1 f i d s) = true := by
  rw [memory_wf_and] at h ⊢
  exact ⟨SMap.wf_set h.1 _ _, h.2⟩

theorem memory_wf_dropFrame {s : State} (h : Memory.wf s = true) (f : Nat) : Memory.wf (dropFrame f s) = true := by
  rw [memory_wf_and] at h ⊢
  exact ⟨SMap.wf_filterKeys h.1 (fun k => decide (k / 1024 ≠ f)), h.2⟩

theorem memory_wf_t2 {s : State} (h : Memory.wf s = true) (a : Nat) (l : List LineData) :
    Memory.wf { s with tier := { s.tier with t2 := SMap.writeRun s.tier.t2 0 a l } } = true := by
  rw [memory_wf_and] at h ⊢
  exact ⟨h.1, SMap.wf_writeRun _ _ h.2.1, h.2.2⟩

theorem memory_wf_cel {s : State} (h : Memory.wf s = true) (keep : Nat → Bool) :
    Memory.wf { s with tier := { s.tier with cel := SMap.filterKeys s.tier.cel keep } } = true := by
  rw [memory_wf_and] at h ⊢
  exact ⟨h.1, h.2.1, SMap.wf_filterKeys h.2.2.1 _, h.2.2.2⟩

theorem memory_wf_celPut {s : State} (h : Memory.wf s = true) (k : Nat) (d : LineData) :
    Memory.wf { s with tier := { s.tier with cel := SMap.set s.tier.cel 0 k d } } = true := by
  rw [memory_wf_and] at h ⊢
  exact ⟨h.1, h.2.1, SMap.wf_set h.2.2.1 _ _, h.2.2.2⟩

/-! ## Landing entries and vaults -/

theorem memory_wf_setLand {s : State} (h : Memory.wf s = true) (g a : Nat) (e : Option LandEntry) :
    Memory.wf (setLand g a e s) = true := by
  rw [memory_wf_and] at h ⊢
  exact ⟨h.1, h.2.1, h.2.2.1, SMap.wf_set h.2.2.2.1 _ _, h.2.2.2.2⟩

theorem memory_wf_landKeep {s : State} (h : Memory.wf s = true) (keep : Nat → Bool) :
    Memory.wf { s with can := { s.can with land := SMap.filterKeys s.can.land keep } } = true := by
  rw [memory_wf_and] at h ⊢
  exact ⟨h.1, h.2.1, h.2.2.1, SMap.wf_filterKeys h.2.2.2.1 _, h.2.2.2.2⟩

theorem memory_wf_landMap {s : State} (h : Memory.wf s = true) (f : Option LandEntry → Option LandEntry) :
    Memory.wf { s with can := { s.can with land := SMap.mapVals s.can.land none f } } = true := by
  rw [memory_wf_and] at h ⊢
  exact ⟨h.1, h.2.1, h.2.2.1, SMap.wf_mapVals h.2.2.2.1 _, h.2.2.2.2⟩

/-- Changing values in place keeps the keys, and so their order. -/
theorem rising_vals {f : Nat × Option LandEntry → Option LandEntry} :
    ∀ {lo : Nat} {m : SMap (Option LandEntry)}, SMap.rising lo m = true → SMap.rising lo (m.map (fun p => (p.1, f p))) = true
  | _, [], h => h
  | lo, (a, x) :: rest, h => by
    simp only [List.map_cons, SMap.rising, Bool.and_eq_true] at h ⊢
    exact ⟨h.1, rising_vals h.2⟩

/-- The marks a landing entry takes when it leaves the arrays (R415, R534) keep the form. -/
theorem wf_markLanding {m : SMap (Option LandEntry)} (h : SMap.wf none m = true) (s : State) :
    SMap.wf none (markLanding s m) = true := by
  unfold markLanding
  split
  · refine SMap.wf_intro (rising_vals (SMap.wf_rising h)) (fun p hp => ?_)
    simp only [List.mem_map] at hp
    obtain ⟨q, hq, rfl⟩ := hp
    have n := SMap.wf_ne h q hq
    obtain ⟨k, v⟩ := q
    cases v with
    | none => exact absurd rfl n
    | some e => dsimp only; split <;> simp
  · exact h

theorem land_wf_newVault {s : State} (h : Memory.wf s = true) : SMap.wf none (newVault s).land = true :=
  wf_markLanding (SMap.wf_filterKeys (memory_wf_and.1 h).2.2.2.1 (fun k => levelOf s (k / 2 ^ 42) != .vol)) s

theorem memory_wf_modVault {s : State} (h : Memory.wf s = true) (f : Vault → Vault) (keep : ∀ v, (f v).land = v.land) :
    Memory.wf (modVault f s) = true := by
  rw [memory_wf_and] at h ⊢
  refine ⟨h.1, h.2.1, h.2.2.1, h.2.2.2.1, ?_, h.2.2.2.2.2⟩
  have v := h.2.2.2.2.1
  unfold modVault
  cases e : s.tier.vault with
  | none => simp
  | some x => rw [e] at v; simpa [e, keep] using v

/-! ## The store and the service processor -/

theorem memory_wf_putStore {s : State} (h : Memory.wf s = true) (a v : Nat) : Memory.wf (putStore a v s) = true := by
  rw [memory_wf_and] at h ⊢
  exact ⟨h.1, h.2.1, h.2.2.1, h.2.2.2.1, h.2.2.2.2.1, SMap.wf_writeRun _ _ h.2.2.2.2.2.1, h.2.2.2.2.2.2⟩

theorem wf_eraseRange {m : SMap Byte} (h : SMap.wf 0xFF m = true) (lo n : Nat) : SMap.wf 0xFF (eraseRange lo n m) = true :=
  SMap.wf_filterKeys h _

theorem memory_wf_eraseSector {s : State} (h : Memory.wf s = true) (n : Nat) : Memory.wf (eraseSector n s) = true := by
  have k : ∀ (c : Bool) (u : State), Memory.wf u = true → Memory.wf (onlyIf c (raise 598) u) = true := by
    intro c u hu
    cases c
    · exact hu
    · exact hu
  unfold eraseSector
  apply k
  rw [memory_wf_and] at h ⊢
  exact ⟨h.1, h.2.1, h.2.2.1, h.2.2.2.1, h.2.2.2.2.1, wf_eraseRange h.2.2.2.2.2.1 _ _, h.2.2.2.2.2.2⟩

theorem memory_wf_spPut {s : State} (h : Memory.wf s = true) (a : Nat) (bs : List Byte) : Memory.wf (spPut a bs s) = true := by
  rw [memory_wf_and] at h ⊢
  exact ⟨h.1, h.2.1, h.2.2.1, h.2.2.2.1, h.2.2.2.2.1, h.2.2.2.2.2.1, SMap.wf_writeRun _ _ h.2.2.2.2.2.2⟩

end Sys2Proof.Machine
end

