-- ==== Sys2Proof/Laws/MemoryShared.lean ====
section
/-!
SUPPORT. The operations that leave memory alone: the tiers with their metadata, and Canopy with its landing
entries. One lemma per operation.
-/

namespace Sys2Proof.Machine

open Sys2Proof

set_option maxRecDepth 20000

/-- What holds memory: the tiers with their metadata, and Canopy with its landing entries. -/
def State.stores (s : State) := (s.tier, s.can)

@[simp] theorem stores_fold (s : State) : (s.tier, s.can) = s.stores := rfl

@[simp] theorem stores_mk (a b c d e f g h i j k l m n o p q r s t u v w x y) :
    (State.mk a b c d e f g h i j k l m n o p q r s t u v w x y).stores = (h, g) := rfl

@[simp] theorem stores_ite (c : Prop) [Decidable c] (a b : State) :
    (if c then a else b).stores = if c then a.stores else b.stores := apply_ite _ c a b

@[simp] theorem stores_forEach {α : Type} (l : List α) (g : α → State → State) (h : ∀ a t, (g a t).stores = t.stores)
    (s : State) : (forEach l g s).stores = s.stores := by
  unfold forEach
  induction l generalizing s with
  | nil => rfl
  | cons a l ih => rw [List.foldl, ih, h]

theorem stores_foldl {α β : Type} (f : State × β → α → State × β) (h : ∀ a x, (f a x).1.stores = a.1.stores) :
    ∀ (l : List α) (a : State × β), (l.foldl f a).1.stores = a.1.stores
  | [], _ => rfl
  | x :: l, a => by rw [List.foldl, stores_foldl f h l, h]

/-! ### Ops -/

@[simp] theorem stores_send (o : Out) (s : State) : (send o s).stores = s.stores := by unfold send; simp

@[simp] theorem stores_sendAll (os : List Out) (s : State) : (sendAll os s).stores = s.stores := by
  unfold sendAll
  simp

@[simp] theorem stores_bumpId (s : State) : (bumpId s).stores = s.stores := by unfold bumpId; simp
@[simp] theorem stores_useFree (s : State) : (useFree s).stores = s.stores := by unfold useFree; simp

@[simp] theorem stores_setRegWord (id : RegId) (i j : Nat) (v : Nat) (s : State) :
    (setRegWord id i j v s).stores = s.stores := by
  unfold setRegWord
  simp

@[simp] theorem stores_setFld (id : RegId) (i hi lo x : Nat) (s : State) :
    (setFld id i hi lo x s).stores = s.stores := by
  unfold setFld
  simp

@[simp] theorem stores_bumpRc (id : RegId) (i hi lo n : Nat) (s : State) :
    (bumpRc id i hi lo n s).stores = s.stores := by
  unfold bumpRc
  simp

@[simp] theorem stores_maxRc (id : RegId) (i hi lo n : Nat) (s : State) :
    (maxRc id i hi lo n s).stores = s.stores := by
  unfold maxRc
  simp

@[simp] theorem stores_setBit (id : RegId) (i n : Nat) (s : State) : (setBit id i n s).stores = s.stores := by
  unfold setBit
  simp

@[simp] theorem stores_raiseAt (e tgt : Nat) (s : State) : (raiseAt e tgt s).stores = s.stores := by
  unfold raiseAt
  simp

@[simp] theorem stores_raise (e : Nat) (s : State) : (raise e s).stores = s.stores := by unfold raise; simp

@[simp] theorem stores_raiseClearing (e : Nat) (s : State) : (raiseClearing e s).stores = s.stores := by
  unfold raiseClearing
  simp

@[simp] theorem stores_raiseOff (e : Nat) (s : State) : (raiseOff e s).stores = s.stores := by unfold raiseOff; simp

@[simp] theorem stores_onlyIf (b : Bool) (f : State → State) (s : State) (h1 : ∀ t,
    (f t).stores = t.stores) : (onlyIf b f s).stores = s.stores := by
  unfold onlyIf
  (try dsimp only)
  (repeat' split) <;> simp [*]

@[simp] theorem stores_accessEvent (write : Bool) (cause : Nat) (p : Path) (addr : Nat) (s : State) :
    (accessEvent write cause p addr s).stores = s.stores := by
  unfold accessEvent
  simp

@[simp] theorem stores_mailboxIrq (p : Path) (code : Nat) (s : State) : (mailboxIrq p code s).stores = s.stores := by
  unfold mailboxIrq
  (try dsimp only)
  (repeat' split) <;> simp

@[simp] theorem stores_complete (p : Path) (tag code result : Nat) (body : List Nat) (s : State) :
    (complete p tag code result body s).stores = s.stores := by
  unfold complete
  simp

@[simp] theorem stores_mboxDone (port ld tag result : Nat) (body : List Nat) (s : State) :
    (mboxDone port ld tag result body s).stores = s.stores := by
  unfold mboxDone
  simp

@[simp] theorem stores_mgmtOnly (p : Path) (tag code : Nat) (f : State → State) (s : State) (h1 : ∀ t,
    (f t).stores = t.stores) : (mgmtOnly p tag code f s).stores = s.stores := by
  unfold mgmtOnly
  (try dsimp only)
  (repeat' split) <;> simp [*]

@[simp] theorem stores_mgmtWrite (p : Path) (addr : Nat) (f : State → State) (s : State) (h1 : ∀ t,
    (f t).stores = t.stores) : (mgmtWrite p addr f s).stores = s.stores := by
  unfold mgmtWrite
  (try dsimp only)
  (repeat' split) <;> simp [*]

@[simp] theorem stores_raisePwr (e : Nat) (s : State) : (raisePwr e s).stores = s.stores := by unfold raisePwr; simp

@[simp] theorem stores_logPwr (reason src : Nat) (s : State) : (logPwr reason src s).stores = s.stores := by
  unfold logPwr
  simp

@[simp] theorem stores_eraseSector (n : Nat) (s : State) : (eraseSector n s).stores = s.stores := by
  unfold eraseSector
  simp

@[simp] theorem stores_updCopy (item bank : Nat) (f : CopySt → CopySt) (s : State) :
    (updCopy item bank f s).stores = s.stores := by
  unfold updCopy
  simp

@[simp] theorem stores_writeCopy (item : Nat) (s : State) : (writeCopy item s).stores = s.stores := by
  unfold writeCopy
  simp

@[simp] theorem stores_putNode (f : NodeRec → NodeRec) (s : State) : (putNode f s).stores = s.stores := by
  unfold putNode
  simp

@[simp] theorem stores_putRepairs (l : List RepairRec) (s : State) : (putRepairs l s).stores = s.stores := by
  unfold putRepairs
  simp

@[simp] theorem stores_takeCopy (item : Nat) (c : Option CopySt) (s : State) :
    (takeCopy item c s).stores = s.stores := by
  unfold takeCopy
  (try dsimp only)
  (repeat' split) <;> simp

@[simp] theorem stores_markCopies (item : Nat) (s : State) : (markCopies item s).stores = s.stores := by
  unfold markCopies
  simp

@[simp] theorem stores_readCopies (item : Nat) (s : State) : (readCopies item s).stores = s.stores := by
  unfold readCopies
  simp

/-! ### Prot -/

@[simp] theorem stores_setBad (m w : Nat) (e : BitVec 80) (s : State) : (setBad m w e s).stores = s.stores := by
  unfold setBad
  simp

@[simp] theorem stores_protWrite (m w : Nat) (s : State) : (protWrite m w s).stores = s.stores := by
  unfold protWrite
  simp

@[simp] theorem stores_hardFault (m w b : Nat) (s : State) : (hardFault m w b s).stores = s.stores := by
  unfold hardFault
  (try dsimp only)
  (repeat' split) <;> simp

@[simp] theorem stores_uncorrectable (m w : Nat) (scrub : Bool) (s : State) :
    (uncorrectable m w scrub s).stores = s.stores := by
  unfold uncorrectable
  simp

@[simp] theorem stores_protRead (m w : Nat) (scrub : Bool) (stuck : BitVec 80) (s : State) :
    ((protRead m w scrub stuck s).1).stores = s.stores := by
  unfold protRead
  (try dsimp only)
  (repeat' split) <;> simp

@[simp] theorem stores_protGet (c key : Nat) (s : State) : (protGet c key s).stores = s.stores := by
  unfold protGet
  simp

@[simp] theorem stores_protPut (c key : Nat) (s : State) : (protPut c key s).stores = s.stores := by
  unfold protPut
  simp

/-! ### TierOps -/

@[simp] theorem stores_updSet (n : Nat) (f : DramSet → DramSet) (s : State) : (updSet n f s).stores = s.stores := by
  unfold updSet
  simp

@[simp] theorem stores_chargeLines (n k : Nat) (s : State) : (chargeLines n k s).stores = s.stores := by
  unfold chargeLines
  simp

/-! ### Ftl -/

@[simp] theorem stores_updDieAt (k : Nat) (f : Die → Die) (s : State) : (updDieAt k f s).stores = s.stores := by
  unfold updDieAt
  simp

@[simp] theorem stores_updDie (ch die : Nat) (f : Die → Die) (s : State) : (updDie ch die f s).stores = s.stores := by
  unfold updDie
  simp

@[simp] theorem stores_putOwner (n g t kind : Nat) (cipher : List LineData) (s : State) :
    (putOwner n g t kind cipher s).stores = s.stores := by
  unfold putOwner
  simp

@[simp] theorem stores_nandEvent (n off : Nat) (s : State) : (nandEvent n off s).stores = s.stores := by
  unfold nandEvent
  simp

@[simp] theorem stores_mediaFault (ch bit : Nat) (s : State) : (mediaFault ch bit s).stores = s.stores := by
  unfold mediaFault
  simp

@[simp] theorem stores_ftlCause (bit : Nat) (s : State) : (ftlCause bit s).stores = s.stores := by
  unfold ftlCause
  simp

@[simp] theorem stores_dieStep (k : Nat) (s : State) : (dieStep k s).stores = s.stores := by
  unfold dieStep
  (try dsimp only)
  (repeat' split) <;> simp

@[simp] theorem stores_runDie (k : Nat) (s : State) : (runDie k s).stores = s.stores := by unfold runDie; simp

@[simp] theorem stores_pushDie (k : Nat) (o : DieOp) (s : State) : (pushDie k o s).stores = s.stores := by
  unfold pushDie
  simp

@[simp] theorem stores_endCur (k : Nat) (s : State) : (endCur k s).stores = s.stores := by unfold endCur; simp
@[simp] theorem stores_hurry (g t : Nat) (s : State) : (hurry g t s).stores = s.stores := by unfold hurry; simp

@[simp] theorem stores_queueWl (prio n : Nat) (s : State) : (queueWl prio n s).stores = s.stores := by
  unfold queueWl
  simp

@[simp] theorem stores_queueReloc (n : Nat) (s : State) : (queueReloc n s).stores = s.stores := by
  unfold queueReloc
  simp

@[simp] theorem stores_settleDie (k : Nat) (s : State) : (settleDie k s).stores = s.stores := by
  unfold settleDie
  simp

@[simp] theorem stores_retireDie (k : Nat) (s : State) : (retireDie k s).stores = s.stores := by
  unfold retireDie
  simp

@[simp] theorem stores_startRebuild (s : State) : (startRebuild s).stores = s.stores := by
  unfold startRebuild
  (try dsimp only)
  (repeat' split) <;> simp

@[simp] theorem stores_retireBlock (b : Nat) (s : State) : (retireBlock b s).stores = s.stores := by
  unfold retireBlock
  simp

@[simp] theorem stores_settleBlock (b : Nat) (s : State) : (settleBlock b s).stores = s.stores := by
  unfold settleBlock
  simp

@[simp] theorem stores_countBlock (b k : Nat) (s : State) : (countBlock b k s).stores = s.stores := by
  unfold countBlock
  simp

@[simp] theorem stores_countReads (n k : Nat) (s : State) : (countReads n k s).stores = s.stores := by
  unfold countReads
  simp

@[simp] theorem stores_askRead (p : Promo) (s : State) : (askRead p s).stores = s.stores := by
  unfold askRead
  (try dsimp only)
  (repeat' split) <;> simp

@[simp] theorem stores_celWrite (v : Nat) (x : CelSect) (key : Option Nat) (s : State) :
    (celWrite v x key s).stores = s.stores := by
  unfold celWrite
  (try dsimp only)
  (repeat' split) <;> simp

@[simp] theorem stores_celWriteN (v : Nat) (x : CelSect) (n : Nat) (s : State) :
    (celWriteN v x n s).stores = s.stores := by
  unfold celWriteN
  simp

@[simp] theorem stores_celErase (b : Nat) (s : State) : (celErase b s).stores = s.stores := by unfold celErase; simp

@[simp] theorem stores_anchorPut (i : Nat) (fresh : Bool) (r : AnchorRec) (s : State) :
    (anchorPut i fresh r s).stores = s.stores := by
  unfold anchorPut
  simp

/-! ### Channel -/

@[simp] theorem stores_updCh (n : Nat) (f : DramCh → DramCh) (s : State) : (updCh n f s).stores = s.stores := by
  unfold updCh
  simp

@[simp] theorem stores_dramEvent (n off : Nat) (s : State) : (dramEvent n off s).stores = s.stores := by
  unfold dramEvent
  simp

@[simp] theorem stores_logUe (f i src cls action : Nat) (s : State) :
    (logUe f i src cls action s).stores = s.stores := by
  unfold logUe
  simp

@[simp] theorem stores_demandUe (f i src cls : Nat) (s : State) : (demandUe f i src cls s).stores = s.stores := by
  unfold demandUe
  simp

@[simp] theorem stores_updRank (ch r : Nat) (f : Rank → Rank) (s : State) : (updRank ch r f s).stores = s.stores := by
  unfold updRank
  simp

@[simp] theorem stores_wakeCh (n : Nat) (s : State) : (wakeCh n s).stores = s.stores := by unfold wakeCh; simp

@[simp] theorem stores_wakeLine (f i : Nat) (s : State) : (wakeLine f i s).stores = s.stores := by
  unfold wakeLine
  simp

@[simp] theorem stores_wakeFrame (f : Nat) (s : State) : (wakeFrame f s).stores = s.stores := by
  unfold wakeFrame
  (try dsimp only)
  (repeat' split) <;> simp

@[simp] theorem stores_wakeTile (g t : Nat) (s : State) : (wakeTile g t s).stores = s.stores := by
  unfold wakeTile
  (try dsimp only)
  (repeat' split) <;> simp

@[simp] theorem stores_updSub (k : Nat) (f : DramSub → DramSub) (s : State) : (updSub k f s).stores = s.stores := by
  unfold updSub
  simp

@[simp] theorem stores_endBurst (ch rank : Nat) (s : State) : (endBurst ch rank s).stores = s.stores := by
  unfold endBurst
  simp

@[simp] theorem stores_issueOne (k : Nat) (s : State) : (issueOne k s).stores = s.stores := by
  unfold issueOne
  (try dsimp only)
  (repeat' split) <;> simp

theorem stores_passReq {kind : ReqKind} {g a lines n : Nat} {s u : State} (h : passReq kind g a lines n s = some u) :
    u.stores = s.stores := by
  unfold passReq at h
  split at h
  · contradiction
  · dsimp only at h
    split at h
    · contradiction
    · cases h
      split <;> simp

@[simp] theorem stores_issueTo (fuel : Nat) (kind : ReqKind) (g a k : Nat) (s : State) :
    (issueTo fuel kind g a k s).stores = s.stores := by
  induction fuel generalizing s with
  | zero => rfl
  | succ n ih =>
    unfold issueTo
    split
    · split
      · rfl
      · rw [ih, stores_issueOne]
    · rfl

theorem stores_finishReq {kind : ReqKind} {g a : Nat} {s u : State} (h : finishReq kind g a s = some u) :
    u.stores = s.stores := by
  unfold finishReq at h
  split at h
  · contradiction
  · dsimp only at h
    split at h
    · split at h
      · contradiction
      · cases h; simp
    · contradiction

@[simp] theorem stores_dropReqs (g t : Nat) (s : State) : (dropReqs g t s).stores = s.stores := by
  unfold dropReqs
  simp

@[simp] theorem stores_dropEvicts (g t : Nat) (s : State) : (dropEvicts g t s).stores = s.stores := by
  unfold dropEvicts
  simp

@[simp] theorem stores_schedule (s : State) : (schedule s).stores = s.stores := by unfold schedule; simp

/-! ### CanopyOps -/

@[simp] theorem stores_landGet (g a : Nat) (s : State) : (landGet g a s).stores = s.stores := by
  unfold landGet
  simp

@[simp] theorem stores_canErrLog (e sl way set g : Nat) (s : State) :
    (canErrLog e sl way set g s).stores = s.stores := by
  unfold canErrLog
  simp

theorem stores_passFill (acc : State × List Miss) (m : Miss) : (passFill acc m).1.stores = acc.1.stores := by
  unfold passFill
  repeat' split
  · rfl
  · next h => exact stores_passReq h
  · rfl

/-! ### MonOps -/

@[simp] theorem stores_bumpPerf (u c n : Nat) (s : State) : (bumpPerf u c n s).stores = s.stores := by
  unfold bumpPerf
  simp

@[simp] theorem stores_perfUnit (r : PReq) (ev n u : Nat) (s : State) : (perfUnit r ev n u s).stores = s.stores := by
  unfold perfUnit
  simp

@[simp] theorem stores_perfAdd (r : PReq) (ev n : Nat) (s : State) : (perfAdd r ev n s).stores = s.stores := by
  unfold perfAdd
  simp

@[simp] theorem stores_perfLat (r : PReq) (ns : Nat) (s : State) : (perfLat r ns s).stores = s.stores := by
  unfold perfLat
  simp

@[simp] theorem stores_moved (cls src g a n : Nat) (s : State) : (moved cls src g a n s).stores = s.stores := by
  unfold moved
  simp

@[simp] theorem stores_recSample (p v : Nat) (s : State) : (recSample p v s).stores = s.stores := by
  unfold recSample
  simp

@[simp] theorem stores_updPort (p : Nat) (f : HostPort → HostPort) (s : State) :
    (updPort p f s).stores = s.stores := by
  unfold updPort
  simp

@[simp] theorem stores_updLd (p l : Nat) (f : Ld → Ld) (s : State) : (updLd p l f s).stores = s.stores := by
  unfold updLd
  simp

@[simp] theorem stores_postRec (p l log kind : Nat) (detail : List Nat) (s : State) :
    (postRec p l log kind detail s).stores = s.stores := by
  unfold postRec
  simp

@[simp] theorem stores_portEvent (p off : Nat) (s : State) : (portEvent p off s).stores = s.stores := by
  unfold portEvent
  simp

@[simp] theorem stores_portReset (p : Nat) (s : State) : (portReset p s).stores = s.stores := by
  unfold portReset
  simp

@[simp] theorem stores_portInternal (p : Nat) (s : State) : (portInternal p s).stores = s.stores := by
  unfold portInternal
  simp

@[simp] theorem stores_hostDown (p : Nat) (s : State) : (hostDown p s).stores = s.stores := by unfold hostDown; simp

@[simp] theorem stores_setSlot (n : Nat) (x : Slot) (s : State) : (setSlot n x s).stores = s.stores := by
  unfold setSlot
  simp

@[simp] theorem stores_zeroSlot (n : Nat) (s : State) : (zeroSlot n s).stores = s.stores := by unfold zeroSlot; simp

@[simp] theorem stores_setWrap (n gen : Nat) (w : Option Wrapped) (s : State) :
    (setWrap n gen w s).stores = s.stores := by
  unfold setWrap
  simp

@[simp] theorem stores_appendWrap (k : Nat) (s : State) : (appendWrap k s).stores = s.stores := by
  unfold appendWrap
  simp

@[simp] theorem stores_storeSlot (n : Nat) (s : State) : (storeSlot n s).stores = s.stores := by
  unfold storeSlot
  simp

@[simp] theorem stores_slotExhausted (n : Nat) (s : State) : (slotExhausted n s).stores = s.stores := by
  unfold slotExhausted
  (try dsimp only)
  (repeat' split) <;> simp

/-! ### IntegOps -/

@[simp] theorem stores_readMapEntry (src e : Nat) (s : State) : ((readMapEntry src e s).1).stores = s.stores := by
  unfold readMapEntry
  simp

/-! ### UtlOps -/

@[simp] theorem stores_txFrame (f : Frame) (s : State) : (txFrame f s).stores = s.stores := by unfold txFrame; simp
@[simp] theorem stores_sendUtl (f : Frame) (s : State) : (sendUtl f s).stores = s.stores := by unfold sendUtl; simp
@[simp] theorem stores_pumpTx (fuel : Nat) (s : State) : (pumpTx fuel s).stores = s.stores := by
  induction fuel generalizing s with
  | zero => rfl
  | succ n ih =>
    unfold pumpTx
    split
    · rfl
    · split
      · rw [ih]; rfl
      · rfl

@[simp] theorem stores_sendNet (f : Frame) (s : State) : (sendNet f s).stores = s.stores := by
  unfold sendNet
  (try dsimp only)
  (repeat' split) <;> simp

@[simp] theorem stores_sendBoth (f : Frame) (s : State) : (sendBoth f s).stores = s.stores := by
  unfold sendBoth
  simp

@[simp] theorem stores_sendLandingAck (s : State) : (sendLandingAck s).stores = s.stores := by
  unfold sendLandingAck
  simp

@[simp] theorem stores_utlDown (s : State) : (utlDown s).stores = s.stores := by unfold utlDown; simp

/-! ### DataOps -/

@[simp] theorem stores_updQp (n : Nat) (f : Qp → Qp) (s : State) : (updQp n f s).stores = s.stores := by
  unfold updQp
  (try dsimp only)
  (repeat' split) <;> simp

@[simp] theorem stores_updPeer (n : Nat) (f : Peer → Peer) (s : State) : (updPeer n f s).stores = s.stores := by
  unfold updPeer
  (try dsimp only)
  (repeat' split) <;> simp

@[simp] theorem stores_sendPeer (n eng : Nat) (o : Out) (s : State) : (sendPeer n eng o s).stores = s.stores := by
  unfold sendPeer
  (try dsimp only)
  (repeat' split) <;> simp

@[simp] theorem stores_sendQp (q : Nat) (o : Out) (s : State) : (sendQp q o s).stores = s.stores := by
  unfold sendQp
  (try dsimp only)
  (repeat' split) <;> simp

@[simp] theorem stores_sendIp (ip : BitVec 128) (eng : Nat) (o : Out) (s : State) :
    (sendIp ip eng o s).stores = s.stores := by
  unfold sendIp
  (try dsimp only)
  (repeat' split) <;> simp

@[simp] theorem stores_sendNakTo (ip : BitVec 128) (qpn psn code addr : Nat) (hint : Bool) (s : State) :
    (sendNakTo ip qpn psn code addr hint s).stores = s.stores := by
  unfold sendNakTo
  simp

@[simp] theorem stores_sendNak (qpn psn code addr : Nat) (s : State) :
    (sendNak qpn psn code addr s).stores = s.stores := by
  unfold sendNak
  simp

@[simp] theorem stores_impliesAck (q psn : Nat) (s : State) : (impliesAck q psn s).stores = s.stores := by
  unfold impliesAck
  simp

@[simp] theorem stores_refuseCxl (r : CxlReq) (reason : Nat) (write : Bool) (dpa : Nat) (g : Option Nat)
    (s : State) : (refuseCxl r reason write dpa g s).stores = s.stores := by
  unfold refuseCxl
  simp

@[simp] theorem stores_setMark (src g : Nat) (s : State) : (setMark src g s).stores = s.stores := by
  unfold setMark
  simp

@[simp] theorem stores_stampInput (src : Nat) (op : InOp) (ack : AckTo) (origin : Nat) (key : BitVec 64)
    (raddr : Nat) (s : State) : (stampInput src op ack origin key raddr s).stores = s.stores := by
  unfold stampInput
  simp

@[simp] theorem stores_localInput (op : InOp) (s : State) : (localInput op s).stores = s.stores := by
  unfold localInput
  simp

@[simp] theorem stores_localPass (src : Nat) (s : State) : (localPass src s).stores = s.stores := by
  unfold localPass
  simp

@[simp] theorem stores_updPlacing (id : Nat) (f : Placing → Placing) (s : State) :
    (updPlacing id f s).stores = s.stores := by
  unfold updPlacing
  simp

@[simp] theorem stores_foldDigest (seq : Nat) (r : StampRec) (s : State) :
    (foldDigest seq r s).stores = s.stores := by
  unfold foldDigest
  simp

@[simp] theorem stores_flushRecs (fuel : Nat) (s : State) : (flushRecs fuel s).stores = s.stores := by
  induction fuel generalizing s with
  | zero => rfl
  | succ n ih =>
    unfold flushRecs
    split <;> simp [ih]

@[simp] theorem stores_fillRec (seq : Nat) (r : StampRec) (s : State) : (fillRec seq r s).stores = s.stores := by
  unfold fillRec
  simp

@[simp] theorem stores_retain (seq g line gtc src : Nat) (s : State) :
    (retain seq g line gtc src s).stores = s.stores := by
  unfold retain
  simp

@[simp] theorem stores_finishJob (j : ReadJob) (s : State) : (finishJob j s).stores = s.stores := by
  unfold finishJob
  (try dsimp only)
  (repeat' split) <;> simp

@[simp] theorem stores_atomicDone (a : AckTo) (orig : BitVec 64) (s : State) :
    (atomicDone a orig s).stores = s.stores := by
  unfold atomicDone
  (try dsimp only)
  (repeat' split) <;> simp

@[simp] theorem stores_noFrame (s : State) : (noFrame s).stores = s.stores := by unfold noFrame; simp

/-! ### CopOps -/

@[simp] theorem stores_poolSettle (p : Nat) (s : State) : (poolSettle p s).stores = s.stores := by
  unfold poolSettle
  simp

@[simp] theorem stores_copSettle (s : State) : (copSettle s).stores = s.stores := by unfold copSettle; simp
@[simp] theorem stores_copAlloc {p owner : Nat} {grant : Bool} {s u : State}
    (h : copAlloc p owner grant s = some u) : u.stores = s.stores := by
  unfold copAlloc at h
  (repeat' split at h) <;> simp at h <;> subst h <;> simp

@[simp] theorem stores_badFree (double : Bool) (blk idx owner who : Nat) (s : State) :
    (badFree double blk idx owner who s).stores = s.stores := by
  unfold badFree
  simp

@[simp] theorem stores_setOwner (blk idx : Nat) (heir : Option Nat) (s : State) :
    (setOwner blk idx heir s).stores = s.stores := by
  unfold setOwner
  (try dsimp only)
  (repeat' split) <;> simp

@[simp] theorem stores_copHand (blk idx who : Nat) (heir : Option Nat) (s : State) :
    (copHand blk idx who heir s).stores = s.stores := by
  unfold copHand
  (try dsimp only)
  (repeat' split) <;> simp

@[simp] theorem stores_copFree (p owner : Nat) (s : State) : (copFree p owner s).stores = s.stores := by
  unfold copFree
  (try dsimp only)
  (repeat' split) <;> simp

@[simp] theorem stores_reapBufs (s : State) : (reapBufs s).stores = s.stores := by unfold reapBufs; simp

@[simp] theorem stores_copRead (mem : Nat) (s : State) : ((copRead mem s).1).stores = s.stores := by
  unfold copRead
  (try dsimp only)
  (repeat' split) <;> simp

/-! ### DramOps -/

@[simp] theorem stores_corrected (f i : Nat) (s : State) : (corrected f i s).stores = s.stores := by
  unfold corrected
  simp

@[simp] theorem stores_fromPeer (g t i : Nat) (s : State) : ((fromPeer g t i s).1).stores = s.stores := by
  unfold fromPeer
  simp

@[simp] theorem stores_setChannels (n : Nat) (f : DramCh → DramCh) (s : State) :
    (setChannels n f s).stores = s.stores := by
  unfold setChannels
  simp

@[simp] theorem stores_startEvac (n : Nat) (s : State) : (startEvac n s).stores = s.stores := by
  unfold startEvac
  simp

@[simp] theorem stores_tryEvac (n : Nat) (s : State) : (tryEvac n s).stores = s.stores := by unfold tryEvac; simp

@[simp] theorem stores_finishEvac (s : State) : (finishEvac s).stores = s.stores := by
  unfold finishEvac
  (try dsimp only)
  (repeat' split) <;> simp

/-! ### PowerOps -/

@[simp] theorem stores_modPwr (f : Pwr → Pwr) (s : State) : (modPwr f s).stores = s.stores := by unfold modPwr; simp

@[simp] theorem stores_updNet (p : Nat) (f : NetPort → NetPort) (s : State) : (updNet p f s).stores = s.stores := by
  unfold updNet
  simp

@[simp] theorem stores_netDown (p : Nat) (s : State) : (netDown p s).stores = s.stores := by unfold netDown; simp
@[simp] theorem stores_netHold (p : Nat) (s : State) : (netHold p s).stores = s.stores := by unfold netHold; simp
@[simp] theorem stores_sendLeaving (s : State) : (sendLeaving s).stores = s.stores := by unfold sendLeaving; simp
@[simp] theorem stores_linksDown (s : State) : (linksDown s).stores = s.stores := by unfold linksDown; simp

@[simp] theorem stores_putStore (a v : Nat) (s : State) : (putStore a v s).stores = s.stores := by
  unfold putStore
  simp

@[simp] theorem stores_abandonStore (s : State) : (abandonStore s).stores = s.stores := by
  unfold abandonStore
  (try dsimp only)
  (repeat' split) <;> simp

@[simp] theorem stores_cutKeyErase (s : State) : (cutKeyErase s).stores = s.stores := by unfold cutKeyErase; simp

@[simp] theorem stores_setEn (n : Nat) (on : Bool) (s : State) : (setEn n on s).stores = s.stores := by
  unfold setEn
  simp

@[simp] theorem stores_setPg (n : Nat) (on : Bool) (s : State) : (setPg n on s).stores = s.stores := by
  unfold setPg
  simp

@[simp] theorem stores_railFail (n : Nat) (s : State) : (railFail n s).stores = s.stores := by unfold railFail; simp
@[simp] theorem stores_railsOff (s : State) : (railsOff s).stores = s.stores := by unfold railsOff; simp
@[simp] theorem stores_dropRails (fuel : Nat) (l : List Nat) (s : State) : (dropRails fuel l s).stores = s.stores := by
  induction fuel generalizing l s with
  | zero => rfl
  | succ k ih =>
    cases l with
    | nil => simp [dropRails]
    | cons n rest =>
      unfold dropRails
      split
      · simp
      · dsimp only
        split
        · simp
        · rw [ih]; simp

@[simp] theorem stores_beginStep (k : Nat) (s : State) : (beginStep k s).stores = s.stores := by
  unfold beginStep
  (try dsimp only)
  (repeat' split) <;> simp

@[simp] theorem stores_stepFails (n : Nat) (s : State) : (stepFails n s).stores = s.stores := by
  unfold stepFails
  simp

@[simp] theorem stores_startStage1 (kind : Nat) (s : State) : (startStage1 kind s).stores = s.stores := by
  unfold startStage1
  simp

@[simp] theorem stores_tryAuto (s : State) : (tryAuto s).stores = s.stores := by unfold tryAuto; simp
@[simp] theorem stores_stopNode (s : State) : (stopNode s).stores = s.stores := by unfold stopNode; simp

@[simp] theorem stores_allSelfRefresh (s : State) : (allSelfRefresh s).stores = s.stores := by
  unfold allSelfRefresh
  simp

/-! ### React -/

@[simp] theorem stores_setFlt (e : Nat) (x : FltSrc) (s : State) : (setFlt e x s).stores = s.stores := by
  unfold setFlt
  simp

@[simp] theorem stores_driveAlert (s : State) : (driveAlert s).stores = s.stores := by unfold driveAlert; simp

@[simp] theorem stores_setSticky (e : Nat) (s : State) : (setSticky e s).stores = s.stores := by
  unfold setSticky
  simp

@[simp] theorem stores_noteFirst (e g : Nat) (s : State) : (noteFirst e g s).stores = s.stores := by
  unfold noteFirst
  simp

@[simp] theorem stores_occur (r : Raised) (s : State) : ((occur r s).1).stores = s.stores := by
  unfold occur
  (try dsimp only)
  (repeat' split) <;> simp

@[simp] theorem stores_notify (e : Nat) (s : State) : (notify e s).stores = s.stores := by unfold notify; simp

@[simp] theorem stores_isolatePort (p : Nat) (s : State) : (isolatePort p s).stores = s.stores := by
  unfold isolatePort
  simp

@[simp] theorem stores_retireChannel (n : Nat) (s : State) : (retireChannel n s).stores = s.stores := by
  unfold retireChannel
  simp

@[simp] theorem stores_contain (e tgt : Nat) (s : State) : (contain e tgt s).stores = s.stores := by
  have h : ∀ (l : List Nat), (forEach l (fun p t => if (netOf t p).formed then netHold p t else t) s).stores = s.stores :=
    fun l => stores_forEach _ _ (fun p t => by split <;> simp) _
  unfold contain
  simp only [stores_ite, h, stores_tryEvac, stores_retireChannel, stores_isolatePort, stores_netHold, stores_localInput,
    stores_setBit, stores_forEach, implies_true, ite_self]

/-! ### Access -/

@[simp] theorem stores_refuseOpen (p : Path) (tag code : Nat) (s : State) :
    (refuseOpen p tag code s).stores = s.stores := by
  unfold refuseOpen
  simp

@[simp] theorem stores_belvor (p : Path) (tag code : Nat) (f : State → State) (s : State) (h1 : ∀ t,
    (f t).stores = t.stores) : (belvor p tag code f s).stores = s.stores := by
  unfold belvor
  (try dsimp only)
  (repeat' split) <;> simp [*]

@[simp] theorem stores_belvorMgmt (p : Path) (tag code : Nat) (f : State → State) (s : State) (h1 : ∀ t,
    (f t).stores = t.stores) : (belvorMgmt p tag code f s).stores = s.stores := by
  unfold belvorMgmt
  (try dsimp only)
  (repeat' split) <;> simp [*]

@[simp] theorem stores_fromV2 (v1 : Bool) (p : Path) (tag code : Nat) (f : State → State) (s : State)
    (h1 : ∀ t, (f t).stores = t.stores) : (fromV2 v1 p tag code f s).stores = s.stores := by
  unfold fromV2
  (try dsimp only)
  (repeat' split) <;> simp [*]

@[simp] theorem stores_belvorPower (p : Path) (tag code : Nat) (f : State → State) (s : State) (h1 : ∀ t,
    (f t).stores = t.stores) : (belvorPower p tag code f s).stores = s.stores := by
  unfold belvorPower
  (try dsimp only)
  (repeat' split) <;> simp [*]

@[simp] theorem stores_ctlWrite (p : Path) (addr : Nat) (f : State → State) (s : State) (h1 : ∀ t,
    (f t).stores = t.stores) : (ctlWrite p addr f s).stores = s.stores := by
  unfold ctlWrite
  (try dsimp only)
  (repeat' split) <;> simp [*]

@[simp] theorem stores_refuseWrite (p : Path) (addr : Nat) (s : State) :
    (refuseWrite p addr s).stores = s.stores := by
  unfold refuseWrite
  simp

/-! ### TwinOps -/

@[simp] theorem stores_modTwin (f : Twin → Twin) (s : State) : (modTwin f s).stores = s.stores := by
  unfold modTwin
  simp

@[simp] theorem stores_setRole (r : Role) (s : State) : (setRole r s).stores = s.stores := by unfold setRole; simp
@[simp] theorem stores_setEpoch (e : Nat) (s : State) : (setEpoch e s).stores = s.stores := by unfold setEpoch; simp

@[simp] theorem stores_openBitmap (start : Nat) (s : State) : (openBitmap start s).stores = s.stores := by
  unfold openBitmap
  simp

@[simp] theorem stores_dropQps (reason : Nat) (s : State) : (dropQps reason s).stores = s.stores := by
  unfold dropQps
  simp

@[simp] theorem stores_grantCredit (chunk : Bool) (bytes : Nat) (s : State) :
    (grantCredit chunk bytes s).stores = s.stores := by
  unfold grantCredit
  simp

@[simp] theorem stores_holdRx (owner bytes : Nat) (s : State) : (holdRx owner bytes s).stores = s.stores := by
  unfold holdRx
  split
  · rename_i p _
    cases h : copAlloc p owner true s with
    | none => rfl
    | some u => exact stores_copAlloc h
  · rfl

@[simp] theorem stores_freeRx (owner : Nat) (chunk : Bool) (bytes : Nat) (s : State) :
    (freeRx owner chunk bytes s).stores = s.stores := by
  unfold freeRx
  (try dsimp only)
  (repeat' split) <;> simp

@[simp] theorem stores_freeApplied (upto : Nat) (s : State) : (freeApplied upto s).stores = s.stores := by
  unfold freeApplied
  simp

@[simp] theorem stores_dropRx (s : State) : (dropRx s).stores = s.stores := by unfold dropRx; simp

@[simp] theorem stores_sendRecopy (l : List (Nat × Nat)) (s : State) : (sendRecopy l s).stores = s.stores := by
  unfold sendRecopy
  simp

@[simp] theorem stores_toJoining (bulk : Bool) (tiles : List (Nat × Nat)) (s : State) :
    (toJoining bulk tiles s).stores = s.stores := by
  unfold toJoining
  simp

@[simp] theorem stores_streamError (s : State) : (streamError s).stores = s.stores := by unfold streamError; simp

/-! ### LogicOps -/

@[simp] theorem stores_generateKey (n : Nat) (s : State) : (generateKey n s).stores = s.stores := by
  unfold generateKey
  simp

/-! ### Emit -/

@[simp] theorem stores_refuseVrmp (q psn code addr : Nat) (s : State) :
    (refuseVrmp q psn code addr s).stores = s.stores := by
  unfold refuseVrmp
  simp

@[simp] theorem stores_refuseCmd (i : Input) (code event : Nat) (s : State) :
    (refuseCmd i code event s).stores = s.stores := by
  unfold refuseCmd
  (try dsimp only)
  (repeat' split) <;> simp

@[simp] theorem stores_takeNumber (r : Option StampRec) (s : State) : (takeNumber r s).stores = s.stores := by
  unfold takeNumber
  simp

@[simp] theorem stores_addPlacing (i : Input) (seq n : Nat) (l : Level) (s : State) :
    (addPlacing i seq n l s).stores = s.stores := by
  unfold addPlacing
  simp

@[simp] theorem stores_emitFlush (i : Input) (q : Nat) (l : Level) (s : State) :
    (emitFlush i q l s).stores = s.stores := by
  unfold emitFlush
  simp

@[simp] theorem stores_emitRevoke (i : Input) (k : BitVec 64) (s : State) : (emitRevoke i k s).stores = s.stores := by
  unfold emitRevoke
  simp

@[simp] theorem stores_noteApplied (seq gtc : Nat) (s : State) : (noteApplied seq gtc s).stores = s.stores := by
  unfold noteApplied
  simp

@[simp] theorem stores_replayed (r : StampRec) (lane : Nat) (s : State) : (replayed r lane s).stores = s.stores := by
  unfold replayed
  (try dsimp only)
  (repeat' split) <;> simp

@[simp] theorem stores_takeInput (i : Input) (s : State) : (takeInput i s).stores = s.stores := by
  unfold takeInput
  simp

/-! ### Tick -/

@[simp] theorem stores_gtcTick (s : State) : (gtcTick s).stores = s.stores := by unfold gtcTick; simp
@[simp] theorem stores_aonTick (s : State) : (aonTick s).stores = s.stores := by unfold aonTick; simp
@[simp] theorem stores_refill (n : Nat) (s : State) : (refill n s).stores = s.stores := by unfold refill; simp
@[simp] theorem stores_unitTick (u : Nat) (s : State) : (unitTick u s).stores = s.stores := by unfold unitTick; simp

/-! ### Host -/

@[simp] theorem stores_checkReq (s : State) (r : CxlReq) (write poison : Bool) :
    ((checkReq s r write poison).1).stores = s.stores := by
  unfold checkReq
  (try dsimp only)
  (repeat' split) <;> simp

@[simp] theorem stores_checkInv (s : State) (r : CxlReq) : ((checkInv s r).1).stores = s.stores := by
  have k : (checkReq s r false false).1.stores = s.stores := stores_checkReq ..
  unfold checkInv
  split
  · next h => rw [h] at k; exact k
  · exact k

@[simp] theorem stores_overflow (p : Nat) (s : State) : (overflow p s).stores = s.stores := by unfold overflow; simp

@[simp] theorem stores_onReq (r : CxlReq) (f : State → State) (s : State) (h1 : ∀ t,
    (f t).stores = t.stores) : (onReq r f s).stores = s.stores := by
  unfold onReq
  (try dsimp only)
  (repeat' split) <;> simp [*]

@[simp] theorem stores_onRwd (r : CxlReq) (f : State → State) (s : State) (h1 : ∀ t,
    (f t).stores = t.stores) : (onRwd r f s).stores = s.stores := by
  unfold onRwd
  (try dsimp only)
  (repeat' split) <;> simp [*]

@[simp] theorem stores_stampCxl (r : CxlReq) (g : Nat) (p : Piece) (dpa : Nat) (s : State) :
    (stampCxl r g p dpa s).stores = s.stores := by
  unfold stampCxl
  simp

@[simp] theorem stores_admitCxl (r : CxlReq) (g : Nat) (p : Piece) (s : State) :
    (admitCxl r g p s).stores = s.stores := by
  unfold admitCxl
  simp

@[simp] theorem stores_memWrite (r : CxlReq) (data : LineData) (mask : Mask) (poison : Bool) (s : State) :
    (memWrite r data mask poison s).stores = s.stores := by
  unfold memWrite
  apply stores_onRwd
  intro t
  dsimp only
  split
  · simp
  · simp
  · split <;> simp

@[simp] theorem stores_retrainTo (p w r : Nat) (s : State) : (retrainTo p w r s).stores = s.stores := by
  unfold retrainTo
  simp

@[simp] theorem stores_retrainBoth (p width rate : Nat) (s : State) :
    (retrainBoth p width rate s).stores = s.stores := by
  unfold retrainBoth
  simp

@[simp] theorem stores_linkUp (p width rate : Nat) (s : State) : (linkUp p width rate s).stores = s.stores := by
  unfold linkUp
  simp

@[simp] theorem stores_portCmd (p : Path) (port : Nat) (f : State → State) (s : State) (h1 : ∀ t,
    (f t).stores = t.stores) : (portCmd p port f s).stores = s.stores := by
  unfold portCmd
  (try dsimp only)
  (repeat' split) <;> simp [*]

@[simp] theorem stores_rejoin (port : Nat) (s : State) : (rejoin port s).stores = s.stores := by unfold rejoin; simp
@[simp] theorem stores_zeroIde (port : Nat) (s : State) : (zeroIde port s).stores = s.stores := by
  unfold zeroIde
  apply stores_forEach
  intro d t
  split <;> simp

@[simp] theorem stores_onFm (f : State → State) (s : State) (h1 : ∀ t, (f t).stores = t.stores) :
    (onFm f s).stores = s.stores := by
  unfold onFm
  (try dsimp only)
  (repeat' split) <;> simp [*]

@[simp] theorem stores_onMailbox (port ld : Nat) (f : State → State) (s : State) (h1 : ∀ t,
    (f t).stores = t.stores) : (onMailbox port ld f s).stores = s.stores := by
  unfold onMailbox
  (try dsimp only)
  (repeat' split) <;> simp [*]

@[simp] theorem stores_stampMgmt (op : InOp) (ack : AckTo) (origin : Nat) (s : State) :
    (stampMgmt op ack origin s).stores = s.stores := by
  unfold stampMgmt
  simp

@[simp] theorem stores_stampMaps (src : Nat) (es : List (DcExtent × (Nat → MapEntry))) (ack : AckTo)
    (s : State) : (stampMaps src es ack s).stores = s.stores := by
  unfold stampMaps
  simp

@[simp] theorem stores_awaitDcd (tag port ld n : Nat) (s : State) : (awaitDcd tag port ld n s).stores = s.stores := by
  unfold awaitDcd
  simp

@[simp] theorem stores_unlist (port ld : Nat) (es : List DcExtent) (s : State) :
    (unlist port ld es s).stores = s.stores := by
  unfold unlist
  simp

@[simp] theorem stores_setBind (port ld : Nat) (b : Bool) (s : State) : (setBind port ld b s).stores = s.stores := by
  unfold setBind
  simp

/-! ### Power -/

@[simp] theorem stores_reErase (l : List Nat) (s : State) : (reErase l s).stores = s.stores := by
  unfold reErase
  simp

@[simp] theorem stores_massErase (s : State) : (massErase s).stores = s.stores := by unfold massErase; simp
@[simp] theorem stores_nextRails (s : State) : (nextRails s).stores = s.stores := by unfold nextRails; simp

@[simp] theorem stores_pushRing (r : PwrRec) (s : State) : (pushRing r s).stores = s.stores := by
  unfold pushRing
  simp

@[simp] theorem stores_flushLog (s : State) : (flushLog s).stores = s.stores := by unfold flushLog; simp

/-! ### VrmpOps -/

@[simp] theorem stores_sumCredit (s : State) : (sumCredit s).stores = s.stores := by unfold sumCredit; simp

@[simp] theorem stores_toldLimits (q : Nat) (s : State) : (toldLimits q s).stores = s.stores := by
  unfold toldLimits
  (try dsimp only)
  (repeat' split) <;> simp

@[simp] theorem stores_sendAck (q : Nat) (s : State) : (sendAck q s).stores = s.stores := by
  unfold sendAck
  (try dsimp only)
  (repeat' split) <;> simp

@[simp] theorem stores_maybeCredit (q : Nat) (s : State) : (maybeCredit q s).stores = s.stores := by
  unfold maybeCredit
  (try dsimp only)
  (repeat' split) <;> simp

@[simp] theorem stores_freeCharge (q n : Nat) (s : State) : (freeCharge q n s).stores = s.stores := by
  unfold freeCharge
  (try dsimp only)
  (repeat' split) <;> simp

@[simp] theorem stores_takeCharge (q n : Nat) (s : State) : (takeCharge q n s).stores = s.stores := by
  unfold takeCharge
  (try dsimp only)
  (repeat' split) <;> simp

@[simp] theorem stores_keepBuffer (q n : Nat) (s : State) : (keepBuffer q n s).stores = s.stores := by
  have last : ∀ (p o : Nat) (u : State), ((copAlloc p o true u).getD u).stores = u.stores := by
    intro p o u
    cases h : copAlloc p o true u with
    | none => rfl
    | some v => exact stores_copAlloc h
  unfold keepBuffer
  dsimp only
  split
  · rw [last]; rfl
  · rfl

@[simp] theorem stores_freeBuffer (q n : Nat) (s : State) : (freeBuffer q n s).stores = s.stores := by
  unfold freeBuffer
  (try dsimp only)
  (repeat' split) <;> simp

@[simp] theorem stores_dropWaiting (q : Nat) (s : State) : (dropWaiting q s).stores = s.stores := by
  unfold dropWaiting
  simp

@[simp] theorem stores_freeQp (q : Nat) (s : State) : (freeQp q s).stores = s.stores := by
  unfold freeQp
  (try dsimp only)
  (repeat' split) <;> simp

@[simp] theorem stores_freePeer (p : Nat) (s : State) : (freePeer p s).stores = s.stores := by unfold freePeer; simp

@[simp] theorem stores_finishPeer (p : Nat) (s : State) : (finishPeer p s).stores = s.stores := by
  unfold finishPeer
  (try dsimp only)
  (repeat' split) <;> simp

@[simp] theorem stores_closeQpWith (reason q : Nat) (s : State) : (closeQpWith reason q s).stores = s.stores := by
  unfold closeQpWith
  (try dsimp only)
  (repeat' split) <;> simp

@[simp] theorem stores_acceptReq (h : Pkt) (b : ReqBody) (s : State) : (acceptReq h b s).stores = s.stores := by
  unfold acceptReq
  (try dsimp only)
  (repeat' split) <;> simp

@[simp] theorem stores_refuseReq (h : Pkt) (b : ReqBody) (code addr : Nat) (s : State) :
    (refuseReq h b code addr s).stores = s.stores := by
  unfold refuseReq
  simp

@[simp] theorem stores_touchKey (k : BitVec 64) (s : State) : (touchKey k s).stores = s.stores := by
  unfold touchKey
  simp

@[simp] theorem stores_stampVrmp (h : Pkt) (b : ReqBody) (op : InOp) (s : State) :
    (stampVrmp h b op s).stores = s.stores := by
  unfold stampVrmp
  simp

@[simp] theorem stores_touchCtx (q : Nat) (s : State) : (touchCtx q s).stores = s.stores := by unfold touchCtx; simp

@[simp] theorem stores_noteLimit (h : Pkt) (s : State) : (noteLimit h s).stores = s.stores := by
  unfold noteLimit
  simp

@[simp] theorem stores_step1 (h : Pkt) (f : State → State) (s : State) (h1 : ∀ t, (f t).stores = t.stores) :
    (step1 h f s).stores = s.stores := by
  unfold step1
  (try dsimp only)
  (repeat' split) <;> simp [*]

@[simp] theorem stores_gate (h : Pkt) (hdr : Bool) (words : Option Nat) (f : State → State) (h1 : ∀ t, (f t).stores = t.stores)
    (s : State) : (gate h hdr words f s).stores = s.stores := by
  unfold gate
  apply stores_step1
  intro t
  split
  · simp
  · split
    · simp
    · split
      · simp
      · split
        · simp
        · rw [h1]; simp

@[simp] theorem stores_violation (h : Pkt) (s : State) : (violation h s).stores = s.stores := by
  unfold violation
  (try dsimp only)
  (repeat' split) <;> simp

@[simp] theorem stores_nakSequence (h : Pkt) (exp : Nat) (at_ : Option Nat) (s : State) :
    (nakSequence h exp at_ s).stores = s.stores := by
  unfold nakSequence
  simp

/-! ### Vrmp -/

@[simp] theorem stores_doData (h : Pkt) (b : ReqBody) (g : Nat) (lines : List Nat) (op : InOp)
    (atomic : Bool) (s : State) : (doData h b g lines op atomic s).stores = s.stores := by
  unfold doData
  simp

@[simp] theorem stores_doWrite (h : Pkt) (d : List Byte) (s : State) : (doWrite h d s).stores = s.stores := by
  unfold doWrite
  (try dsimp only)
  (repeat' split) <;> simp

@[simp] theorem stores_doAtomic (h : Pkt) (b : ReqBody) (op : Nat → Nat → InOp) (s : State) :
    (doAtomic h b op s).stores = s.stores := by
  unfold doAtomic
  (try dsimp only)
  (repeat' split) <;> simp

@[simp] theorem stores_doFlush (h : Pkt) (l : Nat) (s : State) : (doFlush h l s).stores = s.stores := by
  unfold doFlush
  (try dsimp only)
  (repeat' split) <;> simp

@[simp] theorem stores_doNotify (h : Pkt) (target value : Nat) (s : State) :
    (doNotify h target value s).stores = s.stores := by
  unfold doNotify
  (try dsimp only)
  (repeat' split) <;> simp

@[simp] theorem stores_doClose (h : Pkt) (reason : Nat) (s : State) : (doClose h reason s).stores = s.stores := by
  unfold doClose
  simp

@[simp] theorem stores_evictCtx (s : State) : (evictCtx s).stores = s.stores := by
  unfold evictCtx
  (try dsimp only)
  (repeat' split) <;> simp

@[simp] theorem stores_dropNote (id : Nat) (s : State) : (dropNote id s).stores = s.stores := by
  unfold dropNote
  simp

@[simp] theorem stores_helloRefused (ip : BitVec 128) (cookie status : Nat) (full : Bool) (s : State) :
    (helloRefused ip cookie status full s).stores = s.stores := by
  unfold helloRefused
  simp

@[simp] theorem stores_sendHello (slot : Option Nat) (gcm : Bool) (o : Out) (s : State) :
    (sendHello slot gcm o s).stores = s.stores := by
  unfold sendHello
  (try dsimp only)
  (repeat' split) <;> simp

@[simp] theorem stores_keepCookie (n cookie : Nat) (o : Out) (s : State) :
    (keepCookie n cookie o s).stores = s.stores := by
  unfold keepCookie
  simp

@[simp] theorem stores_helloQp (h : Pkt) (b : HelloBody) (c : PeerClass) (s : State) :
    (helloQp h b c s).stores = s.stores := by
  unfold helloQp
  (try dsimp only)
  (repeat' split) <;> simp

@[simp] theorem stores_stampCmd (p : Path) (tag code : Nat) (op : RecOp) (s : State) :
    (stampCmd p tag code op s).stores = s.stores := by
  unfold stampCmd
  simp

/-! ### Seqr -/

@[simp] theorem stores_releaseHeld (h : HeldReq) (s : State) : (releaseHeld h s).stores = s.stores := by
  unfold releaseHeld
  (try dsimp only)
  (repeat' split) <;> simp

@[simp] theorem stores_discarded (src : Nat) (s : State) : (discarded src s).stores = s.stores := by
  unfold discarded
  simp

/-! ### NetPort -/

@[simp] theorem stores_netDrop (p : Nat) (s : State) : (netDrop p s).stores = s.stores := by unfold netDrop; simp

/-! ### CanopyMaint -/

@[simp] theorem stores_failedAccess (w : Waiter) (s : State) : (failedAccess w s).stores = s.stores := by
  unfold failedAccess
  (try dsimp only)
  (repeat' split) <;> simp

@[simp] theorem stores_readEvents (g a f src : Nat) (o : DramRead) (s0 : State) :
    (readEvents g a f src o s0).stores = s0.stores := by
  unfold readEvents
  (try dsimp only)
  (repeat' split) <;> simp

/-! ### TierWork -/

theorem stores_takeBuf {need : Bool} {s u : State} (h : takeBuf need s = some u) : u.stores = s.stores := by
  unfold takeBuf at h
  split at h
  · exact stores_copAlloc h
  · cases h; rfl

@[simp] theorem stores_t2Pressure (s : State) : (t2Pressure s).stores = s.stores := by unfold t2Pressure; simp

/-! ### Tiers -/

@[simp] theorem stores_stampFrom (src : Nat) (op : InOp) (ack : AckTo) (origin : Nat) (s : State) :
    (stampFrom src op ack origin s).stores = s.stores := by
  unfold stampFrom
  simp

@[simp] theorem stores_postCmd (v1 : Bool) (p : Path) (tag code : Nat) (op : RecOp) (s : State) :
    (postCmd v1 p tag code op s).stores = s.stores := by
  unfold postCmd
  (try dsimp only)
  (repeat' split) <;> simp

/-! ### Dram -/

@[simp] theorem stores_closeRows (ch rank : Nat) (s : State) : (closeRows ch rank s).stores = s.stores := by
  unfold closeRows
  simp

@[simp] theorem stores_patrolStep (n : Nat) (s : State) : (patrolStep n s).stores = s.stores := by
  unfold patrolStep
  simp

@[simp] theorem stores_evacResult (n r : Nat) (s : State) : (evacResult n r s).stores = s.stores := by
  unfold evacResult
  simp

@[simp] theorem stores_rehome (r : MetaRun) (first : Bool) (f : Nat) (s : State) :
    (rehome r first f s).stores = s.stores := by
  unfold rehome
  simp

theorem stores_moveMeta {n : Nat} {s u : State} (h : moveMeta n s = some u) : u.stores = s.stores := by
  unfold moveMeta at h
  split at h
  · contradiction
  · extract_lets first at h
    split at h
    · contradiction
    · obtain ⟨f, -, e⟩ := Option.map_eq_some_iff.mp h
      rw [← e]
      simp

@[simp] theorem stores_saveTrain (c : Nat) (t : DramTrain) (s : State) : (saveTrain c t s).stores = s.stores := by
  unfold saveTrain
  simp

/-! ### Nand -/

@[simp] theorem stores_ladder (ch : Nat) (o : Ladder) (s : State) : (ladder ch o s).stores = s.stores := by
  unfold ladder
  (try dsimp only)
  (repeat' split) <;> simp

@[simp] theorem stores_readWhole (n : Nat) (reads : List (Nat × Ladder)) (s : State) :
    (readWhole n reads s).stores = s.stores := by
  unfold readWhole
  simp

@[simp] theorem stores_readStripe (n : Nat) (s : State) : (readStripe n s).stores = s.stores := by
  unfold readStripe
  simp

@[simp] theorem stores_wlBegin (w : Nat) (s : State) : (wlBegin w s).stores = s.stores := by
  unfold wlBegin
  (try dsimp only)
  (repeat' split) <;> simp

@[simp] theorem stores_noteCrit (s : State) : (noteCrit s).stores = s.stores := by unfold noteCrit; simp

@[simp] theorem stores_closeSuper (b : Nat) (s : State) : (closeSuper b s).stores = s.stores := by
  unfold closeSuper
  simp

@[simp] theorem stores_endRebuild (s : State) : (endRebuild s).stores = s.stores := by unfold endRebuild; simp

@[simp] theorem stores_celCompact (s : State) : (celCompact s).stores = s.stores := by
  unfold celCompact
  (try dsimp only)
  (repeat' split) <;> simp

/-! ### TwinWork -/

@[simp] theorem stores_ackFrames (upto : Nat) (s : State) : (ackFrames upto s).stores = s.stores := by
  unfold ackFrames
  simp

@[simp] theorem stores_dropLink (e : Nat) (s : State) : (dropLink e s).stores = s.stores := by unfold dropLink; simp

@[simp] theorem stores_takeCredit (c : Nat) (s : State) : (takeCredit c s).stores = s.stores := by
  unfold takeCredit
  simp

@[simp] theorem stores_takeReport (applied : Nat) (s : State) : (takeReport applied s).stores = s.stores := by
  unfold takeReport
  simp

/-! ### Resync -/

@[simp] theorem stores_chunkCorrected (g t c : Nat) (s : State) : (chunkCorrected g t c s).stores = s.stores := by
  unfold chunkCorrected
  (try dsimp only)
  (repeat' split) <;> simp

@[simp] theorem stores_startResync (s : State) : (startResync s).stores = s.stores := by unfold startResync; simp

@[simp] theorem stores_resyncIfAsked (s : State) : (resyncIfAsked s).stores = s.stores := by
  unfold resyncIfAsked
  simp

@[simp] theorem stores_sendChunk (g t c : Nat) (b : ChunkBody) (s : State) :
    (sendChunk g t c b s).stores = s.stores := by
  unfold sendChunk
  simp

@[simp] theorem stores_doneIfLast (s : State) : (doneIfLast s).stores = s.stores := by unfold doneIfLast; simp

@[simp] theorem stores_confirmSeal (g t : Nat) (s : State) : (confirmSeal g t s).stores = s.stores := by
  unfold confirmSeal
  simp

@[simp] theorem stores_waitSeal (g t gtc src : Nat) (s : State) : (waitSeal g t gtc src s).stores = s.stores := by
  unfold waitSeal
  simp

@[simp] theorem stores_compareSeal (g t gtc src : Nat) (s : State) :
    (compareSeal g t gtc src s).stores = s.stores := by
  unfold compareSeal
  simp

/-! ### Twin -/

@[simp] theorem stores_queueReplay (seq : Nat) (r : StampRec) (s : State) :
    (queueReplay seq r s).stores = s.stores := by
  unfold queueReplay
  simp

@[simp] theorem stores_takeRecords (first : Nat) (recs : List StampRec) (s : State) :
    (takeRecords first recs s).stores = s.stores := by
  have fold : ∀ (w : Nat) (l : List (StampRec × Nat)) (u : State),
      (l.foldl (fun u x => queueReplay (w + x.2) x.1 u) u).stores = u.stores := by
    intro w l
    induction l with
    | nil => exact fun _ => rfl
    | cons x l ih => intro u; rw [List.foldl, ih, stores_queueReplay]
  unfold takeRecords
  dsimp only
  generalize (if first ≤ s.twin.ackSeq + 1 then recs.drop (s.twin.ackSeq + 1 - first) else []) = new
  split
  · simp
  · rw [stores_sendLandingAck]
    split <;> simp [fold]

@[simp] theorem stores_takeTime (off : Int) (s : State) : (takeTime off s).stores = s.stores := by
  unfold takeTime
  simp

@[simp] theorem stores_loseUtl (s : State) : (loseUtl s).stores = s.stores := by unfold loseUtl; simp
@[simp] theorem stores_loseNet (s : State) : (loseNet s).stores = s.stores := by unfold loseNet; simp
@[simp] theorem stores_noteSilence (s : State) : (noteSilence s).stores = s.stores := by unfold noteSilence; simp

@[simp] theorem stores_twinCmd (p : Path) (f : State → State) (s : State) (h1 : ∀ t,
    (f t).stores = t.stores) : (twinCmd p f s).stores = s.stores := by
  unfold twinCmd
  (try dsimp only)
  (repeat' split) <;> simp [*]

@[simp] theorem stores_twinResult (n : Nat) (s : State) : (twinResult n s).stores = s.stores := by
  unfold twinResult
  simp

@[simp] theorem stores_setIncomplete (s : State) : (setIncomplete s).stores = s.stores := by
  unfold setIncomplete
  simp

/-! ### Link -/

@[simp] theorem stores_resend (expected : Nat) (s : State) : (resend expected s).stores = s.stores := by
  unfold resend
  simp

@[simp] theorem stores_useLanes (m : BitVec 16) (s : State) : (useLanes m s).stores = s.stores := by
  unfold useLanes
  (try dsimp only)
  (repeat' split) <;> simp

/-! ### Cipher -/

@[simp] theorem stores_dropSessions (n : Nat) (s : State) : (dropSessions n s).stores = s.stores := by
  unfold dropSessions
  (try dsimp only)
  (repeat' split) <;> simp

@[simp] theorem stores_cipherResult (n : Nat) (s : State) : (cipherResult n s).stores = s.stores := by
  unfold cipherResult
  simp

@[simp] theorem stores_refuseKey (p : Path) (tag code : Nat) (s : State) :
    (refuseKey p tag code s).stores = s.stores := by
  unfold refuseKey
  simp

@[simp] theorem stores_keyEntered (n : Nat) (s : State) : (keyEntered n s).stores = s.stores := by
  unfold keyEntered
  simp

@[simp] theorem stores_stopRing (s : State) : (stopRing s).stores = s.stores := by unfold stopRing; simp

@[simp] theorem stores_spPut (a : Nat) (bs : List Byte) (s : State) : (spPut a bs s).stores = s.stores := by
  unfold spPut
  simp

@[simp] theorem stores_finishDesc (at_ outLen code : Nat) (irq : Bool) (s : State) :
    (finishDesc at_ outLen code irq s).stores = s.stores := by
  unfold finishDesc
  simp

/-! ### Bringup -/

@[simp] theorem stores_toStage (n : Nat) (s : State) : (toStage n s).stores = s.stores := by unfold toStage; simp

@[simp] theorem stores_useSpare (m : Nat) (col : Bool) (s : State) : (useSpare m col s).stores = s.stores := by
  unfold useSpare
  simp

@[simp] theorem stores_applyRepairs (s : State) : (applyRepairs s).stores = s.stores := by unfold applyRepairs; simp
@[simp] theorem stores_takeDeferred (s : State) : (takeDeferred s).stores = s.stores := by unfold takeDeferred; simp
@[simp] theorem stores_tornFound (s : State) : (tornFound s).stores = s.stores := by unfold tornFound; simp

@[simp] theorem stores_disableLanes (l : List Nat) (s : State) : (disableLanes l s).stores = s.stores := by
  unfold disableLanes
  simp

@[simp] theorem stores_noteFail (bank : Nat) (f : ImgFail) (s : State) : (noteFail bank f s).stores = s.stores := by
  unfold noteFail
  simp

@[simp] theorem stores_tryBanks (fwVersion : Word) (l : List Nat) (s : State) :
    (tryBanks fwVersion l s).stores = s.stores := by
  induction l generalizing s with
  | nil => simp [tryBanks]
  | cons b rest ih =>
    unfold tryBanks
    split
    · rw [ih]; simp
    · simp

@[simp] theorem stores_clearImageRegs (s : State) : (clearImageRegs s).stores = s.stores := by
  unfold clearImageRegs
  simp

@[simp] theorem stores_checkSectors (s : State) : (checkSectors s).stores = s.stores := by unfold checkSectors; simp

@[simp] theorem stores_setRegs (id : RegId) (vs : List Nat) (s : State) : (setRegs id vs s).stores = s.stores := by
  unfold setRegs
  simp

@[simp] theorem stores_applyMediaRegs (im : Image) (s : State) : (applyMediaRegs im s).stores = s.stores := by
  unfold applyMediaRegs
  simp

@[simp] theorem stores_applyTierRegs (im : Image) (s : State) : (applyTierRegs im s).stores = s.stores := by
  unfold applyTierRegs
  simp

@[simp] theorem stores_applyPortRegs (im : Image) (s : State) : (applyPortRegs im s).stores = s.stores := by
  unfold applyPortRegs
  simp

@[simp] theorem stores_applyUnitRegs (im : Image) (s : State) : (applyUnitRegs im s).stores = s.stores := by
  unfold applyUnitRegs
  simp

@[simp] theorem stores_applyFaults (im : Image) (s : State) : (applyFaults im s).stores = s.stores := by
  unfold applyFaults
  simp

@[simp] theorem stores_applyPower (im : Image) (s : State) : (applyPower im s).stores = s.stores := by
  unfold applyPower
  simp

@[simp] theorem stores_loadSlot (im : Image) (x : ImgSlot) (s : State) : (loadSlot im x s).stores = s.stores := by
  unfold loadSlot
  (try dsimp only)
  (repeat' split) <;> simp

@[simp] theorem stores_genSlots (im : Image) (s : State) : (genSlots im s).stores = s.stores := by
  unfold genSlots
  simp

@[simp] theorem stores_applySlots (im : Image) (s : State) : (applySlots im s).stores = s.stores := by
  unfold applySlots
  simp

@[simp] theorem stores_applyHosts (im : Image) (s : State) : (applyHosts im s).stores = s.stores := by
  unfold applyHosts
  simp

@[simp] theorem stores_applyNets (im : Image) (s : State) : (applyNets im s).stores = s.stores := by
  unfold applyNets
  simp

/-! ### Replay -/

@[simp] theorem stores_coldChan (im : Image) (c : Nat) (r : Option DramTrain) (s : State) :
    (coldChan im c r s).stores = s.stores := by
  unfold coldChan
  (try dsimp only)
  (repeat' split) <;> simp

@[simp] theorem stores_coldSets (im : Image) (s : State) : (coldSets im s).stores = s.stores := by
  unfold coldSets
  simp

@[simp] theorem stores_placeMeta (fuel t k : Nat) (s : State) : (placeMeta fuel t k s).stores = s.stores := by
  induction fuel generalizing t k s with
  | zero => rfl
  | succ n ih =>
    unfold placeMeta
    extract_lets on top
    clear_value on top
    split
    · rfl
    · split
      · rfl
      · extract_lets m
        split
        · rfl
        · exact ih ..
      · exact ih ..

@[simp] theorem stores_coldMeta (im : Image) (s : State) : (coldMeta im s).stores = s.stores := by
  unfold coldMeta
  simp

@[simp] theorem stores_warmChan (c : Nat) (r : Option DramTrain) (s : State) :
    (warmChan c r s).stores = s.stores := by
  unfold warmChan
  simp

@[simp] theorem stores_trainDie (ch die : Nat) (chOk ok : Bool) (s : State) :
    (trainDie ch die chOk ok s).stores = s.stores := by
  unfold trainDie
  simp

@[simp] theorem stores_trainNandCh (im : Image) (c : Nat) (r : Option NandTrain) (s : State) :
    (trainNandCh im c r s).stores = s.stores := by
  unfold trainNandCh
  (try dsimp only)
  (repeat' split) <;> simp

@[simp] theorem stores_trainNand (im : Image) (l : List NandTrain) (s : State) :
    (trainNand im l s).stores = s.stores := by
  unfold trainNand
  simp

@[simp] theorem stores_mclkOn (s : State) : (mclkOn s).stores = s.stores := by unfold mclkOn; simp
@[simp] theorem stores_listExtents (s : State) : (listExtents s).stores = s.stores := by
  unfold listExtents
  split
  · rfl
  · apply stores_forEach
    intro p t
    (repeat' split) <;> simp

@[simp] theorem stores_nameSlots (s : State) : (nameSlots s).stores = s.stores := by unfold nameSlots; simp

@[simp] theorem stores_flagGroves (r : Replay) (s : State) : (flagGroves r s).stores = s.stores := by
  unfold flagGroves
  simp

/-! ### Thermal -/

@[simp] theorem stores_takeSample (temps : List Int) (n : Nat) (s : State) :
    (takeSample temps n s).stores = s.stores := by
  unfold takeSample
  simp

@[simp] theorem stores_updQuad (q : Nat) (f : Quad → Quad) (s : State) : (updQuad q f s).stores = s.stores := by
  unfold updQuad
  simp

@[simp] theorem stores_noteHot (q : Nat) (s : State) : (noteHot q s).stores = s.stores := by
  unfold noteHot
  (try dsimp only)
  (repeat' split) <;> simp

@[simp] theorem stores_noteSpread (s : State) : (noteSpread s).stores = s.stores := by
  unfold noteSpread
  (try dsimp only)
  (repeat' split) <;> simp

@[simp] theorem stores_releaseTrip (s : State) : (releaseTrip s).stores = s.stores := by unfold releaseTrip; simp
@[simp] theorem stores_stepDuty (q : Nat) (s : State) : (stepDuty q s).stores = s.stores := by unfold stepDuty; simp

@[simp] theorem stores_noteTrip (n : Nat) (analog : Bool) (t : Int) (s : State) :
    (noteTrip n analog t s).stores = s.stores := by
  unfold noteTrip
  simp

@[simp] theorem stores_correct (c : Int) (s : State) : (correct c s).stores = s.stores := by unfold correct; simp

@[simp] theorem stores_clkLost (d event : Nat) (s : State) : (clkLost d event s).stores = s.stores := by
  unfold clkLost
  simp

@[simp] theorem stores_portCrossing (e : Nat) (s : State) : (portCrossing e s).stores = s.stores := by
  unfold portCrossing
  simp

/-! ### Faults -/

@[simp] theorem stores_acknowledge (e : Nat) (s : State) : (acknowledge e s).stores = s.stores := by
  unfold acknowledge
  simp

@[simp] theorem stores_endLap (m : Nat) (s : State) : (endLap m s).stores = s.stores := by unfold endLap; simp

@[simp] theorem stores_globalUnits (f : Nat → State → State) (s : State) (h1 : ∀ x0 t,
    (f x0 t).stores = t.stores) : (globalUnits f s).stores = s.stores := by
  unfold globalUnits
  (try dsimp only)
  (repeat' split) <;> simp [*]

@[simp] theorem stores_clearUnit (u : Nat) (s : State) : (clearUnit u s).stores = s.stores := by
  unfold clearUnit
  simp

@[simp] theorem stores_writeRec (p : Nat) (s : State) : (writeRec p s).stores = s.stores := by
  unfold writeRec
  (try dsimp only)
  (repeat' split) <;> simp

/-! ### Store -/

@[simp] theorem stores_modEng (f : FlashEng → FlashEng) (s : State) : (modEng f s).stores = s.stores := by
  unfold modEng
  simp

@[simp] theorem stores_seqErr (s : State) : (seqErr s).stores = s.stores := by unfold seqErr; simp

@[simp] theorem stores_startStore (cmd a : Nat) (data : List Word) (owed : Option (Path × Nat))
    (s : State) : ((startStore cmd a data owed s).1).stores = s.stores := by
  unfold startStore
  (try dsimp only)
  (repeat' split) <;> simp

@[simp] theorem stores_dataWrite (cmd : Nat) (data : Word) (s : State) :
    (dataWrite cmd data s).stores = s.stores := by
  unfold dataWrite
  simp

@[simp] theorem stores_flashWrite (p : Path) (id : RegId) (f : State → State) (s : State) (h1 : ∀ t,
    (f t).stores = t.stores) : (flashWrite p id f s).stores = s.stores := by
  unfold flashWrite
  (try dsimp only)
  (repeat' split) <;> simp [*]

@[simp] theorem stores_flashOp (p : Path) (cmd : Nat) (data : Word) (s : State) :
    (flashOp p cmd data s).stores = s.stores := by
  unfold flashOp
  simp

@[simp] theorem stores_writeFlashCmd (p : Path) (v : Nat) (s : State) : (writeFlashCmd p v s).stores = s.stores := by
  unfold writeFlashCmd
  simp

@[simp] theorem stores_writeFlashAddr (p : Path) (v : Nat) (s : State) :
    (writeFlashAddr p v s).stores = s.stores := by
  unfold writeFlashAddr
  simp

@[simp] theorem stores_writeFlashData (p : Path) (v : Word) (s : State) :
    (writeFlashData p v s).stores = s.stores := by
  unfold writeFlashData
  simp

@[simp] theorem stores_programWords (a : Nat) (l : List Word) (s : State) :
    (programWords a l s).stores = s.stores := by
  unfold programWords
  simp

@[simp] theorem stores_failErase (n : Nat) (s : State) : (failErase n s).stores = s.stores := by
  unfold failErase
  simp

@[simp] theorem stores_finishStore (ok : Bool) (s : State) : ((finishStore ok s).1).stores = s.stores := by
  unfold finishStore
  (try dsimp only)
  (repeat' split) <;> simp

@[simp] theorem stores_readFlashData (p : Path) (s : State) : (readFlashData p s).stores = s.stores := by
  unfold readFlashData
  simp

@[simp] theorem stores_belvorStore (v1 : Bool) (p : Path) (tag code : Nat) (f : State → State) (s : State)
    (h1 : ∀ t, (f t).stores = t.stores) : (belvorStore v1 p tag code f s).stores = s.stores := by
  unfold belvorStore
  split
  · exact stores_fromV2 _ _ _ _ _ _ h1
  · exact stores_belvor _ _ _ _ _ (fun t => stores_fromV2 _ _ _ _ _ _ (fun u => stores_mgmtOnly _ _ _ _ _ h1))

@[simp] theorem stores_storeCmd (p : Path) (tag code cmd a : Nat) (data : List Word) (s : State) :
    (storeCmd p tag code cmd a data s).stores = s.stores := by
  unfold storeCmd
  simp

@[simp] theorem stores_imageCmd (bank : Nat) (v : BankVerdict) (sel : Bool) (s : State) :
    (imageCmd bank v sel s).stores = s.stores := by
  unfold imageCmd
  simp

@[simp] theorem stores_imageWrite (p : Path) (bank : Nat) (v : BankVerdict) (sel : Bool) (s : State) :
    (imageWrite p bank v sel s).stores = s.stores := by
  unfold imageWrite
  simp

@[simp] theorem stores_eraseStarts (a n : Nat) (s : State) : (eraseStarts a n s).stores = s.stores := by
  unfold eraseStarts
  simp

@[simp] theorem stores_zeroAllSlots (s : State) : (zeroAllSlots s).stores = s.stores := by unfold zeroAllSlots; simp
@[simp] theorem stores_loadIr (n : Nat) (s : State) : (loadIr n s).stores = s.stores := by unfold loadIr; simp
@[simp] theorem stores_takePins (n : Nat) (s : State) : (takePins n s).stores = s.stores := by unfold takePins; simp

@[simp] theorem stores_newChallenge (purpose : Nat) (s : State) : (newChallenge purpose s).stores = s.stores := by
  unfold newChallenge
  simp

@[simp] theorem stores_failSubmit (s : State) : (failSubmit s).stores = s.stores := by unfold failSubmit; simp

@[simp] theorem stores_acceptSubmit (purpose : Nat) (s : State) : (acceptSubmit purpose s).stores = s.stores := by
  unfold acceptSubmit
  simp

/-! ### Control -/

@[simp] theorem stores_setLatch (p : Path) (addr : Nat) (v : Option Word) (s : State) :
    (setLatch p addr v s).stores = s.stores := by
  unfold setLatch
  simp

@[simp] theorem stores_latchReg (p : Path) (id : RegId) (i j : Nat) (s : State) :
    (latchReg p id i j s).stores = s.stores := by
  unfold latchReg
  (try dsimp only)
  (repeat' split) <;> simp

@[simp] theorem stores_latchPair (p : Path) (id : RegId) (i j : Nat) (s : State) :
    (latchPair p id i j s).stores = s.stores := by
  unfold latchPair
  (try dsimp only)
  (repeat' split) <;> simp

@[simp] theorem stores_clearRc (r : RegSpec) (i j : Nat) (s : State) : (clearRc r i j s).stores = s.stores := by
  unfold clearRc
  simp

@[simp] theorem stores_popPtp (p : Path) (i : Nat) (s : State) : (popPtp p i s).stores = s.stores := by
  unfold popPtp
  simp

@[simp] theorem stores_readEffect (p : Path) (r : RegSpec) (i j : Nat) (s : State) :
    (readEffect p r i j s).stores = s.stores := by
  unfold readEffect
  simp

@[simp] theorem stores_readFlash (p : Path) (s : State) : ((readFlash p s).1).stores = s.stores := by
  unfold readFlash
  (try dsimp only)
  (repeat' split) <;> simp

@[simp] theorem stores_readWord (p : Path) (addr0 : Nat) (s : State) :
    ((readWord p addr0 s).1).stores = s.stores := by
  unfold readWord
  (try dsimp only)
  (repeat' split) <;> simp

@[simp] theorem stores_load (p : Path) (addr : Nat) (s : State) : (load p addr s).stores = s.stores := by
  unfold load
  simp

@[simp] theorem stores_storeFields (p : Path) (addr : Nat) (r : RegSpec) (i j v : Nat) (s : State) :
    (storeFields p addr r i j v s).stores = s.stores := by
  unfold storeFields
  simp

@[simp] theorem stores_plainWrite (p : Path) (addr : Nat) (r : RegSpec) (i j v : Nat) (s : State) :
    (plainWrite p addr r i j v s).stores = s.stores := by
  unfold plainWrite
  simp

theorem stores_afterCmd {o : Host.Outcome State Fault Refusal} {s : State}
    (h : ∀ t, o = .next t → t.stores = s.stores) : (afterCmd o s).stores = s.stores := by
  unfold afterCmd
  split
  · exact h _ rfl
  · rfl

@[simp] theorem stores_writeCorrLo (p : Path) (v : Nat) (s : State) : (writeCorrLo p v s).stores = s.stores := by
  unfold writeCorrLo
  simp

@[simp] theorem stores_writeSrcCfg (p : Path) (v : Nat) (s : State) : (writeSrcCfg p v s).stores = s.stores := by
  unfold writeSrcCfg
  simp

@[simp] theorem stores_writeSrcWin (p : Path) (v : Nat) (s : State) : (writeSrcWin p v s).stores = s.stores := by
  unfold writeSrcWin
  simp

@[simp] theorem stores_writeFlashKey (p : Path) (v : Word) (s : State) : (writeFlashKey p v s).stores = s.stores := by
  unfold writeFlashKey
  simp

@[simp] theorem stores_writePerfCtl (p : Path) (addr : Nat) (r : RegSpec) (i v : Nat) (s : State) :
    (writePerfCtl p addr r i v s).stores = s.stores := by
  unfold writePerfCtl
  simp

@[simp] theorem stores_readWords (p : Path) (l : List Nat) (s : State) : ((readWords p l s).1).stores = s.stores := by
  induction l generalizing s with
  | nil => rfl
  | cons a l ih => simp [readWords, ih]

end Sys2Proof.Machine
end

