-- ==== Sys2Proof/Laws/MemoryCommands.lean ====
section
/-!
SUPPORT. The commands that leave memory alone until the collector acts: one lemma per meaning.
-/

namespace Sys2Proof.Machine

open Sys2Proof

set_option maxRecDepth 20000

theorem keeps_of {u s : State} (e : u.stores = s.stores) : Keeps s (settle u) :=
  .inr ⟨u, rfl, congrArg Prod.fst e, congrArg Prod.snd e⟩

theorem keeps_done {u s t : State} (h : done u = .next t) (e : u.stores = s.stores) : Keeps s t := by
  exact Host.Outcome.next.inj h ▸ keeps_of e

theorem keeps_onUnit {ok : Bool} {u s t : State}
    (h : onUnit ok s u = .next t) (e : u.stores = s.stores) : Keeps s t := by
  unfold onUnit at h; split at h
  · exact Host.Outcome.next.inj h ▸ keeps_of e
  · exact .inl (Host.Outcome.next.inj h).symm

theorem keeps_execMemInv {r : CxlReq} {s t : State} (h : execMemInv r s = .next t) : Keeps s t := by
  unfold execMemInv at h
  refine keeps_onUnit h ?_
  apply stores_onReq; intro t; (try dsimp only); (repeat' split) <;> simp

theorem keeps_execUnsupportedM2sOpcode {r : CxlReq} {rwd : Bool} {s t : State}
    (h : execUnsupportedM2sOpcode r rwd s = .next t) : Keeps s t := by
  unfold execUnsupportedM2sOpcode at h
  refine keeps_onUnit h ?_
  repeat' split
  all_goals simp

theorem keeps_execReadWatchdog {id : Nat} {s t : State} (h : execReadWatchdog id s = .next t) : Keeps s t := by
  unfold execReadWatchdog at h
  refine keeps_done h ?_
  repeat' split
  all_goals simp

theorem keeps_execMemWr {r : CxlReq} {data : LineData} {poison : Bool} {s t : State}
    (h : execMemWr r data poison s = .next t) : Keeps s t := by
  unfold execMemWr at h
  refine keeps_onUnit h ?_
  simp

theorem keeps_execMemWrPtl {r : CxlReq} {data : LineData} {mask : Mask} {poison : Bool} {s t : State}
    (h : execMemWrPtl r data mask poison s = .next t) : Keeps s t := by
  unfold execMemWrPtl at h
  refine keeps_onUnit h ?_
  simp

theorem keeps_execGpfPhase1 {port : Nat} {s t : State} (h : execGpfPhase1 port s = .next t) : Keeps s t := by
  unfold execGpfPhase1 at h
  refine keeps_onUnit h ?_
  simp

theorem keeps_execGpfPhase2 {port : Nat} {s t : State} (h : execGpfPhase2 port s = .next t) : Keeps s t := by
  unfold execGpfPhase2 at h
  refine keeps_onUnit h ?_
  simp

theorem keeps_execGpfPhase2Complete {port : Nat} {s t : State}
    (h : execGpfPhase2Complete port s = .next t) : Keeps s t := by
  unfold execGpfPhase2Complete at h
  refine keeps_onUnit h ?_
  repeat' split
  all_goals simp

theorem keeps_execGpfPhase2Overtime {port : Nat} {s t : State}
    (h : execGpfPhase2Overtime port s = .next t) : Keeps s t := by
  unfold execGpfPhase2Overtime at h
  refine keeps_onUnit h ?_
  simp

theorem keeps_execHostLinkUp {port width rate : Nat} {s t : State}
    (h : execHostLinkUp port width rate s = .next t) : Keeps s t := by
  unfold execHostLinkUp at h
  refine keeps_onUnit h ?_
  simp

theorem keeps_execHostLaneFailure {port width rate : Nat} {s t : State}
    (h : execHostLaneFailure port width rate s = .next t) : Keeps s t := by
  unfold execHostLaneFailure at h
  refine keeps_onUnit h ?_
  simp

theorem keeps_execHostLinkDown {port : Nat} {s t : State} (h : execHostLinkDown port s = .next t) : Keeps s t := by
  unfold execHostLinkDown at h
  refine keeps_onUnit h ?_
  simp

theorem keeps_execHotReset {port : Nat} {s t : State} (h : execHotReset port s = .next t) : Keeps s t := by
  unfold execHotReset at h
  refine keeps_onUnit h ?_
  simp

theorem keeps_execPmeTurnOff {port : Nat} {s t : State} (h : execPmeTurnOff port s = .next t) : Keeps s t := by
  unfold execPmeTurnOff at h
  refine keeps_onUnit h ?_
  simp

theorem keeps_execIsolate {p : Path} {port : Nat} {s t : State}
    (h : execIsolate p port s = .next t) : Keeps s t := by
  unfold execIsolate at h
  refine keeps_onUnit h ?_
  simp

theorem keeps_execHostPortRelease {p : Path} {port : Nat} {s t : State}
    (h : execHostPortRelease p port s = .next t) : Keeps s t := by
  unfold execHostPortRelease at h
  refine keeps_onUnit h ?_
  simp

theorem keeps_execRetrain {p : Path} {port width rate : Nat} {s t : State}
    (h : execRetrain p port width rate s = .next t) : Keeps s t := by
  unfold execRetrain at h
  refine keeps_onUnit h ?_
  simp

theorem keeps_execLogClear {p : Path} {port : Nat} {s t : State}
    (h : execLogClear p port s = .next t) : Keeps s t := by
  unfold execLogClear at h
  refine keeps_onUnit h ?_
  simp

theorem keeps_execConfigurationRequest {port ld addr : Nat} {s t : State}
    (h : execConfigurationRequest port ld addr s = .next t) : Keeps s t := by
  unfold execConfigurationRequest at h
  refine keeps_onUnit h ?_
  simp

theorem keeps_execDecoderCommit {port ld idx : Nat} {d : Decoder} {s t : State}
    (h : execDecoderCommit port ld idx d s = .next t) : Keeps s t := by
  unfold execDecoderCommit at h
  refine keeps_onUnit h ?_
  simp

theorem keeps_execSpdmMessage {port : Nat} {authOk : Bool} {s t : State}
    (h : execSpdmMessage port authOk s = .next t) : Keeps s t := by
  unfold execSpdmMessage at h
  refine keeps_onUnit h ?_
  simp

theorem keeps_execIdeKmKeyProg {port : Nat} {tx : Bool} {key : BitVec 256} {s t : State}
    (h : execIdeKmKeyProg port tx key s = .next t) : Keeps s t := by
  unfold execIdeKmKeyProg at h
  refine keeps_onUnit h ?_
  repeat' split
  all_goals simp

theorem keeps_execKeyGo {port : Nat} {containment : Bool} {s t : State}
    (h : execKeyGo port containment s = .next t) : Keeps s t := by
  unfold execKeyGo at h
  refine keeps_onUnit h ?_
  simp

theorem keeps_execIdeFail {port : Nat} {s t : State} (h : execIdeFail port s = .next t) : Keeps s t := by
  unfold execIdeFail at h
  refine keeps_onUnit h ?_
  simp

theorem keeps_execInitiateDynamicCapacityAdd {tag port ld region : Nat} {es : List DcExtent} {s t : State}
    (h : execInitiateDynamicCapacityAdd tag port ld region es s = .next t) : Keeps s t := by
  unfold execInitiateDynamicCapacityAdd at h
  refine keeps_onUnit h ?_
  simp

theorem keeps_execAddDynamicCapacityResponse {tag port ld : Nat} {es : List DcExtent} {s t : State}
    (h : execAddDynamicCapacityResponse tag port ld es s = .next t) : Keeps s t := by
  unfold execAddDynamicCapacityResponse at h
  refine keeps_onUnit h ?_
  simp

theorem keeps_execReleaseDynamicCapacity {tag port ld : Nat} {es : List DcExtent} {s t : State}
    (h : execReleaseDynamicCapacity tag port ld es s = .next t) : Keeps s t := by
  unfold execReleaseDynamicCapacity at h
  refine keeps_onUnit h ?_
  simp

theorem keeps_execForcedDynamicCapacityRelease {tag port ld : Nat} {es : List DcExtent} {s t : State}
    (h : execForcedDynamicCapacityRelease tag port ld es s = .next t) : Keeps s t := by
  unfold execForcedDynamicCapacityRelease at h
  refine keeps_onUnit h ?_
  simp

theorem keeps_execGetLdInfo {tag : Nat} {s t : State} (h : execGetLdInfo tag s = .next t) : Keeps s t := by
  unfold execGetLdInfo at h
  refine keeps_done h ?_
  simp

theorem keeps_execGetLdAllocations {tag port : Nat} {s t : State}
    (h : execGetLdAllocations tag port s = .next t) : Keeps s t := by
  unfold execGetLdAllocations at h
  refine keeps_onUnit h ?_
  simp

theorem keeps_execGetMultiHeadedInfo {tag : Nat} {s t : State}
    (h : execGetMultiHeadedInfo tag s = .next t) : Keeps s t := by
  unfold execGetMultiHeadedInfo at h
  refine keeps_done h ?_
  simp

theorem keeps_execBindLd {tag port ld : Nat} {s t : State}
    (h : execBindLd tag port ld s = .next t) : Keeps s t := by
  unfold execBindLd at h
  refine keeps_onUnit h ?_
  simp

theorem keeps_execUnbindLd {tag port ld : Nat} {s t : State}
    (h : execUnbindLd tag port ld s = .next t) : Keeps s t := by
  unfold execUnbindLd at h
  refine keeps_onUnit h ?_
  simp

theorem keeps_execSetLdAllocations {tag port : Nat} {s t : State}
    (h : execSetLdAllocations tag port s = .next t) : Keeps s t := by
  unfold execSetLdAllocations at h
  refine keeps_onUnit h ?_
  simp

theorem keeps_execIdentifyMemoryDevice {tag port ld : Nat} {s t : State}
    (h : execIdentifyMemoryDevice tag port ld s = .next t) : Keeps s t := by
  unfold execIdentifyMemoryDevice at h
  refine keeps_onUnit h ?_
  simp

theorem keeps_execSetPartitionInfo {tag port ld : Nat} {s t : State}
    (h : execSetPartitionInfo tag port ld s = .next t) : Keeps s t := by
  unfold execSetPartitionInfo at h
  refine keeps_onUnit h ?_
  simp

theorem keeps_execSetLsa {tag port ld off : Nat} {data : List Byte} {s t : State}
    (h : execSetLsa tag port ld off data s = .next t) : Keeps s t := by
  unfold execSetLsa at h
  refine keeps_onUnit h ?_
  simp

theorem keeps_execGetPoisonList {tag port ld dpa len : Nat} {s t : State}
    (h : execGetPoisonList tag port ld dpa len s = .next t) : Keeps s t := by
  unfold execGetPoisonList at h
  refine keeps_onUnit h ?_
  simp

theorem keeps_execClearPoison {tag port ld dpa : Nat} {data : LineData} {s t : State}
    (h : execClearPoison tag port ld dpa data s = .next t) : Keeps s t := by
  unfold execClearPoison at h
  refine keeps_onUnit h ?_
  apply stores_onMailbox; intro t; (try dsimp only); (repeat' split) <;> simp

theorem keeps_execInjectPoison {tag port ld dpa : Nat} {s t : State}
    (h : execInjectPoison tag port ld dpa s = .next t) : Keeps s t := by
  unfold execInjectPoison at h
  refine keeps_onUnit h ?_
  simp

theorem keeps_execVddAonValid {s t : State} (h : execVddAonValid s = .next t) : Keeps s t := by
  unfold execVddAonValid at h
  refine keeps_done h ?_
  simp

theorem keeps_execStage1 {i : Stage1In} {s t : State} (h : execStage1 i s = .next t) : Keeps s t := by
  unfold execStage1 at h
  refine keeps_done h ?_
  (try dsimp only); (repeat' split) <;> simp

theorem keeps_execPgGood {n : Nat} {s t : State} (h : execPgGood n s = .next t) : Keeps s t := by
  unfold execPgGood at h
  refine keeps_onUnit h ?_
  simp

theorem keeps_execPgTimeout {n : Nat} {s t : State} (h : execPgTimeout n s = .next t) : Keeps s t := by
  unfold execPgTimeout at h
  refine keeps_onUnit h ?_
  simp

theorem keeps_execSettleExpiry {s t : State} (h : execSettleExpiry s = .next t) : Keeps s t := by
  unfold execSettleExpiry at h
  refine keeps_done h ?_
  simp

theorem keeps_execRailRetryExpiry {s t : State} (h : execRailRetryExpiry s = .next t) : Keeps s t := by
  unfold execRailRetryExpiry at h
  refine keeps_done h ?_
  simp

theorem keeps_execRstoStretchExpiry {i : Nat} {s t : State}
    (h : execRstoStretchExpiry i s = .next t) : Keeps s t := by
  unfold execRstoStretchExpiry at h
  refine keeps_onUnit h ?_
  simp

theorem keeps_execPgFall {n : Nat} {s t : State} (h : execPgFall n s = .next t) : Keeps s t := by
  unfold execPgFall at h
  refine keeps_onUnit h ?_
  simp

theorem keeps_execPgLowTimeout {n : Nat} {s t : State} (h : execPgLowTimeout n s = .next t) : Keeps s t := by
  unfold execPgLowTimeout at h
  refine keeps_onUnit h ?_
  simp

theorem keeps_execPowerLogProgram {torn : Bool} {s t : State}
    (h : execPowerLogProgram torn s = .next t) : Keeps s t := by
  unfold execPowerLogProgram at h
  refine keeps_done h ?_
  repeat' split
  all_goals simp

theorem keeps_execLogFlushDone {s t : State} (h : execLogFlushDone s = .next t) : Keeps s t := by
  unfold execLogFlushDone at h
  refine keeps_done h ?_
  simp

theorem keeps_execInfailNDeassert {s t : State} (h : execInfailNDeassert s = .next t) : Keeps s t := by
  unfold execInfailNDeassert at h
  refine keeps_done h ?_
  simp

theorem keeps_execEstoreOkAssert {s t : State} (h : execEstoreOkAssert s = .next t) : Keeps s t := by
  unfold execEstoreOkAssert at h
  refine keeps_done h ?_
  simp

theorem keeps_execEstoreOkDeassert {s t : State} (h : execEstoreOkDeassert s = .next t) : Keeps s t := by
  unfold execEstoreOkDeassert at h
  refine keeps_done h ?_
  simp

theorem keeps_execMinOffTimeExpiry {s t : State} (h : execMinOffTimeExpiry s = .next t) : Keeps s t := by
  unfold execMinOffTimeExpiry at h
  refine keeps_done h ?_
  simp

theorem keeps_execPowerOn {p : Path} {tag : Nat} {s t : State} (h : execPowerOn p tag s = .next t) : Keeps s t := by
  unfold execPowerOn at h
  refine keeps_done h ?_
  simp

theorem keeps_execPowerStatus {p : Path} {tag : Nat} {s t : State}
    (h : execPowerStatus p tag s = .next t) : Keeps s t := by
  unfold execPowerStatus at h
  refine keeps_done h ?_
  simp

theorem keeps_execPowerLogRead {p : Path} {tag : Nat} {s t : State}
    (h : execPowerLogRead p tag s = .next t) : Keeps s t := by
  unfold execPowerLogRead at h
  refine keeps_done h ?_
  simp

theorem keeps_execClear {p : Path} {s t : State} (h : execClear p s = .next t) : Keeps s t := by
  unfold execClear at h
  refine keeps_done h ?_
  simp

theorem keeps_execClearing {event : Nat} {s t : State} (h : execClearing event s = .next t) : Keeps s t := by
  unfold execClearing at h
  refine keeps_onUnit h ?_
  rfl

theorem keeps_execAck {h : Pkt} {ntf : Bool} {s t : State} (h : execAck h ntf s = .next t) : Keeps s t := by
  unfold execAck at h
  refine keeps_onUnit h ?_
  simp

theorem keeps_execCredit {h : Pkt} {s t : State} (h : execCredit h s = .next t) : Keeps s t := by
  unfold execCredit at h
  refine keeps_onUnit h ?_
  simp

theorem keeps_execFlushAck {qpn psn : Nat} {s t : State} (h : execFlushAck qpn psn s = .next t) : Keeps s t := by
  unfold execFlushAck at h
  refine keeps_done h ?_
  repeat' split
  all_goals simp

theorem keeps_execAckDelayExpiry {qpn : Nat} {s t : State}
    (h : execAckDelayExpiry qpn s = .next t) : Keeps s t := by
  unfold execAckDelayExpiry at h
  refine keeps_done h ?_
  repeat' split
  all_goals simp

theorem keeps_execCloseComplete {qpn : Nat} {s t : State} (h : execCloseComplete qpn s = .next t) : Keeps s t := by
  unfold execCloseComplete at h
  refine keeps_done h ?_
  repeat' split
  all_goals simp

theorem keeps_execPeerClose {h : Pkt} {s t : State} (h : execPeerClose h s = .next t) : Keeps s t := by
  unfold execPeerClose at h
  refine keeps_onUnit h ?_
  apply stores_step1; intro t; (try dsimp only); (repeat' split) <;> simp

theorem keeps_execPeerIdleTimeout {peer : Nat} {s t : State}
    (h : execPeerIdleTimeout peer s = .next t) : Keeps s t := by
  unfold execPeerIdleTimeout at h
  refine keeps_done h ?_
  simp

theorem keeps_execNotifyDelivery {id : Nat} {s t : State} (h : execNotifyDelivery id s = .next t) : Keeps s t := by
  unfold execNotifyDelivery at h
  refine keeps_done h ?_
  repeat' split
  all_goals simp

theorem keeps_execNotifyRetransmit {qpn : Nat} {s t : State}
    (h : execNotifyRetransmit qpn s = .next t) : Keeps s t := by
  unfold execNotifyRetransmit at h
  refine keeps_done h ?_
  repeat' split
  all_goals simp

theorem keeps_execNotifyUndelivered {id : Nat} {s t : State}
    (h : execNotifyUndelivered id s = .next t) : Keeps s t := by
  unfold execNotifyUndelivered at h
  refine keeps_done h ?_
  repeat' split
  all_goals simp

theorem keeps_execKeyRegister {p : Path} {tag : Nat} {ws : List Window} {any : Bool} {cls : Nat} {s t : State}
    (h : execKeyRegister p tag ws any cls s = .next t) : Keeps s t := by
  unfold execKeyRegister at h
  refine keeps_done h ?_
  simp

theorem keeps_execKeyRevoke {p : Path} {tag : Nat} {key : BitVec 64} {s t : State}
    (h : execKeyRevoke p tag key s = .next t) : Keeps s t := by
  unfold execKeyRevoke at h
  refine keeps_done h ?_
  simp

theorem keeps_execCloseQp {p : Path} {qpn : Nat} {s t : State} (h : execCloseQp p qpn s = .next t) : Keeps s t := by
  unfold execCloseQp at h
  refine keeps_done h ?_
  simp

theorem keeps_execClosePeer {p : Path} {peer : Nat} {s t : State}
    (h : execClosePeer p peer s = .next t) : Keeps s t := by
  unfold execClosePeer at h
  refine keeps_done h ?_
  apply stores_ctlWrite; intro t; (try dsimp only); (repeat' split) <;> simp

theorem keeps_execSourceHeartbeat {src lag : Nat} {s t : State}
    (h : execSourceHeartbeat src lag s = .next t) : Keeps s t := by
  unfold execSourceHeartbeat at h
  refine keeps_onUnit h ?_
  simp

theorem keeps_execMergeStall {src : Nat} {s t : State} (h : execMergeStall src s = .next t) : Keeps s t := by
  unfold execMergeStall at h
  refine keeps_onUnit h ?_
  simp

theorem keeps_execHeldWriteRelease {s t : State} (h : execHeldWriteRelease s = .next t) : Keeps s t := by
  unfold execHeldWriteRelease at h
  refine keeps_done h ?_
  repeat' split
  all_goals simp

theorem keeps_execArpRequest {port : Nat} {ip : BitVec 128} {s t : State}
    (h : execArpRequest port ip s = .next t) : Keeps s t := by
  unfold execArpRequest at h
  refine keeps_onUnit h ?_
  simp

theorem keeps_execNeighborSolicitation {port : Nat} {ip : BitVec 128} {s t : State}
    (h : execNeighborSolicitation port ip s = .next t) : Keeps s t := by
  unfold execNeighborSolicitation at h
  refine keeps_onUnit h ?_
  simp

theorem keeps_execIcmpEcho {port : Nat} {ip : BitVec 128} {v6 : Bool} {s t : State}
    (h : execIcmpEcho port ip v6 s = .next t) : Keeps s t := by
  unfold execIcmpEcho at h
  refine keeps_onUnit h ?_
  simp

theorem keeps_execPauseFrame {port : Nat} {s t : State} (h : execPauseFrame port s = .next t) : Keeps s t := by
  unfold execPauseFrame at h
  refine keeps_onUnit h ?_
  simp

theorem keeps_execPtpEventMessage {port : Nat} {tx : Bool} {mtype seqId : Nat} {s t : State}
    (h : execPtpEventMessage port tx mtype seqId s = .next t) : Keeps s t := by
  unfold execPtpEventMessage at h
  refine keeps_onUnit h ?_
  simp

theorem keeps_execNetLinkChange {port : Nat} {up : Bool} {s t : State}
    (h : execNetLinkChange port up s = .next t) : Keeps s t := by
  unfold execNetLinkChange at h
  refine keeps_onUnit h ?_
  simp

theorem keeps_execSeal {p : Path} {tag grove first count : Nat} {s t : State}
    (h : execSeal p tag grove first count s = .next t) : Keeps s t := by
  unfold execSeal at h
  refine keeps_done h ?_
  simp

theorem keeps_execUnseal {p : Path} {tag grove first count : Nat} {s t : State}
    (h : execUnseal p tag grove first count s = .next t) : Keeps s t := by
  unfold execUnseal at h
  refine keeps_done h ?_
  simp

theorem keeps_execPost {p : Path} {tag : Nat} {v1 : Bool} {c : SchedCmd} {s t : State}
    (h : execPost p tag v1 c s = .next t) : Keeps s t := by
  unfold execPost at h
  refine keeps_done h ?_
  simp

theorem keeps_execAppend {p : Path} {tag : Nat} {v1 : Bool} {c : SchedCmd} {s t : State}
    (h : execAppend p tag v1 c s = .next t) : Keeps s t := by
  unfold execAppend at h
  refine keeps_done h ?_
  simp

theorem keeps_execCancel {p : Path} {tag : Nat} {v1 : Bool} {c : SchedCmd} {s t : State}
    (h : execCancel p tag v1 c s = .next t) : Keeps s t := by
  unfold execCancel at h
  refine keeps_done h ?_
  simp

theorem keeps_execZqCalibration {ch : Nat} {s t : State} (h : execZqCalibration ch s = .next t) : Keeps s t := by
  unfold execZqCalibration at h
  refine keeps_onUnit h ?_
  simp

theorem keeps_execDqsDriftCompensation {ch : Nat} {s t : State}
    (h : execDqsDriftCompensation ch s = .next t) : Keeps s t := by
  unfold execDqsDriftCompensation at h
  refine keeps_onUnit h ?_
  simp

theorem keeps_execRefreshDue {ch rank : Nat} {s t : State}
    (h : execRefreshDue ch rank s = .next t) : Keeps s t := by
  unfold execRefreshDue at h
  refine keeps_onUnit h ?_
  simp

theorem keeps_execMr4Poll {ch : Nat} {hotRanks : List Nat} {s t : State}
    (h : execMr4Poll ch hotRanks s = .next t) : Keeps s t := by
  unfold execMr4Poll at h
  refine keeps_onUnit h ?_
  simp

theorem keeps_execSelfRefreshEntry {ch : Nat} {s t : State}
    (h : execSelfRefreshEntry ch s = .next t) : Keeps s t := by
  unfold execSelfRefreshEntry at h
  refine keeps_onUnit h ?_
  simp

theorem keeps_execCaParityAlert {ch sub : Nat} {replayOk : Bool} {s t : State}
    (h : execCaParityAlert ch sub replayOk s = .next t) : Keeps s t := by
  unfold execCaParityAlert at h
  refine keeps_onUnit h ?_
  simp

theorem keeps_execUeClear {p : Path} {ch : Nat} {s t : State} (h : execUeClear p ch s = .next t) : Keeps s t := by
  unfold execUeClear at h
  refine keeps_done h ?_
  simp

theorem keeps_execEvacuate {p : Path} {set : Nat} {s t : State}
    (h : execEvacuate p set s = .next t) : Keeps s t := by
  unfold execEvacuate at h
  refine keeps_done h ?_
  simp

theorem keeps_execReturnSet {p : Path} {set : Nat} {s t : State}
    (h : execReturnSet p set s = .next t) : Keeps s t := by
  unfold execReturnSet at h
  refine keeps_done h ?_
  simp

theorem keeps_execAbortEvac {p : Path} {set : Nat} {s t : State}
    (h : execAbortEvac p set s = .next t) : Keeps s t := by
  unfold execAbortEvac at h
  refine keeps_done h ?_
  apply stores_ctlWrite; intro t; (try dsimp only); (repeat' split) <;> simp

theorem keeps_execStaticWearLevel {ch die : Nat} {s t : State}
    (h : execStaticWearLevel ch die s = .next t) : Keeps s t := by
  unfold execStaticWearLevel at h
  refine keeps_onUnit h ?_
  (try dsimp only); (repeat' split) <;> simp

theorem keeps_execReadDisturbLimit {ch die block : Nat} {s t : State}
    (h : execReadDisturbLimit ch die block s = .next t) : Keeps s t := by
  unfold execReadDisturbLimit at h
  refine keeps_onUnit h ?_
  simp

theorem keeps_execTimeTimer {s t : State} (h : execTimeTimer s = .next t) : Keeps s t := by
  unfold execTimeTimer at h
  refine keeps_done h ?_
  simp

theorem keeps_execRekeyCount {s t : State} (h : execRekeyCount s = .next t) : Keeps s t := by
  unfold execRekeyCount at h
  refine keeps_done h ?_
  simp

theorem keeps_execHandoverSend {s t : State} (h : execHandoverSend s = .next t) : Keeps s t := by
  unfold execHandoverSend at h
  refine keeps_done h ?_
  simp

theorem keeps_execHeartbeatTimer {s t : State} (h : execHeartbeatTimer s = .next t) : Keeps s t := by
  unfold execHeartbeatTimer at h
  refine keeps_done h ?_
  simp

theorem keeps_execLeaderUtlSilence {s t : State} (h : execLeaderUtlSilence s = .next t) : Keeps s t := by
  unfold execLeaderUtlSilence at h
  refine keeps_done h ?_
  simp

theorem keeps_execLagHoldStart {s t : State} (h : execLagHoldStart s = .next t) : Keeps s t := by
  unfold execLagHoldStart at h
  refine keeps_done h ?_
  simp

theorem keeps_execLagHoldLong {s t : State} (h : execLagHoldLong s = .next t) : Keeps s t := by
  unfold execLagHoldLong at h
  refine keeps_done h ?_
  simp

theorem keeps_execHandover {p : Path} {s t : State} (h : execHandover p s = .next t) : Keeps s t := by
  unfold execHandover at h
  refine keeps_done h ?_
  simp

theorem keeps_execUtlRetryTimer {s t : State} (h : execUtlRetryTimer s = .next t) : Keeps s t := by
  unfold execUtlRetryTimer at h
  refine keeps_done h ?_
  simp

theorem keeps_execUtlTrainLock {mask : BitVec 16} {s t : State}
    (h : execUtlTrainLock mask s = .next t) : Keeps s t := by
  unfold execUtlTrainLock at h
  refine keeps_done h ?_
  simp

theorem keeps_execUtlTrainTimeout {s t : State} (h : execUtlTrainTimeout s = .next t) : Keeps s t := by
  unfold execUtlTrainTimeout at h
  refine keeps_done h ?_
  simp

theorem keeps_execUtlNegotiateTimeout {s t : State} (h : execUtlNegotiateTimeout s = .next t) : Keeps s t := by
  unfold execUtlNegotiateTimeout at h
  refine keeps_done h ?_
  simp

theorem keeps_execNegotiateTimer {s t : State} (h : execNegotiateTimer s = .next t) : Keeps s t := by
  unfold execNegotiateTimer at h
  refine keeps_done h ?_
  simp

theorem keeps_execUtlLaneFault {healthy : BitVec 16} {s t : State}
    (h : execUtlLaneFault healthy s = .next t) : Keeps s t := by
  unfold execUtlLaneFault at h
  refine keeps_done h ?_
  repeat' split
  all_goals simp

theorem keeps_execLaneChangeTimeout {s t : State} (h : execLaneChangeTimeout s = .next t) : Keeps s t := by
  unfold execLaneChangeTimeout at h
  refine keeps_done h ?_
  simp

theorem keeps_execRewiden {p : Path} {s t : State} (h : execRewiden p s = .next t) : Keeps s t := by
  unfold execRewiden at h
  refine keeps_done h ?_
  simp

theorem keeps_execZeroise {p : Path} {slot : Nat} {s t : State}
    (h : execZeroise p slot s = .next t) : Keeps s t := by
  unfold execZeroise at h
  refine keeps_done h ?_
  simp

theorem keeps_execRollComplete {slot : Nat} {s t : State} (h : execRollComplete slot s = .next t) : Keeps s t := by
  unfold execRollComplete at h
  refine keeps_done h ?_
  simp

theorem keeps_execRqTailWrite {p : Path} {tail : Nat} {s t : State}
    (h : execRqTailWrite p tail s = .next t) : Keeps s t := by
  unfold execRqTailWrite at h
  refine keeps_done h ?_
  simp

theorem keeps_execRingRestart {p : Path} {s t : State} (h : execRingRestart p s = .next t) : Keeps s t := by
  unfold execRingRestart at h
  refine keeps_done h ?_
  simp

theorem keeps_execLaneSelfTest {lane : Nat} {ok : Bool} {s t : State}
    (h : execLaneSelfTest lane ok s = .next t) : Keeps s t := by
  unfold execLaneSelfTest at h
  refine keeps_onUnit h ?_
  simp

theorem keeps_execStage3 {fuseOk bistOk : Bool} {badLanes : List Nat} {s t : State}
    (h : execStage3 fuseOk bistOk badLanes s = .next t) : Keeps s t := by
  unfold execStage3 at h
  refine keeps_done h ?_
  simp

theorem keeps_execStage4 {locked : Bool} {s t : State} (h : execStage4 locked s = .next t) : Keeps s t := by
  unfold execStage4 at h
  refine keeps_done h ?_
  simp

theorem keeps_execStage5 {va vb : BankVerdict} {fwVersion : Word} {s t : State}
    (h : execStage5 va vb fwVersion s = .next t) : Keeps s t := by
  unfold execStage5 at h
  refine keeps_done h ?_
  simp

theorem keeps_execStage9 {s t : State} (h : execStage9 s = .next t) : Keeps s t := by
  unfold execStage9 at h
  refine keeps_done h ?_
  simp

theorem keeps_execThermalSample {temps : List Int} {s t : State}
    (h : execThermalSample temps s = .next t) : Keeps s t := by
  unfold execThermalSample at h
  refine keeps_done h ?_
  simp

theorem keeps_execDutyUpdate {s t : State} (h : execDutyUpdate s = .next t) : Keeps s t := by
  unfold execDutyUpdate at h
  refine keeps_done h ?_
  simp

theorem keeps_execPpsEdge {s t : State} (h : execPpsEdge s = .next t) : Keeps s t := by
  unfold execPpsEdge at h
  refine keeps_done h ?_
  simp

theorem keeps_execPpsMissing {s t : State} (h : execPpsMissing s = .next t) : Keeps s t := by
  unfold execPpsMissing at h
  refine keeps_done h ?_
  simp

theorem keeps_execGtcCorrection {p : Path} {hi : Word} {s t : State}
    (h : execGtcCorrection p hi s = .next t) : Keeps s t := by
  unfold execGtcCorrection at h
  refine keeps_done h ?_
  repeat' split
  all_goals simp

theorem keeps_execPllLockLoss {domain : Nat} {s t : State}
    (h : execPllLockLoss domain s = .next t) : Keeps s t := by
  unfold execPllLockLoss at h
  refine keeps_onUnit h ?_
  simp

theorem keeps_execRefclkLoss {domain : Nat} {s t : State} (h : execRefclkLoss domain s = .next t) : Keeps s t := by
  unfold execRefclkLoss at h
  refine keeps_onUnit h ?_
  simp

theorem keeps_execCrossingFault {event : Nat} {s t : State}
    (h : execCrossingFault event s = .next t) : Keeps s t := by
  unfold execCrossingFault at h
  refine keeps_onUnit h ?_
  simp

theorem keeps_execLeakTick {event : Nat} {s t : State} (h : execLeakTick event s = .next t) : Keeps s t := by
  unfold execLeakTick at h
  refine keeps_onUnit h ?_
  simp

theorem keeps_execSevereAcknowledge {p : Path} {k : Nat} {bits : Word} {s t : State}
    (h : execSevereAcknowledge p k bits s = .next t) : Keeps s t := by
  unfold execSevereAcknowledge at h
  refine keeps_done h ?_
  simp

theorem keeps_execAckAll {p : Path} {s t : State} (h : execAckAll p s = .next t) : Keeps s t := by
  unfold execAckAll at h
  refine keeps_done h ?_
  simp

theorem keeps_execReleasePort {p : Path} {port : Nat} {s t : State}
    (h : execReleasePort p port s = .next t) : Keeps s t := by
  unfold execReleasePort at h
  refine keeps_done h ?_
  simp

theorem keeps_execScrubRead {id : Nat} {err stuck : BitVec 80} {s t : State}
    (h : execScrubRead id err stuck s = .next t) : Keeps s t := by
  unfold execScrubRead at h
  refine keeps_onUnit h ?_
  simp

theorem keeps_execFlipArm {p : Path} {v : Word} {s t : State} (h : execFlipArm p v s = .next t) : Keeps s t := by
  unfold execFlipArm at h
  refine keeps_done h ?_
  simp

theorem keeps_execPerfStart {p : Path} {s t : State} (h : execPerfStart p s = .next t) : Keeps s t := by
  unfold execPerfStart at h
  refine keeps_done h ?_
  simp

theorem keeps_execPerfStop {p : Path} {s t : State} (h : execPerfStop p s = .next t) : Keeps s t := by
  unfold execPerfStop at h
  refine keeps_done h ?_
  simp

theorem keeps_execPerfGlobalClear {p : Path} {s t : State} (h : execPerfGlobalClear p s = .next t) : Keeps s t := by
  unfold execPerfGlobalClear at h
  refine keeps_done h ?_
  simp

theorem keeps_execPerfUnitClear {p : Path} {unit : Nat} {s t : State}
    (h : execPerfUnitClear p unit s = .next t) : Keeps s t := by
  unfold execPerfUnitClear at h
  refine keeps_done h ?_
  simp

theorem keeps_execEpochBoundary {s t : State} (h : execEpochBoundary s = .next t) : Keeps s t := by
  unfold execEpochBoundary at h
  refine keeps_done h ?_
  simp

theorem keeps_execFreeze {p : Path} {s t : State} (h : execFreeze p s = .next t) : Keeps s t := by
  unfold execFreeze at h
  refine keeps_done h ?_
  apply stores_ctlWrite; intro t; rfl

theorem keeps_execThaw {p : Path} {s t : State} (h : execThaw p s = .next t) : Keeps s t := by
  unfold execThaw at h
  refine keeps_done h ?_
  simp

theorem keeps_execRecClear {p : Path} {s t : State} (h : execRecClear p s = .next t) : Keeps s t := by
  unfold execRecClear at h
  refine keeps_done h ?_
  simp

theorem keeps_execFlashUnlock {p : Path} {k1 k2 : Word} {s t : State}
    (h : execFlashUnlock p k1 k2 s = .next t) : Keeps s t := by
  unfold execFlashUnlock at h
  refine keeps_done h ?_
  simp

theorem keeps_execFlashProgram {p : Path} {data : Word} {s t : State}
    (h : execFlashProgram p data s = .next t) : Keeps s t := by
  unfold execFlashProgram at h
  refine keeps_done h ?_
  simp

theorem keeps_execFlashErase {p : Path} {s t : State} (h : execFlashErase p s = .next t) : Keeps s t := by
  unfold execFlashErase at h
  refine keeps_done h ?_
  simp

theorem keeps_execBlankCheck {p : Path} {s t : State} (h : execBlankCheck p s = .next t) : Keeps s t := by
  unfold execBlankCheck at h
  refine keeps_done h ?_
  simp

theorem keeps_execFlashCommandDone {verifyOk : Bool} {s t : State}
    (h : execFlashCommandDone verifyOk s = .next t) : Keeps s t := by
  unfold execFlashCommandDone at h
  refine keeps_done h ?_
  repeat' split
  all_goals simp

theorem keeps_execFlashDataRead {p : Path} {s t : State} (h : execFlashDataRead p s = .next t) : Keeps s t := by
  unfold execFlashDataRead at h
  refine keeps_done h ?_
  simp

theorem keeps_execStoreWrite {p : Path} {tag : Nat} {v1 : Bool} {addr : Nat} {words : List Word} {s t : State}
    (h : execStoreWrite p tag v1 addr words s = .next t) : Keeps s t := by
  unfold execStoreWrite at h
  refine keeps_done h ?_
  simp

theorem keeps_execStoreErase {p : Path} {tag : Nat} {v1 : Bool} {addr : Nat} {s t : State}
    (h : execStoreErase p tag v1 addr s = .next t) : Keeps s t := by
  unfold execStoreErase at h
  refine keeps_done h ?_
  simp

theorem keeps_execProvision {tag : Nat} {s t : State} (h : execProvision tag s = .next t) : Keeps s t := by
  unfold execProvision at h
  refine keeps_done h ?_
  simp

theorem keeps_execGetVersion {p : Path} {tag : Nat} {s t : State}
    (h : execGetVersion p tag s = .next t) : Keeps s t := by
  unfold execGetVersion at h
  refine keeps_done h ?_
  simp

theorem keeps_execVerifyBank {p : Path} {bank : Nat} {v : BankVerdict} {s t : State}
    (h : execVerifyBank p bank v s = .next t) : Keeps s t := by
  unfold execVerifyBank at h
  refine keeps_done h ?_
  simp

theorem keeps_execSelectBank {p : Path} {bank : Nat} {v : BankVerdict} {s t : State}
    (h : execSelectBank p bank v s = .next t) : Keeps s t := by
  unfold execSelectBank at h
  refine keeps_done h ?_
  simp

theorem keeps_execPldmFirmwareUpdate {bank off : Nat} {words : List Word} {image : Bool} {s t : State}
    (h : execPldmFirmwareUpdate bank off words image s = .next t) : Keeps s t := by
  unfold execPldmFirmwareUpdate at h
  refine keeps_done h ?_
  simp

theorem keeps_execPldmActivate {v : BankVerdict} {s t : State}
    (h : execPldmActivate v s = .next t) : Keeps s t := by
  unfold execPldmActivate at h
  refine keeps_done h ?_
  simp

theorem keeps_execRdpRaise {p : Path} {v : Word} {s t : State} (h : execRdpRaise p v s = .next t) : Keeps s t := by
  unfold execRdpRaise at h
  refine keeps_done h ?_
  simp

theorem keeps_execRdpLower {p : Path} {v : Word} {s t : State} (h : execRdpLower p v s = .next t) : Keeps s t := by
  unfold execRdpLower at h
  refine keeps_done h ?_
  simp

theorem keeps_execIdcode {s t : State} (h : execIdcode s = .next t) : Keeps s t := by
  unfold execIdcode at h
  refine keeps_done h ?_
  rfl

theorem keeps_execBypass {s t : State} (h : execBypass s = .next t) : Keeps s t := by
  unfold execBypass at h
  refine keeps_done h ?_
  rfl

theorem keeps_execSamplePreload {s t : State} (h : execSamplePreload s = .next t) : Keeps s t := by
  unfold execSamplePreload at h
  refine keeps_done h ?_
  rfl

theorem keeps_execExtest {s t : State} (h : execExtest s = .next t) : Keeps s t := by
  unfold execExtest at h
  refine keeps_done h ?_
  rfl

theorem keeps_execClamp {s t : State} (h : execClamp s = .next t) : Keeps s t := by
  unfold execClamp at h
  refine keeps_done h ?_
  rfl

theorem keeps_execHighz {s t : State} (h : execHighz s = .next t) : Keeps s t := by
  unfold execHighz at h
  refine keeps_done h ?_
  rfl

theorem keeps_execChallenge {p : Path} {purpose : Nat} {s t : State}
    (h : execChallenge p purpose s = .next t) : Keeps s t := by
  unfold execChallenge at h
  refine keeps_done h ?_
  simp

theorem keeps_execGladeAuth {purpose : Nat} {s t : State} (h : execGladeAuth purpose s = .next t) : Keeps s t := by
  unfold execGladeAuth at h
  refine keeps_done h ?_
  simp

theorem keeps_execSubmit {p : Path} {accepted : Bool} {s t : State}
    (h : execSubmit p accepted s = .next t) : Keeps s t := by
  unfold execSubmit at h
  refine keeps_done h ?_
  simp

theorem keeps_execGladeOpenEraseDone {s t : State} (h : execGladeOpenEraseDone s = .next t) : Keeps s t := by
  unfold execGladeOpenEraseDone at h
  refine keeps_done h ?_
  simp

theorem keeps_execEntdaa {addr : Nat} {s t : State} (h : execEntdaa addr s = .next t) : Keeps s t := by
  unfold execEntdaa at h
  refine keeps_done h ?_
  simp

theorem keeps_execSetdasa {addr : Nat} {s t : State} (h : execSetdasa addr s = .next t) : Keeps s t := by
  unfold execSetdasa at h
  refine keeps_done h ?_
  simp

theorem keeps_execLoReadLatch {p : Path} {addr : Nat} {s t : State}
    (h : execLoReadLatch p addr s = .next t) : Keeps s t := by
  unfold execLoReadLatch at h
  refine keeps_done h ?_
  simp

theorem keeps_execRcRead {p : Path} {addr : Nat} {s t : State} (h : execRcRead p addr s = .next t) : Keeps s t := by
  unfold execRcRead at h
  refine keeps_done h ?_
  simp

theorem keeps_execPtpTimestampPop {p : Path} {port : Nat} {s t : State}
    (h : execPtpTimestampPop p port s = .next t) : Keeps s t := by
  unfold execPtpTimestampPop at h
  refine keeps_done h ?_
  simp

theorem keeps_execRegRead {p : Path} {tag addr count : Nat} {s t : State}
    (h : execRegRead p tag addr count s = .next t) : Keeps s t := by
  unfold execRegRead at h
  refine keeps_done h ?_
  simp

theorem keeps_execGroveCreate {p : Path} {tag tmpl extents : Nat} {s t : State}
    (h : execGroveCreate p tag tmpl extents s = .next t) : Keeps s t := by
  unfold execGroveCreate at h
  refine keeps_done h ?_
  simp

theorem keeps_execGroveResize {p : Path} {tag grove extents : Nat} {s t : State}
    (h : execGroveResize p tag grove extents s = .next t) : Keeps s t := by
  unfold execGroveResize at h
  refine keeps_done h ?_
  simp

theorem keeps_execGroveDelete {p : Path} {tag grove : Nat} {s t : State}
    (h : execGroveDelete p tag grove s = .next t) : Keeps s t := by
  unfold execGroveDelete at h
  refine keeps_done h ?_
  simp

theorem keeps_execGroveStatus {p : Path} {tag grove : Nat} {s t : State}
    (h : execGroveStatus p tag grove s = .next t) : Keeps s t := by
  unfold execGroveStatus at h
  refine keeps_done h ?_
  simp

end Sys2Proof.Machine
end

