-- ==== Sys2Proof/Laws/State.lean ====
section
/-!
SUPPORT. The basic updates of the state: each changes one field, and every other field reads as before. One lemma
per update and field, so that no proof unfolds an update to read another field.
-/

namespace Sys2Proof.Machine

open Sys2Proof

/-! ### send: out -/

@[simp] theorem send_pending (o : Out) (s : State) : (send o s).pending = s.pending := rfl
@[simp] theorem send_fuse (o : Out) (s : State) : (send o s).fuse = s.fuse := rfl
@[simp] theorem send_pwr (o : Out) (s : State) : (send o s).pwr = s.pwr := rfl
@[simp] theorem send_clk (o : Out) (s : State) : (send o s).clk = s.clk := rfl
@[simp] theorem send_therm (o : Out) (s : State) : (send o s).therm = s.therm := rfl
@[simp] theorem send_seqr (o : Out) (s : State) : (send o s).seqr = s.seqr := rfl
@[simp] theorem send_can (o : Out) (s : State) : (send o s).can = s.can := rfl
@[simp] theorem send_tier (o : Out) (s : State) : (send o s).tier = s.tier := rfl
@[simp] theorem send_dram (o : Out) (s : State) : (send o s).dram = s.dram := rfl
@[simp] theorem send_nand (o : Out) (s : State) : (send o s).nand = s.nand := rfl
@[simp] theorem send_host (o : Out) (s : State) : (send o s).host = s.host := rfl
@[simp] theorem send_net (o : Out) (s : State) : (send o s).net = s.net := rfl
@[simp] theorem send_twin (o : Out) (s : State) : (send o s).twin = s.twin := rfl
@[simp] theorem send_cipher (o : Out) (s : State) : (send o s).cipher = s.cipher := rfl
@[simp] theorem send_flt (o : Out) (s : State) : (send o s).flt = s.flt := rfl
@[simp] theorem send_integ (o : Out) (s : State) : (send o s).integ = s.integ := rfl
@[simp] theorem send_cop (o : Out) (s : State) : (send o s).cop = s.cop := rfl
@[simp] theorem send_perf (o : Out) (s : State) : (send o s).perf = s.perf := rfl
@[simp] theorem send_recd (o : Out) (s : State) : (send o s).recd = s.recd := rfl
@[simp] theorem send_cfg (o : Out) (s : State) : (send o s).cfg = s.cfg := rfl
@[simp] theorem send_regs (o : Out) (s : State) : (send o s).regs = s.regs := rfl
@[simp] theorem send_latch (o : Out) (s : State) : (send o s).latch = s.latch := rfl
@[simp] theorem send_ids (o : Out) (s : State) : (send o s).ids = s.ids := rfl
@[simp] theorem send_free (o : Out) (s : State) : (send o s).free = s.free := rfl

/-! ### bumpId: ids -/

@[simp] theorem bumpId_pending (s : State) : (bumpId s).pending = s.pending := rfl
@[simp] theorem bumpId_fuse (s : State) : (bumpId s).fuse = s.fuse := rfl
@[simp] theorem bumpId_pwr (s : State) : (bumpId s).pwr = s.pwr := rfl
@[simp] theorem bumpId_clk (s : State) : (bumpId s).clk = s.clk := rfl
@[simp] theorem bumpId_therm (s : State) : (bumpId s).therm = s.therm := rfl
@[simp] theorem bumpId_seqr (s : State) : (bumpId s).seqr = s.seqr := rfl
@[simp] theorem bumpId_can (s : State) : (bumpId s).can = s.can := rfl
@[simp] theorem bumpId_tier (s : State) : (bumpId s).tier = s.tier := rfl
@[simp] theorem bumpId_dram (s : State) : (bumpId s).dram = s.dram := rfl
@[simp] theorem bumpId_nand (s : State) : (bumpId s).nand = s.nand := rfl
@[simp] theorem bumpId_host (s : State) : (bumpId s).host = s.host := rfl
@[simp] theorem bumpId_net (s : State) : (bumpId s).net = s.net := rfl
@[simp] theorem bumpId_twin (s : State) : (bumpId s).twin = s.twin := rfl
@[simp] theorem bumpId_cipher (s : State) : (bumpId s).cipher = s.cipher := rfl
@[simp] theorem bumpId_flt (s : State) : (bumpId s).flt = s.flt := rfl
@[simp] theorem bumpId_integ (s : State) : (bumpId s).integ = s.integ := rfl
@[simp] theorem bumpId_cop (s : State) : (bumpId s).cop = s.cop := rfl
@[simp] theorem bumpId_perf (s : State) : (bumpId s).perf = s.perf := rfl
@[simp] theorem bumpId_recd (s : State) : (bumpId s).recd = s.recd := rfl
@[simp] theorem bumpId_cfg (s : State) : (bumpId s).cfg = s.cfg := rfl
@[simp] theorem bumpId_regs (s : State) : (bumpId s).regs = s.regs := rfl
@[simp] theorem bumpId_latch (s : State) : (bumpId s).latch = s.latch := rfl
@[simp] theorem bumpId_out (s : State) : (bumpId s).out = s.out := rfl
@[simp] theorem bumpId_free (s : State) : (bumpId s).free = s.free := rfl

/-! ### useFree: free -/

@[simp] theorem useFree_pending (s : State) : (useFree s).pending = s.pending := rfl
@[simp] theorem useFree_fuse (s : State) : (useFree s).fuse = s.fuse := rfl
@[simp] theorem useFree_pwr (s : State) : (useFree s).pwr = s.pwr := rfl
@[simp] theorem useFree_clk (s : State) : (useFree s).clk = s.clk := rfl
@[simp] theorem useFree_therm (s : State) : (useFree s).therm = s.therm := rfl
@[simp] theorem useFree_seqr (s : State) : (useFree s).seqr = s.seqr := rfl
@[simp] theorem useFree_can (s : State) : (useFree s).can = s.can := rfl
@[simp] theorem useFree_tier (s : State) : (useFree s).tier = s.tier := rfl
@[simp] theorem useFree_dram (s : State) : (useFree s).dram = s.dram := rfl
@[simp] theorem useFree_nand (s : State) : (useFree s).nand = s.nand := rfl
@[simp] theorem useFree_host (s : State) : (useFree s).host = s.host := rfl
@[simp] theorem useFree_net (s : State) : (useFree s).net = s.net := rfl
@[simp] theorem useFree_twin (s : State) : (useFree s).twin = s.twin := rfl
@[simp] theorem useFree_cipher (s : State) : (useFree s).cipher = s.cipher := rfl
@[simp] theorem useFree_flt (s : State) : (useFree s).flt = s.flt := rfl
@[simp] theorem useFree_integ (s : State) : (useFree s).integ = s.integ := rfl
@[simp] theorem useFree_cop (s : State) : (useFree s).cop = s.cop := rfl
@[simp] theorem useFree_perf (s : State) : (useFree s).perf = s.perf := rfl
@[simp] theorem useFree_recd (s : State) : (useFree s).recd = s.recd := rfl
@[simp] theorem useFree_cfg (s : State) : (useFree s).cfg = s.cfg := rfl
@[simp] theorem useFree_regs (s : State) : (useFree s).regs = s.regs := rfl
@[simp] theorem useFree_latch (s : State) : (useFree s).latch = s.latch := rfl
@[simp] theorem useFree_out (s : State) : (useFree s).out = s.out := rfl
@[simp] theorem useFree_ids (s : State) : (useFree s).ids = s.ids := rfl

/-! ### setRegWord: regs -/

@[simp] theorem setRegWord_pending (id : RegId) (i j : Nat) (v : Nat) (s : State) : (setRegWord id i j v s).pending = s.pending := rfl
@[simp] theorem setRegWord_fuse (id : RegId) (i j : Nat) (v : Nat) (s : State) : (setRegWord id i j v s).fuse = s.fuse := rfl
@[simp] theorem setRegWord_pwr (id : RegId) (i j : Nat) (v : Nat) (s : State) : (setRegWord id i j v s).pwr = s.pwr := rfl
@[simp] theorem setRegWord_clk (id : RegId) (i j : Nat) (v : Nat) (s : State) : (setRegWord id i j v s).clk = s.clk := rfl
@[simp] theorem setRegWord_therm (id : RegId) (i j : Nat) (v : Nat) (s : State) : (setRegWord id i j v s).therm = s.therm := rfl
@[simp] theorem setRegWord_seqr (id : RegId) (i j : Nat) (v : Nat) (s : State) : (setRegWord id i j v s).seqr = s.seqr := rfl
@[simp] theorem setRegWord_can (id : RegId) (i j : Nat) (v : Nat) (s : State) : (setRegWord id i j v s).can = s.can := rfl
@[simp] theorem setRegWord_tier (id : RegId) (i j : Nat) (v : Nat) (s : State) : (setRegWord id i j v s).tier = s.tier := rfl
@[simp] theorem setRegWord_dram (id : RegId) (i j : Nat) (v : Nat) (s : State) : (setRegWord id i j v s).dram = s.dram := rfl
@[simp] theorem setRegWord_nand (id : RegId) (i j : Nat) (v : Nat) (s : State) : (setRegWord id i j v s).nand = s.nand := rfl
@[simp] theorem setRegWord_host (id : RegId) (i j : Nat) (v : Nat) (s : State) : (setRegWord id i j v s).host = s.host := rfl
@[simp] theorem setRegWord_net (id : RegId) (i j : Nat) (v : Nat) (s : State) : (setRegWord id i j v s).net = s.net := rfl
@[simp] theorem setRegWord_twin (id : RegId) (i j : Nat) (v : Nat) (s : State) : (setRegWord id i j v s).twin = s.twin := rfl
@[simp] theorem setRegWord_cipher (id : RegId) (i j : Nat) (v : Nat) (s : State) : (setRegWord id i j v s).cipher = s.cipher := rfl
@[simp] theorem setRegWord_flt (id : RegId) (i j : Nat) (v : Nat) (s : State) : (setRegWord id i j v s).flt = s.flt := rfl
@[simp] theorem setRegWord_integ (id : RegId) (i j : Nat) (v : Nat) (s : State) : (setRegWord id i j v s).integ = s.integ := rfl
@[simp] theorem setRegWord_cop (id : RegId) (i j : Nat) (v : Nat) (s : State) : (setRegWord id i j v s).cop = s.cop := rfl
@[simp] theorem setRegWord_perf (id : RegId) (i j : Nat) (v : Nat) (s : State) : (setRegWord id i j v s).perf = s.perf := rfl
@[simp] theorem setRegWord_recd (id : RegId) (i j : Nat) (v : Nat) (s : State) : (setRegWord id i j v s).recd = s.recd := rfl
@[simp] theorem setRegWord_cfg (id : RegId) (i j : Nat) (v : Nat) (s : State) : (setRegWord id i j v s).cfg = s.cfg := rfl
@[simp] theorem setRegWord_latch (id : RegId) (i j : Nat) (v : Nat) (s : State) : (setRegWord id i j v s).latch = s.latch := rfl
@[simp] theorem setRegWord_out (id : RegId) (i j : Nat) (v : Nat) (s : State) : (setRegWord id i j v s).out = s.out := rfl
@[simp] theorem setRegWord_ids (id : RegId) (i j : Nat) (v : Nat) (s : State) : (setRegWord id i j v s).ids = s.ids := rfl
@[simp] theorem setRegWord_free (id : RegId) (i j : Nat) (v : Nat) (s : State) : (setRegWord id i j v s).free = s.free := rfl

/-! ### raiseAt: flt -/

@[simp] theorem raiseAt_pending (e tgt : Nat) (s : State) : (raiseAt e tgt s).pending = s.pending := rfl
@[simp] theorem raiseAt_fuse (e tgt : Nat) (s : State) : (raiseAt e tgt s).fuse = s.fuse := rfl
@[simp] theorem raiseAt_pwr (e tgt : Nat) (s : State) : (raiseAt e tgt s).pwr = s.pwr := rfl
@[simp] theorem raiseAt_clk (e tgt : Nat) (s : State) : (raiseAt e tgt s).clk = s.clk := rfl
@[simp] theorem raiseAt_therm (e tgt : Nat) (s : State) : (raiseAt e tgt s).therm = s.therm := rfl
@[simp] theorem raiseAt_seqr (e tgt : Nat) (s : State) : (raiseAt e tgt s).seqr = s.seqr := rfl
@[simp] theorem raiseAt_can (e tgt : Nat) (s : State) : (raiseAt e tgt s).can = s.can := rfl
@[simp] theorem raiseAt_tier (e tgt : Nat) (s : State) : (raiseAt e tgt s).tier = s.tier := rfl
@[simp] theorem raiseAt_dram (e tgt : Nat) (s : State) : (raiseAt e tgt s).dram = s.dram := rfl
@[simp] theorem raiseAt_nand (e tgt : Nat) (s : State) : (raiseAt e tgt s).nand = s.nand := rfl
@[simp] theorem raiseAt_host (e tgt : Nat) (s : State) : (raiseAt e tgt s).host = s.host := rfl
@[simp] theorem raiseAt_net (e tgt : Nat) (s : State) : (raiseAt e tgt s).net = s.net := rfl
@[simp] theorem raiseAt_twin (e tgt : Nat) (s : State) : (raiseAt e tgt s).twin = s.twin := rfl
@[simp] theorem raiseAt_cipher (e tgt : Nat) (s : State) : (raiseAt e tgt s).cipher = s.cipher := rfl
@[simp] theorem raiseAt_integ (e tgt : Nat) (s : State) : (raiseAt e tgt s).integ = s.integ := rfl
@[simp] theorem raiseAt_cop (e tgt : Nat) (s : State) : (raiseAt e tgt s).cop = s.cop := rfl
@[simp] theorem raiseAt_perf (e tgt : Nat) (s : State) : (raiseAt e tgt s).perf = s.perf := rfl
@[simp] theorem raiseAt_recd (e tgt : Nat) (s : State) : (raiseAt e tgt s).recd = s.recd := rfl
@[simp] theorem raiseAt_cfg (e tgt : Nat) (s : State) : (raiseAt e tgt s).cfg = s.cfg := rfl
@[simp] theorem raiseAt_regs (e tgt : Nat) (s : State) : (raiseAt e tgt s).regs = s.regs := rfl
@[simp] theorem raiseAt_latch (e tgt : Nat) (s : State) : (raiseAt e tgt s).latch = s.latch := rfl
@[simp] theorem raiseAt_out (e tgt : Nat) (s : State) : (raiseAt e tgt s).out = s.out := rfl
@[simp] theorem raiseAt_ids (e tgt : Nat) (s : State) : (raiseAt e tgt s).ids = s.ids := rfl
@[simp] theorem raiseAt_free (e tgt : Nat) (s : State) : (raiseAt e tgt s).free = s.free := rfl

/-! ### modMeta: tier -/

@[simp] theorem modMeta_pending (f : Meta → Meta) (s : State) : (modMeta f s).pending = s.pending := rfl
@[simp] theorem modMeta_fuse (f : Meta → Meta) (s : State) : (modMeta f s).fuse = s.fuse := rfl
@[simp] theorem modMeta_pwr (f : Meta → Meta) (s : State) : (modMeta f s).pwr = s.pwr := rfl
@[simp] theorem modMeta_clk (f : Meta → Meta) (s : State) : (modMeta f s).clk = s.clk := rfl
@[simp] theorem modMeta_therm (f : Meta → Meta) (s : State) : (modMeta f s).therm = s.therm := rfl
@[simp] theorem modMeta_seqr (f : Meta → Meta) (s : State) : (modMeta f s).seqr = s.seqr := rfl
@[simp] theorem modMeta_can (f : Meta → Meta) (s : State) : (modMeta f s).can = s.can := rfl
@[simp] theorem modMeta_dram (f : Meta → Meta) (s : State) : (modMeta f s).dram = s.dram := rfl
@[simp] theorem modMeta_nand (f : Meta → Meta) (s : State) : (modMeta f s).nand = s.nand := rfl
@[simp] theorem modMeta_host (f : Meta → Meta) (s : State) : (modMeta f s).host = s.host := rfl
@[simp] theorem modMeta_net (f : Meta → Meta) (s : State) : (modMeta f s).net = s.net := rfl
@[simp] theorem modMeta_twin (f : Meta → Meta) (s : State) : (modMeta f s).twin = s.twin := rfl
@[simp] theorem modMeta_cipher (f : Meta → Meta) (s : State) : (modMeta f s).cipher = s.cipher := rfl
@[simp] theorem modMeta_flt (f : Meta → Meta) (s : State) : (modMeta f s).flt = s.flt := rfl
@[simp] theorem modMeta_integ (f : Meta → Meta) (s : State) : (modMeta f s).integ = s.integ := rfl
@[simp] theorem modMeta_cop (f : Meta → Meta) (s : State) : (modMeta f s).cop = s.cop := rfl
@[simp] theorem modMeta_perf (f : Meta → Meta) (s : State) : (modMeta f s).perf = s.perf := rfl
@[simp] theorem modMeta_recd (f : Meta → Meta) (s : State) : (modMeta f s).recd = s.recd := rfl
@[simp] theorem modMeta_cfg (f : Meta → Meta) (s : State) : (modMeta f s).cfg = s.cfg := rfl
@[simp] theorem modMeta_regs (f : Meta → Meta) (s : State) : (modMeta f s).regs = s.regs := rfl
@[simp] theorem modMeta_latch (f : Meta → Meta) (s : State) : (modMeta f s).latch = s.latch := rfl
@[simp] theorem modMeta_out (f : Meta → Meta) (s : State) : (modMeta f s).out = s.out := rfl
@[simp] theorem modMeta_ids (f : Meta → Meta) (s : State) : (modMeta f s).ids = s.ids := rfl
@[simp] theorem modMeta_free (f : Meta → Meta) (s : State) : (modMeta f s).free = s.free := rfl

/-! ### putT1: tier -/

@[simp] theorem putT1_pending (f i : Nat) (d : LineData) (s : State) : (putT1 f i d s).pending = s.pending := rfl
@[simp] theorem putT1_fuse (f i : Nat) (d : LineData) (s : State) : (putT1 f i d s).fuse = s.fuse := rfl
@[simp] theorem putT1_pwr (f i : Nat) (d : LineData) (s : State) : (putT1 f i d s).pwr = s.pwr := rfl
@[simp] theorem putT1_clk (f i : Nat) (d : LineData) (s : State) : (putT1 f i d s).clk = s.clk := rfl
@[simp] theorem putT1_therm (f i : Nat) (d : LineData) (s : State) : (putT1 f i d s).therm = s.therm := rfl
@[simp] theorem putT1_seqr (f i : Nat) (d : LineData) (s : State) : (putT1 f i d s).seqr = s.seqr := rfl
@[simp] theorem putT1_can (f i : Nat) (d : LineData) (s : State) : (putT1 f i d s).can = s.can := rfl
@[simp] theorem putT1_dram (f i : Nat) (d : LineData) (s : State) : (putT1 f i d s).dram = s.dram := rfl
@[simp] theorem putT1_nand (f i : Nat) (d : LineData) (s : State) : (putT1 f i d s).nand = s.nand := rfl
@[simp] theorem putT1_host (f i : Nat) (d : LineData) (s : State) : (putT1 f i d s).host = s.host := rfl
@[simp] theorem putT1_net (f i : Nat) (d : LineData) (s : State) : (putT1 f i d s).net = s.net := rfl
@[simp] theorem putT1_twin (f i : Nat) (d : LineData) (s : State) : (putT1 f i d s).twin = s.twin := rfl
@[simp] theorem putT1_cipher (f i : Nat) (d : LineData) (s : State) : (putT1 f i d s).cipher = s.cipher := rfl
@[simp] theorem putT1_flt (f i : Nat) (d : LineData) (s : State) : (putT1 f i d s).flt = s.flt := rfl
@[simp] theorem putT1_integ (f i : Nat) (d : LineData) (s : State) : (putT1 f i d s).integ = s.integ := rfl
@[simp] theorem putT1_cop (f i : Nat) (d : LineData) (s : State) : (putT1 f i d s).cop = s.cop := rfl
@[simp] theorem putT1_perf (f i : Nat) (d : LineData) (s : State) : (putT1 f i d s).perf = s.perf := rfl
@[simp] theorem putT1_recd (f i : Nat) (d : LineData) (s : State) : (putT1 f i d s).recd = s.recd := rfl
@[simp] theorem putT1_cfg (f i : Nat) (d : LineData) (s : State) : (putT1 f i d s).cfg = s.cfg := rfl
@[simp] theorem putT1_regs (f i : Nat) (d : LineData) (s : State) : (putT1 f i d s).regs = s.regs := rfl
@[simp] theorem putT1_latch (f i : Nat) (d : LineData) (s : State) : (putT1 f i d s).latch = s.latch := rfl
@[simp] theorem putT1_out (f i : Nat) (d : LineData) (s : State) : (putT1 f i d s).out = s.out := rfl
@[simp] theorem putT1_ids (f i : Nat) (d : LineData) (s : State) : (putT1 f i d s).ids = s.ids := rfl
@[simp] theorem putT1_free (f i : Nat) (d : LineData) (s : State) : (putT1 f i d s).free = s.free := rfl

/-! ### setLand: can -/

@[simp] theorem setLand_pending (g a : Nat) (e : Option LandEntry) (s : State) : (setLand g a e s).pending = s.pending := rfl
@[simp] theorem setLand_fuse (g a : Nat) (e : Option LandEntry) (s : State) : (setLand g a e s).fuse = s.fuse := rfl
@[simp] theorem setLand_pwr (g a : Nat) (e : Option LandEntry) (s : State) : (setLand g a e s).pwr = s.pwr := rfl
@[simp] theorem setLand_clk (g a : Nat) (e : Option LandEntry) (s : State) : (setLand g a e s).clk = s.clk := rfl
@[simp] theorem setLand_therm (g a : Nat) (e : Option LandEntry) (s : State) : (setLand g a e s).therm = s.therm := rfl
@[simp] theorem setLand_seqr (g a : Nat) (e : Option LandEntry) (s : State) : (setLand g a e s).seqr = s.seqr := rfl
@[simp] theorem setLand_tier (g a : Nat) (e : Option LandEntry) (s : State) : (setLand g a e s).tier = s.tier := rfl
@[simp] theorem setLand_dram (g a : Nat) (e : Option LandEntry) (s : State) : (setLand g a e s).dram = s.dram := rfl
@[simp] theorem setLand_nand (g a : Nat) (e : Option LandEntry) (s : State) : (setLand g a e s).nand = s.nand := rfl
@[simp] theorem setLand_host (g a : Nat) (e : Option LandEntry) (s : State) : (setLand g a e s).host = s.host := rfl
@[simp] theorem setLand_net (g a : Nat) (e : Option LandEntry) (s : State) : (setLand g a e s).net = s.net := rfl
@[simp] theorem setLand_twin (g a : Nat) (e : Option LandEntry) (s : State) : (setLand g a e s).twin = s.twin := rfl
@[simp] theorem setLand_cipher (g a : Nat) (e : Option LandEntry) (s : State) : (setLand g a e s).cipher = s.cipher := rfl
@[simp] theorem setLand_flt (g a : Nat) (e : Option LandEntry) (s : State) : (setLand g a e s).flt = s.flt := rfl
@[simp] theorem setLand_integ (g a : Nat) (e : Option LandEntry) (s : State) : (setLand g a e s).integ = s.integ := rfl
@[simp] theorem setLand_cop (g a : Nat) (e : Option LandEntry) (s : State) : (setLand g a e s).cop = s.cop := rfl
@[simp] theorem setLand_perf (g a : Nat) (e : Option LandEntry) (s : State) : (setLand g a e s).perf = s.perf := rfl
@[simp] theorem setLand_recd (g a : Nat) (e : Option LandEntry) (s : State) : (setLand g a e s).recd = s.recd := rfl
@[simp] theorem setLand_cfg (g a : Nat) (e : Option LandEntry) (s : State) : (setLand g a e s).cfg = s.cfg := rfl
@[simp] theorem setLand_regs (g a : Nat) (e : Option LandEntry) (s : State) : (setLand g a e s).regs = s.regs := rfl
@[simp] theorem setLand_latch (g a : Nat) (e : Option LandEntry) (s : State) : (setLand g a e s).latch = s.latch := rfl
@[simp] theorem setLand_out (g a : Nat) (e : Option LandEntry) (s : State) : (setLand g a e s).out = s.out := rfl
@[simp] theorem setLand_ids (g a : Nat) (e : Option LandEntry) (s : State) : (setLand g a e s).ids = s.ids := rfl
@[simp] theorem setLand_free (g a : Nat) (e : Option LandEntry) (s : State) : (setLand g a e s).free = s.free := rfl

/-! ### setMiss: can -/

@[simp] theorem setMiss_pending (sl : Nat) (l : List Miss) (s : State) : (setMiss sl l s).pending = s.pending := rfl
@[simp] theorem setMiss_fuse (sl : Nat) (l : List Miss) (s : State) : (setMiss sl l s).fuse = s.fuse := rfl
@[simp] theorem setMiss_pwr (sl : Nat) (l : List Miss) (s : State) : (setMiss sl l s).pwr = s.pwr := rfl
@[simp] theorem setMiss_clk (sl : Nat) (l : List Miss) (s : State) : (setMiss sl l s).clk = s.clk := rfl
@[simp] theorem setMiss_therm (sl : Nat) (l : List Miss) (s : State) : (setMiss sl l s).therm = s.therm := rfl
@[simp] theorem setMiss_seqr (sl : Nat) (l : List Miss) (s : State) : (setMiss sl l s).seqr = s.seqr := rfl
@[simp] theorem setMiss_tier (sl : Nat) (l : List Miss) (s : State) : (setMiss sl l s).tier = s.tier := rfl
@[simp] theorem setMiss_dram (sl : Nat) (l : List Miss) (s : State) : (setMiss sl l s).dram = s.dram := rfl
@[simp] theorem setMiss_nand (sl : Nat) (l : List Miss) (s : State) : (setMiss sl l s).nand = s.nand := rfl
@[simp] theorem setMiss_host (sl : Nat) (l : List Miss) (s : State) : (setMiss sl l s).host = s.host := rfl
@[simp] theorem setMiss_net (sl : Nat) (l : List Miss) (s : State) : (setMiss sl l s).net = s.net := rfl
@[simp] theorem setMiss_twin (sl : Nat) (l : List Miss) (s : State) : (setMiss sl l s).twin = s.twin := rfl
@[simp] theorem setMiss_cipher (sl : Nat) (l : List Miss) (s : State) : (setMiss sl l s).cipher = s.cipher := rfl
@[simp] theorem setMiss_flt (sl : Nat) (l : List Miss) (s : State) : (setMiss sl l s).flt = s.flt := rfl
@[simp] theorem setMiss_integ (sl : Nat) (l : List Miss) (s : State) : (setMiss sl l s).integ = s.integ := rfl
@[simp] theorem setMiss_cop (sl : Nat) (l : List Miss) (s : State) : (setMiss sl l s).cop = s.cop := rfl
@[simp] theorem setMiss_perf (sl : Nat) (l : List Miss) (s : State) : (setMiss sl l s).perf = s.perf := rfl
@[simp] theorem setMiss_recd (sl : Nat) (l : List Miss) (s : State) : (setMiss sl l s).recd = s.recd := rfl
@[simp] theorem setMiss_cfg (sl : Nat) (l : List Miss) (s : State) : (setMiss sl l s).cfg = s.cfg := rfl
@[simp] theorem setMiss_regs (sl : Nat) (l : List Miss) (s : State) : (setMiss sl l s).regs = s.regs := rfl
@[simp] theorem setMiss_latch (sl : Nat) (l : List Miss) (s : State) : (setMiss sl l s).latch = s.latch := rfl
@[simp] theorem setMiss_out (sl : Nat) (l : List Miss) (s : State) : (setMiss sl l s).out = s.out := rfl
@[simp] theorem setMiss_ids (sl : Nat) (l : List Miss) (s : State) : (setMiss sl l s).ids = s.ids := rfl
@[simp] theorem setMiss_free (sl : Nat) (l : List Miss) (s : State) : (setMiss sl l s).free = s.free := rfl

/-! ### updPort: host -/

@[simp] theorem updPort_pending (p : Nat) (f : HostPort → HostPort) (s : State) : (updPort p f s).pending = s.pending := rfl
@[simp] theorem updPort_fuse (p : Nat) (f : HostPort → HostPort) (s : State) : (updPort p f s).fuse = s.fuse := rfl
@[simp] theorem updPort_pwr (p : Nat) (f : HostPort → HostPort) (s : State) : (updPort p f s).pwr = s.pwr := rfl
@[simp] theorem updPort_clk (p : Nat) (f : HostPort → HostPort) (s : State) : (updPort p f s).clk = s.clk := rfl
@[simp] theorem updPort_therm (p : Nat) (f : HostPort → HostPort) (s : State) : (updPort p f s).therm = s.therm := rfl
@[simp] theorem updPort_seqr (p : Nat) (f : HostPort → HostPort) (s : State) : (updPort p f s).seqr = s.seqr := rfl
@[simp] theorem updPort_can (p : Nat) (f : HostPort → HostPort) (s : State) : (updPort p f s).can = s.can := rfl
@[simp] theorem updPort_tier (p : Nat) (f : HostPort → HostPort) (s : State) : (updPort p f s).tier = s.tier := rfl
@[simp] theorem updPort_dram (p : Nat) (f : HostPort → HostPort) (s : State) : (updPort p f s).dram = s.dram := rfl
@[simp] theorem updPort_nand (p : Nat) (f : HostPort → HostPort) (s : State) : (updPort p f s).nand = s.nand := rfl
@[simp] theorem updPort_net (p : Nat) (f : HostPort → HostPort) (s : State) : (updPort p f s).net = s.net := rfl
@[simp] theorem updPort_twin (p : Nat) (f : HostPort → HostPort) (s : State) : (updPort p f s).twin = s.twin := rfl
@[simp] theorem updPort_cipher (p : Nat) (f : HostPort → HostPort) (s : State) : (updPort p f s).cipher = s.cipher := rfl
@[simp] theorem updPort_flt (p : Nat) (f : HostPort → HostPort) (s : State) : (updPort p f s).flt = s.flt := rfl
@[simp] theorem updPort_integ (p : Nat) (f : HostPort → HostPort) (s : State) : (updPort p f s).integ = s.integ := rfl
@[simp] theorem updPort_cop (p : Nat) (f : HostPort → HostPort) (s : State) : (updPort p f s).cop = s.cop := rfl
@[simp] theorem updPort_perf (p : Nat) (f : HostPort → HostPort) (s : State) : (updPort p f s).perf = s.perf := rfl
@[simp] theorem updPort_recd (p : Nat) (f : HostPort → HostPort) (s : State) : (updPort p f s).recd = s.recd := rfl
@[simp] theorem updPort_cfg (p : Nat) (f : HostPort → HostPort) (s : State) : (updPort p f s).cfg = s.cfg := rfl
@[simp] theorem updPort_regs (p : Nat) (f : HostPort → HostPort) (s : State) : (updPort p f s).regs = s.regs := rfl
@[simp] theorem updPort_latch (p : Nat) (f : HostPort → HostPort) (s : State) : (updPort p f s).latch = s.latch := rfl
@[simp] theorem updPort_out (p : Nat) (f : HostPort → HostPort) (s : State) : (updPort p f s).out = s.out := rfl
@[simp] theorem updPort_ids (p : Nat) (f : HostPort → HostPort) (s : State) : (updPort p f s).ids = s.ids := rfl
@[simp] theorem updPort_free (p : Nat) (f : HostPort → HostPort) (s : State) : (updPort p f s).free = s.free := rfl

/-! ### updLd: host -/

@[simp] theorem updLd_pending (p l : Nat) (f : Ld → Ld) (s : State) : (updLd p l f s).pending = s.pending := rfl
@[simp] theorem updLd_fuse (p l : Nat) (f : Ld → Ld) (s : State) : (updLd p l f s).fuse = s.fuse := rfl
@[simp] theorem updLd_pwr (p l : Nat) (f : Ld → Ld) (s : State) : (updLd p l f s).pwr = s.pwr := rfl
@[simp] theorem updLd_clk (p l : Nat) (f : Ld → Ld) (s : State) : (updLd p l f s).clk = s.clk := rfl
@[simp] theorem updLd_therm (p l : Nat) (f : Ld → Ld) (s : State) : (updLd p l f s).therm = s.therm := rfl
@[simp] theorem updLd_seqr (p l : Nat) (f : Ld → Ld) (s : State) : (updLd p l f s).seqr = s.seqr := rfl
@[simp] theorem updLd_can (p l : Nat) (f : Ld → Ld) (s : State) : (updLd p l f s).can = s.can := rfl
@[simp] theorem updLd_tier (p l : Nat) (f : Ld → Ld) (s : State) : (updLd p l f s).tier = s.tier := rfl
@[simp] theorem updLd_dram (p l : Nat) (f : Ld → Ld) (s : State) : (updLd p l f s).dram = s.dram := rfl
@[simp] theorem updLd_nand (p l : Nat) (f : Ld → Ld) (s : State) : (updLd p l f s).nand = s.nand := rfl
@[simp] theorem updLd_net (p l : Nat) (f : Ld → Ld) (s : State) : (updLd p l f s).net = s.net := rfl
@[simp] theorem updLd_twin (p l : Nat) (f : Ld → Ld) (s : State) : (updLd p l f s).twin = s.twin := rfl
@[simp] theorem updLd_cipher (p l : Nat) (f : Ld → Ld) (s : State) : (updLd p l f s).cipher = s.cipher := rfl
@[simp] theorem updLd_flt (p l : Nat) (f : Ld → Ld) (s : State) : (updLd p l f s).flt = s.flt := rfl
@[simp] theorem updLd_integ (p l : Nat) (f : Ld → Ld) (s : State) : (updLd p l f s).integ = s.integ := rfl
@[simp] theorem updLd_cop (p l : Nat) (f : Ld → Ld) (s : State) : (updLd p l f s).cop = s.cop := rfl
@[simp] theorem updLd_perf (p l : Nat) (f : Ld → Ld) (s : State) : (updLd p l f s).perf = s.perf := rfl
@[simp] theorem updLd_recd (p l : Nat) (f : Ld → Ld) (s : State) : (updLd p l f s).recd = s.recd := rfl
@[simp] theorem updLd_cfg (p l : Nat) (f : Ld → Ld) (s : State) : (updLd p l f s).cfg = s.cfg := rfl
@[simp] theorem updLd_regs (p l : Nat) (f : Ld → Ld) (s : State) : (updLd p l f s).regs = s.regs := rfl
@[simp] theorem updLd_latch (p l : Nat) (f : Ld → Ld) (s : State) : (updLd p l f s).latch = s.latch := rfl
@[simp] theorem updLd_out (p l : Nat) (f : Ld → Ld) (s : State) : (updLd p l f s).out = s.out := rfl
@[simp] theorem updLd_ids (p l : Nat) (f : Ld → Ld) (s : State) : (updLd p l f s).ids = s.ids := rfl
@[simp] theorem updLd_free (p l : Nat) (f : Ld → Ld) (s : State) : (updLd p l f s).free = s.free := rfl

/-! ### setSlot: cipher -/

@[simp] theorem setSlot_pending (n : Nat) (x : Slot) (s : State) : (setSlot n x s).pending = s.pending := rfl
@[simp] theorem setSlot_fuse (n : Nat) (x : Slot) (s : State) : (setSlot n x s).fuse = s.fuse := rfl
@[simp] theorem setSlot_pwr (n : Nat) (x : Slot) (s : State) : (setSlot n x s).pwr = s.pwr := rfl
@[simp] theorem setSlot_clk (n : Nat) (x : Slot) (s : State) : (setSlot n x s).clk = s.clk := rfl
@[simp] theorem setSlot_therm (n : Nat) (x : Slot) (s : State) : (setSlot n x s).therm = s.therm := rfl
@[simp] theorem setSlot_seqr (n : Nat) (x : Slot) (s : State) : (setSlot n x s).seqr = s.seqr := rfl
@[simp] theorem setSlot_can (n : Nat) (x : Slot) (s : State) : (setSlot n x s).can = s.can := rfl
@[simp] theorem setSlot_tier (n : Nat) (x : Slot) (s : State) : (setSlot n x s).tier = s.tier := rfl
@[simp] theorem setSlot_dram (n : Nat) (x : Slot) (s : State) : (setSlot n x s).dram = s.dram := rfl
@[simp] theorem setSlot_nand (n : Nat) (x : Slot) (s : State) : (setSlot n x s).nand = s.nand := rfl
@[simp] theorem setSlot_host (n : Nat) (x : Slot) (s : State) : (setSlot n x s).host = s.host := rfl
@[simp] theorem setSlot_net (n : Nat) (x : Slot) (s : State) : (setSlot n x s).net = s.net := rfl
@[simp] theorem setSlot_twin (n : Nat) (x : Slot) (s : State) : (setSlot n x s).twin = s.twin := rfl
@[simp] theorem setSlot_flt (n : Nat) (x : Slot) (s : State) : (setSlot n x s).flt = s.flt := rfl
@[simp] theorem setSlot_integ (n : Nat) (x : Slot) (s : State) : (setSlot n x s).integ = s.integ := rfl
@[simp] theorem setSlot_cop (n : Nat) (x : Slot) (s : State) : (setSlot n x s).cop = s.cop := rfl
@[simp] theorem setSlot_perf (n : Nat) (x : Slot) (s : State) : (setSlot n x s).perf = s.perf := rfl
@[simp] theorem setSlot_recd (n : Nat) (x : Slot) (s : State) : (setSlot n x s).recd = s.recd := rfl
@[simp] theorem setSlot_cfg (n : Nat) (x : Slot) (s : State) : (setSlot n x s).cfg = s.cfg := rfl
@[simp] theorem setSlot_regs (n : Nat) (x : Slot) (s : State) : (setSlot n x s).regs = s.regs := rfl
@[simp] theorem setSlot_latch (n : Nat) (x : Slot) (s : State) : (setSlot n x s).latch = s.latch := rfl
@[simp] theorem setSlot_out (n : Nat) (x : Slot) (s : State) : (setSlot n x s).out = s.out := rfl
@[simp] theorem setSlot_ids (n : Nat) (x : Slot) (s : State) : (setSlot n x s).ids = s.ids := rfl
@[simp] theorem setSlot_free (n : Nat) (x : Slot) (s : State) : (setSlot n x s).free = s.free := rfl

/-! ### updPlacing: seqr -/

@[simp] theorem updPlacing_pending (id : Nat) (f : Placing → Placing) (s : State) : (updPlacing id f s).pending = s.pending := rfl
@[simp] theorem updPlacing_fuse (id : Nat) (f : Placing → Placing) (s : State) : (updPlacing id f s).fuse = s.fuse := rfl
@[simp] theorem updPlacing_pwr (id : Nat) (f : Placing → Placing) (s : State) : (updPlacing id f s).pwr = s.pwr := rfl
@[simp] theorem updPlacing_clk (id : Nat) (f : Placing → Placing) (s : State) : (updPlacing id f s).clk = s.clk := rfl
@[simp] theorem updPlacing_therm (id : Nat) (f : Placing → Placing) (s : State) : (updPlacing id f s).therm = s.therm := rfl
@[simp] theorem updPlacing_can (id : Nat) (f : Placing → Placing) (s : State) : (updPlacing id f s).can = s.can := rfl
@[simp] theorem updPlacing_tier (id : Nat) (f : Placing → Placing) (s : State) : (updPlacing id f s).tier = s.tier := rfl
@[simp] theorem updPlacing_dram (id : Nat) (f : Placing → Placing) (s : State) : (updPlacing id f s).dram = s.dram := rfl
@[simp] theorem updPlacing_nand (id : Nat) (f : Placing → Placing) (s : State) : (updPlacing id f s).nand = s.nand := rfl
@[simp] theorem updPlacing_host (id : Nat) (f : Placing → Placing) (s : State) : (updPlacing id f s).host = s.host := rfl
@[simp] theorem updPlacing_net (id : Nat) (f : Placing → Placing) (s : State) : (updPlacing id f s).net = s.net := rfl
@[simp] theorem updPlacing_twin (id : Nat) (f : Placing → Placing) (s : State) : (updPlacing id f s).twin = s.twin := rfl
@[simp] theorem updPlacing_cipher (id : Nat) (f : Placing → Placing) (s : State) : (updPlacing id f s).cipher = s.cipher := rfl
@[simp] theorem updPlacing_flt (id : Nat) (f : Placing → Placing) (s : State) : (updPlacing id f s).flt = s.flt := rfl
@[simp] theorem updPlacing_integ (id : Nat) (f : Placing → Placing) (s : State) : (updPlacing id f s).integ = s.integ := rfl
@[simp] theorem updPlacing_cop (id : Nat) (f : Placing → Placing) (s : State) : (updPlacing id f s).cop = s.cop := rfl
@[simp] theorem updPlacing_perf (id : Nat) (f : Placing → Placing) (s : State) : (updPlacing id f s).perf = s.perf := rfl
@[simp] theorem updPlacing_recd (id : Nat) (f : Placing → Placing) (s : State) : (updPlacing id f s).recd = s.recd := rfl
@[simp] theorem updPlacing_cfg (id : Nat) (f : Placing → Placing) (s : State) : (updPlacing id f s).cfg = s.cfg := rfl
@[simp] theorem updPlacing_regs (id : Nat) (f : Placing → Placing) (s : State) : (updPlacing id f s).regs = s.regs := rfl
@[simp] theorem updPlacing_latch (id : Nat) (f : Placing → Placing) (s : State) : (updPlacing id f s).latch = s.latch := rfl
@[simp] theorem updPlacing_out (id : Nat) (f : Placing → Placing) (s : State) : (updPlacing id f s).out = s.out := rfl
@[simp] theorem updPlacing_ids (id : Nat) (f : Placing → Placing) (s : State) : (updPlacing id f s).ids = s.ids := rfl
@[simp] theorem updPlacing_free (id : Nat) (f : Placing → Placing) (s : State) : (updPlacing id f s).free = s.free := rfl

/-! ### updCh: dram -/

@[simp] theorem updCh_pending (n : Nat) (f : DramCh → DramCh) (s : State) : (updCh n f s).pending = s.pending := rfl
@[simp] theorem updCh_fuse (n : Nat) (f : DramCh → DramCh) (s : State) : (updCh n f s).fuse = s.fuse := rfl
@[simp] theorem updCh_pwr (n : Nat) (f : DramCh → DramCh) (s : State) : (updCh n f s).pwr = s.pwr := rfl
@[simp] theorem updCh_clk (n : Nat) (f : DramCh → DramCh) (s : State) : (updCh n f s).clk = s.clk := rfl
@[simp] theorem updCh_therm (n : Nat) (f : DramCh → DramCh) (s : State) : (updCh n f s).therm = s.therm := rfl
@[simp] theorem updCh_seqr (n : Nat) (f : DramCh → DramCh) (s : State) : (updCh n f s).seqr = s.seqr := rfl
@[simp] theorem updCh_can (n : Nat) (f : DramCh → DramCh) (s : State) : (updCh n f s).can = s.can := rfl
@[simp] theorem updCh_tier (n : Nat) (f : DramCh → DramCh) (s : State) : (updCh n f s).tier = s.tier := rfl
@[simp] theorem updCh_nand (n : Nat) (f : DramCh → DramCh) (s : State) : (updCh n f s).nand = s.nand := rfl
@[simp] theorem updCh_host (n : Nat) (f : DramCh → DramCh) (s : State) : (updCh n f s).host = s.host := rfl
@[simp] theorem updCh_net (n : Nat) (f : DramCh → DramCh) (s : State) : (updCh n f s).net = s.net := rfl
@[simp] theorem updCh_twin (n : Nat) (f : DramCh → DramCh) (s : State) : (updCh n f s).twin = s.twin := rfl
@[simp] theorem updCh_cipher (n : Nat) (f : DramCh → DramCh) (s : State) : (updCh n f s).cipher = s.cipher := rfl
@[simp] theorem updCh_flt (n : Nat) (f : DramCh → DramCh) (s : State) : (updCh n f s).flt = s.flt := rfl
@[simp] theorem updCh_integ (n : Nat) (f : DramCh → DramCh) (s : State) : (updCh n f s).integ = s.integ := rfl
@[simp] theorem updCh_cop (n : Nat) (f : DramCh → DramCh) (s : State) : (updCh n f s).cop = s.cop := rfl
@[simp] theorem updCh_perf (n : Nat) (f : DramCh → DramCh) (s : State) : (updCh n f s).perf = s.perf := rfl
@[simp] theorem updCh_recd (n : Nat) (f : DramCh → DramCh) (s : State) : (updCh n f s).recd = s.recd := rfl
@[simp] theorem updCh_cfg (n : Nat) (f : DramCh → DramCh) (s : State) : (updCh n f s).cfg = s.cfg := rfl
@[simp] theorem updCh_regs (n : Nat) (f : DramCh → DramCh) (s : State) : (updCh n f s).regs = s.regs := rfl
@[simp] theorem updCh_latch (n : Nat) (f : DramCh → DramCh) (s : State) : (updCh n f s).latch = s.latch := rfl
@[simp] theorem updCh_out (n : Nat) (f : DramCh → DramCh) (s : State) : (updCh n f s).out = s.out := rfl
@[simp] theorem updCh_ids (n : Nat) (f : DramCh → DramCh) (s : State) : (updCh n f s).ids = s.ids := rfl
@[simp] theorem updCh_free (n : Nat) (f : DramCh → DramCh) (s : State) : (updCh n f s).free = s.free := rfl

/-! ### updSub: dram -/

@[simp] theorem updSub_pending (k : Nat) (f : DramSub → DramSub) (s : State) : (updSub k f s).pending = s.pending := rfl
@[simp] theorem updSub_fuse (k : Nat) (f : DramSub → DramSub) (s : State) : (updSub k f s).fuse = s.fuse := rfl
@[simp] theorem updSub_pwr (k : Nat) (f : DramSub → DramSub) (s : State) : (updSub k f s).pwr = s.pwr := rfl
@[simp] theorem updSub_clk (k : Nat) (f : DramSub → DramSub) (s : State) : (updSub k f s).clk = s.clk := rfl
@[simp] theorem updSub_therm (k : Nat) (f : DramSub → DramSub) (s : State) : (updSub k f s).therm = s.therm := rfl
@[simp] theorem updSub_seqr (k : Nat) (f : DramSub → DramSub) (s : State) : (updSub k f s).seqr = s.seqr := rfl
@[simp] theorem updSub_can (k : Nat) (f : DramSub → DramSub) (s : State) : (updSub k f s).can = s.can := rfl
@[simp] theorem updSub_tier (k : Nat) (f : DramSub → DramSub) (s : State) : (updSub k f s).tier = s.tier := rfl
@[simp] theorem updSub_nand (k : Nat) (f : DramSub → DramSub) (s : State) : (updSub k f s).nand = s.nand := rfl
@[simp] theorem updSub_host (k : Nat) (f : DramSub → DramSub) (s : State) : (updSub k f s).host = s.host := rfl
@[simp] theorem updSub_net (k : Nat) (f : DramSub → DramSub) (s : State) : (updSub k f s).net = s.net := rfl
@[simp] theorem updSub_twin (k : Nat) (f : DramSub → DramSub) (s : State) : (updSub k f s).twin = s.twin := rfl
@[simp] theorem updSub_cipher (k : Nat) (f : DramSub → DramSub) (s : State) : (updSub k f s).cipher = s.cipher := rfl
@[simp] theorem updSub_flt (k : Nat) (f : DramSub → DramSub) (s : State) : (updSub k f s).flt = s.flt := rfl
@[simp] theorem updSub_integ (k : Nat) (f : DramSub → DramSub) (s : State) : (updSub k f s).integ = s.integ := rfl
@[simp] theorem updSub_cop (k : Nat) (f : DramSub → DramSub) (s : State) : (updSub k f s).cop = s.cop := rfl
@[simp] theorem updSub_perf (k : Nat) (f : DramSub → DramSub) (s : State) : (updSub k f s).perf = s.perf := rfl
@[simp] theorem updSub_recd (k : Nat) (f : DramSub → DramSub) (s : State) : (updSub k f s).recd = s.recd := rfl
@[simp] theorem updSub_cfg (k : Nat) (f : DramSub → DramSub) (s : State) : (updSub k f s).cfg = s.cfg := rfl
@[simp] theorem updSub_regs (k : Nat) (f : DramSub → DramSub) (s : State) : (updSub k f s).regs = s.regs := rfl
@[simp] theorem updSub_latch (k : Nat) (f : DramSub → DramSub) (s : State) : (updSub k f s).latch = s.latch := rfl
@[simp] theorem updSub_out (k : Nat) (f : DramSub → DramSub) (s : State) : (updSub k f s).out = s.out := rfl
@[simp] theorem updSub_ids (k : Nat) (f : DramSub → DramSub) (s : State) : (updSub k f s).ids = s.ids := rfl
@[simp] theorem updSub_free (k : Nat) (f : DramSub → DramSub) (s : State) : (updSub k f s).free = s.free := rfl

/-! ### updSet: dram -/

@[simp] theorem updSet_pending (n : Nat) (f : DramSet → DramSet) (s : State) : (updSet n f s).pending = s.pending := rfl
@[simp] theorem updSet_fuse (n : Nat) (f : DramSet → DramSet) (s : State) : (updSet n f s).fuse = s.fuse := rfl
@[simp] theorem updSet_pwr (n : Nat) (f : DramSet → DramSet) (s : State) : (updSet n f s).pwr = s.pwr := rfl
@[simp] theorem updSet_clk (n : Nat) (f : DramSet → DramSet) (s : State) : (updSet n f s).clk = s.clk := rfl
@[simp] theorem updSet_therm (n : Nat) (f : DramSet → DramSet) (s : State) : (updSet n f s).therm = s.therm := rfl
@[simp] theorem updSet_seqr (n : Nat) (f : DramSet → DramSet) (s : State) : (updSet n f s).seqr = s.seqr := rfl
@[simp] theorem updSet_can (n : Nat) (f : DramSet → DramSet) (s : State) : (updSet n f s).can = s.can := rfl
@[simp] theorem updSet_tier (n : Nat) (f : DramSet → DramSet) (s : State) : (updSet n f s).tier = s.tier := rfl
@[simp] theorem updSet_nand (n : Nat) (f : DramSet → DramSet) (s : State) : (updSet n f s).nand = s.nand := rfl
@[simp] theorem updSet_host (n : Nat) (f : DramSet → DramSet) (s : State) : (updSet n f s).host = s.host := rfl
@[simp] theorem updSet_net (n : Nat) (f : DramSet → DramSet) (s : State) : (updSet n f s).net = s.net := rfl
@[simp] theorem updSet_twin (n : Nat) (f : DramSet → DramSet) (s : State) : (updSet n f s).twin = s.twin := rfl
@[simp] theorem updSet_cipher (n : Nat) (f : DramSet → DramSet) (s : State) : (updSet n f s).cipher = s.cipher := rfl
@[simp] theorem updSet_flt (n : Nat) (f : DramSet → DramSet) (s : State) : (updSet n f s).flt = s.flt := rfl
@[simp] theorem updSet_integ (n : Nat) (f : DramSet → DramSet) (s : State) : (updSet n f s).integ = s.integ := rfl
@[simp] theorem updSet_cop (n : Nat) (f : DramSet → DramSet) (s : State) : (updSet n f s).cop = s.cop := rfl
@[simp] theorem updSet_perf (n : Nat) (f : DramSet → DramSet) (s : State) : (updSet n f s).perf = s.perf := rfl
@[simp] theorem updSet_recd (n : Nat) (f : DramSet → DramSet) (s : State) : (updSet n f s).recd = s.recd := rfl
@[simp] theorem updSet_cfg (n : Nat) (f : DramSet → DramSet) (s : State) : (updSet n f s).cfg = s.cfg := rfl
@[simp] theorem updSet_regs (n : Nat) (f : DramSet → DramSet) (s : State) : (updSet n f s).regs = s.regs := rfl
@[simp] theorem updSet_latch (n : Nat) (f : DramSet → DramSet) (s : State) : (updSet n f s).latch = s.latch := rfl
@[simp] theorem updSet_out (n : Nat) (f : DramSet → DramSet) (s : State) : (updSet n f s).out = s.out := rfl
@[simp] theorem updSet_ids (n : Nat) (f : DramSet → DramSet) (s : State) : (updSet n f s).ids = s.ids := rfl
@[simp] theorem updSet_free (n : Nat) (f : DramSet → DramSet) (s : State) : (updSet n f s).free = s.free := rfl

/-! ### updPromo: tier -/

@[simp] theorem updPromo_pending (g t : Nat) (f : Promo → Promo) (s : State) : (updPromo g t f s).pending = s.pending := rfl
@[simp] theorem updPromo_fuse (g t : Nat) (f : Promo → Promo) (s : State) : (updPromo g t f s).fuse = s.fuse := rfl
@[simp] theorem updPromo_pwr (g t : Nat) (f : Promo → Promo) (s : State) : (updPromo g t f s).pwr = s.pwr := rfl
@[simp] theorem updPromo_clk (g t : Nat) (f : Promo → Promo) (s : State) : (updPromo g t f s).clk = s.clk := rfl
@[simp] theorem updPromo_therm (g t : Nat) (f : Promo → Promo) (s : State) : (updPromo g t f s).therm = s.therm := rfl
@[simp] theorem updPromo_seqr (g t : Nat) (f : Promo → Promo) (s : State) : (updPromo g t f s).seqr = s.seqr := rfl
@[simp] theorem updPromo_can (g t : Nat) (f : Promo → Promo) (s : State) : (updPromo g t f s).can = s.can := rfl
@[simp] theorem updPromo_dram (g t : Nat) (f : Promo → Promo) (s : State) : (updPromo g t f s).dram = s.dram := rfl
@[simp] theorem updPromo_nand (g t : Nat) (f : Promo → Promo) (s : State) : (updPromo g t f s).nand = s.nand := rfl
@[simp] theorem updPromo_host (g t : Nat) (f : Promo → Promo) (s : State) : (updPromo g t f s).host = s.host := rfl
@[simp] theorem updPromo_net (g t : Nat) (f : Promo → Promo) (s : State) : (updPromo g t f s).net = s.net := rfl
@[simp] theorem updPromo_twin (g t : Nat) (f : Promo → Promo) (s : State) : (updPromo g t f s).twin = s.twin := rfl
@[simp] theorem updPromo_cipher (g t : Nat) (f : Promo → Promo) (s : State) : (updPromo g t f s).cipher = s.cipher := rfl
@[simp] theorem updPromo_flt (g t : Nat) (f : Promo → Promo) (s : State) : (updPromo g t f s).flt = s.flt := rfl
@[simp] theorem updPromo_integ (g t : Nat) (f : Promo → Promo) (s : State) : (updPromo g t f s).integ = s.integ := rfl
@[simp] theorem updPromo_cop (g t : Nat) (f : Promo → Promo) (s : State) : (updPromo g t f s).cop = s.cop := rfl
@[simp] theorem updPromo_perf (g t : Nat) (f : Promo → Promo) (s : State) : (updPromo g t f s).perf = s.perf := rfl
@[simp] theorem updPromo_recd (g t : Nat) (f : Promo → Promo) (s : State) : (updPromo g t f s).recd = s.recd := rfl
@[simp] theorem updPromo_cfg (g t : Nat) (f : Promo → Promo) (s : State) : (updPromo g t f s).cfg = s.cfg := rfl
@[simp] theorem updPromo_regs (g t : Nat) (f : Promo → Promo) (s : State) : (updPromo g t f s).regs = s.regs := rfl
@[simp] theorem updPromo_latch (g t : Nat) (f : Promo → Promo) (s : State) : (updPromo g t f s).latch = s.latch := rfl
@[simp] theorem updPromo_out (g t : Nat) (f : Promo → Promo) (s : State) : (updPromo g t f s).out = s.out := rfl
@[simp] theorem updPromo_ids (g t : Nat) (f : Promo → Promo) (s : State) : (updPromo g t f s).ids = s.ids := rfl
@[simp] theorem updPromo_free (g t : Nat) (f : Promo → Promo) (s : State) : (updPromo g t f s).free = s.free := rfl

/-! ### modPwr: pwr -/

@[simp] theorem modPwr_pending (f : Pwr → Pwr) (s : State) : (modPwr f s).pending = s.pending := rfl
@[simp] theorem modPwr_fuse (f : Pwr → Pwr) (s : State) : (modPwr f s).fuse = s.fuse := rfl
@[simp] theorem modPwr_clk (f : Pwr → Pwr) (s : State) : (modPwr f s).clk = s.clk := rfl
@[simp] theorem modPwr_therm (f : Pwr → Pwr) (s : State) : (modPwr f s).therm = s.therm := rfl
@[simp] theorem modPwr_seqr (f : Pwr → Pwr) (s : State) : (modPwr f s).seqr = s.seqr := rfl
@[simp] theorem modPwr_can (f : Pwr → Pwr) (s : State) : (modPwr f s).can = s.can := rfl
@[simp] theorem modPwr_tier (f : Pwr → Pwr) (s : State) : (modPwr f s).tier = s.tier := rfl
@[simp] theorem modPwr_dram (f : Pwr → Pwr) (s : State) : (modPwr f s).dram = s.dram := rfl
@[simp] theorem modPwr_nand (f : Pwr → Pwr) (s : State) : (modPwr f s).nand = s.nand := rfl
@[simp] theorem modPwr_host (f : Pwr → Pwr) (s : State) : (modPwr f s).host = s.host := rfl
@[simp] theorem modPwr_net (f : Pwr → Pwr) (s : State) : (modPwr f s).net = s.net := rfl
@[simp] theorem modPwr_twin (f : Pwr → Pwr) (s : State) : (modPwr f s).twin = s.twin := rfl
@[simp] theorem modPwr_cipher (f : Pwr → Pwr) (s : State) : (modPwr f s).cipher = s.cipher := rfl
@[simp] theorem modPwr_flt (f : Pwr → Pwr) (s : State) : (modPwr f s).flt = s.flt := rfl
@[simp] theorem modPwr_integ (f : Pwr → Pwr) (s : State) : (modPwr f s).integ = s.integ := rfl
@[simp] theorem modPwr_cop (f : Pwr → Pwr) (s : State) : (modPwr f s).cop = s.cop := rfl
@[simp] theorem modPwr_perf (f : Pwr → Pwr) (s : State) : (modPwr f s).perf = s.perf := rfl
@[simp] theorem modPwr_recd (f : Pwr → Pwr) (s : State) : (modPwr f s).recd = s.recd := rfl
@[simp] theorem modPwr_cfg (f : Pwr → Pwr) (s : State) : (modPwr f s).cfg = s.cfg := rfl
@[simp] theorem modPwr_regs (f : Pwr → Pwr) (s : State) : (modPwr f s).regs = s.regs := rfl
@[simp] theorem modPwr_latch (f : Pwr → Pwr) (s : State) : (modPwr f s).latch = s.latch := rfl
@[simp] theorem modPwr_out (f : Pwr → Pwr) (s : State) : (modPwr f s).out = s.out := rfl
@[simp] theorem modPwr_ids (f : Pwr → Pwr) (s : State) : (modPwr f s).ids = s.ids := rfl
@[simp] theorem modPwr_free (f : Pwr → Pwr) (s : State) : (modPwr f s).free = s.free := rfl

/-! ### updNet: net -/

@[simp] theorem updNet_pending (p : Nat) (f : NetPort → NetPort) (s : State) : (updNet p f s).pending = s.pending := rfl
@[simp] theorem updNet_fuse (p : Nat) (f : NetPort → NetPort) (s : State) : (updNet p f s).fuse = s.fuse := rfl
@[simp] theorem updNet_pwr (p : Nat) (f : NetPort → NetPort) (s : State) : (updNet p f s).pwr = s.pwr := rfl
@[simp] theorem updNet_clk (p : Nat) (f : NetPort → NetPort) (s : State) : (updNet p f s).clk = s.clk := rfl
@[simp] theorem updNet_therm (p : Nat) (f : NetPort → NetPort) (s : State) : (updNet p f s).therm = s.therm := rfl
@[simp] theorem updNet_seqr (p : Nat) (f : NetPort → NetPort) (s : State) : (updNet p f s).seqr = s.seqr := rfl
@[simp] theorem updNet_can (p : Nat) (f : NetPort → NetPort) (s : State) : (updNet p f s).can = s.can := rfl
@[simp] theorem updNet_tier (p : Nat) (f : NetPort → NetPort) (s : State) : (updNet p f s).tier = s.tier := rfl
@[simp] theorem updNet_dram (p : Nat) (f : NetPort → NetPort) (s : State) : (updNet p f s).dram = s.dram := rfl
@[simp] theorem updNet_nand (p : Nat) (f : NetPort → NetPort) (s : State) : (updNet p f s).nand = s.nand := rfl
@[simp] theorem updNet_host (p : Nat) (f : NetPort → NetPort) (s : State) : (updNet p f s).host = s.host := rfl
@[simp] theorem updNet_twin (p : Nat) (f : NetPort → NetPort) (s : State) : (updNet p f s).twin = s.twin := rfl
@[simp] theorem updNet_cipher (p : Nat) (f : NetPort → NetPort) (s : State) : (updNet p f s).cipher = s.cipher := rfl
@[simp] theorem updNet_flt (p : Nat) (f : NetPort → NetPort) (s : State) : (updNet p f s).flt = s.flt := rfl
@[simp] theorem updNet_integ (p : Nat) (f : NetPort → NetPort) (s : State) : (updNet p f s).integ = s.integ := rfl
@[simp] theorem updNet_cop (p : Nat) (f : NetPort → NetPort) (s : State) : (updNet p f s).cop = s.cop := rfl
@[simp] theorem updNet_perf (p : Nat) (f : NetPort → NetPort) (s : State) : (updNet p f s).perf = s.perf := rfl
@[simp] theorem updNet_recd (p : Nat) (f : NetPort → NetPort) (s : State) : (updNet p f s).recd = s.recd := rfl
@[simp] theorem updNet_cfg (p : Nat) (f : NetPort → NetPort) (s : State) : (updNet p f s).cfg = s.cfg := rfl
@[simp] theorem updNet_regs (p : Nat) (f : NetPort → NetPort) (s : State) : (updNet p f s).regs = s.regs := rfl
@[simp] theorem updNet_latch (p : Nat) (f : NetPort → NetPort) (s : State) : (updNet p f s).latch = s.latch := rfl
@[simp] theorem updNet_out (p : Nat) (f : NetPort → NetPort) (s : State) : (updNet p f s).out = s.out := rfl
@[simp] theorem updNet_ids (p : Nat) (f : NetPort → NetPort) (s : State) : (updNet p f s).ids = s.ids := rfl
@[simp] theorem updNet_free (p : Nat) (f : NetPort → NetPort) (s : State) : (updNet p f s).free = s.free := rfl

/-! ### modTwin: twin -/

@[simp] theorem modTwin_pending (f : Twin → Twin) (s : State) : (modTwin f s).pending = s.pending := rfl
@[simp] theorem modTwin_fuse (f : Twin → Twin) (s : State) : (modTwin f s).fuse = s.fuse := rfl
@[simp] theorem modTwin_pwr (f : Twin → Twin) (s : State) : (modTwin f s).pwr = s.pwr := rfl
@[simp] theorem modTwin_clk (f : Twin → Twin) (s : State) : (modTwin f s).clk = s.clk := rfl
@[simp] theorem modTwin_therm (f : Twin → Twin) (s : State) : (modTwin f s).therm = s.therm := rfl
@[simp] theorem modTwin_seqr (f : Twin → Twin) (s : State) : (modTwin f s).seqr = s.seqr := rfl
@[simp] theorem modTwin_can (f : Twin → Twin) (s : State) : (modTwin f s).can = s.can := rfl
@[simp] theorem modTwin_tier (f : Twin → Twin) (s : State) : (modTwin f s).tier = s.tier := rfl
@[simp] theorem modTwin_dram (f : Twin → Twin) (s : State) : (modTwin f s).dram = s.dram := rfl
@[simp] theorem modTwin_nand (f : Twin → Twin) (s : State) : (modTwin f s).nand = s.nand := rfl
@[simp] theorem modTwin_host (f : Twin → Twin) (s : State) : (modTwin f s).host = s.host := rfl
@[simp] theorem modTwin_net (f : Twin → Twin) (s : State) : (modTwin f s).net = s.net := rfl
@[simp] theorem modTwin_cipher (f : Twin → Twin) (s : State) : (modTwin f s).cipher = s.cipher := rfl
@[simp] theorem modTwin_flt (f : Twin → Twin) (s : State) : (modTwin f s).flt = s.flt := rfl
@[simp] theorem modTwin_integ (f : Twin → Twin) (s : State) : (modTwin f s).integ = s.integ := rfl
@[simp] theorem modTwin_cop (f : Twin → Twin) (s : State) : (modTwin f s).cop = s.cop := rfl
@[simp] theorem modTwin_perf (f : Twin → Twin) (s : State) : (modTwin f s).perf = s.perf := rfl
@[simp] theorem modTwin_recd (f : Twin → Twin) (s : State) : (modTwin f s).recd = s.recd := rfl
@[simp] theorem modTwin_cfg (f : Twin → Twin) (s : State) : (modTwin f s).cfg = s.cfg := rfl
@[simp] theorem modTwin_regs (f : Twin → Twin) (s : State) : (modTwin f s).regs = s.regs := rfl
@[simp] theorem modTwin_latch (f : Twin → Twin) (s : State) : (modTwin f s).latch = s.latch := rfl
@[simp] theorem modTwin_out (f : Twin → Twin) (s : State) : (modTwin f s).out = s.out := rfl
@[simp] theorem modTwin_ids (f : Twin → Twin) (s : State) : (modTwin f s).ids = s.ids := rfl
@[simp] theorem modTwin_free (f : Twin → Twin) (s : State) : (modTwin f s).free = s.free := rfl

/-! ### setBad: integ -/

@[simp] theorem setBad_pending (m w : Nat) (e : BitVec 80) (s : State) : (setBad m w e s).pending = s.pending := rfl
@[simp] theorem setBad_fuse (m w : Nat) (e : BitVec 80) (s : State) : (setBad m w e s).fuse = s.fuse := rfl
@[simp] theorem setBad_pwr (m w : Nat) (e : BitVec 80) (s : State) : (setBad m w e s).pwr = s.pwr := rfl
@[simp] theorem setBad_clk (m w : Nat) (e : BitVec 80) (s : State) : (setBad m w e s).clk = s.clk := rfl
@[simp] theorem setBad_therm (m w : Nat) (e : BitVec 80) (s : State) : (setBad m w e s).therm = s.therm := rfl
@[simp] theorem setBad_seqr (m w : Nat) (e : BitVec 80) (s : State) : (setBad m w e s).seqr = s.seqr := rfl
@[simp] theorem setBad_can (m w : Nat) (e : BitVec 80) (s : State) : (setBad m w e s).can = s.can := rfl
@[simp] theorem setBad_tier (m w : Nat) (e : BitVec 80) (s : State) : (setBad m w e s).tier = s.tier := rfl
@[simp] theorem setBad_dram (m w : Nat) (e : BitVec 80) (s : State) : (setBad m w e s).dram = s.dram := rfl
@[simp] theorem setBad_nand (m w : Nat) (e : BitVec 80) (s : State) : (setBad m w e s).nand = s.nand := rfl
@[simp] theorem setBad_host (m w : Nat) (e : BitVec 80) (s : State) : (setBad m w e s).host = s.host := rfl
@[simp] theorem setBad_net (m w : Nat) (e : BitVec 80) (s : State) : (setBad m w e s).net = s.net := rfl
@[simp] theorem setBad_twin (m w : Nat) (e : BitVec 80) (s : State) : (setBad m w e s).twin = s.twin := rfl
@[simp] theorem setBad_cipher (m w : Nat) (e : BitVec 80) (s : State) : (setBad m w e s).cipher = s.cipher := rfl
@[simp] theorem setBad_flt (m w : Nat) (e : BitVec 80) (s : State) : (setBad m w e s).flt = s.flt := rfl
@[simp] theorem setBad_cop (m w : Nat) (e : BitVec 80) (s : State) : (setBad m w e s).cop = s.cop := rfl
@[simp] theorem setBad_perf (m w : Nat) (e : BitVec 80) (s : State) : (setBad m w e s).perf = s.perf := rfl
@[simp] theorem setBad_recd (m w : Nat) (e : BitVec 80) (s : State) : (setBad m w e s).recd = s.recd := rfl
@[simp] theorem setBad_cfg (m w : Nat) (e : BitVec 80) (s : State) : (setBad m w e s).cfg = s.cfg := rfl
@[simp] theorem setBad_regs (m w : Nat) (e : BitVec 80) (s : State) : (setBad m w e s).regs = s.regs := rfl
@[simp] theorem setBad_latch (m w : Nat) (e : BitVec 80) (s : State) : (setBad m w e s).latch = s.latch := rfl
@[simp] theorem setBad_out (m w : Nat) (e : BitVec 80) (s : State) : (setBad m w e s).out = s.out := rfl
@[simp] theorem setBad_ids (m w : Nat) (e : BitVec 80) (s : State) : (setBad m w e s).ids = s.ids := rfl
@[simp] theorem setBad_free (m w : Nat) (e : BitVec 80) (s : State) : (setBad m w e s).free = s.free := rfl

/-! ### updDieAt: nand -/

@[simp] theorem updDieAt_pending (k : Nat) (f : Die → Die) (s : State) : (updDieAt k f s).pending = s.pending := rfl
@[simp] theorem updDieAt_fuse (k : Nat) (f : Die → Die) (s : State) : (updDieAt k f s).fuse = s.fuse := rfl
@[simp] theorem updDieAt_pwr (k : Nat) (f : Die → Die) (s : State) : (updDieAt k f s).pwr = s.pwr := rfl
@[simp] theorem updDieAt_clk (k : Nat) (f : Die → Die) (s : State) : (updDieAt k f s).clk = s.clk := rfl
@[simp] theorem updDieAt_therm (k : Nat) (f : Die → Die) (s : State) : (updDieAt k f s).therm = s.therm := rfl
@[simp] theorem updDieAt_seqr (k : Nat) (f : Die → Die) (s : State) : (updDieAt k f s).seqr = s.seqr := rfl
@[simp] theorem updDieAt_can (k : Nat) (f : Die → Die) (s : State) : (updDieAt k f s).can = s.can := rfl
@[simp] theorem updDieAt_tier (k : Nat) (f : Die → Die) (s : State) : (updDieAt k f s).tier = s.tier := rfl
@[simp] theorem updDieAt_dram (k : Nat) (f : Die → Die) (s : State) : (updDieAt k f s).dram = s.dram := rfl
@[simp] theorem updDieAt_host (k : Nat) (f : Die → Die) (s : State) : (updDieAt k f s).host = s.host := rfl
@[simp] theorem updDieAt_net (k : Nat) (f : Die → Die) (s : State) : (updDieAt k f s).net = s.net := rfl
@[simp] theorem updDieAt_twin (k : Nat) (f : Die → Die) (s : State) : (updDieAt k f s).twin = s.twin := rfl
@[simp] theorem updDieAt_cipher (k : Nat) (f : Die → Die) (s : State) : (updDieAt k f s).cipher = s.cipher := rfl
@[simp] theorem updDieAt_flt (k : Nat) (f : Die → Die) (s : State) : (updDieAt k f s).flt = s.flt := rfl
@[simp] theorem updDieAt_integ (k : Nat) (f : Die → Die) (s : State) : (updDieAt k f s).integ = s.integ := rfl
@[simp] theorem updDieAt_cop (k : Nat) (f : Die → Die) (s : State) : (updDieAt k f s).cop = s.cop := rfl
@[simp] theorem updDieAt_perf (k : Nat) (f : Die → Die) (s : State) : (updDieAt k f s).perf = s.perf := rfl
@[simp] theorem updDieAt_recd (k : Nat) (f : Die → Die) (s : State) : (updDieAt k f s).recd = s.recd := rfl
@[simp] theorem updDieAt_cfg (k : Nat) (f : Die → Die) (s : State) : (updDieAt k f s).cfg = s.cfg := rfl
@[simp] theorem updDieAt_regs (k : Nat) (f : Die → Die) (s : State) : (updDieAt k f s).regs = s.regs := rfl
@[simp] theorem updDieAt_latch (k : Nat) (f : Die → Die) (s : State) : (updDieAt k f s).latch = s.latch := rfl
@[simp] theorem updDieAt_out (k : Nat) (f : Die → Die) (s : State) : (updDieAt k f s).out = s.out := rfl
@[simp] theorem updDieAt_ids (k : Nat) (f : Die → Die) (s : State) : (updDieAt k f s).ids = s.ids := rfl
@[simp] theorem updDieAt_free (k : Nat) (f : Die → Die) (s : State) : (updDieAt k f s).free = s.free := rfl

/-! ### setFlt: flt -/

@[simp] theorem setFlt_pending (e : Nat) (x : FltSrc) (s : State) : (setFlt e x s).pending = s.pending := rfl
@[simp] theorem setFlt_fuse (e : Nat) (x : FltSrc) (s : State) : (setFlt e x s).fuse = s.fuse := rfl
@[simp] theorem setFlt_pwr (e : Nat) (x : FltSrc) (s : State) : (setFlt e x s).pwr = s.pwr := rfl
@[simp] theorem setFlt_clk (e : Nat) (x : FltSrc) (s : State) : (setFlt e x s).clk = s.clk := rfl
@[simp] theorem setFlt_therm (e : Nat) (x : FltSrc) (s : State) : (setFlt e x s).therm = s.therm := rfl
@[simp] theorem setFlt_seqr (e : Nat) (x : FltSrc) (s : State) : (setFlt e x s).seqr = s.seqr := rfl
@[simp] theorem setFlt_can (e : Nat) (x : FltSrc) (s : State) : (setFlt e x s).can = s.can := rfl
@[simp] theorem setFlt_tier (e : Nat) (x : FltSrc) (s : State) : (setFlt e x s).tier = s.tier := rfl
@[simp] theorem setFlt_dram (e : Nat) (x : FltSrc) (s : State) : (setFlt e x s).dram = s.dram := rfl
@[simp] theorem setFlt_nand (e : Nat) (x : FltSrc) (s : State) : (setFlt e x s).nand = s.nand := rfl
@[simp] theorem setFlt_host (e : Nat) (x : FltSrc) (s : State) : (setFlt e x s).host = s.host := rfl
@[simp] theorem setFlt_net (e : Nat) (x : FltSrc) (s : State) : (setFlt e x s).net = s.net := rfl
@[simp] theorem setFlt_twin (e : Nat) (x : FltSrc) (s : State) : (setFlt e x s).twin = s.twin := rfl
@[simp] theorem setFlt_cipher (e : Nat) (x : FltSrc) (s : State) : (setFlt e x s).cipher = s.cipher := rfl
@[simp] theorem setFlt_integ (e : Nat) (x : FltSrc) (s : State) : (setFlt e x s).integ = s.integ := rfl
@[simp] theorem setFlt_cop (e : Nat) (x : FltSrc) (s : State) : (setFlt e x s).cop = s.cop := rfl
@[simp] theorem setFlt_perf (e : Nat) (x : FltSrc) (s : State) : (setFlt e x s).perf = s.perf := rfl
@[simp] theorem setFlt_recd (e : Nat) (x : FltSrc) (s : State) : (setFlt e x s).recd = s.recd := rfl
@[simp] theorem setFlt_cfg (e : Nat) (x : FltSrc) (s : State) : (setFlt e x s).cfg = s.cfg := rfl
@[simp] theorem setFlt_regs (e : Nat) (x : FltSrc) (s : State) : (setFlt e x s).regs = s.regs := rfl
@[simp] theorem setFlt_latch (e : Nat) (x : FltSrc) (s : State) : (setFlt e x s).latch = s.latch := rfl
@[simp] theorem setFlt_out (e : Nat) (x : FltSrc) (s : State) : (setFlt e x s).out = s.out := rfl
@[simp] theorem setFlt_ids (e : Nat) (x : FltSrc) (s : State) : (setFlt e x s).ids = s.ids := rfl
@[simp] theorem setFlt_free (e : Nat) (x : FltSrc) (s : State) : (setFlt e x s).free = s.free := rfl

/-! ### modEng: cfg -/

@[simp] theorem modEng_pending (f : FlashEng → FlashEng) (s : State) : (modEng f s).pending = s.pending := rfl
@[simp] theorem modEng_fuse (f : FlashEng → FlashEng) (s : State) : (modEng f s).fuse = s.fuse := rfl
@[simp] theorem modEng_pwr (f : FlashEng → FlashEng) (s : State) : (modEng f s).pwr = s.pwr := rfl
@[simp] theorem modEng_clk (f : FlashEng → FlashEng) (s : State) : (modEng f s).clk = s.clk := rfl
@[simp] theorem modEng_therm (f : FlashEng → FlashEng) (s : State) : (modEng f s).therm = s.therm := rfl
@[simp] theorem modEng_seqr (f : FlashEng → FlashEng) (s : State) : (modEng f s).seqr = s.seqr := rfl
@[simp] theorem modEng_can (f : FlashEng → FlashEng) (s : State) : (modEng f s).can = s.can := rfl
@[simp] theorem modEng_tier (f : FlashEng → FlashEng) (s : State) : (modEng f s).tier = s.tier := rfl
@[simp] theorem modEng_dram (f : FlashEng → FlashEng) (s : State) : (modEng f s).dram = s.dram := rfl
@[simp] theorem modEng_nand (f : FlashEng → FlashEng) (s : State) : (modEng f s).nand = s.nand := rfl
@[simp] theorem modEng_host (f : FlashEng → FlashEng) (s : State) : (modEng f s).host = s.host := rfl
@[simp] theorem modEng_net (f : FlashEng → FlashEng) (s : State) : (modEng f s).net = s.net := rfl
@[simp] theorem modEng_twin (f : FlashEng → FlashEng) (s : State) : (modEng f s).twin = s.twin := rfl
@[simp] theorem modEng_cipher (f : FlashEng → FlashEng) (s : State) : (modEng f s).cipher = s.cipher := rfl
@[simp] theorem modEng_flt (f : FlashEng → FlashEng) (s : State) : (modEng f s).flt = s.flt := rfl
@[simp] theorem modEng_integ (f : FlashEng → FlashEng) (s : State) : (modEng f s).integ = s.integ := rfl
@[simp] theorem modEng_cop (f : FlashEng → FlashEng) (s : State) : (modEng f s).cop = s.cop := rfl
@[simp] theorem modEng_perf (f : FlashEng → FlashEng) (s : State) : (modEng f s).perf = s.perf := rfl
@[simp] theorem modEng_recd (f : FlashEng → FlashEng) (s : State) : (modEng f s).recd = s.recd := rfl
@[simp] theorem modEng_regs (f : FlashEng → FlashEng) (s : State) : (modEng f s).regs = s.regs := rfl
@[simp] theorem modEng_latch (f : FlashEng → FlashEng) (s : State) : (modEng f s).latch = s.latch := rfl
@[simp] theorem modEng_out (f : FlashEng → FlashEng) (s : State) : (modEng f s).out = s.out := rfl
@[simp] theorem modEng_ids (f : FlashEng → FlashEng) (s : State) : (modEng f s).ids = s.ids := rfl
@[simp] theorem modEng_free (f : FlashEng → FlashEng) (s : State) : (modEng f s).free = s.free := rfl

/-! ### updCanSet: can -/

@[simp] theorem updCanSet_pending (k : Nat) (f : CanSet → CanSet) (s : State) : (updCanSet k f s).pending = s.pending := rfl
@[simp] theorem updCanSet_fuse (k : Nat) (f : CanSet → CanSet) (s : State) : (updCanSet k f s).fuse = s.fuse := rfl
@[simp] theorem updCanSet_pwr (k : Nat) (f : CanSet → CanSet) (s : State) : (updCanSet k f s).pwr = s.pwr := rfl
@[simp] theorem updCanSet_clk (k : Nat) (f : CanSet → CanSet) (s : State) : (updCanSet k f s).clk = s.clk := rfl
@[simp] theorem updCanSet_therm (k : Nat) (f : CanSet → CanSet) (s : State) : (updCanSet k f s).therm = s.therm := rfl
@[simp] theorem updCanSet_seqr (k : Nat) (f : CanSet → CanSet) (s : State) : (updCanSet k f s).seqr = s.seqr := rfl
@[simp] theorem updCanSet_tier (k : Nat) (f : CanSet → CanSet) (s : State) : (updCanSet k f s).tier = s.tier := rfl
@[simp] theorem updCanSet_dram (k : Nat) (f : CanSet → CanSet) (s : State) : (updCanSet k f s).dram = s.dram := rfl
@[simp] theorem updCanSet_nand (k : Nat) (f : CanSet → CanSet) (s : State) : (updCanSet k f s).nand = s.nand := rfl
@[simp] theorem updCanSet_host (k : Nat) (f : CanSet → CanSet) (s : State) : (updCanSet k f s).host = s.host := rfl
@[simp] theorem updCanSet_net (k : Nat) (f : CanSet → CanSet) (s : State) : (updCanSet k f s).net = s.net := rfl
@[simp] theorem updCanSet_twin (k : Nat) (f : CanSet → CanSet) (s : State) : (updCanSet k f s).twin = s.twin := rfl
@[simp] theorem updCanSet_cipher (k : Nat) (f : CanSet → CanSet) (s : State) : (updCanSet k f s).cipher = s.cipher := rfl
@[simp] theorem updCanSet_flt (k : Nat) (f : CanSet → CanSet) (s : State) : (updCanSet k f s).flt = s.flt := rfl
@[simp] theorem updCanSet_integ (k : Nat) (f : CanSet → CanSet) (s : State) : (updCanSet k f s).integ = s.integ := rfl
@[simp] theorem updCanSet_cop (k : Nat) (f : CanSet → CanSet) (s : State) : (updCanSet k f s).cop = s.cop := rfl
@[simp] theorem updCanSet_perf (k : Nat) (f : CanSet → CanSet) (s : State) : (updCanSet k f s).perf = s.perf := rfl
@[simp] theorem updCanSet_recd (k : Nat) (f : CanSet → CanSet) (s : State) : (updCanSet k f s).recd = s.recd := rfl
@[simp] theorem updCanSet_cfg (k : Nat) (f : CanSet → CanSet) (s : State) : (updCanSet k f s).cfg = s.cfg := rfl
@[simp] theorem updCanSet_regs (k : Nat) (f : CanSet → CanSet) (s : State) : (updCanSet k f s).regs = s.regs := rfl
@[simp] theorem updCanSet_latch (k : Nat) (f : CanSet → CanSet) (s : State) : (updCanSet k f s).latch = s.latch := rfl
@[simp] theorem updCanSet_out (k : Nat) (f : CanSet → CanSet) (s : State) : (updCanSet k f s).out = s.out := rfl
@[simp] theorem updCanSet_ids (k : Nat) (f : CanSet → CanSet) (s : State) : (updCanSet k f s).ids = s.ids := rfl
@[simp] theorem updCanSet_free (k : Nat) (f : CanSet → CanSet) (s : State) : (updCanSet k f s).free = s.free := rfl

/-! ### setWf: can -/

@[simp] theorem setWf_pending (sl : Nat) (l : List WfLine) (s : State) : (setWf sl l s).pending = s.pending := rfl
@[simp] theorem setWf_fuse (sl : Nat) (l : List WfLine) (s : State) : (setWf sl l s).fuse = s.fuse := rfl
@[simp] theorem setWf_pwr (sl : Nat) (l : List WfLine) (s : State) : (setWf sl l s).pwr = s.pwr := rfl
@[simp] theorem setWf_clk (sl : Nat) (l : List WfLine) (s : State) : (setWf sl l s).clk = s.clk := rfl
@[simp] theorem setWf_therm (sl : Nat) (l : List WfLine) (s : State) : (setWf sl l s).therm = s.therm := rfl
@[simp] theorem setWf_seqr (sl : Nat) (l : List WfLine) (s : State) : (setWf sl l s).seqr = s.seqr := rfl
@[simp] theorem setWf_tier (sl : Nat) (l : List WfLine) (s : State) : (setWf sl l s).tier = s.tier := rfl
@[simp] theorem setWf_dram (sl : Nat) (l : List WfLine) (s : State) : (setWf sl l s).dram = s.dram := rfl
@[simp] theorem setWf_nand (sl : Nat) (l : List WfLine) (s : State) : (setWf sl l s).nand = s.nand := rfl
@[simp] theorem setWf_host (sl : Nat) (l : List WfLine) (s : State) : (setWf sl l s).host = s.host := rfl
@[simp] theorem setWf_net (sl : Nat) (l : List WfLine) (s : State) : (setWf sl l s).net = s.net := rfl
@[simp] theorem setWf_twin (sl : Nat) (l : List WfLine) (s : State) : (setWf sl l s).twin = s.twin := rfl
@[simp] theorem setWf_cipher (sl : Nat) (l : List WfLine) (s : State) : (setWf sl l s).cipher = s.cipher := rfl
@[simp] theorem setWf_flt (sl : Nat) (l : List WfLine) (s : State) : (setWf sl l s).flt = s.flt := rfl
@[simp] theorem setWf_integ (sl : Nat) (l : List WfLine) (s : State) : (setWf sl l s).integ = s.integ := rfl
@[simp] theorem setWf_cop (sl : Nat) (l : List WfLine) (s : State) : (setWf sl l s).cop = s.cop := rfl
@[simp] theorem setWf_perf (sl : Nat) (l : List WfLine) (s : State) : (setWf sl l s).perf = s.perf := rfl
@[simp] theorem setWf_recd (sl : Nat) (l : List WfLine) (s : State) : (setWf sl l s).recd = s.recd := rfl
@[simp] theorem setWf_cfg (sl : Nat) (l : List WfLine) (s : State) : (setWf sl l s).cfg = s.cfg := rfl
@[simp] theorem setWf_regs (sl : Nat) (l : List WfLine) (s : State) : (setWf sl l s).regs = s.regs := rfl
@[simp] theorem setWf_latch (sl : Nat) (l : List WfLine) (s : State) : (setWf sl l s).latch = s.latch := rfl
@[simp] theorem setWf_out (sl : Nat) (l : List WfLine) (s : State) : (setWf sl l s).out = s.out := rfl
@[simp] theorem setWf_ids (sl : Nat) (l : List WfLine) (s : State) : (setWf sl l s).ids = s.ids := rfl
@[simp] theorem setWf_free (sl : Nat) (l : List WfLine) (s : State) : (setWf sl l s).free = s.free := rfl

/-! ### setTrk: can -/

@[simp] theorem setTrk_pending (sl : Nat) (l : List TrkEntry) (s : State) : (setTrk sl l s).pending = s.pending := rfl
@[simp] theorem setTrk_fuse (sl : Nat) (l : List TrkEntry) (s : State) : (setTrk sl l s).fuse = s.fuse := rfl
@[simp] theorem setTrk_pwr (sl : Nat) (l : List TrkEntry) (s : State) : (setTrk sl l s).pwr = s.pwr := rfl
@[simp] theorem setTrk_clk (sl : Nat) (l : List TrkEntry) (s : State) : (setTrk sl l s).clk = s.clk := rfl
@[simp] theorem setTrk_therm (sl : Nat) (l : List TrkEntry) (s : State) : (setTrk sl l s).therm = s.therm := rfl
@[simp] theorem setTrk_seqr (sl : Nat) (l : List TrkEntry) (s : State) : (setTrk sl l s).seqr = s.seqr := rfl
@[simp] theorem setTrk_tier (sl : Nat) (l : List TrkEntry) (s : State) : (setTrk sl l s).tier = s.tier := rfl
@[simp] theorem setTrk_dram (sl : Nat) (l : List TrkEntry) (s : State) : (setTrk sl l s).dram = s.dram := rfl
@[simp] theorem setTrk_nand (sl : Nat) (l : List TrkEntry) (s : State) : (setTrk sl l s).nand = s.nand := rfl
@[simp] theorem setTrk_host (sl : Nat) (l : List TrkEntry) (s : State) : (setTrk sl l s).host = s.host := rfl
@[simp] theorem setTrk_net (sl : Nat) (l : List TrkEntry) (s : State) : (setTrk sl l s).net = s.net := rfl
@[simp] theorem setTrk_twin (sl : Nat) (l : List TrkEntry) (s : State) : (setTrk sl l s).twin = s.twin := rfl
@[simp] theorem setTrk_cipher (sl : Nat) (l : List TrkEntry) (s : State) : (setTrk sl l s).cipher = s.cipher := rfl
@[simp] theorem setTrk_flt (sl : Nat) (l : List TrkEntry) (s : State) : (setTrk sl l s).flt = s.flt := rfl
@[simp] theorem setTrk_integ (sl : Nat) (l : List TrkEntry) (s : State) : (setTrk sl l s).integ = s.integ := rfl
@[simp] theorem setTrk_cop (sl : Nat) (l : List TrkEntry) (s : State) : (setTrk sl l s).cop = s.cop := rfl
@[simp] theorem setTrk_perf (sl : Nat) (l : List TrkEntry) (s : State) : (setTrk sl l s).perf = s.perf := rfl
@[simp] theorem setTrk_recd (sl : Nat) (l : List TrkEntry) (s : State) : (setTrk sl l s).recd = s.recd := rfl
@[simp] theorem setTrk_cfg (sl : Nat) (l : List TrkEntry) (s : State) : (setTrk sl l s).cfg = s.cfg := rfl
@[simp] theorem setTrk_regs (sl : Nat) (l : List TrkEntry) (s : State) : (setTrk sl l s).regs = s.regs := rfl
@[simp] theorem setTrk_latch (sl : Nat) (l : List TrkEntry) (s : State) : (setTrk sl l s).latch = s.latch := rfl
@[simp] theorem setTrk_out (sl : Nat) (l : List TrkEntry) (s : State) : (setTrk sl l s).out = s.out := rfl
@[simp] theorem setTrk_ids (sl : Nat) (l : List TrkEntry) (s : State) : (setTrk sl l s).ids = s.ids := rfl
@[simp] theorem setTrk_free (sl : Nat) (l : List TrkEntry) (s : State) : (setTrk sl l s).free = s.free := rfl

/-! ### setWrap: cipher -/

@[simp] theorem setWrap_pending (n gen : Nat) (w : Option Wrapped) (s : State) : (setWrap n gen w s).pending = s.pending := rfl
@[simp] theorem setWrap_fuse (n gen : Nat) (w : Option Wrapped) (s : State) : (setWrap n gen w s).fuse = s.fuse := rfl
@[simp] theorem setWrap_pwr (n gen : Nat) (w : Option Wrapped) (s : State) : (setWrap n gen w s).pwr = s.pwr := rfl
@[simp] theorem setWrap_clk (n gen : Nat) (w : Option Wrapped) (s : State) : (setWrap n gen w s).clk = s.clk := rfl
@[simp] theorem setWrap_therm (n gen : Nat) (w : Option Wrapped) (s : State) : (setWrap n gen w s).therm = s.therm := rfl
@[simp] theorem setWrap_seqr (n gen : Nat) (w : Option Wrapped) (s : State) : (setWrap n gen w s).seqr = s.seqr := rfl
@[simp] theorem setWrap_can (n gen : Nat) (w : Option Wrapped) (s : State) : (setWrap n gen w s).can = s.can := rfl
@[simp] theorem setWrap_tier (n gen : Nat) (w : Option Wrapped) (s : State) : (setWrap n gen w s).tier = s.tier := rfl
@[simp] theorem setWrap_dram (n gen : Nat) (w : Option Wrapped) (s : State) : (setWrap n gen w s).dram = s.dram := rfl
@[simp] theorem setWrap_nand (n gen : Nat) (w : Option Wrapped) (s : State) : (setWrap n gen w s).nand = s.nand := rfl
@[simp] theorem setWrap_host (n gen : Nat) (w : Option Wrapped) (s : State) : (setWrap n gen w s).host = s.host := rfl
@[simp] theorem setWrap_net (n gen : Nat) (w : Option Wrapped) (s : State) : (setWrap n gen w s).net = s.net := rfl
@[simp] theorem setWrap_twin (n gen : Nat) (w : Option Wrapped) (s : State) : (setWrap n gen w s).twin = s.twin := rfl
@[simp] theorem setWrap_flt (n gen : Nat) (w : Option Wrapped) (s : State) : (setWrap n gen w s).flt = s.flt := rfl
@[simp] theorem setWrap_integ (n gen : Nat) (w : Option Wrapped) (s : State) : (setWrap n gen w s).integ = s.integ := rfl
@[simp] theorem setWrap_cop (n gen : Nat) (w : Option Wrapped) (s : State) : (setWrap n gen w s).cop = s.cop := rfl
@[simp] theorem setWrap_perf (n gen : Nat) (w : Option Wrapped) (s : State) : (setWrap n gen w s).perf = s.perf := rfl
@[simp] theorem setWrap_recd (n gen : Nat) (w : Option Wrapped) (s : State) : (setWrap n gen w s).recd = s.recd := rfl
@[simp] theorem setWrap_cfg (n gen : Nat) (w : Option Wrapped) (s : State) : (setWrap n gen w s).cfg = s.cfg := rfl
@[simp] theorem setWrap_regs (n gen : Nat) (w : Option Wrapped) (s : State) : (setWrap n gen w s).regs = s.regs := rfl
@[simp] theorem setWrap_latch (n gen : Nat) (w : Option Wrapped) (s : State) : (setWrap n gen w s).latch = s.latch := rfl
@[simp] theorem setWrap_out (n gen : Nat) (w : Option Wrapped) (s : State) : (setWrap n gen w s).out = s.out := rfl
@[simp] theorem setWrap_ids (n gen : Nat) (w : Option Wrapped) (s : State) : (setWrap n gen w s).ids = s.ids := rfl
@[simp] theorem setWrap_free (n gen : Nat) (w : Option Wrapped) (s : State) : (setWrap n gen w s).free = s.free := rfl

/-! ### modVault: tier -/

@[simp] theorem modVault_pending (f : Vault → Vault) (s : State) : (modVault f s).pending = s.pending := rfl
@[simp] theorem modVault_fuse (f : Vault → Vault) (s : State) : (modVault f s).fuse = s.fuse := rfl
@[simp] theorem modVault_pwr (f : Vault → Vault) (s : State) : (modVault f s).pwr = s.pwr := rfl
@[simp] theorem modVault_clk (f : Vault → Vault) (s : State) : (modVault f s).clk = s.clk := rfl
@[simp] theorem modVault_therm (f : Vault → Vault) (s : State) : (modVault f s).therm = s.therm := rfl
@[simp] theorem modVault_seqr (f : Vault → Vault) (s : State) : (modVault f s).seqr = s.seqr := rfl
@[simp] theorem modVault_can (f : Vault → Vault) (s : State) : (modVault f s).can = s.can := rfl
@[simp] theorem modVault_dram (f : Vault → Vault) (s : State) : (modVault f s).dram = s.dram := rfl
@[simp] theorem modVault_nand (f : Vault → Vault) (s : State) : (modVault f s).nand = s.nand := rfl
@[simp] theorem modVault_host (f : Vault → Vault) (s : State) : (modVault f s).host = s.host := rfl
@[simp] theorem modVault_net (f : Vault → Vault) (s : State) : (modVault f s).net = s.net := rfl
@[simp] theorem modVault_twin (f : Vault → Vault) (s : State) : (modVault f s).twin = s.twin := rfl
@[simp] theorem modVault_cipher (f : Vault → Vault) (s : State) : (modVault f s).cipher = s.cipher := rfl
@[simp] theorem modVault_flt (f : Vault → Vault) (s : State) : (modVault f s).flt = s.flt := rfl
@[simp] theorem modVault_integ (f : Vault → Vault) (s : State) : (modVault f s).integ = s.integ := rfl
@[simp] theorem modVault_cop (f : Vault → Vault) (s : State) : (modVault f s).cop = s.cop := rfl
@[simp] theorem modVault_perf (f : Vault → Vault) (s : State) : (modVault f s).perf = s.perf := rfl
@[simp] theorem modVault_recd (f : Vault → Vault) (s : State) : (modVault f s).recd = s.recd := rfl
@[simp] theorem modVault_cfg (f : Vault → Vault) (s : State) : (modVault f s).cfg = s.cfg := rfl
@[simp] theorem modVault_regs (f : Vault → Vault) (s : State) : (modVault f s).regs = s.regs := rfl
@[simp] theorem modVault_latch (f : Vault → Vault) (s : State) : (modVault f s).latch = s.latch := rfl
@[simp] theorem modVault_out (f : Vault → Vault) (s : State) : (modVault f s).out = s.out := rfl
@[simp] theorem modVault_ids (f : Vault → Vault) (s : State) : (modVault f s).ids = s.ids := rfl
@[simp] theorem modVault_free (f : Vault → Vault) (s : State) : (modVault f s).free = s.free := rfl

/-! ### updQuad: therm -/

@[simp] theorem updQuad_pending (q : Nat) (f : Quad → Quad) (s : State) : (updQuad q f s).pending = s.pending := rfl
@[simp] theorem updQuad_fuse (q : Nat) (f : Quad → Quad) (s : State) : (updQuad q f s).fuse = s.fuse := rfl
@[simp] theorem updQuad_pwr (q : Nat) (f : Quad → Quad) (s : State) : (updQuad q f s).pwr = s.pwr := rfl
@[simp] theorem updQuad_clk (q : Nat) (f : Quad → Quad) (s : State) : (updQuad q f s).clk = s.clk := rfl
@[simp] theorem updQuad_seqr (q : Nat) (f : Quad → Quad) (s : State) : (updQuad q f s).seqr = s.seqr := rfl
@[simp] theorem updQuad_can (q : Nat) (f : Quad → Quad) (s : State) : (updQuad q f s).can = s.can := rfl
@[simp] theorem updQuad_tier (q : Nat) (f : Quad → Quad) (s : State) : (updQuad q f s).tier = s.tier := rfl
@[simp] theorem updQuad_dram (q : Nat) (f : Quad → Quad) (s : State) : (updQuad q f s).dram = s.dram := rfl
@[simp] theorem updQuad_nand (q : Nat) (f : Quad → Quad) (s : State) : (updQuad q f s).nand = s.nand := rfl
@[simp] theorem updQuad_host (q : Nat) (f : Quad → Quad) (s : State) : (updQuad q f s).host = s.host := rfl
@[simp] theorem updQuad_net (q : Nat) (f : Quad → Quad) (s : State) : (updQuad q f s).net = s.net := rfl
@[simp] theorem updQuad_twin (q : Nat) (f : Quad → Quad) (s : State) : (updQuad q f s).twin = s.twin := rfl
@[simp] theorem updQuad_cipher (q : Nat) (f : Quad → Quad) (s : State) : (updQuad q f s).cipher = s.cipher := rfl
@[simp] theorem updQuad_flt (q : Nat) (f : Quad → Quad) (s : State) : (updQuad q f s).flt = s.flt := rfl
@[simp] theorem updQuad_integ (q : Nat) (f : Quad → Quad) (s : State) : (updQuad q f s).integ = s.integ := rfl
@[simp] theorem updQuad_cop (q : Nat) (f : Quad → Quad) (s : State) : (updQuad q f s).cop = s.cop := rfl
@[simp] theorem updQuad_perf (q : Nat) (f : Quad → Quad) (s : State) : (updQuad q f s).perf = s.perf := rfl
@[simp] theorem updQuad_recd (q : Nat) (f : Quad → Quad) (s : State) : (updQuad q f s).recd = s.recd := rfl
@[simp] theorem updQuad_cfg (q : Nat) (f : Quad → Quad) (s : State) : (updQuad q f s).cfg = s.cfg := rfl
@[simp] theorem updQuad_regs (q : Nat) (f : Quad → Quad) (s : State) : (updQuad q f s).regs = s.regs := rfl
@[simp] theorem updQuad_latch (q : Nat) (f : Quad → Quad) (s : State) : (updQuad q f s).latch = s.latch := rfl
@[simp] theorem updQuad_out (q : Nat) (f : Quad → Quad) (s : State) : (updQuad q f s).out = s.out := rfl
@[simp] theorem updQuad_ids (q : Nat) (f : Quad → Quad) (s : State) : (updQuad q f s).ids = s.ids := rfl
@[simp] theorem updQuad_free (q : Nat) (f : Quad → Quad) (s : State) : (updQuad q f s).free = s.free := rfl

/-! ### updCopy: cfg -/

@[simp] theorem updCopy_pending (item bank : Nat) (f : CopySt → CopySt) (s : State) : (updCopy item bank f s).pending = s.pending := rfl
@[simp] theorem updCopy_fuse (item bank : Nat) (f : CopySt → CopySt) (s : State) : (updCopy item bank f s).fuse = s.fuse := rfl
@[simp] theorem updCopy_pwr (item bank : Nat) (f : CopySt → CopySt) (s : State) : (updCopy item bank f s).pwr = s.pwr := rfl
@[simp] theorem updCopy_clk (item bank : Nat) (f : CopySt → CopySt) (s : State) : (updCopy item bank f s).clk = s.clk := rfl
@[simp] theorem updCopy_therm (item bank : Nat) (f : CopySt → CopySt) (s : State) : (updCopy item bank f s).therm = s.therm := rfl
@[simp] theorem updCopy_seqr (item bank : Nat) (f : CopySt → CopySt) (s : State) : (updCopy item bank f s).seqr = s.seqr := rfl
@[simp] theorem updCopy_can (item bank : Nat) (f : CopySt → CopySt) (s : State) : (updCopy item bank f s).can = s.can := rfl
@[simp] theorem updCopy_tier (item bank : Nat) (f : CopySt → CopySt) (s : State) : (updCopy item bank f s).tier = s.tier := rfl
@[simp] theorem updCopy_dram (item bank : Nat) (f : CopySt → CopySt) (s : State) : (updCopy item bank f s).dram = s.dram := rfl
@[simp] theorem updCopy_nand (item bank : Nat) (f : CopySt → CopySt) (s : State) : (updCopy item bank f s).nand = s.nand := rfl
@[simp] theorem updCopy_host (item bank : Nat) (f : CopySt → CopySt) (s : State) : (updCopy item bank f s).host = s.host := rfl
@[simp] theorem updCopy_net (item bank : Nat) (f : CopySt → CopySt) (s : State) : (updCopy item bank f s).net = s.net := rfl
@[simp] theorem updCopy_twin (item bank : Nat) (f : CopySt → CopySt) (s : State) : (updCopy item bank f s).twin = s.twin := rfl
@[simp] theorem updCopy_cipher (item bank : Nat) (f : CopySt → CopySt) (s : State) : (updCopy item bank f s).cipher = s.cipher := rfl
@[simp] theorem updCopy_flt (item bank : Nat) (f : CopySt → CopySt) (s : State) : (updCopy item bank f s).flt = s.flt := rfl
@[simp] theorem updCopy_integ (item bank : Nat) (f : CopySt → CopySt) (s : State) : (updCopy item bank f s).integ = s.integ := rfl
@[simp] theorem updCopy_cop (item bank : Nat) (f : CopySt → CopySt) (s : State) : (updCopy item bank f s).cop = s.cop := rfl
@[simp] theorem updCopy_perf (item bank : Nat) (f : CopySt → CopySt) (s : State) : (updCopy item bank f s).perf = s.perf := rfl
@[simp] theorem updCopy_recd (item bank : Nat) (f : CopySt → CopySt) (s : State) : (updCopy item bank f s).recd = s.recd := rfl
@[simp] theorem updCopy_regs (item bank : Nat) (f : CopySt → CopySt) (s : State) : (updCopy item bank f s).regs = s.regs := rfl
@[simp] theorem updCopy_latch (item bank : Nat) (f : CopySt → CopySt) (s : State) : (updCopy item bank f s).latch = s.latch := rfl
@[simp] theorem updCopy_out (item bank : Nat) (f : CopySt → CopySt) (s : State) : (updCopy item bank f s).out = s.out := rfl
@[simp] theorem updCopy_ids (item bank : Nat) (f : CopySt → CopySt) (s : State) : (updCopy item bank f s).ids = s.ids := rfl
@[simp] theorem updCopy_free (item bank : Nat) (f : CopySt → CopySt) (s : State) : (updCopy item bank f s).free = s.free := rfl

/-! ### setFld: regs -/

@[simp] theorem setFld_pending (id : RegId) (i hi lo x : Nat) (s : State) : (setFld id i hi lo x s).pending = s.pending := rfl
@[simp] theorem setFld_fuse (id : RegId) (i hi lo x : Nat) (s : State) : (setFld id i hi lo x s).fuse = s.fuse := rfl
@[simp] theorem setFld_pwr (id : RegId) (i hi lo x : Nat) (s : State) : (setFld id i hi lo x s).pwr = s.pwr := rfl
@[simp] theorem setFld_clk (id : RegId) (i hi lo x : Nat) (s : State) : (setFld id i hi lo x s).clk = s.clk := rfl
@[simp] theorem setFld_therm (id : RegId) (i hi lo x : Nat) (s : State) : (setFld id i hi lo x s).therm = s.therm := rfl
@[simp] theorem setFld_seqr (id : RegId) (i hi lo x : Nat) (s : State) : (setFld id i hi lo x s).seqr = s.seqr := rfl
@[simp] theorem setFld_can (id : RegId) (i hi lo x : Nat) (s : State) : (setFld id i hi lo x s).can = s.can := rfl
@[simp] theorem setFld_tier (id : RegId) (i hi lo x : Nat) (s : State) : (setFld id i hi lo x s).tier = s.tier := rfl
@[simp] theorem setFld_dram (id : RegId) (i hi lo x : Nat) (s : State) : (setFld id i hi lo x s).dram = s.dram := rfl
@[simp] theorem setFld_nand (id : RegId) (i hi lo x : Nat) (s : State) : (setFld id i hi lo x s).nand = s.nand := rfl
@[simp] theorem setFld_host (id : RegId) (i hi lo x : Nat) (s : State) : (setFld id i hi lo x s).host = s.host := rfl
@[simp] theorem setFld_net (id : RegId) (i hi lo x : Nat) (s : State) : (setFld id i hi lo x s).net = s.net := rfl
@[simp] theorem setFld_twin (id : RegId) (i hi lo x : Nat) (s : State) : (setFld id i hi lo x s).twin = s.twin := rfl
@[simp] theorem setFld_cipher (id : RegId) (i hi lo x : Nat) (s : State) : (setFld id i hi lo x s).cipher = s.cipher := rfl
@[simp] theorem setFld_flt (id : RegId) (i hi lo x : Nat) (s : State) : (setFld id i hi lo x s).flt = s.flt := rfl
@[simp] theorem setFld_integ (id : RegId) (i hi lo x : Nat) (s : State) : (setFld id i hi lo x s).integ = s.integ := rfl
@[simp] theorem setFld_cop (id : RegId) (i hi lo x : Nat) (s : State) : (setFld id i hi lo x s).cop = s.cop := rfl
@[simp] theorem setFld_perf (id : RegId) (i hi lo x : Nat) (s : State) : (setFld id i hi lo x s).perf = s.perf := rfl
@[simp] theorem setFld_recd (id : RegId) (i hi lo x : Nat) (s : State) : (setFld id i hi lo x s).recd = s.recd := rfl
@[simp] theorem setFld_cfg (id : RegId) (i hi lo x : Nat) (s : State) : (setFld id i hi lo x s).cfg = s.cfg := rfl
@[simp] theorem setFld_latch (id : RegId) (i hi lo x : Nat) (s : State) : (setFld id i hi lo x s).latch = s.latch := rfl
@[simp] theorem setFld_out (id : RegId) (i hi lo x : Nat) (s : State) : (setFld id i hi lo x s).out = s.out := rfl
@[simp] theorem setFld_ids (id : RegId) (i hi lo x : Nat) (s : State) : (setFld id i hi lo x s).ids = s.ids := rfl
@[simp] theorem setFld_free (id : RegId) (i hi lo x : Nat) (s : State) : (setFld id i hi lo x s).free = s.free := rfl

/-! ### setBit: regs -/

@[simp] theorem setBit_pending (id : RegId) (i n : Nat) (s : State) : (setBit id i n s).pending = s.pending := rfl
@[simp] theorem setBit_fuse (id : RegId) (i n : Nat) (s : State) : (setBit id i n s).fuse = s.fuse := rfl
@[simp] theorem setBit_pwr (id : RegId) (i n : Nat) (s : State) : (setBit id i n s).pwr = s.pwr := rfl
@[simp] theorem setBit_clk (id : RegId) (i n : Nat) (s : State) : (setBit id i n s).clk = s.clk := rfl
@[simp] theorem setBit_therm (id : RegId) (i n : Nat) (s : State) : (setBit id i n s).therm = s.therm := rfl
@[simp] theorem setBit_seqr (id : RegId) (i n : Nat) (s : State) : (setBit id i n s).seqr = s.seqr := rfl
@[simp] theorem setBit_can (id : RegId) (i n : Nat) (s : State) : (setBit id i n s).can = s.can := rfl
@[simp] theorem setBit_tier (id : RegId) (i n : Nat) (s : State) : (setBit id i n s).tier = s.tier := rfl
@[simp] theorem setBit_dram (id : RegId) (i n : Nat) (s : State) : (setBit id i n s).dram = s.dram := rfl
@[simp] theorem setBit_nand (id : RegId) (i n : Nat) (s : State) : (setBit id i n s).nand = s.nand := rfl
@[simp] theorem setBit_host (id : RegId) (i n : Nat) (s : State) : (setBit id i n s).host = s.host := rfl
@[simp] theorem setBit_net (id : RegId) (i n : Nat) (s : State) : (setBit id i n s).net = s.net := rfl
@[simp] theorem setBit_twin (id : RegId) (i n : Nat) (s : State) : (setBit id i n s).twin = s.twin := rfl
@[simp] theorem setBit_cipher (id : RegId) (i n : Nat) (s : State) : (setBit id i n s).cipher = s.cipher := rfl
@[simp] theorem setBit_flt (id : RegId) (i n : Nat) (s : State) : (setBit id i n s).flt = s.flt := rfl
@[simp] theorem setBit_integ (id : RegId) (i n : Nat) (s : State) : (setBit id i n s).integ = s.integ := rfl
@[simp] theorem setBit_cop (id : RegId) (i n : Nat) (s : State) : (setBit id i n s).cop = s.cop := rfl
@[simp] theorem setBit_perf (id : RegId) (i n : Nat) (s : State) : (setBit id i n s).perf = s.perf := rfl
@[simp] theorem setBit_recd (id : RegId) (i n : Nat) (s : State) : (setBit id i n s).recd = s.recd := rfl
@[simp] theorem setBit_cfg (id : RegId) (i n : Nat) (s : State) : (setBit id i n s).cfg = s.cfg := rfl
@[simp] theorem setBit_latch (id : RegId) (i n : Nat) (s : State) : (setBit id i n s).latch = s.latch := rfl
@[simp] theorem setBit_out (id : RegId) (i n : Nat) (s : State) : (setBit id i n s).out = s.out := rfl
@[simp] theorem setBit_ids (id : RegId) (i n : Nat) (s : State) : (setBit id i n s).ids = s.ids := rfl
@[simp] theorem setBit_free (id : RegId) (i n : Nat) (s : State) : (setBit id i n s).free = s.free := rfl

/-! ### bumpRc: regs -/

@[simp] theorem bumpRc_pending (id : RegId) (i hi lo n : Nat) (s : State) : (bumpRc id i hi lo n s).pending = s.pending := rfl
@[simp] theorem bumpRc_fuse (id : RegId) (i hi lo n : Nat) (s : State) : (bumpRc id i hi lo n s).fuse = s.fuse := rfl
@[simp] theorem bumpRc_pwr (id : RegId) (i hi lo n : Nat) (s : State) : (bumpRc id i hi lo n s).pwr = s.pwr := rfl
@[simp] theorem bumpRc_clk (id : RegId) (i hi lo n : Nat) (s : State) : (bumpRc id i hi lo n s).clk = s.clk := rfl
@[simp] theorem bumpRc_therm (id : RegId) (i hi lo n : Nat) (s : State) : (bumpRc id i hi lo n s).therm = s.therm := rfl
@[simp] theorem bumpRc_seqr (id : RegId) (i hi lo n : Nat) (s : State) : (bumpRc id i hi lo n s).seqr = s.seqr := rfl
@[simp] theorem bumpRc_can (id : RegId) (i hi lo n : Nat) (s : State) : (bumpRc id i hi lo n s).can = s.can := rfl
@[simp] theorem bumpRc_tier (id : RegId) (i hi lo n : Nat) (s : State) : (bumpRc id i hi lo n s).tier = s.tier := rfl
@[simp] theorem bumpRc_dram (id : RegId) (i hi lo n : Nat) (s : State) : (bumpRc id i hi lo n s).dram = s.dram := rfl
@[simp] theorem bumpRc_nand (id : RegId) (i hi lo n : Nat) (s : State) : (bumpRc id i hi lo n s).nand = s.nand := rfl
@[simp] theorem bumpRc_host (id : RegId) (i hi lo n : Nat) (s : State) : (bumpRc id i hi lo n s).host = s.host := rfl
@[simp] theorem bumpRc_net (id : RegId) (i hi lo n : Nat) (s : State) : (bumpRc id i hi lo n s).net = s.net := rfl
@[simp] theorem bumpRc_twin (id : RegId) (i hi lo n : Nat) (s : State) : (bumpRc id i hi lo n s).twin = s.twin := rfl
@[simp] theorem bumpRc_cipher (id : RegId) (i hi lo n : Nat) (s : State) : (bumpRc id i hi lo n s).cipher = s.cipher := rfl
@[simp] theorem bumpRc_flt (id : RegId) (i hi lo n : Nat) (s : State) : (bumpRc id i hi lo n s).flt = s.flt := rfl
@[simp] theorem bumpRc_integ (id : RegId) (i hi lo n : Nat) (s : State) : (bumpRc id i hi lo n s).integ = s.integ := rfl
@[simp] theorem bumpRc_cop (id : RegId) (i hi lo n : Nat) (s : State) : (bumpRc id i hi lo n s).cop = s.cop := rfl
@[simp] theorem bumpRc_perf (id : RegId) (i hi lo n : Nat) (s : State) : (bumpRc id i hi lo n s).perf = s.perf := rfl
@[simp] theorem bumpRc_recd (id : RegId) (i hi lo n : Nat) (s : State) : (bumpRc id i hi lo n s).recd = s.recd := rfl
@[simp] theorem bumpRc_cfg (id : RegId) (i hi lo n : Nat) (s : State) : (bumpRc id i hi lo n s).cfg = s.cfg := rfl
@[simp] theorem bumpRc_latch (id : RegId) (i hi lo n : Nat) (s : State) : (bumpRc id i hi lo n s).latch = s.latch := rfl
@[simp] theorem bumpRc_out (id : RegId) (i hi lo n : Nat) (s : State) : (bumpRc id i hi lo n s).out = s.out := rfl
@[simp] theorem bumpRc_ids (id : RegId) (i hi lo n : Nat) (s : State) : (bumpRc id i hi lo n s).ids = s.ids := rfl
@[simp] theorem bumpRc_free (id : RegId) (i hi lo n : Nat) (s : State) : (bumpRc id i hi lo n s).free = s.free := rfl

/-! ### raise: flt -/

@[simp] theorem raise_pending (e : Nat) (s : State) : (raise e s).pending = s.pending := rfl
@[simp] theorem raise_fuse (e : Nat) (s : State) : (raise e s).fuse = s.fuse := rfl
@[simp] theorem raise_pwr (e : Nat) (s : State) : (raise e s).pwr = s.pwr := rfl
@[simp] theorem raise_clk (e : Nat) (s : State) : (raise e s).clk = s.clk := rfl
@[simp] theorem raise_therm (e : Nat) (s : State) : (raise e s).therm = s.therm := rfl
@[simp] theorem raise_seqr (e : Nat) (s : State) : (raise e s).seqr = s.seqr := rfl
@[simp] theorem raise_can (e : Nat) (s : State) : (raise e s).can = s.can := rfl
@[simp] theorem raise_tier (e : Nat) (s : State) : (raise e s).tier = s.tier := rfl
@[simp] theorem raise_dram (e : Nat) (s : State) : (raise e s).dram = s.dram := rfl
@[simp] theorem raise_nand (e : Nat) (s : State) : (raise e s).nand = s.nand := rfl
@[simp] theorem raise_host (e : Nat) (s : State) : (raise e s).host = s.host := rfl
@[simp] theorem raise_net (e : Nat) (s : State) : (raise e s).net = s.net := rfl
@[simp] theorem raise_twin (e : Nat) (s : State) : (raise e s).twin = s.twin := rfl
@[simp] theorem raise_cipher (e : Nat) (s : State) : (raise e s).cipher = s.cipher := rfl
@[simp] theorem raise_integ (e : Nat) (s : State) : (raise e s).integ = s.integ := rfl
@[simp] theorem raise_cop (e : Nat) (s : State) : (raise e s).cop = s.cop := rfl
@[simp] theorem raise_perf (e : Nat) (s : State) : (raise e s).perf = s.perf := rfl
@[simp] theorem raise_recd (e : Nat) (s : State) : (raise e s).recd = s.recd := rfl
@[simp] theorem raise_cfg (e : Nat) (s : State) : (raise e s).cfg = s.cfg := rfl
@[simp] theorem raise_regs (e : Nat) (s : State) : (raise e s).regs = s.regs := rfl
@[simp] theorem raise_latch (e : Nat) (s : State) : (raise e s).latch = s.latch := rfl
@[simp] theorem raise_out (e : Nat) (s : State) : (raise e s).out = s.out := rfl
@[simp] theorem raise_ids (e : Nat) (s : State) : (raise e s).ids = s.ids := rfl
@[simp] theorem raise_free (e : Nat) (s : State) : (raise e s).free = s.free := rfl

/-! ### portEvent: flt -/

@[simp] theorem portEvent_pending (p off : Nat) (s : State) : (portEvent p off s).pending = s.pending := rfl
@[simp] theorem portEvent_fuse (p off : Nat) (s : State) : (portEvent p off s).fuse = s.fuse := rfl
@[simp] theorem portEvent_pwr (p off : Nat) (s : State) : (portEvent p off s).pwr = s.pwr := rfl
@[simp] theorem portEvent_clk (p off : Nat) (s : State) : (portEvent p off s).clk = s.clk := rfl
@[simp] theorem portEvent_therm (p off : Nat) (s : State) : (portEvent p off s).therm = s.therm := rfl
@[simp] theorem portEvent_seqr (p off : Nat) (s : State) : (portEvent p off s).seqr = s.seqr := rfl
@[simp] theorem portEvent_can (p off : Nat) (s : State) : (portEvent p off s).can = s.can := rfl
@[simp] theorem portEvent_tier (p off : Nat) (s : State) : (portEvent p off s).tier = s.tier := rfl
@[simp] theorem portEvent_dram (p off : Nat) (s : State) : (portEvent p off s).dram = s.dram := rfl
@[simp] theorem portEvent_nand (p off : Nat) (s : State) : (portEvent p off s).nand = s.nand := rfl
@[simp] theorem portEvent_host (p off : Nat) (s : State) : (portEvent p off s).host = s.host := rfl
@[simp] theorem portEvent_net (p off : Nat) (s : State) : (portEvent p off s).net = s.net := rfl
@[simp] theorem portEvent_twin (p off : Nat) (s : State) : (portEvent p off s).twin = s.twin := rfl
@[simp] theorem portEvent_cipher (p off : Nat) (s : State) : (portEvent p off s).cipher = s.cipher := rfl
@[simp] theorem portEvent_integ (p off : Nat) (s : State) : (portEvent p off s).integ = s.integ := rfl
@[simp] theorem portEvent_cop (p off : Nat) (s : State) : (portEvent p off s).cop = s.cop := rfl
@[simp] theorem portEvent_perf (p off : Nat) (s : State) : (portEvent p off s).perf = s.perf := rfl
@[simp] theorem portEvent_recd (p off : Nat) (s : State) : (portEvent p off s).recd = s.recd := rfl
@[simp] theorem portEvent_cfg (p off : Nat) (s : State) : (portEvent p off s).cfg = s.cfg := rfl
@[simp] theorem portEvent_regs (p off : Nat) (s : State) : (portEvent p off s).regs = s.regs := rfl
@[simp] theorem portEvent_latch (p off : Nat) (s : State) : (portEvent p off s).latch = s.latch := rfl
@[simp] theorem portEvent_out (p off : Nat) (s : State) : (portEvent p off s).out = s.out := rfl
@[simp] theorem portEvent_ids (p off : Nat) (s : State) : (portEvent p off s).ids = s.ids := rfl
@[simp] theorem portEvent_free (p off : Nat) (s : State) : (portEvent p off s).free = s.free := rfl

end Sys2Proof.Machine
end

