-- ==== Sys2Proof/Laws/Reach.lean ====
section
/-!
SUPPORT. What it means that a command reaches the part of the block it is for: each shared gate, on a state
that meets its condition, is the operation behind it. The provers cite these in place of unfolding a gate.
-/

namespace Sys2Proof.Machine

open Sys2Proof

/-! ## Control space -/

/-- A management path reaches a command register (R493, R500). -/
theorem ctlWrite_of_manager {s : State} {p : Path} (h : Manager s p) (addr : Nat) (f : State → State) :
    ctlWrite p addr f s = f s := by
  simp [ctlWrite, mgmtWrite, h.1, h.2]

/-- A write of a management register with HOST privilege changes nothing and records an access event (R440,
R500). -/
theorem ctlWrite_of_host {s : State} {p : Path} (h : HostPath s p) (addr : Nat) (f : State → State) :
    ctlWrite p addr f s = accessEvent true 1 p addr s := by
  simp [ctlWrite, mgmtWrite, h.1, h.2]

/-- A path that does not reach control space changes nothing (R493). -/
theorem ctlWrite_of_down {s : State} {p : Path} (h : regUp s p = false) (addr : Nat) (f : State → State) :
    ctlWrite p addr f s = s := by
  simp [ctlWrite, h]

/-- A twin command that finds none in progress clears the last result and runs (R116). -/
theorem twinCmd_of_manager {s : State} {p : Path} (h : Manager s p) (hb : s.twin.cmdBusy = false) (f : State → State) :
    twinCmd p f s = f { s with twin := { s.twin with noRetry := false, cmdResult := 0 } } := by
  simp [twinCmd, ctlWrite_of_manager h, hb, modTwin]

/-- A twin command while another is in progress is refused (R116). -/
theorem twinCmd_of_busy {s : State} {p : Path} (h : Manager s p) (hb : s.twin.cmdBusy = true) (f : State → State) :
    twinCmd p f s = refuseWrite p (regAddr .twinDivData3) s := by
  simp [twinCmd, ctlWrite_of_manager h, hb]

/-- A port command of management on a formed port runs (R284). -/
theorem portCmd_of_mgr {s : State} {p : Path} {port : Nat} (h : PortMgr s p port) (f : State → State) :
    portCmd p port f s = f s := by
  obtain ⟨-, h1, h2, h3⟩ := h
  simp [portCmd, ctlWrite_of_manager ⟨h1, h2⟩, h3]

/-! ## Belvor -/

/-- A Belvor command at READY runs (R403, R485). -/
theorem belvor_of_up {s : State} {p : Path} (h : BelvorUp s p) (tag code : Nat) (f : State → State) :
    belvor p tag code f s = f s := by
  simp [belvor, h.1, h.2]

/-- A management command of Belvor at READY, from management, runs. -/
theorem belvorMgmt_of_mgr {s : State} {p : Path} (h : BelvorMgr s p) (tag code : Nat) (f : State → State) :
    belvorMgmt p tag code f s = f s := by
  simp [belvorMgmt, mgmtOnly, belvor_of_up ⟨h.1, h.2.1⟩, h.2.2]

/-- A management command of Belvor with HOST privilege completes with PRIVILEGE and raises event 602 (R440,
R485). -/
theorem belvorMgmt_of_host {s : State} {p : Path} (h : BelvorUp s p) (hp : isMgmt p = false) (tag code : Nat)
    (f : State → State) : belvorMgmt p tag code f s = raise 602 (complete p tag code 0x81 [] s) := by
  simp [belvorMgmt, mgmtOnly, belvor_of_up h, hp]

/-- A Belvor command outside READY completes with NOT_READY (R485). -/
theorem belvor_of_not_ready {s : State} {p : Path} (h : pathUp s p = true) (hr : isReady s = false) (tag code : Nat)
    (f : State → State) : belvor p tag code f s = complete p tag code 0x84 [] s := by
  simp [belvor, h, hr]

/-- A power command of management runs, READY or not (R403). -/
theorem belvorPower_of_mgmt {s : State} {p : Path} (h : pathUp s p = true) (hp : isMgmt p = true) (tag code : Nat)
    (f : State → State) : belvorPower p tag code f s = f s := by
  simp [belvorPower, mgmtOnly, h, hp]

/-! ## CXL -/

/-- A request on Req at READY, at a port of which fewer than 256 reads wait, is looked at (R271, R279). -/
theorem onReq_of_in {s : State} {r : CxlReq} (h : CxlIn s r) (hw : waitingReads s r.port < 256) (f : State → State) :
    onReq r f s = f s := by
  simp [onReq, h.2.1, h.2.2, Nat.not_le.mpr hw]

/-- A request on RwD at READY, at a port that holds fewer than 128 writes, is looked at (R271, R34). -/
theorem onRwd_of_in {s : State} {r : CxlReq} (h : CxlIn s r) (hh : heldOf s r.port < 128) (f : State → State) :
    onRwd r f s = f s := by
  simp [onRwd, h.2.1, h.2.2, Nat.not_le.mpr hh]

/-- A command of a ready mailbox runs (R279). -/
theorem onMailbox_of_up {s : State} {port ld : Nat} (h : MailboxUp s port ld) (f : State → State) :
    onMailbox port ld f s = f s := by
  simp [onMailbox, h.2]

/-! ## VRMP -/

@[simp] theorem copRead_zero (s : State) : copRead 0 s = (s, true) := rfl

/-- R300 steps 1 and 2, on a packet that meets them. -/
theorem step1_of_in {s : State} {h : Pkt} (hp : PacketIn s h) (f : State → State) : step1 h f s = f s := by
  obtain ⟨-, h1, h2, h3, h4, h5, h6, h7, -⟩ := hp
  obtain ⟨c, hc⟩ := Option.isSome_iff_exists.mp h5
  simp [step1, h1, h2, h3, h4, hc, h6, h7]

/-- R300 steps 1 to 4, on a packet that meets them: its CREDIT field is taken (R308). -/
theorem gate_of_qp {s : State} {h : Pkt} {w : Option Nat} (hq : QpPacket s h w) (f : State → State) :
    gate h true w f s = f (noteLimit h s) := by
  obtain ⟨hp, hw, h1, h2, h3⟩ := hq
  obtain ⟨x, hx⟩ := Option.isSome_iff_exists.mp h2
  have h4 := hp
  obtain ⟨-, -, -, -, -, -, -, -, h5, h6⟩ := h4
  simp [gate, step1_of_in hp, h5, h6, hw, hx, h3, Nat.not_lt.mpr h1]

theorem port_of_in {s : State} {h : Pkt} (hp : PacketIn s h) : h.port < 8 := hp.1
theorem port_of_qp {s : State} {h : Pkt} {w : Option Nat} (hq : QpPacket s h w) : h.port < 8 := hq.1.1
theorem port_of_order {s : State} {h : Pkt} {b : ReqBody} (ho : InOrder s h b) : h.port < 8 := ho.1.1.1

theorem serving_of_in {s : State} {h : Pkt} (hp : PacketIn s h) : serving s = true := by
  obtain ⟨-, -, -, -, -, -, -, -, h1, -⟩ := hp
  exact h1

theorem hdrOk_of_in {s : State} {h : Pkt} (hp : PacketIn s h) : h.hdrOk = true := by
  obtain ⟨-, -, -, -, -, -, -, -, -, h1⟩ := hp
  exact h1

/-- A request that passes every check of R300 is done, in the state that has taken its CREDIT field and used
its context. -/
theorem request_of_order {s : State} {h : Pkt} {b : ReqBody} (ho : InOrder s h b) :
    request h b s = doReq h b (taken h s) := by
  obtain ⟨hq, hb, ha, hm, hc, ⟨x, hx, hpsn⟩, hlt, hg, hr⟩ := ho
  have e : touchKey h.key (touchCtx h.qpn (noteLimit h s)) = taken h s := rfl
  rw [request, hb, gate_of_qp hq]
  simp only [ha, hm, hc, Bool.not_true, Bool.false_eq_true, if_false, e, serveReq, hx, hpsn, Nat.mod_eq_of_lt hlt,
    Nat.add_sub_cancel_left, Nat.mod_self, if_true, hg, hr]

/-! ## Stamping -/

/-- A management input of a merge that holds nothing is stamped under source 311 (R32). -/
theorem stampMgmt_of_free {s : State} (h : holdAll s = false) (op : InOp) (ack : AckTo) (origin : Nat) :
    stampMgmt op ack origin s = stampInput 311 op ack origin 0 0 s := by
  simp [stampMgmt, h]

/-- An input of a merge that holds nothing is stamped under its source (R32). -/
theorem stampFrom_of_free {s : State} (h : holdAll s = false) (src : Nat) (op : InOp) (ack : AckTo) (origin : Nat) :
    stampFrom src op ack origin s = stampInput src op ack origin 0 0 s := by
  simp [stampFrom, h]

/-! ## The twin link -/

@[simp] theorem pumpTx_zero (s : State) : pumpTx 0 s = s := rfl

/-- Sending the waiting frames (R90, R117) is a run of transmissions: what a transmission keeps, it keeps. -/
theorem pumpTx_ind {P : State → Prop}
    (h : ∀ (f : Frame) (rest : List Frame) (t : State), P t →
      P (txFrame f { t with twin := { t.twin with txQueue := rest } })) :
    ∀ (n : Nat) (s : State), P s → P (pumpTx n s)
  | 0, _, hs => hs
  | n + 1, s, hs => by
    unfold pumpTx
    cases s.twin.txQueue with
    | nil => exact hs
    | cons f rest =>
      simp only
      split
      · exact pumpTx_ind h n _ (h f rest s hs)
      · exact hs

/-- A fact that neither a transmission, nor RXSEQ, nor the time of the last frame touches holds where a frame is
looked at. -/
theorem frameSeen_ind {P : State → Prop} (h : FrameHdr) (s : State)
    (hf : ∀ (f : Frame) (rest : List Frame) (t : State), P t →
      P (txFrame f { t with twin := { t.twin with txQueue := rest } }))
    (hs : P (modTwin (fun t => { t with
        retryBuf := t.retryBuf.filter (fun x => decide (2 ^ 31 ≤ (h.linkAck + 2 ^ 32 - x.1.linkSeq) % 2 ^ 32)) })
      (modTwin (fun t => { t with rxSeq := (t.rxSeq + 1) % 2 ^ 64 })
        (modTwin (fun t => { t with heardUtl := now s, utlLost := false }) s)))) :
    P (frameSeen h s) :=
  pumpTx_ind hf _ _ hs

section
variable (h : FrameHdr) (s : State)
@[simp] theorem frameSeen_role : (frameSeen h s).twin.role = s.twin.role :=
  frameSeen_ind (P := fun t => t.twin.role = s.twin.role) h s (fun _ _ _ k => k) rfl
@[simp] theorem frameSeen_epoch : (frameSeen h s).twin.epoch = s.twin.epoch :=
  frameSeen_ind (P := fun t => t.twin.epoch = s.twin.epoch) h s (fun _ _ _ k => k) rfl
@[simp] theorem frameSeen_link : (frameSeen h s).twin.link = s.twin.link :=
  frameSeen_ind (P := fun t => t.twin.link = s.twin.link) h s (fun _ _ _ k => k) rfl
@[simp] theorem frameSeen_handover : (frameSeen h s).twin.handover = s.twin.handover :=
  frameSeen_ind (P := fun t => t.twin.handover = s.twin.handover) h s (fun _ _ _ k => k) rfl
@[simp] theorem frameSeen_resync : (frameSeen h s).twin.resync = s.twin.resync :=
  frameSeen_ind (P := fun t => t.twin.resync = s.twin.resync) h s (fun _ _ _ k => k) rfl
@[simp] theorem frameSeen_digDone : (frameSeen h s).twin.digDone = s.twin.digDone :=
  frameSeen_ind (P := fun t => t.twin.digDone = s.twin.digDone) h s (fun _ _ _ k => k) rfl
@[simp] theorem frameSeen_rekeying : (frameSeen h s).twin.rekeying = s.twin.rekeying :=
  frameSeen_ind (P := fun t => t.twin.rekeying = s.twin.rekeying) h s (fun _ _ _ k => k) rfl
@[simp] theorem frameSeen_features : (frameSeen h s).twin.features = s.twin.features :=
  frameSeen_ind (P := fun t => t.twin.features = s.twin.features) h s (fun _ _ _ k => k) rfl
@[simp] theorem frameSeen_peerRole : (frameSeen h s).twin.peerRole = s.twin.peerRole :=
  frameSeen_ind (P := fun t => t.twin.peerRole = s.twin.peerRole) h s (fun _ _ _ k => k) rfl
@[simp] theorem frameSeen_lagHold : (frameSeen h s).twin.lagHold = s.twin.lagHold :=
  frameSeen_ind (P := fun t => t.twin.lagHold = s.twin.lagHold) h s (fun _ _ _ k => k) rfl
@[simp] theorem frameSeen_rxSeq : (frameSeen h s).twin.rxSeq = (s.twin.rxSeq + 1) % 2 ^ 64 :=
  frameSeen_ind (P := fun t => t.twin.rxSeq = (s.twin.rxSeq + 1) % 2 ^ 64) h s (fun _ _ _ k => k) rfl
@[simp] theorem frameSeen_pending : (frameSeen h s).pending = s.pending :=
  frameSeen_ind (P := fun t => t.pending = s.pending) h s (fun _ _ _ k => k) rfl
@[simp] theorem frameSeen_fuse : (frameSeen h s).fuse = s.fuse :=
  frameSeen_ind (P := fun t => t.fuse = s.fuse) h s (fun _ _ _ k => k) rfl
@[simp] theorem frameSeen_pwr : (frameSeen h s).pwr = s.pwr :=
  frameSeen_ind (P := fun t => t.pwr = s.pwr) h s (fun _ _ _ k => k) rfl
@[simp] theorem frameSeen_clk : (frameSeen h s).clk = s.clk :=
  frameSeen_ind (P := fun t => t.clk = s.clk) h s (fun _ _ _ k => k) rfl
@[simp] theorem frameSeen_tier : (frameSeen h s).tier = s.tier :=
  frameSeen_ind (P := fun t => t.tier = s.tier) h s (fun _ _ _ k => k) rfl
@[simp] theorem frameSeen_seqr : (frameSeen h s).seqr = s.seqr :=
  frameSeen_ind (P := fun t => t.seqr = s.seqr) h s (fun _ _ _ k => k) rfl
@[simp] theorem frameSeen_flt : (frameSeen h s).flt = s.flt :=
  frameSeen_ind (P := fun t => t.flt = s.flt) h s (fun _ _ _ k => k) rfl
@[simp] theorem frameSeen_cfg : (frameSeen h s).cfg = s.cfg :=
  frameSeen_ind (P := fun t => t.cfg = s.cfg) h s (fun _ _ _ k => k) rfl
@[simp] theorem frameSeen_regs : (frameSeen h s).regs = s.regs :=
  frameSeen_ind (P := fun t => t.regs = s.regs) h s (fun _ _ _ k => k) rfl
end

/-- An epoch gate of the node's own epoch, at a node with a role, lets the frame through (R121). -/
theorem epochGate_of_own {s : State} {h : FrameHdr} (hr : s.twin.role ≠ .unset) (he : h.epoch = s.twin.epoch)
    (endSeq : Option Nat) (ack : Bool) (f : State → State) : epochGate h endSeq ack f s = f s := by
  simp [epochGate, hr, he]

/-- A frame of the UTL in order and of the node's own epoch is acted on, in the state that has seen it (R117,
R118, R121). -/
theorem onUtl_of_frame {s : State} {h : FrameHdr} (hf : FrameIn s h) (endSeq : Option Nat) (ack : Bool)
    (f : State → State) : onUtl h endSeq ack f s = f (frameSeen h s) := by
  obtain ⟨h1, h2, h3, h4, h5, h6, h7, h8⟩ := hf
  have e : ackFrames h.linkAck (modTwin (fun t => { t with rxSeq := (t.rxSeq + 1) % 2 ^ 64 })
      (modTwin (fun t => { t with heardUtl := now s, utlLost := false }) s)) = frameSeen h s := rfl
  simp only [onUtl, h1, h2, h3, h4, h5, h6, e, copRead_zero, Bool.not_true, Bool.or_self, Bool.false_eq_true, if_false,
    if_true, ne_eq, not_true, decide_false]
  exact epochGate_of_own (by simpa using h7) (by simpa using h8) endSeq ack f

/-- The same for a message that may come by either way, when it comes by the UTL. -/
theorem onEither_of_frame {s : State} {h : FrameHdr} (hf : FrameIn s h) (endSeq : Option Nat) (f : State → State) :
    onEither h endSeq f s = f (frameSeen h s) := by
  rw [onEither, hf.2.1, if_neg (by simp), onUtl_of_frame hf]

end Sys2Proof.Machine
end

