-- ==== Sys2Proof/Tests/Slice0.lean ====
section
/-!
SUPPORT. The model's own tests: states that meet the hypotheses of every statement, terms that the checks of
WellFormed refuse, and values worked out from the spec.
-/

namespace Sys2Proof.Tests

open Sys2Proof Sys2Proof.Machine

set_option Elab.async false

/-! ## States of the tests

A node at READY that serves, with one of each thing a command can name. -/

/-- A table whose first step enables rail 0. -/
def ptable : PTable :=
  { steps := [⟨0, 10, 10, 1⟩, ⟨1, 10, 10, 1⟩], retries := 1, stretch := [1, 1, 1, 1], depends := [0, 0, 0, 0], throttle := 0,
    restartHold := false, checked := true, estoreReq := false }

/-- An image of a twin node. -/
def image1 : Image :=
  { twin := some {}, nand := { parity := true, blocks := 100, pages := 64, ndies := 1, luns := 1, nch := 16, peRating := 0 } }

def decoder0 : Decoder := ⟨0x4000000000, 0x100000000, 1, 4096, 0, 0, false⟩

def grove3 : GroveRec := ⟨3, 0, .loc, 1, 0, 0, 4, 8, 0, [], []⟩

def window3 : Window := ⟨0, 0x1000000, 3, 0, true, true, true⟩

def class0 : PeerClass := ⟨0, 0, none, false, 64, 64, 8, 0⟩

def peer0 : Peer := ⟨1, 0, 2, 0xFFFFFFFE, 4096, 0, 0x100000, 0x100000, 0, 0, 0, 0, 0, [], [], false⟩

def qp5 : Qp := ⟨0, 9, 0, none, 0, 0, [], [], [], 0, 0, 0x100000, 0x100000, 0, [], 0, [], 0, 0, false, 0⟩

/-- READY, serving, everything there. -/
def up : State :=
  { State.reset with
    pwr := { aon := true, state := .on, stage := 10, ready := true, en := 0xFFF, pg := 0xFFF }
    clk := { running := BitVec.allOnes 28, mclk := true }
    therm := { began := true }
    twin := { role := .solo }
    can := { enabled := true }
    seqr := { mergeSet := [0, 304] }
    dram := { chs := [(0, { state := .online, lranks := 2 })], sets := [(0, { valid := true, frames := 1024 })] }
    nand := { dies := [(0, { state := .online })], t2Tiles := 1000 }
    host := {
      ports := [(0, { formed := true, link := .up, width := 16, rate := 6, maxWidth := 16 })]
      lds := [(0, { present := true, entries := 16, decs := [(0, some decoder0)] })] }
    net := {
      ports := [(0, { formed := true, up := true, held := false, addrs := [7] })], classes := [class0]
      peers := [(0, some peer0)], qps := [(5, some qp5)], cached := [5] }
    tier := { md := {
      groves := [(3, some grove3)], map := [(0, some ⟨true, true, true, false, 0, 3, 0⟩)]
      tiles := [(tkey 3 0, { frame := some 5 })], keys := [(9, some ⟨9, [window3], true, 0⟩)] } }
    cipher := { slots := [(0, { state := .loaded, bind := 1 }), (1, { state := .loaded, bind := 1, target := 3 })], lanesUp := true }
    cfg := { img := some image1, spRun := true, running := 1, node := { active := 1, lastRole := .solo } }
    integ := { scrubbing := true } }

def req0 : CxlReq := ⟨0, 0, 7, 0x4000000040⟩

/-- A packet of queue pair 5 from its peer, in order. -/
def pkt : Pkt := ⟨0, 0, 1, true, true, true, 2, 0, 128, 5, 0, 9, 0x40, 0, 0, false⟩

/-- The UTL is UP and the node leads. -/
def leads : State :=
  { up with twin := { role := .leader, peerRole := .standby, link := .up, features := 0x1F, lanes := 0xFFFF } }

/-- The UTL is UP and the node stands by. -/
def stands : State := { leads with twin := { leads.twin with role := .standby, peerRole := .leader } }

/-- The UTL is UP and the node joins. -/
def joins : State := { leads with twin := { leads.twin with role := .joining, resync := 1 } }

def frame0 : FrameHdr := ⟨true, 0, false, false, 1, 0, 0, 0⟩

def qent : QEntry := ⟨1, 7, true, false, 0, 0, ⟨1000, 2, 3, 1⟩, false, false⟩

/-- One schedule entry is staged: tile 2 of grove 3. -/
def sched : State := { up with tier := { up.tier with md := { up.tier.md with queue := [qent] } } }

def sched1 : State := (copAlloc 3 288 false sched).getD sched

/-- A tile of T2 with a sector to repair. -/
def repairs : State :=
  { leads with tier := { leads.tier with
    repairs := [⟨3, 0, 1, [], 0, false, []⟩]
    md := { leads.tier.md with tiles := [(tkey 3 0, { frame := some 5, t2 := some 8, sealed_ := true })] } } }

/-- Set 0 is being emptied into set 1. -/
def evac : State :=
  { up with
    dram := { sets := [(0, { valid := true, state := 1, frames := 1024, degraded := 2 }), (1, { valid := true, base := 2048, frames := 1024 })] }
    tier := { md := { groves := [(3, some grove3)], tiles := [(tkey 3 0, { frame := some 5, pinned := true })] }, owner := [(5, some (tkey 3 0))] } }

/-- Three of four superblocks hold a tile each, and the start level is high. -/
def reclaims : State :=
  setFld .nandReclaimCfg 0 7 0 255 { up with
    cfg := { up.cfg with img := some { image1 with nand := { image1.nand with blocks := 5 } } }
    nand := {
      dies := [(0, { state := .online })]
      owners := [(8, some ⟨1, 3, 1, 0, []⟩), (1032, some ⟨2, 3, 2, 0, []⟩), (2056, some ⟨3, 3, 3, 0, []⟩)] }
    tier := { md := { tiles := [(tkey 3 1, { t2 := some 8 }), (tkey 3 2, { t2 := some 1032 }), (tkey 3 3, { t2 := some 2056 })] } } }

theorem evac_target : evacTarget evac 0 = some ((evacTarget evac 0).getD 0) := by
  have h : (evacTarget evac 0).isSome = true := by
    unfold evacTarget pickFrame
    dsimp only
    split
    · rfl
    · decide +kernel
  cases x : evacTarget evac 0 with
  | none => rw [x] at h; cases h
  | some n => rfl

theorem pkt_in (h : Pkt) (hp : h.port = 0 ∧ h.srcIp = 1 ∧ h.wireOk = true ∧ h.tagOk = true ∧ h.mem = 0 ∧ h.hdrOk = true
    ∧ h.qpn = 5 ∧ h.ver = 2) (w : Option Nat) (he : ∀ n, w = some n → h.ext = n) : QpPacket up h w := by
  obtain ⟨a, b, c, d, e, f, g, k⟩ := hp
  have hx : extOk up h w = true := by
    unfold extOk
    rw [b, show peerAt up 1 = some (0, peer0) by decide +kernel]
    cases w with
    | none => simp [k, peer0]
    | some n => simp [k, peer0, he n rfl, bitOf, b2n]
  unfold QpPacket PacketIn
  rw [hx, a, b, c, d, e, f, g]
  decide +kernel

/-- The descriptor at the head of the ring is an AES-XTS of 32 bytes with slot 4. -/
def ring : State :=
  setFld .ciphRqTail 0 11 0 1 (setFld .ciphRqSize 0 3 0 4 { up with cipher := {
    slots := [(4, { state := .loaded, bind := 5, pair := true })]
    spMem := [(0, 0x10), (2, 4), (4, 32)] } })

/-- Bare boot (R405): stage 5 is stopped and the service processor serves the serial path. -/
def bare : State := { up with pwr := { up.pwr with stage := 5, boot := 3, stopped := true } }

/-- Stage 2, the first rail's PG awaited. -/
def rails : State :=
  { State.reset with pwr := { aon := true, state := .powerUp, stage := 2, sector := some ptable, table := some ptable } }

def stage1In : Stage1In := ⟨true, false, 1, 0, false⟩

def tierReg : RegSpec := { id := .tierCellarMode, name := "TIER_CELLAR_MODE", base := 0x05000000, clear := .reset, fields := [⟨1, 0, .rwl, 1, 0, 0x3⟩] }

def input0 : Input := ⟨304, 16, 304, .log (.flush 5 .loc), .none, 304, 0, 0, 0⟩

def record0 : PwrRec := ⟨2 ^ 64 - 1, 1024, 0x13, 15, 7, 0xFFF, 0xFFF, true, true, false, 13, 25, 1, 2 ^ 32 - 1, [(11, 0xFFFF)], false⟩

def neg0 : NegRec :=
  { maxVer := 3, minVer := 2, nodeB := false, lastRole := .solo, features := 0, epoch := 0, lastSeq := 0, incomplete := false,
    t1Survived := false, policy := 0, thb := 20, fence := 5, layoutId := 0, rand := 0, gtc := 0, stage9 := false }

theorem demotion_exec : exec (.demotion []) State.reset = .next State.reset := congrArg Host.Outcome.next (by decide +kernel)

theorem demotion_step : step { State.reset with pending := [.demotion []] } = .next State.reset :=
  congrArg Host.Outcome.next (by decide +kernel)

theorem idle_step : step State.reset = .next State.reset := congrArg Host.Outcome.next (by decide +kernel)

theorem jtag_step : exec .bypass State.reset = .next State.reset :=
  congrArg Host.Outcome.next (by decide +kernel)

/-! ## A configuration image -/

/-- The sections of a small image, low bytes first: type, place and bytes. -/
def imageSecs : List ImgSec :=
  [⟨1, 0, 152, 32, 0, leBytes 32 0x0⟩ /- IDENT (R361) -/,
   ⟨3, 0, 184, 32, 0, leBytes 32 0x4000000004000000400000000000000000000000020010000100006060⟩ /- LANES: ports 0 and 4 with one LD each (R362) -/,
   ⟨4, 0, 216, 96, 0, leBytes 96 0x10202020000000000003018000003e800010050⟩ /- DRAM: channel 0 alone, one set (R363) -/,
   ⟨5, 0, 312, 96, 0, leBytes 96 0x2805141e0e012c01f40000753000000bb8000a08240000000000000000000000000000000000000000000000000000000000000000000000000000000000000000000000000000020008000010040003e801010404⟩ /- NAND: 4 channels of 4 dies (R364) -/,
   ⟨6, 0, 408, 32, 0, leBytes 32 0xd00000000006400641907000400000050⟩ /- TIERS: META of 80 extents, slot 13 (R365) -/,
   ⟨7, 0, 440, 32, 0, leBytes 32 0x10000⟩ /- GROVES: none (R366) -/,
   ⟨12, 0, 472, 24, 0, leBytes 24 0x101000d00000000000102020202000000000001⟩ /- CIPHER: slot 13 bound to GROVE (R370) -/]

/-- A small format 3 image (R357 to R370, R360) of 1,024 bytes: header, section table, sections, signature block. -/
def imageBytes : List Byte :=
  leBytes 64 0x7000004000000480800000007004000034e4d4547
    ++ leBytes 88 0x18000001d80000000c00000020000001b80000000700000020000001980000000600000060000001380000000500000060000000d80000000400000020000000b800000003000000200000009800000001
    ++ (imageSecs.map (·.bytes)).flatten ++ leBytes 320 0 ++ leBytes 208 1

/-- What the controller reads from it. -/
def rawImage : RawImg := ⟨0x4E4D4547, 3, 64, 7, 0x4808, 0, 0, 1024, 7, imageSecs, 1, 0⟩

/-- Bytes stored from address `b` up. -/
def cells (b : Nat) (l : List Byte) : SMap Byte :=
  match l with
  | [] => []
  | x :: r => (b, x) :: cells (b + 1) r

theorem get_cells (d : Byte) : ∀ (l : List Byte) (b i : Nat), SMap.get (cells b l) d (b + i) = l.getD i d
  | [], _, _ => rfl
  | x :: r, b, 0 => by simp [cells, SMap.get]
  | x :: r, b, i + 1 => by
    have h := get_cells d r (b + 1) i
    rw [show b + 1 + i = b + (i + 1) by omega] at h
    simp [cells, SMap.get, h]

theorem run_cells (d : Byte) (l : List Byte) (b a n : Nat) (h1 : b ≤ a) (h2 : a - b + n ≤ l.length) :
    SMap.readRun (cells b l) d a n = (l.drop (a - b)).take n := by
  apply List.ext_getElem
  · simp [SMap.readRun]; omega
  · intro i h3 h4
    simp only [SMap.readRun, List.length_map, List.length_range] at h3
    simp only [SMap.readRun, List.getElem_map, List.getElem_range, List.getElem_take, List.getElem_drop]
    rw [show a + i = b + (a - b + i) by omega, get_cells, List.getD_eq_getElem?_getD, List.getElem?_eq_getElem (by omega)]
    rfl

/-- The bytes of `l`, stored from `b`, at a store address. -/
def bytesAt (l : List Byte) (b a n : Nat) : List Byte :=
  if b ≤ a ∧ a - b + n ≤ l.length then (l.drop (a - b)).take n else SMap.readRun (cells b l) 0xFF a n

theorem storeBytes_at (s : State) (l : List Byte) (b : Nat) (h : s.cfg.flash = cells b l) : storeBytes s = bytesAt l b := by
  funext a n
  unfold storeBytes bytesAt
  rw [h]
  split
  · rename_i hb
    exact run_cells _ _ _ _ _ hb.1 hb.2
  · rfl

/-- The image in bank A of a small part; no bring-up has run. -/
def imgState : State :=
  { State.reset with
    fuse := { part := .sbx4808 }
    pwr := { aon := true, state := .on, stage := 10, pg := 0xFFF, stopped := true }
    cfg := { flash := cells 0x800000 imageBytes, spRun := true } }

/-- READY, with the image's DRAM layout and an update in bank A. -/
def imgReady : State :=
  { imgState with
    pwr := { imgState.pwr with stopped := false }
    dram := {
      chs := [(0, { state := .online, capGib := 256, lranks := 4, density := 2 })]
      sets := [(0, { valid := true, frames := 4194304 })] }
    cfg := { imgState.cfg with pldmBank := 1 } }

/-- Stage 6 of a cold bring-up. -/
def bringUp6 : State :=
  { imgState with
    pwr := { imgState.pwr with stage := 6, stopped := false }
    cfg := { imgState.cfg with running := 1, cand := some (parseImage rawImage) } }

def okBank : BankVerdict := ⟨true, true, true, true⟩

theorem raw_image (s : State) (h : s.cfg.flash = cells 0x800000 imageBytes) : readRaw s 1 = rawImage := by
  unfold readRaw readSec storeLe
  rw [storeBytes_at s _ _ h]
  decide +kernel

theorem small_bank : bankFail imgState 1 okBank = none := by
  unfold bankFail stage5Fail
  rw [raw_image imgState rfl]
  decide +kernel

theorem relayout_none (s : State) (im : Image) (h : SMap.present (storedMeta s).groves = []) : relayoutBad s im = false := by
  simp [relayoutBad, h]

theorem ready_bank : bankFail imgReady 1 okBank = none := by
  unfold bankFail stage5Fail stage6Fail chkStored
  rw [relayout_none _ _ (by decide +kernel), raw_image imgReady rfl]
  decide +kernel

/-- Stage 7 of a cold bring-up with one channel of one set. -/
def bringUp7 : State :=
  { up with
    pwr := { up.pwr with stage := 7 }
    cfg := { up.cfg with img := some { image1 with dram := { chans := [⟨2, 2, 2, 1⟩], sets := [⟨0, 0, 0, 0, 0, 0⟩] } } } }

/-- A landing entry of line 1 of grove 3, being drained or not. -/
def landed (d : Bool) : State := { up with can := { land := [(lkey 3 1, some ⟨0, 1, false, d, false, [1], 0⟩)] } }

/-- Its request is in the queue of its subchannel. -/
def draining : State := (passReq .drain 3 1 2 (qosOf (landed true) 3) (landed true)).getD up

/-- A read of line 1 of grove 3 missed. -/
def filling : State := { up with can := { miss := [(sliceOf up 3 1, [⟨3, 1, [], 0, 0, false, 0⟩])] } }

/-- A line waits in the eviction tracker. -/
def evicting : State := { up with can := { trk := [(sliceOf up 3 1, [⟨3, 1, 0, 1, false, false, none⟩])] } }

/-- A program of slot 8 is the next operation of its die. -/
def programming1 : State :=
  { up with
    nand := { dies := [(0, { state := .online, queue := [⟨11, .wordline (wlOf up 8)⟩] })] }
    tier := { progs := [⟨4, .trickle, 3, 0, 8, [], 0, 11, false⟩] } }

/-- Tile 1 of grove 3 stands in slot 8. -/
def placed8 : State :=
  { up with
    nand := { dies := [(0, { state := .online })], owners := [(8, some ⟨1, 3, 1, 0, []⟩)] }
    tier := { md := { tiles := [(tkey 3 1, { t2 := some 8 })] } } }

def repair1 : Repair := ⟨3, 0, 1, [], 0, false, []⟩

theorem repairs_put : putRepair repair1 [] repairs = some ((putRepair repair1 [] repairs).getD repairs) := by
  have h : (putRepair repair1 [] repairs).isSome = true := by
    unfold putRepair
    rw [show (tile repairs repair1.grove repair1.tile).t2 = some 8 by decide +kernel]
    simp only [Option.isSome_map]
    cases b : takeBuf true (dropReloc repair1.grove repair1.tile repairs) with
    | none => exact absurd (congrArg Option.isSome b) (by decide +kernel)
    | some v =>
      have d : pickSlot v none = pickSlot ((takeBuf true (dropReloc 3 0 repairs)).getD repairs) none := by
        rw [show takeBuf true (dropReloc 3 0 repairs) = some v from b]; rfl
      have c : t2Cands ((takeBuf true (dropReloc 3 0 repairs)).getD repairs) none ≠ [] := by decide +kernel
      have k : (pickSlot v none).isSome = true := by
        rw [d]
        unfold pickSlot
        split
        · rename_i e; exact absurd e c
        · rfl
      simp only [Option.bind_some]
      unfold placeProg
      cases e : pickSlot v none with
      | none => rw [e] at k; cases k
      | some n => rfl
  cases x : putRepair repair1 [] repairs with
  | none => rw [x] at h; cases h
  | some n => rfl

/-! ## Ill-formed terms

One for each check of WellFormed, which it refuses. -/

theorem test_wf_path_port : wfPath (.mailbox 16 0) = false := by decide
theorem test_wf_path_ld : wfPath (.mailbox 0 16) = false := by decide
theorem test_wf_req :
    wfReq ⟨16, 0, 0, 0⟩ = false ∧ wfReq ⟨0, 16, 0, 0⟩ = false ∧ wfReq ⟨0, 0, 65536, 0⟩ = false ∧ wfReq ⟨0, 0, 0, 8⟩ = false := by decide
theorem test_wf_pkt :
    wfPkt { pkt with port := 8 } = false ∧ wfPkt { pkt with mem := 3 } = false ∧ wfPkt { pkt with qpn := 2 ^ 24 } = false
      ∧ wfPkt { pkt with psn := 2 ^ 32 } = false ∧ wfPkt { pkt with addr := 2 ^ 64 } = false ∧ wfPkt { pkt with length := 2 ^ 32 } = false
      ∧ wfPkt { pkt with ver := 16 } = false ∧ wfPkt { pkt with ext := 16 } = false := by
  decide
def hello0 : HelloBody := ⟨true, 2, 1, 4096, 0, 5, 0, 0⟩
theorem test_wf_hello :
    wfHello { hello0 with maxVer := 256 } = false ∧ wfHello { hello0 with minVer := 256 } = false
      ∧ wfHello { hello0 with maxPayload := 65536 } = false ∧ wfHello { hello0 with features := 2 ^ 32 } = false
      ∧ wfHello { hello0 with cookie := 2 ^ 32 } = false ∧ wfHello { hello0 with initPsn := 2 ^ 32 } = false := by decide
theorem test_wf_hdr :
    wfHdr { frame0 with mem := 3 } = false ∧ wfHdr { frame0 with ver := 16 } = false ∧ wfHdr { frame0 with linkSeq := 2 ^ 32 } = false
      ∧ wfHdr { frame0 with linkAck := 2 ^ 32 } = false ∧ wfHdr { frame0 with epoch := 2 ^ 32 } = false := by decide
theorem test_wf_reserved_type : wfReservedType 1 = false ∧ wfReservedType 8 = false ∧ wfReservedType 256 = false := by decide
def entry0 : SchedEntry := ⟨0, 0, 0, 1⟩
theorem test_wf_entry :
    wfEntry { entry0 with deadline := 2 ^ 64 } = false ∧ wfEntry { entry0 with firstTile := 2 ^ 32 } = false
      ∧ wfEntry { entry0 with grove := 1024 } = false ∧ wfEntry { entry0 with count := 0 } = false
      ∧ wfEntry { entry0 with count := 2 ^ 22 } = false := by decide
def sched0 : SchedCmd := { cmd := 0, id := 1, target := false, late := false, lateBound := 0, hold := 0, origin := 0, entries := [] }
theorem test_wf_sched :
    wfSched { sched0 with cmd := 3 } = false ∧ wfSched { sched0 with id := 0 } = false ∧ wfSched { sched0 with id := 4096 } = false
      ∧ wfSched { sched0 with hold := 1000001 } = false ∧ wfSched { sched0 with entries := [{ entry0 with count := 0 }] } = false
      ∧ wfSched { sched0 with entries := List.replicate 256 entry0 } = false := by decide +kernel
theorem test_wf_window :
    wfWindow { window3 with base := 2 ^ 64 } = false ∧ wfWindow { window3 with len := 2 ^ 64 } = false
      ∧ wfWindow { window3 with off := 2 ^ 64 } = false ∧ wfWindow { window3 with grove := 1024 } = false := by decide
theorem test_wf_decoder :
    wfDecoder { decoder0 with ways := 0 } = false ∧ wfDecoder { decoder0 with pos := 1 } = false
      ∧ wfDecoder { decoder0 with dpaBase := 2 ^ 46 } = false := by decide
theorem test_wf_extent :
    wfExtent ⟨2 ^ 22, 1, 0, 0⟩ = false ∧ wfExtent ⟨0, 0, 0, 0⟩ = false ∧ wfExtent ⟨0, 1, 1024, 0⟩ = false ∧ wfExtent ⟨0, 1, 0, 2 ^ 24⟩ = false := by
  decide
theorem test_wf_rec :
    wfRec ⟨2 ^ 64, 0, .keyRevoke 0⟩ = false ∧ wfRec ⟨0, 4096, .keyRevoke 0⟩ = false ∧ wfRec ⟨0, 0, .write 1024 []⟩ = false
      ∧ wfRec ⟨0, 0, .write 0 [⟨2 ^ 42, 0, 0⟩]⟩ = false ∧ wfRec ⟨0, 0, .atomic 0 0 4 none⟩ = false ∧ wfRec ⟨0, 0, .flush (2 ^ 24) .loc⟩ = false
      ∧ wfRec ⟨0, 0, .sealOp 1024 0 0⟩ = false ∧ wfRec ⟨0, 0, .unsealOp 0 0 (2 ^ 32)⟩ = false ∧ wfRec ⟨0, 0, .sched { sched0 with id := 0 }⟩ = false
      ∧ wfRec ⟨0, 0, .grove { grove3 with op := 5 }⟩ = false ∧ wfRec ⟨0, 0, .mapOp 256 0 ⟨true, true, true, false, 0, 3, 0⟩⟩ = false
      ∧ wfRec ⟨0, 0, .keyReg ⟨9, [{ window3 with grove := 1024 }], true, 0⟩⟩ = false ∧ wfRec ⟨0, 0, .lsa 256 0 []⟩ = false
      ∧ wfRec ⟨0, 0, .reserved 8⟩ = false := by decide +kernel
def chunk0 : Chunk := ⟨3, 0, 0, 0, .zero⟩
theorem test_wf_chunk :
    wfChunk { chunk0 with grove := 1024 } = false ∧ wfChunk { chunk0 with tile := 2 ^ 32 } = false ∧ wfChunk { chunk0 with chunk := 8 } = false
      ∧ wfChunk { chunk0 with asOf := 2 ^ 64 } = false ∧ wfChunk { chunk0 with body := .data [] } = false
      ∧ wfChunk { chunk0 with body := .repair (some []) } = false ∧ wfChunk { chunk0 with body := .sealStamp 0 4096 } = false := by decide
theorem test_wf_neg :
    wfNeg { neg0 with maxVer := 256 } = false ∧ wfNeg { neg0 with minVer := 256 } = false ∧ wfNeg { neg0 with features := 2 ^ 32 } = false
      ∧ wfNeg { neg0 with epoch := 2 ^ 32 } = false ∧ wfNeg { neg0 with lastSeq := 2 ^ 64 } = false ∧ wfNeg { neg0 with gtc := 2 ^ 64 } = false := by
  decide
theorem test_wf_reads :
    wfReads [⟨1024, 0, .clean⟩] = false ∧ wfReads [⟨0, 2 ^ 42, .clean⟩] = false ∧ wfBelow 4 [3, 4] = false := by decide

/-- A term of each command that has a bounded operand, with the last of them out of its bounds. -/
theorem test_ill_formed_refused : ([.memRd ⟨16, 0, 0, 0⟩ .ok, .memSpecRd ⟨16, 0, 0, 0⟩, .memInv ⟨16, 0, 0, 0⟩, .memWr ⟨16, 0, 0, 0⟩ 0 true,
   .memWrPtl ⟨16, 0, 0, 0⟩ 0 0 true, .unsupportedM2sOpcode ⟨16, 0, 0, 0⟩ true, .gpfPhase1 16, .gpfPhase2 16,
   .gpfPhase2Complete 16, .gpfPhase2Overtime 16, .sourceHeartbeat 0 3, .mergeStall 316,
   .landingDrain 0 4398046511104, .landingDrainDone 0 4398046511104 .clean, .canopyFill 0 4398046511104 .clean .ok, .evictionWritten 0 4398046511104 .ok .clean,
   .promotionLineArrival 0 4294967296, .promotionComplete 0 4294967296, .demotion [⟨1024, 0, .clean⟩], .trickle [⟨1024, 0, .clean⟩],
   .seal .sp 0 0 0 4294967296, .unseal .sp 0 0 0 4294967296, .sealCopy 0 0 [⟨1024, 0, .clean⟩], .post .sp 0 true { sched0 with id := 0 },
   .append .sp 0 true { sched0 with id := 0 }, .cancel .sp 0 true { sched0 with id := 0 }, .t2RepairDone 0 4294967296 .failed, .poisonClear (.mailbox 16 0),
   .cellarDrain [⟨1024, 0, .clean⟩], .clean .sp 1024 [], .invalidate .sp 1024 [], .cleanInvalidate .sp 1024 [],
   .zeroRange .sp 1024, .canopyDisable (.mailbox 16 0) [], .canopyEnable (.mailbox 16 0), .zqCalibration 16,
   .dqsDriftCompensation 16, .refreshDue 0 64, .mr4Poll 16 [], .selfRefreshEntry 16,
   .caParityAlert 0 2 true, .patrolRead 16 .clean none, .evacuate .sp 16, .frameMove [⟨1024, 0, .clean⟩],
   .frameMoveComplete 0 0 [⟨1024, 0, .clean⟩], .returnSet .sp 16, .abortEvac .sp 16, .ueClear .sp 16,
   .nandReadComplete 0 0 16 .hard, .nandEraseDone 0 0 4096 true, .relocation 0 [(2 ^ 32, .hard)], .staticWearLevel 0 32,
   .readDisturbLimit 0 0 4096, .stripeParityTimeout 0 0 0 65536, .dieDead 0 32, .backgroundScan 0 16 .hard,
   .hostLaneFailure 0 0 7, .hostLinkDown 16, .hotReset 16, .pmeTurnOff 16,
   .decoderCommit 0 0 0 { decoder0 with ways := 0 }, .initiateDynamicCapacityAdd 0 0 0 0 [⟨0, 0, 0, 0⟩], .addDynamicCapacityResponse 0 0 0 [⟨0, 0, 0, 0⟩], .releaseDynamicCapacity 0 0 0 [⟨0, 0, 0, 0⟩],
   .forcedDynamicCapacityRelease 0 0 0 [⟨0, 0, 0, 0⟩], .identifyMemoryDevice 0 0 16, .setPartitionInfo 0 0 16, .setLsa 0 0 0 67108864 [],
   .getPoisonList 0 0 0 0 4503599627370496, .clearPoison 0 0 0 70368744177664 0, .injectPoison 0 0 0 70368744177664, .ideKmKeyProg 16 true 0,
   .keyGo 16 true, .ideFail 16, .isolate .sp 16, .hostPortRelease .sp 16,
   .retrain .sp 0 0 7, .logClear .sp 16, .hello pkt { hello0 with maxVer := 256 }, .write { pkt with port := 8 } [],
   .readReq { pkt with port := 8 }, .flush pkt 3, .flushAck 0 4294967296, .atomicFadd { pkt with port := 8 } 0,
   .atomicCas { pkt with port := 8 } 0 0, .ack { pkt with port := 8 } true, .credit { pkt with port := 8 }, .notify pkt 0 4294967296,
   .notifyRetransmit 16777216, .close pkt 256, .peerClose { pkt with port := 8 }, .closeComplete 16777216,
   .reservedOpcode pkt 256, .ackDelayExpiry 16777216, .qpContextFetch 16777216, .peerIdleTimeout 65536,
   .keyRegister .sp 0 [] true 64, .keyRevoke .sp 65536 0, .closeQp .sp 16777216, .closePeer .sp 65536,
   .arpRequest 8 0, .neighborSolicitation 8 0, .icmpEcho 8 0 true, .pauseFrame 8,
   .ptpEventMessage 0 true 0 65536, .ptpTimestampPop .sp 8, .netLinkChange 8 true, .stampedInput frame0 0 [⟨0, 4096, .keyRevoke 0⟩],
   .landingAck frame0 0 0 18446744073709551616, .heartbeat frame0 .solo 0 0 18446744073709551616, .timeFrame frame0 0 0 18446744073709551616, .digest frame0 18446744073709551616 0,
   .resyncData frame0 { chunk0 with chunk := 8 }, .epochFrame frame0 18446744073709551616 .solo, .reservedFrameType frame0 1, .negotiate frame0 { neg0 with maxVer := 256 } 0,
   .retryReq frame0 4294967296, .laneChange { frame0 with mem := 3 } 0 true, .leaving frame0 18446744073709551616, .release { frame0 with mem := 3 },
   .releaseAck { frame0 with mem := 3 }, .resyncStart frame0 true 18446744073709551616, .resyncDone frame0 18446744073709551616, .repairReq frame0 0 4294967296 0,
   .rekey { frame0 with mem := 3 } 0, .handoverFrame frame0 18446744073709551616, .handoverAck frame0 4294967296, .recopy { frame0 with mem := 3 } true [],
   .resyncChunkRead [⟨1024, 0, .clean⟩], .handover (.mailbox 16 0), .resume (.mailbox 16 0), .forceLead (.mailbox 16 0),
   .witnessGrant (.mailbox 16 0), .divClear (.mailbox 16 0), .rewiden (.mailbox 16 0), .zeroise .sp 4096,
   .roll .sp 4096, .rollWalk 0 [⟨1024, 0, .clean⟩], .rollComplete 4096, .keyGenerate .sp 0 true 4096,
   .keyImport .sp 0 true 4096 true 0, .rqTailWrite .sp 65536, .ringRestart (.mailbox 16 0), .laneSelfTest 96 true,
   .cipherSaturation 9 0, .verifyBank .sp 3 okBank, .selectBank .sp 3 okBank, .groveCreate .sp 0 0 16777216,
   .groveResize .sp 0 0 16777216, .groveDelete .sp 0 1024, .groveStatus .sp 0 1024, .getVersion .sp 65536,
   .regRead .sp 0 0 4294967296, .regWrite .sp 0 4294967296 [], .storeWrite .sp 0 true 4294967296 [], .storeErase .sp 0 true 4294967296,
   .provision 65536, .powerOn .sp 65536, .powerOff .sp 65536, .powerStatus .sp 65536,
   .powerLogRead .sp 65536, .clear (.mailbox 16 0), .clearing 640, .pgGood 12,
   .pgTimeout 12, .rstoStretchExpiry 4, .pgLoss 12 .beforeLm, .pgFall 12,
   .pgLowTimeout 12, .thermalTrip 16 true 0, .gtcCorrection (.mailbox 16 0) 0, .pllLockLoss 28,
   .refclkLoss 28, .crossingFault 640, .leakTick 640, .graceExpiry 640,
   .severeAcknowledge .sp 20 0, .ackAll (.mailbox 16 0), .releaseGrove .sp 1024, .releasePort .sp 8,
   .flipArm (.mailbox 16 0) 0, .allocationGrant 4, .perfStart (.mailbox 16 0), .perfStop (.mailbox 16 0),
   .perfGlobalClear (.mailbox 16 0), .perfUnitClear .sp 24, .freeze (.mailbox 16 0), .thaw (.mailbox 16 0),
   .recClear (.mailbox 16 0), .flashUnlock (.mailbox 16 0) 0 0, .flashProgram (.mailbox 16 0) 0, .flashErase (.mailbox 16 0),
   .blankCheck (.mailbox 16 0), .flashDataRead (.mailbox 16 0), .rdpRaise (.mailbox 16 0) 0, .rdpLower (.mailbox 16 0) 0,
   .gladeAuth 3, .gladeAccess true 4294967296 0, .challenge .sp 3, .submit (.mailbox 16 0) true,
   .entdaa 128, .setdasa 128, .getLdInfo 65536, .getLdAllocations 0 16,
   .getMultiHeadedInfo 65536, .bindLd 0 0 16, .unbindLd 0 0 16, .setLdAllocations 0 16,
   .pldmFirmwareUpdate 0 67108864 [] true, .loReadLatch .sp 4294967296, .rcRead .sp 4294967296, .registerWrite .sp 4294967296 0,
   .caRecoveryComplete 0 2 true, .returnTrainingComplete 16 [], .hostLinkUp 0 0 7, .configurationRequest 0 0 4294967296,
   .spdmMessage 16 true, .stage8 true [(1024, 0)] [] [], .stage8 true [] [] [2 ^ 32]] : List Instr).all (fun c => !wellFormed c) = true := by decide +kernel

/-! ## Values worked out in the spec

The expected results are those of the spec's own examples and tables. -/

/-- R175's example: grove 5, byte offset 0x1_2345_6780. -/
theorem test_slice_and_set :
    sliceOf State.reset 5 0x48D159E = 14 ∧ setIdx State.reset 5 0x48D159E = 4138
      ∧ sliceOf { State.reset with fuse := { part := .sbx4808 } } 5 0x48D159E = 6 := by decide +kernel

/-- R265's example: position 1 of 2 ways. -/
theorem test_decode_hpa : decodeHpa ⟨0x4000000000, 0x10000000, 2, 4096, 1, 0x100000000, false⟩ 0x4001235678 = some 0x10091A678 := by
  decide +kernel

/-- R210's example, under MAP0 and MAP3, with rank, bank group, bank, row and column as the table has them. -/
def mapped16 (map : Nat) (gran : Bool) : State :=
  { State.reset with dram := {
    chs := (List.range 16).map (fun c => (c, { lranks := 4 }))
    sets := [(0, { valid := true, frames := 2 ^ 26, log2 := 4, map := map, gran := gran })] } }

theorem test_coord_map0 : coordOf (mapped16 0 false) 0x48D15 0x278 = ⟨14, 1, 2, 5, 0, 582, 48⟩ := by decide +kernel

theorem test_coord_map3 : coordOf (mapped16 3 true) 0x48D15 0x278 = ⟨5, 0, 2, 6, 0, 582, 120⟩ := by decide +kernel

/-- R234's example: 1,024 dies of 3,648 blocks. -/
theorem test_t2_tiles :
    t2TilesOf { image1 with nand := { image1.nand with blocks := 3648, pages := 1024, op := 10, parity := true, sparePct := 2 } } 1024 3
      = 3160276992 := by decide +kernel

/-- The stamp order's example: at one GTC value the lower source goes first, and VRMP's source 256 last. -/
def at52000 (src : Nat) : Input := { input0 with src := src, gtc := 52000, lane := src }

theorem test_stamp_order : headOf [at52000 256, at52000 37, at52000 18] = some (at52000 18) := by decide +kernel

/-- R21's example: 8 bytes at byte 8 of a line; the bytes around them keep their values. -/
def bytes8 : LineData := mergeLine (BitVec.allOnes 512) (0x1122334455667788 <<< 64) 0xFF00

theorem test_partial_write : lineByte bytes8 7 = 0xFF ∧ lineByte bytes8 8 = 0x88 ∧ lineByte bytes8 15 = 0x11 ∧ lineByte bytes8 16 = 0xFF := by
  decide +kernel

/-- The CRC-32C check value, and the smallest image is accepted where 1,024 bytes suffice (R357). -/
theorem test_crc : crc32c [0x31, 0x32, 0x33, 0x34, 0x35, 0x36, 0x37, 0x38, 0x39] = 0xE3069283 := by decide +kernel

/-- R432's example: N = 64; the count that reaches 64 makes event 94 severe, and 63 does not. -/
def counted (n : Nat) : State := { up with flt := { src := [(94, some ⟨64, 1, 0, 0, 0, n, false, 0, none, 0⟩)] } }

theorem test_severe : (fltOf (settle (raise 94 (counted 63))) 94).severe = true ∧ (fltOf (settle (raise 94 (counted 62))) 94).severe = false := by
  decide +kernel

/-- R35's example: source 17's write stamped 1,003 waits while source 256's watermark is 1,000, and goes at 1,016. -/
def watched (mark : Nat) : State :=
  { up with seqr := { mergeSet := [17, 256], marks := [(17, 1003), (256, mark)], inputs := [{ input0 with src := 17, gtc := 1003, lane := 17 }] } }

def inputsAfter (c : Instr) (s : State) : Nat :=
  match exec c s with
  | .next t => t.seqr.inputs.length
  | _ => 99

theorem test_watermark : inputsAfter (.sequencerEmit []) (watched 1000) = 1 ∧ inputsAfter (.sequencerEmit []) (watched 1016) = 0 := by
  decide +kernel

/-- R265: position 1 of two ways does not match an address of position 0. -/
theorem test_decode_other_way : decodeHpa ⟨0x4000000000, 0x10000000, 2, 4096, 1, 0x100000000, false⟩ 0x4001234678 = none := by
  decide +kernel

/-- R503: GLB_STATUS at READY reads READY, stage 10. -/
theorem test_status_word : (readWord .sp 0x10 up).2.1 = 0x8000000A := by decide +kernel

/-- R492: a read of an unassigned address is 0 and raises event 604. -/
theorem test_unassigned_read : (readWord .sp 0xFFFFFFFC up).2.1 = 0
    ∧ (readWord .sp 0xFFFFFFFC up).1.flt.raised = [⟨604, 0, 0, none⟩] := by decide +kernel

/-- R27: before VDD_AON there is nothing to step; an empty queue idles but for time. -/
theorem test_reset_inv : Inv State.reset := by rfl

/-- R5: a physical event on a unit that the part lacks changes nothing (log 7). -/
theorem test_no_such_unit : exec (.zqCalibration 15) { up with fuse := { part := .sbx4808 } }
    = .next { up with fuse := { part := .sbx4808 } } := rfl

/-! ## States and operands that meet the hypotheses of the statements

One theorem for each statement, with a witness for each of its clauses. -/

theorem witness_StepRunsFront :
    ∃ (s : State), (s.pending = []) :=
  ⟨up, by decide +kernel⟩

theorem witness_CxlReads :
    (∃ (s : State) (r : CxlReq) (g : Nat) (line : Nat), CxlIn s r ∧ (waitingReads s r.port < 256) ∧ ((checkReq s r false false).2 = .go g line))
    ∧ (∃ (s : State) (r : CxlReq), CxlIn s r ∧ (waitingReads s r.port < 256))
    ∧ (∃ (s : State) (r : CxlReq) (g : Nat) (line : Nat), CxlIn s r ∧ (waitingReads s r.port < 256) ∧ ((checkInv s r).2 = .go g line))
    ∧ (∃ (s : State) (r : CxlReq), CxlIn s r ∧ (waitingReads s r.port < 256) ∧ ((portOf s r.port).isolated = false) ∧ (serving s = true))
    ∧ (∃ (s : State) (r : CxlReq), CxlIn s r ∧ (heldOf s r.port < 128) ∧ ((portOf s r.port).isolated = false) ∧ (serving s = true))
    ∧ (∃ (s : State) (id : Nat) (x : PendRead), (s.seqr.reads.find? (fun r => r.id = id) = some x))
    ∧ (∃ (s : State) (id : Nat) (j : ReadJob), (s.seqr.reads.find? (fun r => r.id = id) = none) ∧ (s.seqr.jobs.find? (fun x => x.id = id) = some j)) :=
  ⟨⟨up, req0, 3, 1, by unfold CxlIn; decide +kernel⟩,
   ⟨up, req0, by unfold CxlIn; decide +kernel⟩,
   ⟨up, req0, 3, 1, by unfold CxlIn; decide +kernel⟩,
   ⟨up, req0, by unfold CxlIn; decide +kernel⟩,
   ⟨up, req0, by unfold CxlIn; decide +kernel⟩,
   ⟨{ up with seqr := { reads := [⟨4, req0, 3, 1, 0⟩] } }, 4, ⟨4, req0, 3, 1, 0⟩, by decide +kernel⟩,
   ⟨{ up with seqr := { jobs := [⟨4, 5, 0, 3, 0x40, 0x40, 64, 9, [], 0⟩] } }, 4, ⟨4, 5, 0, 3, 0x40, 0x40, 64, 9, [], 0⟩, by decide +kernel⟩⟩

theorem witness_CxlWrites :
    (∃ (s : State) (r : CxlReq) (g : Nat) (line : Nat), CxlIn s r ∧ (heldOf s r.port < 128) ∧ ((checkReq s r true false).2 = .go g line))
    ∧ (∃ (s : State) (r : CxlReq) (mask : Mask) (g : Nat) (line : Nat), CxlIn s r ∧ (heldOf s r.port < 128) ∧ ((checkReq s r true false).2 = .go g line) ∧ (mask ≠ 0))
    ∧ (∃ (s : State) (r : CxlReq) (g : Nat) (line : Nat), CxlIn s r ∧ (heldOf s r.port < 128) ∧ ((checkReq s r true false).2 = .go g line))
    ∧ (∃ (s : State) (port : Nat), PortUp s port)
    ∧ (∃ (s : State) (port : Nat), PortUp s port)
    ∧ (∃ (s : State) (port : Nat) (x : Nat × Nat × Nat), (port < 16) ∧ (s.seqr.gpf.find? (fun y => y.1 = port) = some x) ∧ (gpfCovered s x.2.1 x.2.2 = true) ∧ (canAnswer s = true))
    ∧ (∃ (s : State) (port : Nat), (port < 16) ∧ (s.seqr.gpf.any (fun x => x.1 = port) = true)) :=
  ⟨⟨up, req0, 3, 1, by unfold CxlIn; decide +kernel⟩,
   ⟨up, req0, 1, 3, 1, by unfold CxlIn; decide +kernel⟩,
   ⟨up, req0, 3, 1, by unfold CxlIn; decide +kernel⟩,
   ⟨up, 0, by unfold PortUp; decide +kernel⟩,
   ⟨up, 0, by unfold PortUp; decide +kernel⟩,
   ⟨{ up with seqr := { gpf := [(0, 1, 16)] } }, 0, (0, 1, 16), by decide +kernel⟩,
   ⟨{ up with seqr := { gpf := [(15, 1, 16)] } }, 15, by decide +kernel⟩⟩

theorem witness_HostLinks :
    (∃ (s : State) (port : Nat) (width : Nat) (rate : Nat), (port < 16) ∧ ((portOf s port).formed = true) ∧ ((portOf s port).link = .down) ∧ (7 ≤ s.pwr.stage) ∧ (s.pwr.stage ≤ 10) ∧ (s.pwr.stopped = false) ∧ (width ≠ 0) ∧ (rate ≠ 0))
    ∧ (∃ (s : State) (port : Nat) (width : Nat) (rate : Nat), (port < 16) ∧ ((portOf s port).link = .up) ∧ (0 < width) ∧ (0 < rate) ∧ (width < (portOf s port).width) ∧ (rate < (portOf s port).rate))
    ∧ (∃ (s : State) (port : Nat), (port < 16) ∧ ((portOf s port).link = .up))
    ∧ (∃ (s : State) (port : Nat), (port < 16) ∧ ((portOf s port).link ≠ .down))
    ∧ (∃ (s : State) (port : Nat), (port < 16) ∧ ((portOf s port).link = .up))
    ∧ (∃ (s : State) (port : Nat), (port < 16) ∧ ((portOf s port).link = .up))
    ∧ (∃ (s : State) (p : Path) (port : Nat), PortMgr s p port)
    ∧ (∃ (s : State) (p : Path) (port : Nat) (width : Nat) (rate : Nat), PortMgr s p port ∧ ((portOf s port).link = .up) ∧ (width ≠ 0) ∧ (rate ≠ 0)) :=
  ⟨⟨{ up with host := { ports := [(2, { formed := true })] } }, 2, 16, 6, by decide +kernel⟩,
   ⟨up, 0, 8, 5, by decide +kernel⟩,
   ⟨up, 0, by decide +kernel⟩,
   ⟨up, 0, by decide +kernel⟩,
   ⟨up, 0, by decide +kernel⟩,
   ⟨up, 0, by decide +kernel⟩,
   ⟨up, .sp, 0, by unfold PortMgr; decide +kernel⟩,
   ⟨up, .sp, 0, 8, 5, by unfold PortMgr; decide +kernel⟩⟩

theorem witness_HostIde :
    (∃ (s : State) (port : Nat) (ld : Nat), PortUp s port ∧ ((ldOf s port ld).present = true))
    ∧ (∃ (s : State) (port : Nat) (ld : Nat), (port < 16) ∧ ((portOf s port).link = .up) ∧ ((ldOf s port ld).present = true) ∧ (7 ≤ s.pwr.stage) ∧ (s.pwr.stage ≤ 9))
    ∧ (∃ (s : State) (port : Nat) (ld : Nat) (idx : Nat) (d : Decoder), PortUp s port ∧ (idx < 4) ∧ ((ldOf s port ld).present = true) ∧ (SMap.find (ldOf s port ld).decs idx = none) ∧ (d.ways ≠ 0) ∧ (d.gran ≠ 0) ∧ ((SMap.present (ldOf s port ld).decs).any (fun p => decide (p.1 ≠ idx) && decide (p.2.dpaBase < dpaEnd d) && decide (d.dpaBase < dpaEnd p.2)) = false))
    ∧ (∃ (s : State) (port : Nat) (ld : Nat) (idx : Nat) (d : Decoder), PortUp s port ∧ (idx < 4) ∧ ((ldOf s port ld).present = true) ∧ (SMap.find (ldOf s port ld).decs idx = none) ∧ ((SMap.present (ldOf s port ld).decs).any (fun p => decide (p.1 ≠ idx) && decide (p.2.dpaBase < dpaEnd d) && decide (d.dpaBase < dpaEnd p.2)) = true))
    ∧ (∃ (s : State) (port : Nat), PortUp s port)
    ∧ (∃ (s : State) (port : Nat) (n : Nat), (port < 16) ∧ ((portOf s port).link = .up) ∧ ((portOf s port).spdm = true) ∧ (ideSlot s port true = some n))
    ∧ (∃ (s : State) (port : Nat), (port < 16) ∧ ((portOf s port).link = .up) ∧ ((portOf s port).spdm = true) ∧ ((portOf s port).ideRx = true) ∧ ((portOf s port).ideTx = true))
    ∧ (∃ (s : State) (port : Nat), (port < 16) ∧ ((portOf s port).link = .up) ∧ ((portOf s port).ide = 1)) :=
  ⟨⟨up, 0, 0, by unfold PortUp; decide +kernel⟩,
   ⟨{ up with pwr := { up.pwr with stage := 8 } }, 0, 0, by decide +kernel⟩,
   ⟨up, 0, 0, 3, { decoder0 with dpaBase := 0x100000000 }, by unfold PortUp; decide +kernel⟩,
   ⟨up, 0, 0, 3, decoder0, by unfold PortUp; decide +kernel⟩,
   ⟨up, 0, by unfold PortUp; decide +kernel⟩,
   ⟨{ up with host := { ports := [(0, { link := .up, spdm := true })] }, cipher := { slots := [(2, { bind := 2, target := 1 })] } }, 0, 2, by decide +kernel⟩,
   ⟨{ up with host := { ports := [(0, { link := .up, spdm := true, ideRx := true, ideTx := true })] } }, 0, by decide +kernel⟩,
   ⟨{ up with host := { ports := [(0, { link := .up, ide := 1 })] } }, 0, by decide +kernel⟩⟩

theorem witness_FabricManager :
    (∃ (s : State), (isReady s = true))
    ∧ (∃ (s : State) (port : Nat), (isReady s = true) ∧ (port < 16))
    ∧ (∃ (s : State) (port : Nat) (ld : Nat), (isReady s = true) ∧ (port < 16) ∧ (ld < 16) ∧ ((ldOf s port ld).present = true))
    ∧ (∃ (s : State) (port : Nat) (ld : Nat) (region : Nat) (es : List DcExtent), (isReady s = true) ∧ (port < 16) ∧ (addCheck s port ld region es = 0))
    ∧ (∃ (s : State) (port : Nat) (ld : Nat) (es : List DcExtent), (isReady s = true) ∧ (port < 16) ∧ (serving s = true) ∧ (listed s port ld es = true)) :=
  ⟨⟨up, by decide +kernel⟩,
   ⟨up, 15, by decide +kernel⟩,
   ⟨up, 0, 0, by decide +kernel⟩,
   ⟨{ up with tier := { up.tier with md := { up.tier.md with regions := [⟨0, 1, 4, 8⟩] } } }, 0, 0, 1, [⟨4, 1, 3, 0⟩], by decide +kernel⟩,
   ⟨{ up with host := { lds := [(0, { present := true, extents := [⟨4, 1, 3, 0⟩] })] } }, 0, 0, [⟨4, 1, 3, 0⟩], by decide +kernel⟩⟩

theorem witness_Mailbox :
    (∃ (s : State) (port : Nat) (ld : Nat), MailboxUp s port ld)
    ∧ (∃ (s : State) (port : Nat) (ld : Nat), MailboxUp s port ld)
    ∧ (∃ (s : State) (port : Nat) (ld : Nat) (off : Nat) (data : List Byte), MailboxUp s port ld ∧ (serving s = true) ∧ (off + data.length ≤ 131072))
    ∧ (∃ (s : State) (port : Nat) (ld : Nat), MailboxUp s port ld)
    ∧ (∃ (s : State) (port : Nat) (ld : Nat) (dpa : Nat) (x : MapEntry), MailboxUp s port ld ∧ (serving s = true) ∧ (SMap.find s.tier.md.map (mapKey (16 * port + ld) (dpa / 2 ^ 24)) = some x) ∧ (x.valid = true) ∧ (x.wr = true) ∧ (groveKeyed s x.grove = true) ∧ (tileReadOnly s x.grove (tileOf (x.extent * 2 ^ 18 + dpa % 2 ^ 24 / 64)) = false) ∧ (groveReadOnly s x.grove = false))
    ∧ (∃ (s : State) (port : Nat) (ld : Nat), MailboxUp s port ld)
    ∧ (∃ (s : State) (port : Nat) (ld : Nat) (e : DcExtent) (region : Nat), MailboxUp s port ld ∧ (serving s = true) ∧ ((ldOf s port ld).offered = [(region, e)]))
    ∧ (∃ (s : State) (port : Nat) (ld : Nat) (es : List DcExtent), MailboxUp s port ld ∧ (serving s = true) ∧ (listed s port ld es = true)) :=
  ⟨⟨up, 0, 0, by unfold MailboxUp; decide +kernel⟩,
   ⟨up, 0, 0, by unfold MailboxUp; decide +kernel⟩,
   ⟨up, 0, 0, 131071, [1], by unfold MailboxUp; decide +kernel⟩,
   ⟨up, 0, 0, by unfold MailboxUp; decide +kernel⟩,
   ⟨up, 0, 0, 0, ⟨true, true, true, false, 0, 3, 0⟩, by unfold MailboxUp; decide +kernel⟩,
   ⟨up, 0, 0, by unfold MailboxUp; decide +kernel⟩,
   ⟨{ up with host := { up.host with lds := [(0, { present := true, offered := [(1, ⟨4, 1, 3, 0⟩)] })] } }, 0, 0, ⟨4, 1, 3, 0⟩, 1, by unfold MailboxUp; decide +kernel⟩,
   ⟨{ up with host := { up.host with lds := [(0, { present := true, extents := [⟨4, 1, 3, 0⟩] })] } }, 0, 0, [⟨4, 1, 3, 0⟩], by unfold MailboxUp; decide +kernel⟩⟩

theorem witness_Sequencer :
    (∃ (s : State) (src : Nat), (src ≤ 315) ∧ (s.seqr.mergeSet.contains src = true))
    ∧ (∃ (s : State) (src : Nat), (src ≤ 315) ∧ (inMerge s src = true) ∧ (s.seqr.stalled.contains src = false))
    ∧ (∃ (s : State) (h : HeldReq), (holdAll s = false) ∧ (firstFree s [] s.seqr.held = some h))
    ∧ (∃ (s : State) (u : State) (g : Nat) (line : Nat) (e : LandEntry), (working s = true) ∧ (landOf s g line = some e) ∧ (e.draining = false) ∧ (promoting s g (tileOf line) = false) ∧ (moving s g (tileOf line) = false) ∧ (groveKeyed s g = true) ∧ (ceilingHolds s g line = false) ∧ (landOk s g line = true) ∧ (tileBlank (tile s g (tileOf line)) = false) ∧ ((tile s g (tileOf line)).frame.isSome = true) ∧ (passReq .drain g line (if e.mask = fullMask then 1 else 2) (qosOf s g) s = some u))
    ∧ (∃ (s : State) (u : State) (g : Nat) (line : Nat) (e : LandEntry), (working s = true) ∧ (landOf s g line = some e) ∧ (e.draining = true) ∧ (e.remerged = false) ∧ (ceilingHolds s g line = false) ∧ ((tile s g (tileOf line)).frame.isSome = true) ∧ (finishReq .drain g line s = some u)) :=
  ⟨⟨up, 304, by decide +kernel⟩,
   ⟨up, 304, by decide +kernel⟩,
   ⟨{ up with seqr := { held := [.cxl req0 3 ⟨1, 0, 1⟩ 0] } }, .cxl req0 3 ⟨1, 0, 1⟩ 0, by decide +kernel⟩,
   ⟨landed false, (passReq .drain 3 1 2 (qosOf (landed false) 3) (landed false)).getD up, 3, 1, ⟨0, 1, false, false, false, [1], 0⟩, by decide +kernel⟩,
   ⟨draining, (finishReq .drain 3 1 draining).getD up, 3, 1, ⟨0, 1, false, true, false, [1], 0⟩, by decide +kernel⟩⟩

theorem witness_CanopyTraffic :
    (∃ (s : State) (u : State) (g : Nat) (line : Nat) (f : Nat) (m : Miss), (missLine s g line = some m) ∧ ((tile s g (tileOf line)).frame = some f) ∧ (s.pwr.state = .on) ∧ (finishReq .fill g line (passMiss (sliceOf s g line) s) = some u))
    ∧ (∃ (s : State) (u : State) (g : Nat) (line : Nat) (o : DramRead), (s.pwr.state = .on) ∧ (trkLine s g line ≠ []) ∧ ((trkCheck g line s).2 = false) ∧ (writeOldest g line o (trkCheck g line s).1 = some u))
    ∧ (∃ (s : State) (g : Nat) (t : Nat) (p : Promo), (promoOf s g t = some p) ∧ (working s = true) ∧ (repairing s g t (secOf p.line) = false) ∧ (p.arrived.getLsbD (secOf p.line) = false) ∧ (sectorCame s p (secOf p.line) = true))
    ∧ (∃ (s : State) (g : Nat) (t : Nat) (p : Promo), (promoOf s g t = some p) ∧ (working s = true) ∧ (s.tier.repairs.any (fun r => r.grove = g && r.tile = t) = false) ∧ (portOpen s (regFor s 1) 1024 = true) ∧ ((∀ i < 16, sectorCame s p i = true)))
    ∧ (∃ (s : State) (id : Nat) (l : LateTouch), (s.tier.lates.find? (fun x => x.id = id) = some l) ∧ (l.bound ≠ 0)) :=
  ⟨⟨filling, (finishReq .fill 3 1 (passMiss (sliceOf filling 3 1) filling)).getD up, 3, 1, 5, ⟨3, 1, [], 0, 0, false, 0⟩, by decide +kernel⟩,
   ⟨evicting, (writeOldest 3 1 .clean (trkCheck 3 1 evicting).1).getD up, 3, 1, .clean, by decide +kernel⟩,
   ⟨{ up with tier := { promos := [⟨3, 0, 5, 0, 1, false, 0, [], 0, 1⟩] } }, 3, 0, ⟨3, 0, 5, 0, 1, false, 0, [], 0, 1⟩, by decide +kernel⟩,
   ⟨{ up with tier := { promos := [⟨3, 0, 5, 0, 1, false, 0, [], 0, 0xFFFF⟩] } }, 3, 0, ⟨3, 0, 5, 0, 1, false, 0, [], 0, 0xFFFF⟩, by decide +kernel⟩,
   ⟨{ up with tier := { up.tier with lates := [⟨2, 0, 3, 1, .cxlRead 1, 0, 100, false⟩] } }, 2, ⟨2, 0, 3, 1, .cxlRead 1, 0, 100, false⟩, by decide +kernel⟩⟩

theorem witness_CanopyMaintenance :
    (∃ (s : State) (p : Path) (g : Nat), Manager s p ∧ (maintRefusal s g true false = 0))
    ∧ (∃ (s : State) (p : Path) (g : Nat), Manager s p ∧ (maintRefusal s g true true = 0))
    ∧ (∃ (s : State), (s.can.busy = true) ∧ (s.can.disabling = false) ∧ (s.can.zeroLeft = 0) ∧ (s.can.walk = none) ∧ (walkDone s = true) ∧ (s.can.skipped = 0))
    ∧ (∃ (s : State) (p : Path), Manager s p ∧ (s.can.busy = false) ∧ (s.can.enabled = true) ∧ (s.can.wf ≠ []))
    ∧ (∃ (s : State) (p : Path), Manager s p ∧ (s.can.busy = false) ∧ (s.can.enabled = false))
    ∧ (∃ (s : State), (s.can.disabling = true) ∧ (s.can.walk = none) ∧ (walkDone s = true)) :=
  ⟨⟨up, .sp, 3, by unfold Manager; decide +kernel⟩,
   ⟨up, .sp, 3, by unfold Manager; decide +kernel⟩,
   ⟨{ up with can := { busy := true } }, by decide +kernel⟩,
   ⟨{ up with can := { enabled := true, wf := [(0, [⟨3, 1, .clean, 0⟩])] } }, .sp, by unfold Manager; decide +kernel⟩,
   ⟨{ up with can := {} }, .sp, by unfold Manager; decide +kernel⟩,
   ⟨{ up with can := { disabling := true } }, by decide +kernel⟩⟩

theorem witness_TierSweeps :
    (∃ (s0 : State) (errs : List LineRead) (c : Nat) (g : Nat) (t : Nat), (let s := noteReads errs s0; (working s = true) ∧ (freeFrames s < freeLow s) ∧ (metaHeld s = false) ∧ (pickDemotion s (fun _ _ => true) = some (c, g, t))))
    ∧ (∃ (s0 : State) (errs : List LineRead) (g : Nat) (t : Nat), (let s := noteReads errs s0; (working s = true) ∧ (cellarMode s = 1) ∧ (turn 10 s = true) ∧ (pickTrickle s = some (g, t))))
    ∧ (∃ (s : State), (working s = true) ∧ (groveKeyed s 1023 = true) ∧ (turn (if metaUrgent s then 4 else 11) s = true))
    ∧ (∃ (s : State), (working s = true) ∧ (s.tier.wearLimit = false) ∧ ((img s).nand.peRating * t2Raw s ≤ s.tier.nandBytes))
    ∧ (∃ (s0 : State) (errs : List LineRead), (let s := noteReads errs s0; (isReady s = true) ∧ (working s = true) ∧ (s.tier.draining = true) ∧ (turn 8 s = true)))
    ∧ (∃ (s : State), (working s = true)) :=
  ⟨⟨setFld .tierFreeLow 0 26 0 2000 up, [], 2, 3, 0, by decide +kernel⟩,
   ⟨{ up with tier := { up.tier with md := { up.tier.md with tiles := [(tkey 3 0, { frame := some 5, sdirty := 1 })] } } }, [], 3, 0, by decide +kernel⟩,
   ⟨up, by decide +kernel⟩,
   ⟨up, by decide +kernel⟩,
   ⟨{ up with tier := { up.tier with draining := true, md := { up.tier.md with tiles := [(tkey 3 1, { cellar := true })] } } }, [], by decide +kernel⟩,
   ⟨up, by decide +kernel⟩⟩

theorem witness_SealsAndSchedules :
    (∃ (s : State) (p : Path), BelvorMgr s p ∧ (serving s = true) ∧ (holdAll s = false))
    ∧ (∃ (s : State) (p : Path), BelvorMgr s p ∧ (serving s = true) ∧ (holdAll s = false))
    ∧ (∃ (s : State) (p : Path), BelvorUp s p)
    ∧ (∃ (s : State) (q : Nat) (l : Nat), (pathUp s (.mailbox q l) = true) ∧ (isReady s = true) ∧ (serving s = true) ∧ (holdAll s = false))
    ∧ (∃ (s0 : State) (g : Nat) (t : Nat) (errs : List LineRead), (let s := noteReads errs s0; (working s = true) ∧ (metaHeld s = false) ∧ (turn 9 s = true) ∧ ((tile s g t).sealing = true) ∧ (tileLanded s g t = false) ∧ (promoting s g t = false) ∧ (moving s g t = false) ∧ (programming s g t = false) ∧ (settleReady s g t = true)))
    ∧ (∃ (s : State) (u : State) (q : QEntry) (t : Nat), (working s = true) ∧ (serving s = true) ∧ (isReady s = true) ∧ (turn 6 s = true) ∧ (nextEntry s = some (q, t)) ∧ (copAlloc 3 288 false s = some u))
    ∧ (∃ (s : State) (id : Nat) (q : QEntry), (s.tier.md.queue.find? (fun x => x.id = id) = some q) ∧ (working s = true))
    ∧ (∃ (s : State) (u : State) (pool : Nat) (w : Nat × Nat × Nat × Bool), (pool < 4) ∧ (s.cop.waiting.find? (fun x => x.1 = pool) = some w) ∧ (copAlloc pool w.2.2.1 w.2.2.2 s = some u)) :=
  ⟨⟨up, .sp, by unfold BelvorMgr; decide +kernel⟩,
   ⟨up, .sp, by unfold BelvorMgr; decide +kernel⟩,
   ⟨up, .sp, by unfold BelvorUp; decide +kernel⟩,
   ⟨up, 0, 0, by decide +kernel⟩,
   ⟨{ up with tier := { up.tier with md := { up.tier.md with tiles := [(tkey 3 0, { frame := some 5, sealing := true, sdirty := 2 })] } } }, 3, 0, [], by decide +kernel⟩,
   ⟨sched, sched1, qent, 2, by decide +kernel⟩,
   ⟨sched, 1, qent, by decide +kernel⟩,
   ⟨{ sched with cop := { waiting := [(3, 0, 288, false)] } }, { sched1 with cop := { sched1.cop with waiting := [(3, 0, 288, false)] } }, 3, (3, 0, 288, false), by decide +kernel⟩⟩

theorem witness_RepairAndPoison :
    (∃ (s : State) (u : State) (g : Nat) (t : Nat) (x : Repair) (l : List LineData), (s.tier.repairs.find? (fun y => y.grove = g && y.tile = t) = some x) ∧ (working s = true) ∧ (tileBlank (tile s g t) = false) ∧ (metaHeld s = false) ∧ (putRepair x l s = some u))
    ∧ (∃ (s : State) (g : Nat) (t : Nat) (x : Repair), (s.tier.repairs.find? (fun y => y.grove = g && y.tile = t) = some x) ∧ (working s = true) ∧ (tileBlank (tile s g t) = false))
    ∧ (∃ (s : State) (p : Path), Manager s p) :=
  ⟨⟨repairs, (putRepair repair1 [] repairs).getD repairs, 3, 0, repair1, [], by decide +kernel, by decide +kernel, by decide +kernel, by decide +kernel, repairs_put⟩,
   ⟨repairs, 3, 0, ⟨3, 0, 1, [], 0, false, []⟩, by decide +kernel⟩,
   ⟨up, .sp, by unfold Manager; decide +kernel⟩⟩

theorem witness_DramUpkeep :
    (∃ (s : State) (ch : Nat), (ch < nSlices s) ∧ ((chOf s ch).state = .online))
    ∧ (∃ (s : State) (ch : Nat) (r : Nat), (ch < nSlices s) ∧ ((chOf s ch).state = .online) ∧ (r < (chOf s ch).lranks) ∧ ((rankOf s ch r).since = none) ∧ (fld s .dramNodeCfg 1 0 ≠ 2))
    ∧ (∃ (s : State) (ch : Nat), (ch < nSlices s) ∧ ((chOf s ch).state = .online))
    ∧ (∃ (s : State) (ch : Nat), (ch < nSlices s) ∧ ((chOf s ch).state = .online) ∧ (fld s .dramSrIdle 19 0 ≠ 0) ∧ (patrolBehind s ch = false) ∧ (chQueued s ch = false) ∧ ((chOf s ch).caRec = []))
    ∧ (∃ (s : State) (ch : Nat), (ch < nSlices s) ∧ (patrolMay s ch = true) ∧ (inItsSet s ch = true) ∧ (let x := patrolAt s ch (chOf s ch).patrol; let s1 := noteRead x.1 x.2 .clean (perfAdd ⟨305, 5, none⟩ 0x02 1 (perfAdd ⟨305, 5, none⟩ 0x01 1 (chargeLines (regFor s 3) 1 (wakeCh ch s)))); (SMap.get s1.tier.t1bad .clean (x.1 * 1024 + x.2) = .clean)))
    ∧ (∃ (s : State) (ch : Nat) (sub : Nat), (ch < nSlices s) ∧ (sub < 2) ∧ ((chOf s ch).state = .online))
    ∧ (∃ (s : State) (ch : Nat) (sub : Nat), (ch < nSlices s) ∧ (sub ∈ (chOf s ch).caRec))
    ∧ (∃ (s : State) (ch : Nat) (sub : Nat), (ch < nSlices s) ∧ (sub ∈ (chOf s ch).caRec))
    ∧ (∃ (s : State) (p : Path) (ch : Nat), Manager s p ∧ (ch < nSlices s)) :=
  ⟨⟨up, 0, by decide +kernel⟩,
   ⟨up, 0, 1, by decide +kernel⟩,
   ⟨up, 0, by decide +kernel⟩,
   ⟨up, 0, by decide +kernel⟩,
   ⟨up, 0, by decide +kernel⟩,
   ⟨up, 0, 1, by decide +kernel⟩,
   ⟨{ up with dram := { chs := [(15, { state := .online, caRec := [1] })] } }, 15, 1, by decide +kernel⟩,
   ⟨{ up with dram := { chs := [(15, { state := .online, caRec := [0] })] } }, 15, 0, by decide +kernel⟩,
   ⟨up, .sp, 0, by unfold Manager; decide +kernel⟩⟩

theorem witness_DramSets :
    (∃ (s : State) (p : Path) (n : Nat), Manager s p ∧ (n < 16) ∧ (evacRefusal s n = 0))
    ∧ (∃ (s0 : State) (errs : List LineRead) (n : Nat) (f : Nat) (x : Nat × Nat), (let s := noteReads errs s0; (evacuating s = some n) ∧ (isReady s = true) ∧ (working s = true) ∧ (metaHeld s = false) ∧ (metaFrames s n = 0) ∧ ((setMovable s n).find? (fun x => moveFirst s x.1 x.2) = some x) ∧ (evacTarget s n = some f)))
    ∧ (∃ (s0 : State) (errs : List LineRead) (g : Nat) (t : Nat) (m : Move), (let s := noteReads errs s0; (s.tier.moves.find? (fun x => x.grove = g && x.tile = t) = some m) ∧ (working s = true) ∧ (metaHeld s = false) ∧ (portOpen s (regFor s 1) 2048 = true)))
    ∧ (∃ (s : State) (p : Path) (n : Nat), Manager s p ∧ (n < 16) ∧ ((setOf s n).valid = true) ∧ ((setOf s n).state = 2) ∧ (s.dram.evBusy = false))
    ∧ (∃ (s : State) (n : Nat), ((setOf s n).valid = true) ∧ ((setOf s n).state = 3))
    ∧ (∃ (s : State) (p : Path) (k : Nat) (n : Nat), Manager s p ∧ (evacuating s = some n) ∧ (k < 16)) :=
  ⟨⟨{ up with dram := { sets := [(0, { valid := true, frames := 1024, degraded := 2 }), (1, { valid := true, base := 2048, frames := 1024 })] } }, .sp, 0, by unfold Manager; decide +kernel⟩,
   ⟨evac, [], 0, (evacTarget evac 0).getD 0, (3, 0), by decide +kernel, by decide +kernel, by decide +kernel, by decide +kernel, by decide +kernel, by decide +kernel, evac_target⟩,
   ⟨{ up with tier := { moves := [⟨3, 0, 5, 2050⟩] } }, [], 3, 0, ⟨3, 0, 5, 2050⟩, by decide +kernel⟩,
   ⟨{ up with dram := { sets := [(15, { valid := true, state := 2 })] } }, .sp, 15, by unfold Manager; decide +kernel⟩,
   ⟨{ up with dram := { sets := [(0, { valid := true, state := 3 })] } }, 0, by decide +kernel⟩,
   ⟨{ up with dram := { sets := [(0, { valid := true, state := 1 })], evBusy := true } }, .sp, 15, 0, by unfold Manager; decide +kernel⟩⟩

theorem witness_NandMedia :
    (∃ (s : State) (g : Nat) (t : Nat) (sec : Nat) (n : Nat) (o : Ladder) (p : Promo), (promoOf s g t = some p) ∧ (working s = true) ∧ (sec < 16) ∧ (p.read.getLsbD sec = false) ∧ (fromCellar s g t sec = false) ∧ (slotRead s g t = some n) ∧ (codewordDue p sec o = true))
    ∧ (∃ (s : State) (id : Nat) (p : Prog), (s.tier.progs.find? (fun x => x.id = id) = some p) ∧ (working s = true) ∧ (let w := wlOf s p.t2; let k := p.t2 / 2 ^ 22; let s1 := wlBegin w s; ((dieAt s1 k).cur.map (·.job) = some (.wordline w))))
    ∧ (∃ (s : State) (ch : Nat) (die : Nat) (block : Nat), (hasDie s ch die = true) ∧ (working s = true) ∧ (let k := ch * 32 + die; let b := k * 4096 + block; ((dieAt s k).cur.map (·.job) = some (.erase b))))
    ∧ (∃ (s : State) (ch : Nat) (die : Nat) (block : Nat), (hasDie s ch die = true) ∧ (working s = true) ∧ (let b := (ch * 32 + die) * 4096 + block; (fld s .nandRdLimit 13 0 * 100 ≤ SMap.get s.nand.reads 0 (physBlk s b))))
    ∧ (∃ (s : State) (grp : Nat) (die : Nat) (vb : Nat) (slot : Nat), (grp * 16 < nNand s) ∧ (die < 32) ∧ (working s = true) ∧ (let key := grp * 2 ^ 27 + die * 2 ^ 22 + vb * 2 ^ 10 + slot; ((SMap.find s.nand.stripes key).isSome = true) ∧ (stripeBusy s key = false)))
    ∧ (∃ (s : State) (t2 : Nat) (sec : Nat) (o : Ladder), (isReady s = true) ∧ (working s = true) ∧ (sec < 16) ∧ (dieIdle s (t2 / 2 ^ 22) = true) ∧ (let s1 := scanAt t2 sec o s; (now s - s1.nand.scanStart ≤ fld s .nandScanCfg 15 8 * 86400000000000) ∧ (s1.nand.scanPos + 1 < scanTotal s))) :=
  ⟨⟨{ up with nand := { dies := [(0, { state := .online, rd := some ⟨2, .read 3 1 8⟩ })] }, tier := { promos := [⟨3, 1, 6, 0, 1024, false, 0, [], 0, 0⟩], md := { tiles := [(tkey 3 1, { t2 := some 8 })] } } }, 3, 1, 15, 8, .hard, ⟨3, 1, 6, 0, 1024, false, 0, [], 0, 0⟩, by decide +kernel⟩,
   ⟨programming1, 4, ⟨4, .trickle, 3, 0, 8, [], 0, 11, false⟩, by decide +kernel⟩,
   ⟨{ up with nand := { dies := [(1, { state := .online, cur := some ⟨0, .erase 4099⟩ })] } }, 0, 1, 3, by decide +kernel⟩,
   ⟨{ up with nand := { reads := [(3, 60000)] } }, 0, 0, 3, by decide +kernel⟩,
   ⟨{ up with nand := { stripes := [(5, some {})] } }, 0, 0, 0, 5, by decide +kernel⟩,
   ⟨placed8, 8, 15, .hard, by decide +kernel⟩⟩

theorem witness_NandManagement :
    (∃ (s : State) (n : Nat) (g : Nat) (t : Nat), (working s = true) ∧ (liveSlot s n = some (g, t)) ∧ (metaHeld s = false) ∧ (s.tier.progs.any (fun p => p.grove = g && p.tile = t) = false) ∧ (dieGone s n = false) ∧ ((dieAt s (n / 2 ^ 22)).rd = none) ∧ ((dieAt s (n / 2 ^ 22)).cur = none))
    ∧ (∃ (s : State) (n : Nat), (working s = true) ∧ (liveSlot s n = none))
    ∧ (∃ (s : State) (k : Nat), (working s = true) ∧ (isReady s = true) ∧ (supersBelow s (fld s .nandReclaimCfg 7 0) = true) ∧ (pickSuper s = some k) ∧ ((noteCrit s).nand.crit = false) ∧ (liveSlots (noteCrit s) (fun n => decide (superOf n = k)) ≠ []))
    ∧ (∃ (s : State) (ch : Nat) (die : Nat) (b : Nat), (hasDie s ch die = true) ∧ (working s = true) ∧ (fld s .nandWlDelta 15 0 < dieTop s (ch * 32 + die) - dieLow s (ch * 32 + die)) ∧ (leastWorn s (ch * 32 + die) = some b) ∧ (superOpen s (superOf (b * 1024)) = false))
    ∧ (∃ (s : State) (ch : Nat) (die : Nat), (hasDie s ch die = true) ∧ ((dieAt s (ch * 32 + die)).state = .online ∨ (dieAt s (ch * 32 + die)).state = .retiring))
    ∧ (∃ (s : State) (n : Nat) (rest : List Nat), (working s = true) ∧ (s.nand.rbBusy = true) ∧ (metaHeld s = false) ∧ (rebuildMay s = true) ∧ (s.nand.rbLeft = n :: rest))
    ∧ (∃ (s : State), (isReady s = true) ∧ (working s = true) ∧ (s.tier.celBlocks ≠ 0) ∧ (turn 8 s = true) ∧ (let recs := celLive s; let dead := ((SMap.present s.nand.cellar).filter (fun p => !(p.2.recs.any (fun k => match k with | some x => recs.contains x | none => false)))).map (·.1); let s1 := forEach dead celErase { s with tier := { s.tier with celRecs := recs, cel := SMap.filterKeys s.tier.cel (fun a => recs.contains (a / 1024 * 16 + a % 1024 / 64)) } }; (celNeeded s1 ≤ celFree s1))) :=
  ⟨⟨placed8, 8, 3, 1, by decide +kernel⟩,
   ⟨up, 8, by decide +kernel⟩,
   ⟨reclaims, 0, by decide +kernel⟩,
   ⟨{ placed8 with nand := { placed8.nand with erases := (List.range 100).map (fun v => (v, if v = 0 then 1 else 1000)) } }, 0, 0, 0, by decide +kernel⟩,
   ⟨up, 0, 0, by decide +kernel⟩,
   ⟨{ up with nand := { rbBusy := true, rbLeft := [8] } }, 8, [], by decide +kernel⟩,
   ⟨{ up with tier := { celBlocks := 2 } }, by decide +kernel⟩⟩

theorem witness_VrmpRequests :
    (∃ (s : State) (h : Pkt) (d : List Byte) (g : Nat) (off : Nat), InOrder s h (.write d) ∧ (translate (taken h s) h h.length (fun w => w.wr) = .ok g off))
    ∧ (∃ (s : State) (h : Pkt) (g : Nat) (off : Nat), InOrder s h .read ∧ (translate (taken h s) h h.length (fun w => w.rd) = .ok g off))
    ∧ (∃ (s : State) (h : Pkt) (l : Nat), InOrder s h (.flush l) ∧ (keyCheck (taken h s) h = none))
    ∧ (∃ (s : State) (h : Pkt) (k : BitVec 64) (g : Nat) (off : Nat), InOrder s h (.fadd k) ∧ (translate (taken h s) h 8 (fun w => w.atomic) = .ok g off))
    ∧ (∃ (s : State) (h : Pkt) (c : BitVec 64) (w : BitVec 64) (g : Nat) (off : Nat), InOrder s h (.cas c w) ∧ (translate (taken h s) h 8 (fun x => x.atomic) = .ok g off))
    ∧ (∃ (s : State) (h : Pkt) (target : Nat) (v : Nat) (x : Qp), InOrder s h (.notify target v) ∧ (keyCheck (taken h s) h = none) ∧ (qpOf (taken h s) target = some x) ∧ ((keyGroves (taken h s) h.key).any (fun g => (keyGroves (taken h s) x.key).contains g) = true))
    ∧ (∃ (s : State) (h : Pkt) (r : Nat), InOrder s h (.close r)) :=
  ⟨⟨up, { pkt with length := 8 }, [0, 0, 0, 0, 0, 0, 0, 1], 3, 0x40, ⟨pkt_in _ (by decide +kernel) _ (by intro n e; cases e; rfl), by decide +kernel, by decide +kernel, by decide +kernel, by decide +kernel, ⟨qp5, by decide +kernel, rfl⟩, by decide +kernel, by decide +kernel, by decide +kernel⟩, by decide +kernel⟩,
   ⟨up, { pkt with length := 8 }, 3, 0x40, ⟨pkt_in _ (by decide +kernel) _ (by intro n e; cases e; rfl), by decide +kernel, by decide +kernel, by decide +kernel, by decide +kernel, ⟨qp5, by decide +kernel, rfl⟩, by decide +kernel, by decide +kernel, by decide +kernel⟩, by decide +kernel⟩,
   ⟨up, { pkt with ext := 1 }, 1, ⟨pkt_in _ (by decide +kernel) _ (by intro n e; cases e; rfl), by decide +kernel, by decide +kernel, by decide +kernel, by decide +kernel, ⟨qp5, by decide +kernel, rfl⟩, by decide +kernel, by decide +kernel, by decide +kernel⟩, by decide +kernel⟩,
   ⟨up, { pkt with length := 8, ext := 1 }, 1, 3, 0x40, ⟨pkt_in _ (by decide +kernel) _ (by intro n e; cases e; rfl), by decide +kernel, by decide +kernel, by decide +kernel, by decide +kernel, ⟨qp5, by decide +kernel, rfl⟩, by decide +kernel, by decide +kernel, by decide +kernel⟩, by decide +kernel⟩,
   ⟨up, { pkt with length := 8, ext := 2 }, 1, 2, 3, 0x40, ⟨pkt_in _ (by decide +kernel) _ (by intro n e; cases e; rfl), by decide +kernel, by decide +kernel, by decide +kernel, by decide +kernel, ⟨qp5, by decide +kernel, rfl⟩, by decide +kernel, by decide +kernel, by decide +kernel⟩, by decide +kernel⟩,
   ⟨up, { pkt with ext := 1 }, 5, 1, qp5, ⟨pkt_in _ (by decide +kernel) _ (by intro n e; cases e; rfl), by decide +kernel, by decide +kernel, by decide +kernel, by decide +kernel, ⟨qp5, by decide +kernel, rfl⟩, by decide +kernel, by decide +kernel, by decide +kernel⟩, by decide +kernel, by decide +kernel, by decide +kernel⟩,
   ⟨up, pkt, 0, ⟨pkt_in _ (by decide +kernel) _ (by intro n e; cases e; rfl), by decide +kernel, by decide +kernel, by decide +kernel, by decide +kernel, ⟨qp5, by decide +kernel, rfl⟩, by decide +kernel, by decide +kernel, by decide +kernel⟩⟩⟩

theorem witness_VrmpSession :
    (∃ (s : State) (h : Pkt) (b : HelloBody) (n : Nat) (c : PeerClass), PacketIn s h ∧ (h.length = 64) ∧ (classFor s h.srcIp = some (n, c)) ∧ (classKeyed s c = true) ∧ ((peerAt s h.srcIp).bind (fun p => p.2.cookies.find? (fun k => k.1 = b.cookie && decide (now s < k.2.1 + 10000000))) = none) ∧ (b.peerFlag = true ∧ h.qpn = 0 ∧ h.ver = b.maxVer))
    ∧ (∃ (s : State) (h : Pkt) (b : HelloBody) (n : Nat) (c : PeerClass), PacketIn s h ∧ (h.length = 64) ∧ (classFor s h.srcIp = some (n, c)) ∧ (classKeyed s c = true) ∧ ((peerAt s h.srcIp).bind (fun p => p.2.cookies.find? (fun k => k.1 = b.cookie && decide (now s < k.2.1 + 10000000))) = none) ∧ (b.peerFlag = false ∧ h.qpn = 0xFFFFFF))
    ∧ (∃ (s : State) (h : Pkt), QpPacket s h (some 0))
    ∧ (∃ (s : State) (h : Pkt), QpPacket s h (some 0))
    ∧ (∃ (s : State) (q : Nat) (psn : Nat) (x : Qp) (f : FlushP), (qpOf s q = some x) ∧ (x.flushes.find? (fun f => f.psn = psn && f.emitted && !f.acked) = some f) ∧ (flushCovered s q f = true) ∧ (canAnswer s = true))
    ∧ (∃ (s : State) (q : Nat) (x : Qp), (qpOf s q = some x) ∧ (x.unacked ≠ 0))
    ∧ (∃ (s : State) (q : Nat), ((qpOf s q).isSome = true))
    ∧ (∃ (s : State) (q : Nat) (x : Qp), (qpOf s q = some x) ∧ (x.closing = true) ∧ (allAnswered s q x = true) ∧ (canAnswer s = true))
    ∧ (∃ (s : State) (h : Pkt) (n : Nat) (p : Peer), PacketIn s h ∧ (extOk s h (some 0) = true) ∧ (h.qpn = 0) ∧ (peerAt s h.srcIp = some (n, p)))
    ∧ (∃ (s : State) (n : Nat), ((peerOf s n).isSome = true) ∧ (qpsOfPeer s n = [])) :=
  ⟨⟨up, { pkt with length := 64, qpn := 0 }, ⟨true, 2, 1, 4096, 0, 5, 0, 0⟩, 0, class0, by unfold PacketIn; decide +kernel⟩,
   ⟨up, { pkt with length := 64, qpn := 0xFFFFFF }, ⟨false, 2, 1, 4096, 0, 5, 0, 0⟩, 0, class0, by unfold PacketIn; decide +kernel⟩,
   ⟨up, pkt, pkt_in _ (by decide +kernel) _ (by intro n e; cases e; rfl)⟩,
   ⟨up, pkt, pkt_in _ (by decide +kernel) _ (by intro n e; cases e; rfl)⟩,
   ⟨{ up with net := { qps := [(5, some { qp5 with flushes := [⟨2, .loc, 0, true, false, 3⟩] })] } }, 5, 2, { qp5 with flushes := [⟨2, .loc, 0, true, false, 3⟩] }, ⟨2, .loc, 0, true, false, 3⟩, by decide +kernel⟩,
   ⟨{ up with net := { qps := [(5, some { qp5 with unacked := 1 })] } }, 5, { qp5 with unacked := 1 }, by decide +kernel⟩,
   ⟨up, 5, by decide +kernel⟩,
   ⟨{ up with net := { qps := [(5, some { qp5 with closing := true })] } }, 5, { qp5 with closing := true }, by decide +kernel⟩,
   ⟨up, { pkt with qpn := 0 }, 0, peer0, by unfold PacketIn; decide +kernel⟩,
   ⟨{ up with net := { peers := [(0, some peer0)] } }, 0, by decide +kernel⟩⟩

theorem witness_VrmpNotify :
    (∃ (s : State) (id : Nat) (n : Note) (x : Qp), (s.net.notes.find? (fun n => n.id = id) = some n) ∧ ((keyOf s n.key).isSome = true) ∧ ((∀ r ∈ s.net.revokes, r.key = n.key → n.gtc ≤ r.gtc)) ∧ (writesPending s n = false) ∧ (qpOf s n.target = some x) ∧ (x.hostUsed + 256 ≤ x.hostLimit) ∧ (canAnswer s = true))
    ∧ (∃ (s : State) (q : Nat) (x : Qp) (n : NotDel), (qpOf s q = some x) ∧ (oldest x.notifs = some n) ∧ (n.tries < fld s .netRto 19 16) ∧ (canAnswer s = true))
    ∧ (∃ (s : State) (q : Nat) (x : Qp) (n : NotDel), (qpOf s q = some x) ∧ (oldest x.notifs = some n) ∧ (fld s .netRto 19 16 ≤ n.tries))
    ∧ (∃ (s : State) (id : Nat) (n : Note), (s.net.notes.find? (fun n => n.id = id) = some n))
    ∧ (∃ (s : State) (h : Pkt) (code : Nat) (x : Qp), QpPacket s h none ∧ (mustFetch (noteLimit h s) h.qpn = false) ∧ (protOk (noteLimit h s) 2 h.qpn = true) ∧ (qpOf (taken h s) h.qpn = some x) ∧ (x.expPsn = h.psn) ∧ (h.psn < 2 ^ 32) ∧ (inGrant (taken h s) h (.badOpcode code) = true)) :=
  ⟨⟨{ up with net := { up.net with notes := [⟨1, 5, 0, 5, 3, 320, 0, 9⟩], qps := [(5, some { qp5 with hostLimit := 4096 })] } }, 1, ⟨1, 5, 0, 5, 3, 320, 0, 9⟩, { qp5 with hostLimit := 4096 }, by decide +kernel⟩,
   ⟨{ up with net := { qps := [(5, some { qp5 with notifs := [⟨1, 5, 3, 7, 0⟩] })] } }, 5, { qp5 with notifs := [⟨1, 5, 3, 7, 0⟩] }, ⟨1, 5, 3, 7, 0⟩, by decide +kernel⟩,
   ⟨{ up with net := { qps := [(5, some { qp5 with notifs := [⟨1, 5, 3, 8, 0⟩] })] } }, 5, { qp5 with notifs := [⟨1, 5, 3, 8, 0⟩] }, ⟨1, 5, 3, 8, 0⟩, by decide +kernel⟩,
   ⟨{ up with net := { notes := [⟨1, 5, 0, 5, 3, 320, 0, 9⟩] } }, 1, ⟨1, 5, 0, 5, 3, 320, 0, 9⟩, by decide +kernel⟩,
   ⟨up, pkt, 0x33, qp5, pkt_in _ (by decide +kernel) _ (by intro n e; cases e), by decide +kernel, by decide +kernel, by decide +kernel, by decide +kernel, by decide +kernel, by decide +kernel⟩⟩

theorem witness_SpaceKeys :
    (∃ (s : State) (p : Path), BelvorMgr s p ∧ (serving s = true) ∧ (holdAll s = false))
    ∧ (∃ (s : State) (p : Path), BelvorMgr s p ∧ (serving s = true) ∧ (holdAll s = false))
    ∧ (∃ (s : State) (key : BitVec 64) (r : Revoke), (s.net.revokes.find? (fun r => r.key = key) = some r) ∧ (revokeDone s r = true))
    ∧ (∃ (s : State) (p : Path), Manager s p)
    ∧ (∃ (s : State) (p : Path) (n : Nat) (x : Peer), Manager s p ∧ (peerOf s n = some x) ∧ (qpsOfPeer s n = []) ∧ (canAnswer s = true)) :=
  ⟨⟨up, .sp, by unfold BelvorMgr; decide +kernel⟩,
   ⟨up, .sp, by unfold BelvorMgr; decide +kernel⟩,
   ⟨{ up with net := { revokes := [⟨9, 0, .none⟩] } }, 9, ⟨9, 0, .none⟩, by decide +kernel⟩,
   ⟨up, .sp, by unfold Manager; decide +kernel⟩,
   ⟨{ up with net := { peers := [(0, some peer0)] } }, .sp, 0, peer0, by unfold Manager; decide +kernel⟩⟩

theorem witness_NetworkPorts :
    (∃ (s : State) (port : Nat) (ip : BitVec 128), (port < 8) ∧ (netLive s port = true) ∧ ((netOf s port).addrs.contains ip = true))
    ∧ (∃ (s : State) (port : Nat), (port < 8) ∧ ((netOf s port).up = true))
    ∧ (∃ (s : State) (port : Nat), (port < 8) ∧ ((netOf s port).up = true) ∧ ((netOf s port).ptp.length < 64))
    ∧ (∃ (s : State) (port : Nat), (port < 8) ∧ ((netOf s port).up = true) ∧ (64 ≤ (netOf s port).ptp.length))
    ∧ (∃ (s : State) (p : Path), (regUp s p = true))
    ∧ (∃ (s : State) (port : Nat), (port < 8) ∧ ((netOf s port).up = true))
    ∧ (∃ (s : State) (port : Nat), (port < 8) ∧ ((netOf s port).formed = true) ∧ ((netOf s port).held = false) ∧ ((netOf s port).up = false) ∧ (7 ≤ s.pwr.stage) ∧ (s.pwr.stage ≤ 10) ∧ (s.pwr.stopped = false)) :=
  ⟨⟨up, 0, 7, by decide +kernel⟩,
   ⟨up, 0, by decide +kernel⟩,
   ⟨up, 0, by decide +kernel⟩,
   ⟨{ up with net := { ports := [(0, { up := true, ptp := List.replicate 64 ⟨0, true, 0, 0⟩ })] } }, 0, by decide +kernel⟩,
   ⟨up, .sp, by decide +kernel⟩,
   ⟨up, 0, by decide +kernel⟩,
   ⟨{ up with net := { ports := [(7, { formed := true, held := false })] } }, 7, by decide +kernel⟩⟩

theorem witness_TwinStream :
    (∃ (s : State) (h : FrameHdr), FrameIn s h ∧ (s.twin.role = .standby))
    ∧ (∃ (s : State) (h : FrameHdr), FrameIn s h)
    ∧ (∃ (s : State) (h : FrameHdr), FrameIn s h)
    ∧ (∃ (s : State) (h : FrameHdr) (first : Nat) (v : BitVec 128) (w : BitVec 128), FrameIn s h ∧ (s.twin.role = .leader) ∧ (s.twin.digDone = some (first, w)) ∧ (w ≠ v))
    ∧ (∃ (s : State) (h : FrameHdr), FrameIn s h)
    ∧ (∃ (s : State) (h : FrameHdr) (ty : Nat), FrameIn s h ∧ ((ty = 0 ∨ 8 < ty)) ∧ (ty < 256))
    ∧ (∃ (s : State) (h : FrameHdr), FrameIn s h)
    ∧ (∃ (s : State) (h : FrameHdr) (i : Nat), FrameIn s h ∧ (feature s 2 = true) ∧ (s.twin.role ≠ .fenced) ∧ (i < 16))
    ∧ (∃ (s : State) (h : FrameHdr), FrameIn s h) :=
  ⟨⟨stands, frame0, by unfold FrameIn; decide +kernel⟩,
   ⟨leads, frame0, by unfold FrameIn; decide +kernel⟩,
   ⟨leads, frame0, by unfold FrameIn; decide +kernel⟩,
   ⟨{ leads with twin := { leads.twin with digDone := some (1, 5) } }, frame0, 1, 6, 5, by unfold FrameIn; decide +kernel⟩,
   ⟨leads, frame0, by unfold FrameIn; decide +kernel⟩,
   ⟨leads, frame0, 255, by unfold FrameIn; decide +kernel⟩,
   ⟨leads, frame0, by unfold FrameIn; decide +kernel⟩,
   ⟨leads, frame0, 15, by unfold FrameIn; decide +kernel⟩,
   ⟨{ leads with twin := { leads.twin with rekeying := true } }, frame0, by unfold FrameIn; decide +kernel⟩⟩

theorem witness_TwinRoles :
    (∃ (s : State) (h : FrameHdr), FrameIn s h ∧ (s.twin.role = .leader))
    ∧ (∃ (s : State) (h : FrameHdr), FrameIn s h ∧ (s.twin.role = .fenced))
    ∧ (∃ (s : State) (h : FrameHdr), FrameIn s h ∧ (s.twin.role = .standby))
    ∧ (∃ (s : State) (h : FrameHdr), FrameIn s h ∧ (s.twin.role = .leader))
    ∧ (∃ (s : State) (h : FrameHdr), FrameIn s h ∧ (s.twin.role = .standby) ∧ (feature s 4 = true) ∧ (s.twin.epoch + 1 < 2 ^ 32) ∧ (let t := applyReceived ((frameSeen h s).seqr.inputs.length + 1) (frameSeen h s); (t.twin.role = .standby)))
    ∧ (∃ (s : State) (h : FrameHdr), (twLive s = true) ∧ (h.net = false) ∧ (linkOpen s = true) ∧ (h.ok = true) ∧ (h.linkSeq = s.twin.rxSeq % 2 ^ 32) ∧ (h.mem = 0) ∧ (s.twin.role = .leader) ∧ (s.twin.handover = 2) ∧ (h.epoch = s.twin.epoch + 1))
    ∧ (∃ (s : State) (h : FrameHdr), FrameIn s h ∧ (serving s = true))
    ∧ (∃ (s : State) (h : FrameHdr) (b : Nat), FrameIn s h ∧ (serving s = false ∧ b ≠ 0))
    ∧ (∃ (s : State) (h : FrameHdr) (n : NegRec), (twLive s = true) ∧ (h.net = false) ∧ (s.twin.link = .negotiate) ∧ (h.ok = true) ∧ (n.nodeB = s.pwr.nodeB ∧ ownStage9 s = false))
    ∧ (∃ (s : State) (h : FrameHdr) (n : NegRec) (rtt : Nat), (twLive s = true) ∧ (h.net = false) ∧ (s.twin.link = .negotiate) ∧ (h.ok = true) ∧ (n.nodeB ≠ s.pwr.nodeB ∧ negMatches s n = true ∧ linkKeyed s = true ∧ rtt ≤ 1500)) :=
  ⟨⟨leads, frame0, by unfold FrameIn; decide +kernel⟩,
   ⟨{ leads with twin := { leads.twin with role := .fenced } }, frame0, by unfold FrameIn; decide +kernel⟩,
   ⟨stands, frame0, by unfold FrameIn; decide +kernel⟩,
   ⟨leads, frame0, by unfold FrameIn; decide +kernel⟩,
   ⟨stands, frame0, by unfold FrameIn; decide +kernel⟩,
   ⟨{ leads with twin := { leads.twin with handover := 2 } }, { frame0 with epoch := 1 }, by decide +kernel⟩,
   ⟨leads, frame0, by unfold FrameIn; decide +kernel⟩,
   ⟨joins, frame0, 1, by unfold FrameIn; decide +kernel⟩,
   ⟨{ up with twin := { link := .negotiate } }, frame0, neg0, by decide +kernel⟩,
   ⟨{ up with twin := { link := .negotiate } }, frame0, { neg0 with nodeB := true }, 1500, by decide +kernel⟩⟩

theorem witness_TwinTimers :
    (∃ (s : State), (twLive s = true) ∧ (s.twin.role ≠ .unset))
    ∧ (∃ (s : State), (twLive s = true) ∧ (serving s = false) ∧ (s.twin.role ≠ .unset))
    ∧ (∃ (s : State), (twLive s = true) ∧ (s.twin.link = .negotiate))
    ∧ (∃ (s : State), (isReady s = true) ∧ (s.twin.role = .standby))
    ∧ (∃ (s : State), (isReady s = true) ∧ (s.twin.role = .leader) ∧ (feature s 3 = true) ∧ (netSilent s = false) ∧ (fld s .twinTimers 21 21 = 1))
    ∧ (∃ (s : State), (isReady s = true) ∧ (s.twin.role = .leader))
    ∧ (∃ (s : State), (twLive s = true) ∧ (ownStage9 s = true) ∧ (s.twin.sameNode = false) ∧ (fld s .twinTimers 31 22 ≠ 0))
    ∧ (∃ (s : State), (s.twin.role = .leader) ∧ (s.twin.unrep ≠ []) ∧ (s.twin.lagHold = false))
    ∧ (∃ (s : State), (s.twin.lagHold = true))
    ∧ (∃ (s : State), (s.twin.role = .leader) ∧ (s.twin.handover = 1) ∧ (linkOpen s = true) ∧ (s.seqr.unsent = []) ∧ ((∀ i ∈ s.seqr.inputs, i.seq ≠ 0 ∨ isLocal i.op = true)) ∧ (s.twin.peerApplied = s.seqr.nextSeq - 1))
    ∧ (∃ (s : State), (twLive s = true) ∧ (linkOpen s = true) ∧ (s.twin.rekeying = false) ∧ (2 ^ 48 ≤ s.twin.txSeq ∨ 2 ^ 48 ≤ s.twin.netTx)) :=
  ⟨⟨leads, by decide +kernel⟩,
   ⟨stands, by decide +kernel⟩,
   ⟨{ up with twin := { link := .negotiate } }, by decide +kernel⟩,
   ⟨{ stands with twin := { stands.twin with features := 0 } }, by decide +kernel⟩,
   ⟨setFld .twinTimers 0 21 21 1 leads, by decide +kernel⟩,
   ⟨leads, by decide +kernel⟩,
   ⟨{ up with twin := {}, pwr := { up.pwr with stage := 9 }, cfg := { up.cfg with node := { lastRole := .leader } } }, by decide +kernel⟩,
   ⟨{ leads with twin := { leads.twin with unrep := [(1, 0)] } }, by decide +kernel⟩,
   ⟨{ leads with twin := { leads.twin with lagHold := true } }, by decide +kernel⟩,
   ⟨{ leads with twin := { leads.twin with handover := 1, peerApplied := 0 } }, by decide +kernel⟩,
   ⟨{ leads with twin := { leads.twin with txSeq := 2 ^ 48 } }, by decide +kernel⟩⟩

theorem witness_UtlLink :
    (∃ (s : State), (twLive s = true) ∧ (s.twin.link = .down) ∧ (s.twin.noRetry = false))
    ∧ (∃ (s : State) (m : BitVec 16), (twLive s = true) ∧ (s.twin.link = .train) ∧ ((laneGroups s).contains m = true))
    ∧ (∃ (s : State), (s.twin.link = .train))
    ∧ (∃ (s : State), (s.twin.link = .negotiate))
    ∧ (∃ (s : State), (s.twin.link = .degrade))
    ∧ (∃ (s : State) (w : BitVec 16) (m : BitVec 16), (linkOpen s = true) ∧ (narrower s w = some m))
    ∧ (∃ (s : State) (w : BitVec 16), (linkOpen s = true) ∧ (narrower s w = none))
    ∧ (∃ (s : State) (h : FrameHdr) (m : BitVec 16), FrameIn s h ∧ (laneOk (frameSeen h s) m = true)) :=
  ⟨⟨{ up with twin := {} }, by decide +kernel⟩,
   ⟨{ up with twin := { link := .train } }, 0x00FF, by decide +kernel⟩,
   ⟨{ up with twin := { link := .train } }, by decide +kernel⟩,
   ⟨{ up with twin := { link := .negotiate } }, by decide +kernel⟩,
   ⟨{ up with twin := { link := .degrade } }, by decide +kernel⟩,
   ⟨leads, 0x00FF, 0x00FF, by decide +kernel⟩,
   ⟨leads, 0, by decide +kernel⟩,
   ⟨leads, frame0, 0x00F0, by unfold FrameIn; decide +kernel⟩⟩

theorem witness_Resync :
    (∃ (s : State) (h : FrameHdr), FrameIn s h ∧ (serving s = true) ∧ (s.twin.resync = 0))
    ∧ (∃ (s0 : State) (errs : List LineRead) (r : StampRec) (rest : List StampRec), (let s := noteReads errs s0; (isReady s = true) ∧ (s.twin.role = .solo) ∧ (s.twin.resync ≠ 0) ∧ (linkOpen s = true) ∧ (s.twin.metaSend = r :: rest)))
    ∧ (∃ (s : State) (h : FrameHdr), FrameIn s h ∧ (s.twin.role = .joining))
    ∧ (∃ (s : State) (h : FrameHdr), FrameIn s h ∧ (s.twin.role = .joining) ∧ (s.twin.resync ≠ 0))
    ∧ (∃ (s : State) (h : FrameHdr) (c : Chunk), FrameIn s h ∧ (s.twin.role = .joining) ∧ (s.twin.resync ≠ 0) ∧ (c.body = .zero))
    ∧ (∃ (s : State) (c : Chunk) (rest : List Chunk), (s.twin.chunks = c :: rest) ∧ (working s = true) ∧ (s.twin.role = .joining) ∧ (s.twin.applied = c.asOf) ∧ ((tile s c.grove c.tile).frame.isSome = true))
    ∧ (∃ (s : State) (n : Nat), (isReady s = true) ∧ (s.twin.role = .joining) ∧ (s.twin.resync = 1) ∧ (s.twin.chunks = []) ∧ (s.twin.doneSeq = some n) ∧ (n ≤ s.twin.applied) ∧ (s.twin.recopyOut = []) ∧ (s.twin.timeLocked = true) ∧ (linkOpen s = true)) :=
  ⟨⟨leads, frame0, by unfold FrameIn; decide +kernel⟩,
   ⟨{ leads with twin := { leads.twin with role := .solo, resync := 1, metaSend := [⟨0, 0, .flush 5 .loc⟩] } }, [], ⟨0, 0, .flush 5 .loc⟩, [], by decide +kernel⟩,
   ⟨joins, frame0, by unfold FrameIn; decide +kernel⟩,
   ⟨joins, frame0, by unfold FrameIn; decide +kernel⟩,
   ⟨joins, frame0, ⟨3, 0, 0, 0, .zero⟩, by unfold FrameIn; decide +kernel⟩,
   ⟨{ joins with twin := { joins.twin with chunks := [⟨3, 0, 0, 0, .zero⟩] } }, ⟨3, 0, 0, 0, .zero⟩, [], by decide +kernel⟩,
   ⟨{ joins with twin := { joins.twin with doneSeq := some 0, timeLocked := true } }, 0, by decide +kernel⟩⟩

theorem witness_TwinCommands :
    (∃ (s : State) (p : Path), Manager s p ∧ (s.twin.cmdBusy = false) ∧ (s.twin.role = .leader) ∧ (s.twin.peerRole = .standby) ∧ (linkOpen s = true) ∧ (feature s 4 = true))
    ∧ (∃ (s : State) (p : Path), Manager s p ∧ (s.twin.cmdBusy = false) ∧ (s.twin.role = .fenced) ∧ (s.cipher.dukBlocked = false))
    ∧ (∃ (s : State) (p : Path), Manager s p ∧ (s.twin.cmdBusy = false) ∧ (hasTwin s = true) ∧ (ownStage9 s = true) ∧ ((promoteCmd { s with twin := { s.twin with noRetry := false, cmdResult := 0 } }).twin.role = .solo))
    ∧ (∃ (s : State) (p : Path), Manager s p ∧ (s.twin.cmdBusy = false) ∧ (s.twin.role = .fenced) ∧ (s.cipher.dukBlocked = false) ∧ (regWord s .twinCmdArg = s.twin.epoch))
    ∧ (∃ (s : State) (p : Path), Manager s p ∧ (s.twin.cmdBusy = false))
    ∧ (∃ (s : State) (p : Path), Manager s p ∧ (s.twin.cmdBusy = false) ∧ (s.twin.link = .up) ∧ (s.twin.lanes ≠ allLanes s)) :=
  ⟨⟨leads, .sp, by unfold Manager; decide +kernel⟩,
   ⟨{ leads with twin := { role := .fenced } }, .sp, by unfold Manager; decide +kernel⟩,
   ⟨{ up with twin := {}, pwr := { up.pwr with stage := 9 } }, .sp, by unfold Manager; decide +kernel⟩,
   ⟨{ leads with twin := { role := .fenced } }, .sp, by unfold Manager; decide +kernel⟩,
   ⟨up, .sp, by unfold Manager; decide +kernel⟩,
   ⟨{ leads with twin := { leads.twin with lanes := 0x00FF } }, .sp, by unfold Manager; decide +kernel⟩⟩

theorem witness_CipherCommands :
    (∃ (s : State) (p : Path) (n : Nat), Manager s p ∧ (n < nKeySlots s) ∧ ((slotOf s n).bind = 5))
    ∧ (∃ (s : State) (p : Path) (n : Nat), Manager s p ∧ (n < nKeySlots s) ∧ ((slotOf s n).bind = 1) ∧ ((slotOf s n).state = .loaded) ∧ (s.cipher.dukBlocked = false))
    ∧ (∃ (s0 : State) (n : Nat) (t : Nat) (errs : List LineRead), (let s := noteReads errs s0; let g := (slotOf s n).target; (working s = true) ∧ ((slotOf s n).state = .rolling) ∧ (nextRollTile s n = some t) ∧ (moving s g t = false) ∧ (promoting s g t = false) ∧ (portOpen s (regFor s 1) 2048 = true)))
    ∧ (∃ (s : State) (n : Nat), (working s = true) ∧ ((slotOf s n).state = .rolling) ∧ (nextRollTile s n = none) ∧ (rollEnd s n ≤ SMap.get s.tier.rollTile 0 n) ∧ (oldCopies s n = []) ∧ ((tiles s).any (fun p => p.1 = (slotOf s n).target && p.2.2.cellar) = false))
    ∧ (∃ (s : State) (p : Path) (n : Nat), BelvorMgr s p ∧ (keyTakes s n = true))
    ∧ (∃ (s : State) (p : Path) (n : Nat), BelvorMgr s p ∧ (keyTakes s n = true)) :=
  ⟨⟨{ up with cipher := { slots := [(4, { bind := 5 })] } }, .sp, 4, by unfold Manager; decide +kernel⟩,
   ⟨up, .sp, 1, by unfold Manager; decide +kernel⟩,
   ⟨{ up with cipher := { slots := [(1, { state := .rolling, bind := 1, target := 3 })] } }, 1, 0, [], by decide +kernel⟩,
   ⟨{ up with cipher := { slots := [(1, { state := .rolling, bind := 1, target := 3 })] }, tier := { rollTile := [(1, 1024)], md := { groves := [(3, some grove3)] } } }, 1, by decide +kernel⟩,
   ⟨{ up with cipher := { slots := [(4, { bind := 5 })] } }, .sp, 4, by unfold BelvorMgr; decide +kernel⟩,
   ⟨{ up with cipher := { slots := [(4, { bind := 5 })] } }, .sp, 4, by unfold BelvorMgr; decide +kernel⟩⟩

theorem witness_CipherRing :
    (∃ (s : State) (p : Path) (tail : Nat), Manager s p ∧ (tail < 4096) ∧ (tail < ringSize s) ∧ (ringSize (setFld .ciphRqTail 0 11 0 tail s) = ringSize s))
    ∧ (∃ (s : State) (p : Path), Manager s p)
    ∧ (∃ (s : State) (c : Instr) (mode : Nat), (((c, mode) = (.descriptorXts, 1) ∨ (c, mode) = (.descriptorGcm, 2) ∨ (c, mode) = (.descriptorCmac, 3) ∨ (c, mode) = (.descriptorKwp, 4))) ∧ (isReady s = true) ∧ (fld s .ciphRqStatus 31 31 = 0) ∧ (s.cipher.head ≠ fld s .ciphRqTail 11 0) ∧ (ringBase s + ringSize s * 64 ≤ s.cipher.spSize) ∧ (let at_ := ringBase s + s.cipher.head * 64; let d := descOf (spBytes s at_ 64); let r := cipherOp d (slotOf s d.slot).key (spBytes s d.src (readLen d)) (spBytes s d.aad d.aadLen); (d.mode = mode) ∧ (descCode s d = 0) ∧ (r.2 = true)))
    ∧ (∃ (s : State) (lane : Nat), (lane < nLanes s) ∧ (isReady s = true) ∧ (s.cipher.badLanes.contains lane = false))
    ∧ (∃ (s : State) (cls : Nat) (us : Nat), (cls < 9) ∧ (s.cipher.lanesUp = true) ∧ (10 < us) ∧ (s.cipher.sat = [])) :=
  ⟨⟨setFld .ciphRqSize 0 3 0 4 up, .sp, 15, by unfold Manager; decide +kernel⟩,
   ⟨up, .sp, by unfold Manager; decide +kernel⟩,
   ⟨ring, .descriptorXts, 1, by decide +kernel⟩,
   ⟨up, 95, by decide +kernel⟩,
   ⟨up, 8, 11, by decide +kernel⟩⟩

theorem witness_ImageCommands :
    (∃ (s : State) (p : Path) (b : Nat), Manager s p ∧ ((b = 1 ∨ b = 2)))
    ∧ (∃ (s : State) (p : Path) (b : Nat) (v : BankVerdict), Manager s p ∧ ((b = 1 ∨ b = 2)) ∧ (bankFail s b v = none))
    ∧ (∃ (s : State) (b : Nat) (off : Nat) (w : List Word), (isReady s = true) ∧ ((b = 1 ∨ b = 2)) ∧ (b ≠ s.cfg.running) ∧ (b ≠ s.cfg.node.active) ∧ (off % 4 = 0) ∧ (off + 4 * w.length ≤ 0x800000))
    ∧ (∃ (s : State) (b : Nat), (isReady s = true) ∧ (b = s.cfg.running))
    ∧ (∃ (s : State) (v : BankVerdict), (isReady s = true) ∧ (s.cfg.pldmBank ≠ 0) ∧ (bankFail s s.cfg.pldmBank v = none)) :=
  ⟨⟨up, .sp, 2, by unfold Manager; decide +kernel⟩,
   ⟨imgState, .sp, 1, okBank, by unfold Manager; decide +kernel, by decide, small_bank⟩,
   ⟨up, 2, 0, [1], by decide +kernel⟩,
   ⟨up, 1, by decide +kernel⟩,
   ⟨imgReady, okBank, by decide +kernel, by decide +kernel, ready_bank⟩⟩

theorem witness_GroveCommands :
    (∃ (s : State) (p : Path), BelvorMgr s p ∧ (serving s = true) ∧ (holdAll s = false))
    ∧ (∃ (s : State) (p : Path), BelvorUp s p)
    ∧ (∃ (s : State) (p : Path), BelvorUp s p) :=
  ⟨⟨up, .sp, by unfold BelvorMgr; decide +kernel⟩,
   ⟨up, .mailbox 0 0, by unfold BelvorUp; decide +kernel⟩,
   ⟨up, .mailbox 0 0, by unfold BelvorUp; decide +kernel⟩⟩

theorem witness_ControlAccess :
    (∃ (s : State) (p : Path), (regUp s p = true))
    ∧ (∃ (s : State) (p : Path), (regUp s p = true))
    ∧ (∃ (s : State) (p : Path) (a : Nat) (n : Nat), BelvorUp s p ∧ (badRange a n = false))
    ∧ (∃ (s : State) (p : Path) (a : Nat) (w : List Word), BelvorUp s p ∧ (badRange a w.length = false))
    ∧ (∃ (s : State), (regUp (loadIr 0x41 s) .glade = true) ∧ (s.cfg.rdp ≠ 2)) :=
  ⟨⟨up, .mailbox 0 0, by decide +kernel⟩,
   ⟨up, .mailbox 0 0, by decide +kernel⟩,
   ⟨up, .mailbox 0 0, 0x0A000040, 1, by unfold BelvorUp; decide +kernel⟩,
   ⟨up, .sp, 0x0A000040, [1], by unfold BelvorUp; decide +kernel⟩,
   ⟨{ up with cfg := { up.cfg with dbg := .opened } }, by decide +kernel⟩⟩

theorem witness_StoreCommands :
    (∃ (s : State) (p : Path), Manager s p ∧ (s.cfg.eng.unlock = 0))
    ∧ (∃ (s : State) (p : Path) (k1 : Word), Manager s p ∧ (s.cfg.eng.unlock = 0) ∧ (k1 ≠ 0x4E6B21D3#32))
    ∧ (∃ (s : State) (p : Path), Manager s p ∧ (s.cfg.eng.unlock = 2) ∧ (s.cfg.eng.who = srcOf p))
    ∧ (∃ (s : State), (s.cfg.eng.busy = true) ∧ (s.cfg.eng.owed = none))
    ∧ (∃ (s : State) (p : Path), Manager s p ∧ ((flashWord p (fld s .flashAddr 26 0) s).2 = false))
    ∧ (∃ (s : State) (tag : Nat) (a : Nat) (w : List Word), BelvorMgr s .mgmt ∧ (s.cfg.eng.busy = false) ∧ (uartMay s a = true) ∧ (a % 4 = 0) ∧ (w ≠ []) ∧ (w.length ≤ 256) ∧ (a / 1024 = (a + 4 * w.length - 1) / 1024) ∧ ((startStore 1 a w (some (.mgmt, tag)) s).2 = true))
    ∧ (∃ (s : State) (tag : Nat) (a : Nat), BelvorMgr s .mgmt ∧ (s.cfg.eng.busy = false) ∧ (uartMay s a = true) ∧ ((startStore 2 a [] (some (.mgmt, tag)) s).2 = true))
    ∧ (∃ (s : State), (uartUp s = true)) :=
  ⟨⟨up, .sp, by unfold Manager; decide +kernel⟩,
   ⟨up, .sp, 0, by unfold Manager; decide +kernel⟩,
   ⟨{ up with cfg := { up.cfg with eng := { unlock := 2, who := 311 } } }, .sp, by unfold Manager; decide +kernel⟩,
   ⟨{ up with cfg := { up.cfg with eng := { busy := true, run := 2 } } }, by decide +kernel⟩,
   ⟨up, .sp, by unfold Manager; decide +kernel⟩,
   ⟨up, 0, 0x2800000, [1], by unfold BelvorMgr; decide +kernel⟩,
   ⟨up, 0, 0x2800000, by unfold BelvorMgr; decide +kernel⟩,
   ⟨bare, by decide +kernel⟩⟩

theorem witness_Security :
    (∃ (s : State) (p : Path) (v : Word), Manager s p ∧ (s.cfg.rdp < v.toNat % 4) ∧ (v.toNat % 4 ≠ 3) ∧ (v.toNat / 65536 = 0x5244) ∧ (s.cfg.eng.unlock = 2) ∧ (s.cfg.eng.who = srcOf p))
    ∧ (∃ (s : State) (p : Path) (v : Word), Manager s p ∧ (v.toNat / 65536 = 0x5244) ∧ (s.cfg.rdp = 1) ∧ (v.toNat % 4 = 0) ∧ (s.cfg.lowerAuth = true))
    ∧ (∃ (s : State), (s.cfg.lowering = true) ∧ (s.pwr.state = .on))
    ∧ (∃ (s : State) (p : Path) (n : Nat), Manager s p ∧ ((n = 1 ∨ n = 2)) ∧ (noChallenge s n = false))
    ∧ (∃ (s : State) (n : Nat), ((n = 1 ∨ n = 2)) ∧ (noChallenge (loadIr 0x40 s) n = false) ∧ (gtcRuns s = true))
    ∧ (∃ (s : State) (p : Path), Manager s p ∧ (p ≠ .glade) ∧ (s.cfg.locked = false) ∧ (s.cfg.rdp ≠ 2) ∧ (s.cfg.pendPurpose ≠ 0) ∧ (now s - s.cfg.challengeAt ≤ 60000000000))
    ∧ (∃ (s : State), (s.cfg.dbg = .opening))
    ∧ (∃ (s : State) (a : Nat), (i3cUp s = true) ∧ (s.cfg.i3c = none) ∧ (a < 128)) :=
  ⟨⟨{ up with cfg := { up.cfg with eng := { unlock := 2, who := 311 } } }, .sp, 0x52440002, by unfold Manager; decide +kernel⟩,
   ⟨{ up with cfg := { up.cfg with lowerAuth := true } }, .sp, 0x52440000, by unfold Manager; decide +kernel⟩,
   ⟨{ up with cfg := { up.cfg with lowering := true } }, by decide +kernel⟩,
   ⟨up, .sp, 2, by unfold Manager; decide +kernel⟩,
   ⟨up, 2, by decide +kernel⟩,
   ⟨{ up with cfg := { up.cfg with pendPurpose := 1 } }, .sp, by unfold Manager; decide +kernel⟩,
   ⟨{ up with cfg := { up.cfg with dbg := .opening } }, by decide +kernel⟩,
   ⟨up, 127, by decide +kernel⟩⟩

theorem witness_Jtag :
    ∃ (s : State) (c : Instr) (n : Nat), (((c, n) = (.extest, 0) ∨ (c, n) = (.clamp, 3) ∨ (c, n) = (.highz, 4))) ∧ (clearable s = true) :=
  ⟨up, .clamp, 3, by decide +kernel⟩

theorem witness_PowerCommands :
    (∃ (s : State) (p : Path), (pathUp s p = true) ∧ (isMgmt p = true) ∧ (powerOnOk s = true))
    ∧ (∃ (s : State) (p : Path), (pathUp s p = true) ∧ (isMgmt p = true) ∧ (powerOffOk s = true))
    ∧ (∃ (s : State) (p : Path), (pathUp s p = true) ∧ (isMgmt p = true))
    ∧ (∃ (s : State) (p : Path), Manager s p ∧ (isReady s = true))
    ∧ (∃ (s : State) (e : Nat), (eventListed s e = true ∨ e = 0x3FF))
    ∧ (∃ (s : State) (e : Nat), (eventListed s e = true ∨ e = 0x3FF))
    ∧ (∃ (s : State), (s.pwr.stage = 0xD))
    ∧ (∃ (s : State), (s.pwr.state = .cellar)) :=
  ⟨⟨{ State.reset with pwr := { aon := true, state := .hold } }, .mgmt, by decide +kernel⟩,
   ⟨up, .mgmt, by decide +kernel⟩,
   ⟨up, .mgmt, by decide +kernel⟩,
   ⟨up, .sp, by unfold Manager; decide +kernel⟩,
   ⟨up, 629, by decide +kernel⟩,
   ⟨up, 0x3FF, by decide +kernel⟩,
   ⟨{ up with pwr := { up.pwr with stage := 0xD } }, by decide +kernel⟩,
   ⟨{ up with pwr := { up.pwr with state := .cellar } }, by decide +kernel⟩⟩

theorem witness_PowerSequence :
    (∃ (s : State), (s.pwr.aon = false))
    ∧ (∃ (s : State), (s.pwr.aon = true))
    ∧ (∃ (s : State) (n : Nat), (n < 12) ∧ (s.pwr.aon = true) ∧ (s.pwr.stage = 2) ∧ (s.pwr.sub = 0) ∧ (s.pwr.retrying = false) ∧ (stepRail s = some n))
    ∧ (∃ (s : State) (n : Nat), (n < 12) ∧ (s.pwr.stage = 2) ∧ (s.pwr.sub = 0) ∧ (s.pwr.retrying = false) ∧ (stepRail s = some n) ∧ (s.pwr.pg.getLsbD n = false))
    ∧ (∃ (s : State), (s.pwr.stage = 2) ∧ (s.pwr.sub = 1) ∧ (s.pwr.retrying = false))
    ∧ (∃ (s : State), (s.pwr.stage = 2) ∧ (s.pwr.sub = 2) ∧ (s.pwr.retrying = true))
    ∧ (∃ (s : State) (i : Nat), (i < 4) ∧ (s.pwr.state = .on) ∧ (s.pwr.retrying = false) ∧ (2 ≤ s.pwr.stage) ∧ (s.pwr.pg &&& ((tableOf s).depends[i]?).getD 0xFFF = ((tableOf s).depends[i]?).getD 0xFFF))
    ∧ (∃ (s : State) (n : Nat), (n < 12) ∧ (s.pwr.en.getLsbD n = true) ∧ (s.pwr.pg.getLsbD n = true) ∧ (s.pwr.state = .on) ∧ (s.pwr.retrying = false))
    ∧ (∃ (s : State) (n : Nat), (n < 12) ∧ (s.pwr.downSteps.head? = some n) ∧ (s.pwr.flushWait = false) ∧ (s.pwr.en.getLsbD n = false) ∧ (s.pwr.pg.getLsbD n = true)) :=
  ⟨⟨State.reset, by decide +kernel⟩,
   ⟨up, by decide +kernel⟩,
   ⟨rails, 0, by decide +kernel⟩,
   ⟨rails, 0, by decide +kernel⟩,
   ⟨{ rails with pwr := { rails.pwr with sub := 1 } }, by decide +kernel⟩,
   ⟨{ rails with pwr := { rails.pwr with sub := 2, retrying := true } }, by decide +kernel⟩,
   ⟨up, 3, by decide +kernel⟩,
   ⟨up, 11, by decide +kernel⟩,
   ⟨{ up with pwr := { up.pwr with downSteps := [1], en := 0 } }, 1, by decide +kernel⟩⟩

theorem witness_PowerInputs :
    (∃ (s : State), (s.pwr.aon = true) ∧ (s.pwr.infail = false) ∧ (isReady s = true) ∧ (s.pwr.infailUps = 0) ∧ (canVault s = false))
    ∧ (∃ (s : State), (s.pwr.infail = true) ∧ (s.pwr.stage = 0))
    ∧ (∃ (s : State), (s.pwr.aon = true) ∧ (s.pwr.estore = false))
    ∧ (∃ (s : State), (s.pwr.estore = true) ∧ (isReady s = true) ∧ (serving s = true))
    ∧ (∃ (s : State), (s.pwr.state = .offWait) ∧ (s.pwr.offPast = false) ∧ (s.pwr.toHold = true))
    ∧ (∃ (s : State), (storeUp s = true))
    ∧ (∃ (s : State), (s.pwr.flushWait = true)) :=
  ⟨⟨{ up with cfg := { up.cfg with img := none } }, by decide +kernel⟩,
   ⟨{ State.reset with pwr := { aon := true, infail := true } }, by decide +kernel⟩,
   ⟨up, by decide +kernel⟩,
   ⟨{ up with pwr := { up.pwr with estore := true } }, by decide +kernel⟩,
   ⟨{ up with pwr := { state := .offWait, toHold := true } }, by decide +kernel⟩,
   ⟨up, by decide +kernel⟩,
   ⟨{ up with pwr := { up.pwr with flushWait := true } }, by decide +kernel⟩⟩

theorem witness_BringUp :
    (∃ (s : State) (i : Stage1In) (t : PTable), (s.pwr.state = .powerUp) ∧ (s.pwr.stage = 1) ∧ (s.pwr.waitSupply = false) ∧ (s.pwr.stopped = false) ∧ (i.crystalOk = true) ∧ (i.unstable = false) ∧ (s.cfg.lowering = false) ∧ (let s1 := modPwr (fun p => { p with nodeB := i.nodeB, boot := i.boot % 4, i3cAddr := i.i3cAddr % 8, unstable := i.unstable }) s; let s2 := readCopies 2 (readCopies 0 (reErase [0x100, 0x103, 0x300, 0x303] (markCopies 2 (markCopies 0 s1)))); (s2.pwr.sector = some t)))
    ∧ (∃ (s : State), (inStage s 3 = true) ∧ (s.fuse.calOk = true) ∧ (s.pwr.warm = true))
    ∧ (∃ (s : State), (inStage s 4 = true))
    ∧ (∃ (s : State), (inStage s 5 = true) ∧ (s.pwr.boot = 3))
    ∧ (∃ (s : State), (inStage s 5 = true) ∧ (s.pwr.boot ≠ 3) ∧ (s.cfg.cand = none))
    ∧ (∃ (s : State) (im : Image), (inStage s 6 = true) ∧ (s.cfg.cand = some im) ∧ (stage6Fail s (readRaw s s.cfg.running) im = none) ∧ ((slotOf (applyImage im { s with cfg := { s.cfg with cand := none } }) im.tiers.metaSlot).state ≠ .empty))
    ∧ (∃ (s : State) (d : List DramTrain) (n : List NandTrain), (inStage s 7 = true) ∧ (let s1 := trainDram (img s) d (mclkOn s); ((List.range 16).any (fun n => (setOf s1 n).valid && (setOf s1 n).state != 2) = true)))
    ∧ (∃ (s : State), (inStage s 8 = true) ∧ (s.pwr.warm = true))
    ∧ (∃ (s : State), (inStage s 8 = true) ∧ (s.pwr.warm = false))
    ∧ (∃ (s : State), (inStage s 9 = true) ∧ (s.twin.role = .unset) ∧ (s.twin.link = .down) ∧ (hasTwin s = true))
    ∧ (∃ (s : State), (inStage s 9 = true) ∧ (joined s = true) ∧ (s.cfg.fallback = false) ∧ (s.tier.unprotected = [])) :=
  ⟨⟨{ rails with pwr := { rails.pwr with stage := 1, state := .powerUp } }, stage1In, ptable, by decide +kernel⟩,
   ⟨{ up with pwr := { up.pwr with stage := 3, warm := true } }, by decide +kernel⟩,
   ⟨{ up with pwr := { up.pwr with stage := 4 } }, by decide +kernel⟩,
   ⟨{ up with pwr := { up.pwr with stage := 5, boot := 3 } }, by decide +kernel⟩,
   ⟨{ up with pwr := { up.pwr with stage := 5 } }, by decide +kernel⟩,
   ⟨bringUp6, parseImage rawImage, by decide +kernel, rfl, by rw [show bringUp6.cfg.running = 1 from rfl, raw_image bringUp6 rfl]; decide +kernel, by decide +kernel⟩,
   ⟨bringUp7, [⟨[], true, true, true, 500⟩], [], by decide +kernel⟩,
   ⟨{ up with pwr := { up.pwr with stage := 8, warm := true } }, by decide +kernel⟩,
   ⟨{ up with pwr := { up.pwr with stage := 8, warm := false } }, by decide +kernel⟩,
   ⟨{ up with pwr := { up.pwr with stage := 9 }, twin := {} }, by decide +kernel⟩,
   ⟨{ up with pwr := { up.pwr with stage := 9 } }, by decide +kernel⟩⟩

theorem witness_ThermalAndTime :
    (∃ (s : State), (s.pwr.aon = true))
    ∧ (∃ (s : State), (gtcRuns s = true))
    ∧ (∃ (s : State) (n : Nat) (t : Int), (n < 16) ∧ (s.pwr.aon = true) ∧ (s.pwr.trip = false) ∧ (3 ≤ (sensorOf s n).hotFor) ∧ ((noteTrip n false t s).pwr.trip = true) ∧ (s.pwr.state = .on))
    ∧ (∃ (s : State), (gtcRuns s = true) ∧ (timeFollows s = false))
    ∧ (∃ (s : State), (s.cfg.img.isSome = true) ∧ (timeFollows s = false) ∧ ((img s).clocks.timeSrc = 1))
    ∧ (∃ (s : State), (pathUp s .sp = true) ∧ (serving s = true))
    ∧ (∃ (s : State) (d : Nat), (d < 28) ∧ (lossSeen s = true) ∧ (domainOn s d = true))
    ∧ (∃ (s : State) (e : Nat), (hasCrossing s e = true) ∧ (collecting s = true)) :=
  ⟨⟨up, by decide +kernel⟩,
   ⟨up, by decide +kernel⟩,
   ⟨{ up with therm := { sensors := [(15, { valid := true, temp := 500, hotFor := 3 })] } }, 15, 500, by decide +kernel⟩,
   ⟨up, by decide +kernel⟩,
   ⟨{ up with cfg := { img := some { clocks := { timeSrc := 1 } } } }, by decide +kernel⟩,
   ⟨up, by decide +kernel⟩,
   ⟨up, 27, by decide +kernel⟩,
   ⟨up, 52, by decide +kernel⟩⟩

theorem witness_FaultCollector :
    (∃ (s : State) (e : Nat), (eventListed s e = true) ∧ (collecting s = true) ∧ ((fltOf s e).severe = false) ∧ ((fltOf s e).count ≠ 0))
    ∧ (∃ (s : State) (e : Nat), (eventListed s e = true) ∧ (collecting s = true) ∧ ((fltOf s e).severe = true) ∧ ((fltOf s e).timer.isSome = true))
    ∧ (∃ (s : State) (p : Path) (k : Nat), Manager s p ∧ (k < 20))
    ∧ (∃ (s : State) (p : Path), Manager s p)
    ∧ (∃ (s : State) (p : Path), Manager s p)
    ∧ (∃ (s : State) (p : Path) (n : Nat), Manager s p ∧ (isReady s = true) ∧ (n < 8) ∧ ((netOf s n).formed = true)) :=
  ⟨⟨{ up with flt := { src := [(64, some ⟨8, 1, 0, 0, 0, 3, false, 0, none, 0⟩)] } }, 64, by decide +kernel⟩,
   ⟨{ up with flt := { src := [(64, some ⟨8, 3, 1, 0, 0, 9, true, 3, some 0, 0⟩)] } }, 64, by decide +kernel⟩,
   ⟨up, .sp, 19, by unfold Manager; decide +kernel⟩,
   ⟨up, .sp, by unfold Manager; decide +kernel⟩,
   ⟨up, .sp, by unfold Manager; decide +kernel⟩,
   ⟨up, .sp, 0, by unfold Manager; decide +kernel⟩⟩

theorem witness_IntegrityAndMonitors :
    (∃ (s : State) (n : Nat), (macPresent s n = true) ∧ (s.integ.scrubbing = true) ∧ (isReady s = true) ∧ (SMap.get s.integ.ptr 0 n ≠ 2047))
    ∧ (∃ (s : State) (p : Path), Manager s p ∧ (fld s .intFlipSel 31 31 = 0))
    ∧ (∃ (s : State) (p : Path), Manager s p)
    ∧ (∃ (s : State) (p : Path) (u : Nat), Manager s p ∧ (u < 24))
    ∧ (∃ (s : State), (isReady s = true) ∧ (s.recd.started = false))
    ∧ (∃ (s : State), (isReady s = true) ∧ (s.recd.started = true) ∧ (s.recd.frozen = false))
    ∧ (∃ (s : State) (p : Path), Manager s p ∧ (s.recd.frozen = true)) :=
  ⟨⟨up, 0, by decide +kernel⟩,
   ⟨up, .sp, by unfold Manager; decide +kernel⟩,
   ⟨up, .sp, by unfold Manager; decide +kernel⟩,
   ⟨up, .sp, 23, by unfold Manager; decide +kernel⟩,
   ⟨up, by decide +kernel⟩,
   ⟨{ up with recd := { started := true } }, by decide +kernel⟩,
   ⟨{ up with recd := { frozen := true } }, .sp, by unfold Manager; decide +kernel⟩⟩

theorem witness_EveryCommandCompletes :
    ∃ (c : Instr) (s : State), (unitThere c s = false) :=
  ⟨.zqCalibration 15, { up with fuse := { part := .sbx4808 } }, by decide +kernel⟩

theorem witness_OccurrencesTaken :
    (∃ (c : Instr) (s : State) (t : State), (wellFormed c = true) ∧ (unitThere c s = true) ∧ (exec c s = .next t))
    ∧ (∃ (c : Instr) (s : State) (t : State), Inv s ∧ (exec c s = .next t))
    ∧ (∃ (s : State) (t : State), Inv s ∧ (step s = .next t))
    ∧ (∃ (s : State), Resting s) :=
  ⟨⟨.bypass, State.reset, State.reset, rfl, rfl, jtag_step⟩,
   ⟨.bypass, State.reset, State.reset, rfl, jtag_step⟩,
   ⟨{ State.reset with pending := [.demotion []] }, State.reset, rfl, demotion_step⟩,
   ⟨{ up with tier := { up.tier with lastCond := nodeCond up } }, by unfold Resting; decide +kernel⟩⟩

theorem witness_QueueAndFuses :
    (∃ (c : Instr) (s : State) (t : State), (exec c s = .next t))
    ∧ (∃ (c : Instr) (rest : List Instr) (s : State) (t : State), (step { s with pending := c :: rest } = .next t))
    ∧ (∃ (s : State) (t : State), (s.pending = []) ∧ (step s = .next t)) :=
  ⟨⟨.demotion [], State.reset, State.reset, demotion_exec⟩,
   ⟨.demotion [], [], State.reset, State.reset, demotion_step⟩,
   ⟨State.reset, State.reset, ⟨rfl, idle_step⟩⟩⟩

theorem witness_MemoryFrame :
    ∃ (c : Instr) (s : State) (t : State), (keepsMemory c = true) ∧ (exec c s = .next t) :=
  ⟨.bypass, State.reset, State.reset, rfl, jtag_step⟩

theorem witness_MemoryCanonical :
    (∃ (c : Instr) (s : State) (t : State), (Memory.wf s = true) ∧ (exec c s = .next t))
    ∧ (∃ (s : State) (t : State), (Memory.wf s = true) ∧ (step s = .next t)) :=
  ⟨⟨.bypass, State.reset, State.reset, rfl, jtag_step⟩,
   ⟨{ State.reset with pending := [.demotion []] }, State.reset, rfl, demotion_step⟩⟩

theorem witness_RegisterMap :
    (∃ (r : RegSpec) (i : Nat) (j : Nat), (r ∈ regTable) ∧ (i < r.n1) ∧ (j < r.n2))
    ∧ (∃ (r : RegSpec) (q : RegSpec) (i : Nat) (j : Nat) (k : Nat) (l : Nat), (r ∈ regTable) ∧ (q ∈ regTable) ∧ (i < r.n1) ∧ (j < r.n2) ∧ (k < q.n1) ∧ (l < q.n2) ∧ (regAddr r.id i j = regAddr q.id k l))
    ∧ (∃ (s : State) (p : Path), (isMgmt p = true) ∧ (SMap.get s.latch none (latchKey p 0x0A000040) = none))
    ∧ (∃ (s : State) (p : Path), Manager s p)
    ∧ (∃ (v : Nat), (v % 16 = 0 ∨ 6 < v % 16)) :=
  ⟨⟨tierReg, 0, 0, by decide +kernel⟩,
   ⟨tierReg, tierReg, 0, 0, 0, 0, by decide +kernel⟩,
   ⟨up, .sp, by decide +kernel⟩,
   ⟨up, .sp, by unfold Manager; decide +kernel⟩,
   ⟨7, by decide +kernel⟩⟩

theorem witness_RegisterStore :
    (∃ (s : State), (SMap.rising 0 s.regs = true))
    ∧ (∃ (s : State) (id : RegId) (i : Nat) (j : Nat) (a : Nat), (SMap.rising 0 s.regs = true) ∧ (a ≠ regAddr id i j))
    ∧ (∃ (s : State), (SMap.rising 0 s.regs = true)) :=
  ⟨⟨up, by decide +kernel⟩,
   ⟨up, .tierCeiling, 0, 0, 0, by decide +kernel⟩,
   ⟨up, by decide +kernel⟩⟩

theorem witness_LineMerge :
    (∃ (k : Nat), (k < 64))
    ∧ (∃ (s : State), (SMap.wf 0 s.tier.t1 = true)) :=
  ⟨⟨63, by decide +kernel⟩,
   ⟨up, by decide +kernel⟩⟩

theorem witness_HdmDecode :
    (∃ (d : Decoder) (a : Nat) (b : Nat) (x : Nat), (0 < d.gran) ∧ (0 < d.ways) ∧ (decodeHpa d a = some x) ∧ (decodeHpa d b = some x))
    ∧ (∃ (d : Decoder) (a : Nat) (x : Nat), (0 < d.gran) ∧ (0 < d.ways) ∧ (d.size % (d.gran * d.ways) = 0) ∧ (decodeHpa d a = some x))
    ∧ (∃ (d : Decoder) (a : Nat), (0 < d.gran) ∧ (0 < d.ways) ∧ (d.hpaBase ≤ a) ∧ (a < d.hpaBase + d.size))
    ∧ (∃ (d : Decoder), (d.hpaBase = 0x4000000000) ∧ (0x1235678 < d.size) ∧ (d.ways = 2) ∧ (d.gran = 4096) ∧ (d.pos = 1) ∧ (d.dpaBase = 0x100000000)) :=
  ⟨⟨decoder0, 0x4000000040, 0x4000000040, 0x40, by decide +kernel⟩,
   ⟨decoder0, 0x40FFFFFFFF, 0xFFFFFFFF, by decide +kernel⟩,
   ⟨decoder0, 0x4000000000, by decide +kernel⟩,
   ⟨⟨0x4000000000, 0x10000000, 2, 4096, 1, 0x100000000, false⟩, by decide +kernel⟩⟩

theorem witness_GroveAddress :
    (∃ (s : State) (t : State) (r : CxlReq) (write : Bool) (poison : Bool) (g : Nat) (line : Nat), (checkReq s r write poison = (t, .go g line)))
    ∧ (∃ (s : State) (r : CxlReq) (dpa : Nat), (dpaOf s r = some dpa)) :=
  ⟨⟨up, up, req0, true, false, 3, 1, by decide +kernel⟩,
   ⟨up, req0, 0x40, by decide +kernel⟩⟩

theorem witness_StampOrder :
    (∃ (s : State), (SMap.rising 0 s.seqr.marks = true))
    ∧ (∃ (l : List Input) (i : Input), (headOf l = some i)) :=
  ⟨⟨up, by decide +kernel⟩,
   ⟨[input0], input0, by decide +kernel⟩⟩

theorem witness_ProductCode :
    (∃ (b : Nat), (b < 80))
    ∧ (∃ (a : Nat) (b : Nat), (a < b) ∧ (b < 80)) :=
  ⟨⟨79, by decide +kernel⟩,
   ⟨78, 79, by decide +kernel⟩⟩

theorem witness_HostPrivilege :
    (∃ (s : State) (p : Path), HostPath s p)
    ∧ (∃ (s : State) (cause : Nat) (p : Path) (addr : Nat), (3 ≤ s.pwr.stage) ∧ (SMap.rising 0 s.regs = true) ∧ (cause < 8) ∧ (srcOf p < 4096) ∧ (addr < 2 ^ 32) ∧ (fld s .glbAccErr0 31 31 = 0))
    ∧ (∃ (s : State) (p : Path), BelvorUp s p ∧ (isMgmt p = false))
    ∧ (∃ (s : State) (p : Path), (pathUp s p = true) ∧ (isReady s = false) ∧ (uartUp s = false)) :=
  ⟨⟨up, .mailbox 0 0, by unfold HostPath; decide +kernel⟩,
   ⟨up, 7, .mailbox 0 0, 0xFFFFFFFF, by decide +kernel⟩,
   ⟨up, .mailbox 0 0, by unfold BelvorUp; decide +kernel⟩,
   ⟨{ up with pwr := { up.pwr with stopped := true } }, .mgmt, by decide +kernel⟩⟩

theorem witness_UnassignedAddress :
    (∃ (s : State) (p : Path) (addr : Nat), (regUp s p = true) ∧ (regAt (wordAddr p addr) = none))
    ∧ (∃ (p : Path) (addr : Nat), (regAt (wordAddr p addr) = none))
    ∧ (∃ (s : State) (p : Path) (addr : Nat), BelvorUp s p ∧ (badRange addr 1 = false) ∧ (regAt (wordAddr p addr) = none))
    ∧ (∃ (s : State), (3 ≤ s.pwr.stage)) :=
  ⟨⟨up, .sp, 0xFFFFFFFF, by decide +kernel⟩,
   ⟨.mgmt, 0xFFFFFFFC, by decide +kernel⟩,
   ⟨up, .mailbox 0 0, 0xFFFFFFF8, by unfold BelvorUp; decide +kernel⟩,
   ⟨up, by decide +kernel⟩⟩

theorem witness_RecordLayouts :
    (∃ (s : State) (r : DivRec), (s.tier.md.divs[fld s .twinDivIndex 19 0]? = some r) ∧ (r.gtc < 2 ^ 64) ∧ (r.src < 4096) ∧ (r.grove < 1024) ∧ (r.line < 2 ^ 42))
    ∧ (∃ (r : PwrRec), (r.gtc < 2 ^ 64) ∧ (r.src < 2 ^ 16) ∧ (r.reason < 256) ∧ (r.step < 16) ∧ (r.attempt < 8) ∧ (r.stage < 16))
    ∧ (∃ (r : PwrRec) (n : Nat), (n < 12) ∧ (SMap.get r.elapsed 0 n < 2 ^ 16))
    ∧ (∃ (r : PwrRec), (r.torn = false) ∧ (r.seq < 2 ^ 32) ∧ (r.ups < 2 ^ 32)) :=
  ⟨⟨{ up with tier := { md := { divs := [⟨2 ^ 64 - 1, 4095, 1023, 2 ^ 42 - 1⟩] } } }, ⟨2 ^ 64 - 1, 4095, 1023, 2 ^ 42 - 1⟩, by decide +kernel⟩,
   ⟨record0, by decide +kernel⟩,
   ⟨record0, 11, by decide +kernel⟩,
   ⟨record0, by decide +kernel⟩⟩

end Sys2Proof.Tests
end

section
/-!
PROOFS. Every command answers a next state (log 7): its meaning is the end of an effect (`done`), or the same for
a unit that the part may lack (`onUnit`).
-/

namespace Sys2Proof.Machine

open Sys2Proof

/-- Whether or not the part has the unit, a physical event answers a next state. -/
theorem onUnit_completes (ok : Bool) (s t : State) : ∃ u, onUnit ok s t = .next u := by
  cases ok with
  | false => exact ⟨s, rfl⟩
  | true => exact ⟨settle t, rfl⟩

/-- A physical event on a unit that the part lacks changes nothing (R2, R10, log 7). -/
theorem onUnit_absent {ok : Bool} (h : ok = false) (s t : State) : onUnit ok s t = .next s := by
  subst h
  rfl

/-- The commands that name a unit answer through `onUnit`, all others through `done`. -/
theorem exec_completes (c : Instr) (s : State) : ∃ t, exec c s = .next t := by
  cases c with
  | memRd | memSpecRd | memInv | memWr | memWrPtl | unsupportedM2sOpcode | gpfPhase1 | gpfPhase2
  | gpfPhase2Complete | gpfPhase2Overtime | sourceHeartbeat | mergeStall | zqCalibration | dqsDriftCompensation
  | refreshDue | mr4Poll | selfRefreshEntry | caParityAlert | patrolRead | nandEraseDone | staticWearLevel
  | readDisturbLimit | stripeParityTimeout | dieDead | hostLaneFailure | hostLinkDown | hotReset | pmeTurnOff
  | decoderCommit | initiateDynamicCapacityAdd | addDynamicCapacityResponse | releaseDynamicCapacity
  | forcedDynamicCapacityRelease | identifyMemoryDevice | setPartitionInfo | setLsa | getPoisonList
  | clearPoison | injectPoison | ideKmKeyProg | keyGo | ideFail | isolate | hostPortRelease | retrain
  | logClear | hello | write | readReq | flush | atomicFadd | atomicCas | ack | credit | notify | close
  | peerClose | reservedOpcode | arpRequest | neighborSolicitation | icmpEcho | pauseFrame | ptpEventMessage
  | netLinkChange | laneSelfTest | cipherSaturation | clearing | pgGood | pgTimeout | rstoStretchExpiry
  | pgLoss | pgFall | pgLowTimeout | thermalTrip | pllLockLoss | refclkLoss | crossingFault | leakTick
  | graceExpiry | scrubRead | allocationGrant | getLdAllocations | bindLd | unbindLd | setLdAllocations
  | caRecoveryComplete | hostLinkUp | configurationRequest | spdmMessage =>
    exact onUnit_completes _ _ _
  | _ => exact ⟨_, rfl⟩

/-- Each command for which `unitThere` asks about a unit asks `onUnit` for the same unit; no other command names a
unit that can be missing. -/
theorem exec_of_unit_absent (c : Instr) (s : State) (h : unitThere c s = false) : exec c s = .next s := by
  cases c with
  | zqCalibration | dqsDriftCompensation | refreshDue | mr4Poll | selfRefreshEntry | caParityAlert
  | caRecoveryComplete | patrolRead | nandEraseDone | staticWearLevel | readDisturbLimit | dieDead
  | stripeParityTimeout | laneSelfTest | scrubRead | crossingFault | leakTick | graceExpiry | clearing =>
    exact onUnit_absent h _ _
  | thermalTrip sensor analog temp =>
    have analogOnly : (!analog || sensor % 4 == 3) = false := h
    exact onUnit_absent (by rw [analogOnly, Bool.and_false]) _ _
  | _ => cases h

/-- Settles O46: every meaning is `done` or `onUnit`, and a step on an empty queue is a tick. -/
theorem everyCommandCompletes : Obligations.EveryCommandCompletes := by
  refine ⟨exec_completes, exec_of_unit_absent, fun s => ?_⟩
  unfold step
  cases s.pending with
  | nil => exact ⟨tick s, rfl⟩
  | cons c rest => exact exec_completes c { s with pending := rest }

end Sys2Proof.Machine
end

section
/-!
PROOFS. No command, and no reaction of the collector to it, writes the queue of waiting commands or the fuses:
the frame of each meaning, carried over the dispatch and over the step.
-/

namespace Sys2Proof.Machine

open Sys2Proof

theorem outer_eq_iff {s t : State} : t.outer = s.outer ↔ t.pending = s.pending ∧ t.fuse = s.fuse := Prod.ext_iff

/-- The frame of the queue and the fuses, over the dispatch: each command by the frame of its meaning. -/
theorem outer_exec {s t : State} : ∀ {c : Instr}, exec c s = .next t → t.outer = s.outer
  | .memRd .., h => outer_execMemRd h
  | .memSpecRd .., h => outer_execMemSpecRd h
  | .memInv .., h => outer_execMemInv h
  | .memWr .., h => outer_execMemWr h
  | .memWrPtl .., h => outer_execMemWrPtl h
  | .unsupportedM2sOpcode .., h => outer_execUnsupportedM2sOpcode h
  | .readWatchdog .., h => outer_execReadWatchdog h
  | .gpfPhase1 .., h => outer_execGpfPhase1 h
  | .gpfPhase2 .., h => outer_execGpfPhase2 h
  | .gpfPhase2Complete .., h => outer_execGpfPhase2Complete h
  | .gpfPhase2Overtime .., h => outer_execGpfPhase2Overtime h
  | .sourceHeartbeat .., h => outer_execSourceHeartbeat h
  | .sequencerEmit .., h => outer_execSequencerEmit h
  | .mergeStall .., h => outer_execMergeStall h
  | .heldWriteRelease .., h => outer_execHeldWriteRelease h
  | .landingDrain .., h => outer_execLandingDrain h
  | .landingDrainDone .., h => outer_execLandingDrainDone h
  | .canopyFill .., h => outer_execCanopyFill h
  | .evictionWritten .., h => outer_execEvictionWritten h
  | .promotionLineArrival .., h => outer_execPromotionLineArrival h
  | .promotionComplete .., h => outer_execPromotionComplete h
  | .lateBoundExpiry .., h => outer_execLateBoundExpiry h
  | .demotion .., h => outer_execDemotion h
  | .ageSweep .., h => outer_execAgeSweep h
  | .trickle .., h => outer_execTrickle h
  | .metadataTrickle .., h => outer_execMetadataTrickle h
  | .wearGovernorTick .., h => outer_execWearGovernorTick h
  | .seal .., h => outer_execSeal h
  | .unseal .., h => outer_execUnseal h
  | .sealCopy .., h => outer_execSealCopy h
  | .post .., h => outer_execPost h
  | .append .., h => outer_execAppend h
  | .cancel .., h => outer_execCancel h
  | .scheduleStage .., h => outer_execScheduleStage h
  | .scheduleEntryRetire .., h => outer_execScheduleEntryRetire h
  | .t2RepairDone .., h => outer_execT2RepairDone h
  | .poisonClear .., h => outer_execPoisonClear h
  | .cellarDrain .., h => outer_execCellarDrain h
  | .vaultComplete .., h => outer_execVaultComplete h
  | .clean .., h => outer_execClean h
  | .invalidate .., h => outer_execInvalidate h
  | .cleanInvalidate .., h => outer_execCleanInvalidate h
  | .zeroRange .., h => outer_execZeroRange h
  | .maintComplete .., h => outer_execMaintComplete h
  | .canopyDisable .., h => outer_execCanopyDisable h
  | .canopyEnable .., h => outer_execCanopyEnable h
  | .disableComplete .., h => outer_execDisableComplete h
  | .zqCalibration .., h => outer_execZqCalibration h
  | .dqsDriftCompensation .., h => outer_execDqsDriftCompensation h
  | .refreshDue .., h => outer_execRefreshDue h
  | .mr4Poll .., h => outer_execMr4Poll h
  | .selfRefreshEntry .., h => outer_execSelfRefreshEntry h
  | .caParityAlert .., h => outer_execCaParityAlert h
  | .patrolRead .., h => outer_execPatrolRead h
  | .evacuate .., h => outer_execEvacuate h
  | .frameMove .., h => outer_execFrameMove h
  | .frameMoveComplete .., h => outer_execFrameMoveComplete h
  | .returnSet .., h => outer_execReturnSet h
  | .abortEvac .., h => outer_execAbortEvac h
  | .ueClear .., h => outer_execUeClear h
  | .nandReadComplete .., h => outer_execNandReadComplete h
  | .nandProgramDone .., h => outer_execNandProgramDone h
  | .nandEraseDone .., h => outer_execNandEraseDone h
  | .reclaim .., h => outer_execReclaim h
  | .relocation .., h => outer_execRelocation h
  | .staticWearLevel .., h => outer_execStaticWearLevel h
  | .readDisturbLimit .., h => outer_execReadDisturbLimit h
  | .stripeParityTimeout .., h => outer_execStripeParityTimeout h
  | .dieDead .., h => outer_execDieDead h
  | .dieRebuild .., h => outer_execDieRebuild h
  | .backgroundScan .., h => outer_execBackgroundScan h
  | .cellarBlockErase .., h => outer_execCellarBlockErase h
  | .hostLaneFailure .., h => outer_execHostLaneFailure h
  | .hostLinkDown .., h => outer_execHostLinkDown h
  | .hotReset .., h => outer_execHotReset h
  | .pmeTurnOff .., h => outer_execPmeTurnOff h
  | .decoderCommit .., h => outer_execDecoderCommit h
  | .initiateDynamicCapacityAdd .., h => outer_execInitiateDynamicCapacityAdd h
  | .addDynamicCapacityResponse .., h => outer_execAddDynamicCapacityResponse h
  | .releaseDynamicCapacity .., h => outer_execReleaseDynamicCapacity h
  | .forcedDynamicCapacityRelease .., h => outer_execForcedDynamicCapacityRelease h
  | .identifyMemoryDevice .., h => outer_execIdentifyMemoryDevice h
  | .setPartitionInfo .., h => outer_execSetPartitionInfo h
  | .setLsa .., h => outer_execSetLsa h
  | .getPoisonList .., h => outer_execGetPoisonList h
  | .clearPoison .., h => outer_execClearPoison h
  | .injectPoison _ _ _ dpa, h => outer_execInjectPoison (dpa := dpa) h
  | .ideKmKeyProg .., h => outer_execIdeKmKeyProg h
  | .keyGo .., h => outer_execKeyGo h
  | .ideFail .., h => outer_execIdeFail h
  | .isolate .., h => outer_execIsolate h
  | .hostPortRelease .., h => outer_execHostPortRelease h
  | .retrain .., h => outer_execRetrain h
  | .logClear .., h => outer_execLogClear h
  | .hello .., h => outer_execHello h
  | .write .., h => outer_execWrite h
  | .readReq .., h => outer_execReadReq h
  | .flush .., h => outer_execFlush h
  | .flushAck .., h => outer_execFlushAck h
  | .atomicFadd .., h => outer_execAtomicFadd h
  | .atomicCas .., h => outer_execAtomicCas h
  | .ack .., h => outer_execAck h
  | .credit .., h => outer_execCredit h
  | .notify .., h => outer_execNotify h
  | .notifyDelivery .., h => outer_execNotifyDelivery h
  | .notifyRetransmit .., h => outer_execNotifyRetransmit h
  | .notifyUndelivered .., h => outer_execNotifyUndelivered h
  | .close .., h => outer_execClose h
  | .peerClose .., h => outer_execPeerClose h
  | .closeComplete .., h => outer_execCloseComplete h
  | .reservedOpcode .., h => outer_execReservedOpcode h
  | .ackDelayExpiry .., h => outer_execAckDelayExpiry h
  | .qpContextFetch .., h => outer_execQpContextFetch h
  | .peerIdleTimeout .., h => outer_execPeerIdleTimeout h
  | .keyRegister .., h => outer_execKeyRegister h
  | .keyRevoke .., h => outer_execKeyRevoke h
  | .revocationComplete .., h => outer_execRevocationComplete h
  | .closeQp .., h => outer_execCloseQp h
  | .closePeer .., h => outer_execClosePeer h
  | .arpRequest .., h => outer_execArpRequest h
  | .neighborSolicitation .., h => outer_execNeighborSolicitation h
  | .icmpEcho .., h => outer_execIcmpEcho h
  | .pauseFrame .., h => outer_execPauseFrame h
  | .ptpEventMessage .., h => outer_execPtpEventMessage h
  | .ptpTimestampPop .., h => outer_execPtpTimestampPop h
  | .netLinkChange .., h => outer_execNetLinkChange h
  | .stampedInput .., h => outer_execStampedInput h
  | .landingAck .., h => outer_execLandingAck h
  | .heartbeat _ _ _ ackSeq _, h => outer_execHeartbeat (_ackSeq := ackSeq) h
  | .timeFrame .., h => outer_execTimeFrame h
  | .digest .., h => outer_execDigest h
  | .resyncData .., h => outer_execResyncData h
  | .epochFrame .., h => outer_execEpochFrame h
  | .reservedFrameType .., h => outer_execReservedFrameType h
  | .negotiate .., h => outer_execNegotiate h
  | .retryReq .., h => outer_execRetryReq h
  | .laneChange .., h => outer_execLaneChange h
  | .leaving .., h => outer_execLeaving h
  | .release .., h => outer_execRelease h
  | .releaseAck .., h => outer_execReleaseAck h
  | .resyncStart .., h => outer_execResyncStart h
  | .resyncDone .., h => outer_execResyncDone h
  | .repairReq .., h => outer_execRepairReq h
  | .rekey .., h => outer_execRekey h
  | .handoverFrame .., h => outer_execHandoverFrame h
  | .handoverAck .., h => outer_execHandoverAck h
  | .recopy .., h => outer_execRecopy h
  | .heartbeatTimer .., h => outer_execHeartbeatTimer h
  | .timeTimer .., h => outer_execTimeTimer h
  | .negotiateTimer .., h => outer_execNegotiateTimer h
  | .thbExpiry .., h => outer_execThbExpiry h
  | .leaderUtlSilence .., h => outer_execLeaderUtlSilence h
  | .fenceExpiry .., h => outer_execFenceExpiry h
  | .tjoinExpiry .., h => outer_execTjoinExpiry h
  | .lagHoldStart .., h => outer_execLagHoldStart h
  | .lagHoldLong .., h => outer_execLagHoldLong h
  | .handoverSend .., h => outer_execHandoverSend h
  | .resyncChunkRead .., h => outer_execResyncChunkRead h
  | .resyncChunkInstall .., h => outer_execResyncChunkInstall h
  | .resyncComplete .., h => outer_execResyncComplete h
  | .utlTrainLock .., h => outer_execUtlTrainLock h
  | .utlTrainTimeout .., h => outer_execUtlTrainTimeout h
  | .utlNegotiateTimeout .., h => outer_execUtlNegotiateTimeout h
  | .utlRetryTimer .., h => outer_execUtlRetryTimer h
  | .utlLaneFault .., h => outer_execUtlLaneFault h
  | .laneChangeTimeout .., h => outer_execLaneChangeTimeout h
  | .rekeyCount .., h => outer_execRekeyCount h
  | .handover .., h => outer_execHandover h
  | .resume .., h => outer_execResume h
  | .forceLead .., h => outer_execForceLead h
  | .witnessGrant .., h => outer_execWitnessGrant h
  | .divClear .., h => outer_execDivClear h
  | .rewiden .., h => outer_execRewiden h
  | .zeroise .., h => outer_execZeroise h
  | .roll .., h => outer_execRoll h
  | .rollWalk .., h => outer_execRollWalk h
  | .rollComplete .., h => outer_execRollComplete h
  | .keyGenerate .., h => outer_execKeyGenerate h
  | .keyImport .., h => outer_execKeyImport h
  | .rqTailWrite .., h => outer_execRqTailWrite h
  | .descriptorXts .., h => outer_execDescriptorXts h
  | .descriptorGcm .., h => outer_execDescriptorGcm h
  | .descriptorCmac .., h => outer_execDescriptorCmac h
  | .descriptorKwp .., h => outer_execDescriptorKwp h
  | .ringRestart .., h => outer_execRingRestart h
  | .laneSelfTest .., h => outer_execLaneSelfTest h
  | .cipherSaturation .., h => outer_execCipherSaturation h
  | .verifyBank .., h => outer_execVerifyBank h
  | .selectBank .., h => outer_execSelectBank h
  | .groveCreate .., h => outer_execGroveCreate h
  | .groveResize .., h => outer_execGroveResize h
  | .groveDelete .., h => outer_execGroveDelete h
  | .groveStatus .., h => outer_execGroveStatus h
  | .getVersion .., h => outer_execGetVersion h
  | .regRead .., h => outer_execRegRead h
  | .regWrite .., h => outer_execRegWrite h
  | .storeWrite .., h => outer_execStoreWrite h
  | .storeErase .., h => outer_execStoreErase h
  | .provision .., h => outer_execProvision h
  | .powerOn .., h => outer_execPowerOn h
  | .powerOff .., h => outer_execPowerOff h
  | .powerStatus .., h => outer_execPowerStatus h
  | .powerLogRead .., h => outer_execPowerLogRead h
  | .clear .., h => outer_execClear h
  | .clearing .., h => outer_execClearing h
  | .clearingEntryDone .., h => outer_execClearingEntryDone h
  | .vddAonValid .., h => outer_execVddAonValid h
  | .stage1 .., h => outer_execStage1 h
  | .pgGood .., h => outer_execPgGood h
  | .pgTimeout .., h => outer_execPgTimeout h
  | .settleExpiry .., h => outer_execSettleExpiry h
  | .railRetryExpiry .., h => outer_execRailRetryExpiry h
  | .rstoStretchExpiry .., h => outer_execRstoStretchExpiry h
  | .stage3 .., h => outer_execStage3 h
  | .stage4 .., h => outer_execStage4 h
  | .stage5 .., h => outer_execStage5 h
  | .stage6 .., h => outer_execStage6 h
  | .stage7 .., h => outer_execStage7 h
  | .stage8 .., h => outer_execStage8 h
  | .stage9 .., h => outer_execStage9 h
  | .ready .., h => outer_execReady h
  | .infailNAssert .., h => outer_execInfailNAssert h
  | .infailNDeassert .., h => outer_execInfailNDeassert h
  | .estoreOkAssert .., h => outer_execEstoreOkAssert h
  | .estoreOkDeassert .., h => outer_execEstoreOkDeassert h
  | .pgLoss .., h => outer_execPgLoss h
  | .pgFall .., h => outer_execPgFall h
  | .pgLowTimeout .., h => outer_execPgLowTimeout h
  | .logFlushDone .., h => outer_execLogFlushDone h
  | .minOffTimeExpiry .., h => outer_execMinOffTimeExpiry h
  | .powerLogProgram .., h => outer_execPowerLogProgram h
  | .thermalSample .., h => outer_execThermalSample h
  | .dutyUpdate .., h => outer_execDutyUpdate h
  | .thermalTrip .., h => outer_execThermalTrip h
  | .ppsEdge .., h => outer_execPpsEdge h
  | .ppsMissing .., h => outer_execPpsMissing h
  | .gtcCorrection .., h => outer_execGtcCorrection h
  | .pllLockLoss .., h => outer_execPllLockLoss h
  | .refclkLoss .., h => outer_execRefclkLoss h
  | .crossingFault .., h => outer_execCrossingFault h
  | .leakTick .., h => outer_execLeakTick h
  | .graceExpiry .., h => outer_execGraceExpiry h
  | .severeAcknowledge .., h => outer_execSevereAcknowledge h
  | .ackAll .., h => outer_execAckAll h
  | .releaseGrove .., h => outer_execReleaseGrove h
  | .releasePort .., h => outer_execReleasePort h
  | .scrubRead .., h => outer_execScrubRead h
  | .flipArm .., h => outer_execFlipArm h
  | .allocationGrant .., h => outer_execAllocationGrant h
  | .perfStart .., h => outer_execPerfStart h
  | .perfStop .., h => outer_execPerfStop h
  | .perfGlobalClear .., h => outer_execPerfGlobalClear h
  | .perfUnitClear .., h => outer_execPerfUnitClear h
  | .epochBoundary .., h => outer_execEpochBoundary h
  | .freeze .., h => outer_execFreeze h
  | .thaw .., h => outer_execThaw h
  | .recClear .., h => outer_execRecClear h
  | .flashUnlock .., h => outer_execFlashUnlock h
  | .flashProgram .., h => outer_execFlashProgram h
  | .flashErase .., h => outer_execFlashErase h
  | .blankCheck .., h => outer_execBlankCheck h
  | .flashCommandDone .., h => outer_execFlashCommandDone h
  | .flashDataRead .., h => outer_execFlashDataRead h
  | .rdpRaise .., h => outer_execRdpRaise h
  | .rdpLower .., h => outer_execRdpLower h
  | .rdpLowerEraseDone .., h => outer_execRdpLowerEraseDone h
  | .idcode .., h => outer_execIdcode h
  | .bypass .., h => outer_execBypass h
  | .samplePreload .., h => outer_execSamplePreload h
  | .extest .., h => outer_execExtest h
  | .clamp .., h => outer_execClamp h
  | .highz .., h => outer_execHighz h
  | .gladeAuth .., h => outer_execGladeAuth h
  | .gladeAccess .., h => outer_execGladeAccess h
  | .challenge .., h => outer_execChallenge h
  | .submit .., h => outer_execSubmit h
  | .gladeOpenEraseDone .., h => outer_execGladeOpenEraseDone h
  | .entdaa .., h => outer_execEntdaa h
  | .setdasa .., h => outer_execSetdasa h
  | .getLdInfo .., h => outer_execGetLdInfo h
  | .getLdAllocations .., h => outer_execGetLdAllocations h
  | .getMultiHeadedInfo .., h => outer_execGetMultiHeadedInfo h
  | .bindLd .., h => outer_execBindLd h
  | .unbindLd .., h => outer_execUnbindLd h
  | .setLdAllocations .., h => outer_execSetLdAllocations h
  | .pldmFirmwareUpdate .., h => outer_execPldmFirmwareUpdate h
  | .pldmActivate .., h => outer_execPldmActivate h
  | .loReadLatch .., h => outer_execLoReadLatch h
  | .rcRead .., h => outer_execRcRead h
  | .registerWrite .., h => outer_execRegisterWrite h
  | .caRecoveryComplete .., h => outer_execCaRecoveryComplete h
  | .returnTrainingComplete .., h => outer_execReturnTrainingComplete h
  | .hostLinkUp .., h => outer_execHostLinkUp h
  | .configurationRequest .., h => outer_execConfigurationRequest h
  | .spdmMessage .., h => outer_execSpdmMessage h
  | .vddAonLoss .., h => outer_execVddAonLoss h

theorem step_cons (c : Instr) (rest : List Instr) (s : State) :
    step { s with pending := c :: rest } = exec c { s with pending := rest } := rfl

theorem step_of_empty {s : State} (h : s.pending = []) : step s = .next (tick s) := by
  unfold step
  rw [h]

/-- Settles O48: the frame of `exec` for a command, that of `tick` for an empty queue. -/
theorem queueAndFuses : Obligations.QueueAndFuses := by
  refine ⟨fun _ _ _ h => outer_eq_iff.1 (outer_exec h), fun c rest s t h => ?_, fun s t empty h => ?_⟩
  · rw [step_cons] at h
    exact outer_eq_iff.1 (outer_exec h)
  · rw [step_of_empty empty] at h
    obtain ⟨pending, fuse⟩ := outer_eq_iff.1 (outer_tick s)
    exact Host.Outcome.next.inj h ▸ ⟨pending.trans empty, fuse⟩

end Sys2Proof.Machine
end

section
/-!
PROOFS. The commands that `keepsMemory` lists touch neither the tiers nor Canopy before the collector acts (R437).
-/

namespace Sys2Proof.Machine

open Sys2Proof

/-- The memory frame over the dispatch: each listed command by the frame of its meaning; what is not listed
contradicts the hypothesis. -/
theorem keeps_exec {s t : State} : ∀ c : Instr, keepsMemory c = true → exec c s = .next t → Keeps s t
  | .memInv .. => fun _ => keeps_execMemInv
  | .memWr .. => fun _ => keeps_execMemWr
  | .memWrPtl .. => fun _ => keeps_execMemWrPtl
  | .unsupportedM2sOpcode .. => fun _ => keeps_execUnsupportedM2sOpcode
  | .readWatchdog .. => fun _ => keeps_execReadWatchdog
  | .gpfPhase1 .. => fun _ => keeps_execGpfPhase1
  | .gpfPhase2 .. => fun _ => keeps_execGpfPhase2
  | .gpfPhase2Complete .. => fun _ => keeps_execGpfPhase2Complete
  | .gpfPhase2Overtime .. => fun _ => keeps_execGpfPhase2Overtime
  | .sourceHeartbeat .. => fun _ => keeps_execSourceHeartbeat
  | .mergeStall .. => fun _ => keeps_execMergeStall
  | .heldWriteRelease .. => fun _ => keeps_execHeldWriteRelease
  | .seal .. => fun _ => keeps_execSeal
  | .unseal .. => fun _ => keeps_execUnseal
  | .post .. => fun _ => keeps_execPost
  | .append .. => fun _ => keeps_execAppend
  | .cancel .. => fun _ => keeps_execCancel
  | .zqCalibration .. => fun _ => keeps_execZqCalibration
  | .dqsDriftCompensation .. => fun _ => keeps_execDqsDriftCompensation
  | .refreshDue .. => fun _ => keeps_execRefreshDue
  | .mr4Poll .. => fun _ => keeps_execMr4Poll
  | .selfRefreshEntry .. => fun _ => keeps_execSelfRefreshEntry
  | .caParityAlert .. => fun _ => keeps_execCaParityAlert
  | .evacuate .. => fun _ => keeps_execEvacuate
  | .returnSet .. => fun _ => keeps_execReturnSet
  | .abortEvac .. => fun _ => keeps_execAbortEvac
  | .ueClear .. => fun _ => keeps_execUeClear
  | .staticWearLevel .. => fun _ => keeps_execStaticWearLevel
  | .readDisturbLimit .. => fun _ => keeps_execReadDisturbLimit
  | .hostLaneFailure .. => fun _ => keeps_execHostLaneFailure
  | .hostLinkDown .. => fun _ => keeps_execHostLinkDown
  | .hotReset .. => fun _ => keeps_execHotReset
  | .pmeTurnOff .. => fun _ => keeps_execPmeTurnOff
  | .decoderCommit .. => fun _ => keeps_execDecoderCommit
  | .initiateDynamicCapacityAdd .. => fun _ => keeps_execInitiateDynamicCapacityAdd
  | .addDynamicCapacityResponse .. => fun _ => keeps_execAddDynamicCapacityResponse
  | .releaseDynamicCapacity .. => fun _ => keeps_execReleaseDynamicCapacity
  | .forcedDynamicCapacityRelease .. => fun _ => keeps_execForcedDynamicCapacityRelease
  | .identifyMemoryDevice .. => fun _ => keeps_execIdentifyMemoryDevice
  | .setPartitionInfo .. => fun _ => keeps_execSetPartitionInfo
  | .setLsa .. => fun _ => keeps_execSetLsa
  | .getPoisonList .. => fun _ => keeps_execGetPoisonList
  | .clearPoison .. => fun _ => keeps_execClearPoison
  | .injectPoison _ _ _ dpa => fun _ => keeps_execInjectPoison (dpa := dpa)
  | .ideKmKeyProg .. => fun _ => keeps_execIdeKmKeyProg
  | .keyGo .. => fun _ => keeps_execKeyGo
  | .ideFail .. => fun _ => keeps_execIdeFail
  | .isolate .. => fun _ => keeps_execIsolate
  | .hostPortRelease .. => fun _ => keeps_execHostPortRelease
  | .retrain .. => fun _ => keeps_execRetrain
  | .logClear .. => fun _ => keeps_execLogClear
  | .flushAck .. => fun _ => keeps_execFlushAck
  | .ack .. => fun _ => keeps_execAck
  | .credit .. => fun _ => keeps_execCredit
  | .notifyDelivery .. => fun _ => keeps_execNotifyDelivery
  | .notifyRetransmit .. => fun _ => keeps_execNotifyRetransmit
  | .notifyUndelivered .. => fun _ => keeps_execNotifyUndelivered
  | .peerClose .. => fun _ => keeps_execPeerClose
  | .closeComplete .. => fun _ => keeps_execCloseComplete
  | .ackDelayExpiry .. => fun _ => keeps_execAckDelayExpiry
  | .peerIdleTimeout .. => fun _ => keeps_execPeerIdleTimeout
  | .keyRegister .. => fun _ => keeps_execKeyRegister
  | .keyRevoke .. => fun _ => keeps_execKeyRevoke
  | .closeQp .. => fun _ => keeps_execCloseQp
  | .closePeer .. => fun _ => keeps_execClosePeer
  | .arpRequest .. => fun _ => keeps_execArpRequest
  | .neighborSolicitation .. => fun _ => keeps_execNeighborSolicitation
  | .icmpEcho .. => fun _ => keeps_execIcmpEcho
  | .pauseFrame .. => fun _ => keeps_execPauseFrame
  | .ptpEventMessage .. => fun _ => keeps_execPtpEventMessage
  | .ptpTimestampPop .. => fun _ => keeps_execPtpTimestampPop
  | .netLinkChange .. => fun _ => keeps_execNetLinkChange
  | .heartbeatTimer .. => fun _ => keeps_execHeartbeatTimer
  | .timeTimer .. => fun _ => keeps_execTimeTimer
  | .negotiateTimer .. => fun _ => keeps_execNegotiateTimer
  | .leaderUtlSilence .. => fun _ => keeps_execLeaderUtlSilence
  | .lagHoldStart .. => fun _ => keeps_execLagHoldStart
  | .lagHoldLong .. => fun _ => keeps_execLagHoldLong
  | .handoverSend .. => fun _ => keeps_execHandoverSend
  | .utlTrainLock .. => fun _ => keeps_execUtlTrainLock
  | .utlTrainTimeout .. => fun _ => keeps_execUtlTrainTimeout
  | .utlNegotiateTimeout .. => fun _ => keeps_execUtlNegotiateTimeout
  | .utlRetryTimer .. => fun _ => keeps_execUtlRetryTimer
  | .utlLaneFault .. => fun _ => keeps_execUtlLaneFault
  | .laneChangeTimeout .. => fun _ => keeps_execLaneChangeTimeout
  | .rekeyCount .. => fun _ => keeps_execRekeyCount
  | .handover .. => fun _ => keeps_execHandover
  | .rewiden .. => fun _ => keeps_execRewiden
  | .zeroise .. => fun _ => keeps_execZeroise
  | .rollComplete .. => fun _ => keeps_execRollComplete
  | .rqTailWrite .. => fun _ => keeps_execRqTailWrite
  | .ringRestart .. => fun _ => keeps_execRingRestart
  | .laneSelfTest .. => fun _ => keeps_execLaneSelfTest
  | .verifyBank .. => fun _ => keeps_execVerifyBank
  | .selectBank .. => fun _ => keeps_execSelectBank
  | .groveCreate .. => fun _ => keeps_execGroveCreate
  | .groveResize .. => fun _ => keeps_execGroveResize
  | .groveDelete .. => fun _ => keeps_execGroveDelete
  | .groveStatus .. => fun _ => keeps_execGroveStatus
  | .getVersion .. => fun _ => keeps_execGetVersion
  | .regRead .. => fun _ => keeps_execRegRead
  | .storeWrite .. => fun _ => keeps_execStoreWrite
  | .storeErase .. => fun _ => keeps_execStoreErase
  | .provision .. => fun _ => keeps_execProvision
  | .powerOn .. => fun _ => keeps_execPowerOn
  | .powerStatus .. => fun _ => keeps_execPowerStatus
  | .powerLogRead .. => fun _ => keeps_execPowerLogRead
  | .clear .. => fun _ => keeps_execClear
  | .clearing .. => fun _ => keeps_execClearing
  | .vddAonValid .. => fun _ => keeps_execVddAonValid
  | .stage1 .. => fun _ => keeps_execStage1
  | .pgGood .. => fun _ => keeps_execPgGood
  | .pgTimeout .. => fun _ => keeps_execPgTimeout
  | .settleExpiry .. => fun _ => keeps_execSettleExpiry
  | .railRetryExpiry .. => fun _ => keeps_execRailRetryExpiry
  | .rstoStretchExpiry .. => fun _ => keeps_execRstoStretchExpiry
  | .stage3 .. => fun _ => keeps_execStage3
  | .stage4 .. => fun _ => keeps_execStage4
  | .stage5 .. => fun _ => keeps_execStage5
  | .stage9 .. => fun _ => keeps_execStage9
  | .infailNDeassert .. => fun _ => keeps_execInfailNDeassert
  | .estoreOkAssert .. => fun _ => keeps_execEstoreOkAssert
  | .estoreOkDeassert .. => fun _ => keeps_execEstoreOkDeassert
  | .pgFall .. => fun _ => keeps_execPgFall
  | .pgLowTimeout .. => fun _ => keeps_execPgLowTimeout
  | .logFlushDone .. => fun _ => keeps_execLogFlushDone
  | .minOffTimeExpiry .. => fun _ => keeps_execMinOffTimeExpiry
  | .powerLogProgram .. => fun _ => keeps_execPowerLogProgram
  | .thermalSample .. => fun _ => keeps_execThermalSample
  | .dutyUpdate .. => fun _ => keeps_execDutyUpdate
  | .ppsEdge .. => fun _ => keeps_execPpsEdge
  | .ppsMissing .. => fun _ => keeps_execPpsMissing
  | .gtcCorrection .. => fun _ => keeps_execGtcCorrection
  | .pllLockLoss .. => fun _ => keeps_execPllLockLoss
  | .refclkLoss .. => fun _ => keeps_execRefclkLoss
  | .crossingFault .. => fun _ => keeps_execCrossingFault
  | .leakTick .. => fun _ => keeps_execLeakTick
  | .severeAcknowledge .. => fun _ => keeps_execSevereAcknowledge
  | .ackAll .. => fun _ => keeps_execAckAll
  | .releasePort .. => fun _ => keeps_execReleasePort
  | .scrubRead .. => fun _ => keeps_execScrubRead
  | .flipArm .. => fun _ => keeps_execFlipArm
  | .perfStart .. => fun _ => keeps_execPerfStart
  | .perfStop .. => fun _ => keeps_execPerfStop
  | .perfGlobalClear .. => fun _ => keeps_execPerfGlobalClear
  | .perfUnitClear .. => fun _ => keeps_execPerfUnitClear
  | .epochBoundary .. => fun _ => keeps_execEpochBoundary
  | .freeze .. => fun _ => keeps_execFreeze
  | .thaw .. => fun _ => keeps_execThaw
  | .recClear .. => fun _ => keeps_execRecClear
  | .flashUnlock .. => fun _ => keeps_execFlashUnlock
  | .flashProgram .. => fun _ => keeps_execFlashProgram
  | .flashErase .. => fun _ => keeps_execFlashErase
  | .blankCheck .. => fun _ => keeps_execBlankCheck
  | .flashCommandDone .. => fun _ => keeps_execFlashCommandDone
  | .flashDataRead .. => fun _ => keeps_execFlashDataRead
  | .rdpRaise .. => fun _ => keeps_execRdpRaise
  | .rdpLower .. => fun _ => keeps_execRdpLower
  | .idcode .. => fun _ => keeps_execIdcode
  | .bypass .. => fun _ => keeps_execBypass
  | .samplePreload .. => fun _ => keeps_execSamplePreload
  | .extest .. => fun _ => keeps_execExtest
  | .clamp .. => fun _ => keeps_execClamp
  | .highz .. => fun _ => keeps_execHighz
  | .gladeAuth .. => fun _ => keeps_execGladeAuth
  | .challenge .. => fun _ => keeps_execChallenge
  | .submit .. => fun _ => keeps_execSubmit
  | .gladeOpenEraseDone .. => fun _ => keeps_execGladeOpenEraseDone
  | .entdaa .. => fun _ => keeps_execEntdaa
  | .setdasa .. => fun _ => keeps_execSetdasa
  | .getLdInfo .. => fun _ => keeps_execGetLdInfo
  | .getLdAllocations .. => fun _ => keeps_execGetLdAllocations
  | .getMultiHeadedInfo .. => fun _ => keeps_execGetMultiHeadedInfo
  | .bindLd .. => fun _ => keeps_execBindLd
  | .unbindLd .. => fun _ => keeps_execUnbindLd
  | .setLdAllocations .. => fun _ => keeps_execSetLdAllocations
  | .pldmFirmwareUpdate .. => fun _ => keeps_execPldmFirmwareUpdate
  | .pldmActivate .. => fun _ => keeps_execPldmActivate
  | .loReadLatch .. => fun _ => keeps_execLoReadLatch
  | .rcRead .. => fun _ => keeps_execRcRead
  | .hostLinkUp .. => fun _ => keeps_execHostLinkUp
  | .configurationRequest .. => fun _ => keeps_execConfigurationRequest
  | .spdmMessage .. => fun _ => keeps_execSpdmMessage
  | .memRd .. | .memSpecRd .. | .sequencerEmit .. | .landingDrain .. | .landingDrainDone .. | .canopyFill ..
  | .evictionWritten .. | .promotionLineArrival .. | .promotionComplete .. | .lateBoundExpiry .. | .demotion ..
  | .ageSweep .. | .trickle .. | .metadataTrickle .. | .wearGovernorTick .. | .sealCopy .. | .scheduleStage ..
  | .scheduleEntryRetire .. | .t2RepairDone .. | .poisonClear .. | .cellarDrain .. | .vaultComplete ..
  | .clean .. | .invalidate .. | .cleanInvalidate .. | .zeroRange .. | .maintComplete .. | .canopyDisable ..
  | .canopyEnable .. | .disableComplete .. | .patrolRead .. | .frameMove .. | .frameMoveComplete ..
  | .nandReadComplete .. | .nandProgramDone .. | .nandEraseDone .. | .reclaim .. | .relocation ..
  | .stripeParityTimeout .. | .dieDead .. | .dieRebuild .. | .backgroundScan .. | .cellarBlockErase ..
  | .hello .. | .write .. | .readReq .. | .flush .. | .atomicFadd .. | .atomicCas .. | .notify .. | .close ..
  | .reservedOpcode .. | .qpContextFetch .. | .revocationComplete .. | .stampedInput .. | .landingAck ..
  | .heartbeat .. | .timeFrame .. | .digest .. | .resyncData .. | .epochFrame .. | .reservedFrameType ..
  | .negotiate .. | .retryReq .. | .laneChange .. | .leaving .. | .release .. | .releaseAck ..
  | .resyncStart .. | .resyncDone .. | .repairReq .. | .rekey .. | .handoverFrame .. | .handoverAck ..
  | .recopy .. | .thbExpiry .. | .fenceExpiry .. | .tjoinExpiry .. | .resyncChunkRead ..
  | .resyncChunkInstall .. | .resyncComplete .. | .resume .. | .forceLead .. | .witnessGrant .. | .divClear ..
  | .roll .. | .rollWalk .. | .keyGenerate .. | .keyImport .. | .descriptorXts .. | .descriptorGcm ..
  | .descriptorCmac .. | .descriptorKwp .. | .cipherSaturation .. | .regWrite .. | .powerOff ..
  | .clearingEntryDone .. | .stage6 .. | .stage7 .. | .stage8 .. | .ready .. | .infailNAssert .. | .pgLoss ..
  | .thermalTrip .. | .graceExpiry .. | .releaseGrove .. | .allocationGrant .. | .rdpLowerEraseDone ..
  | .gladeAccess .. | .registerWrite .. | .caRecoveryComplete .. | .returnTrainingComplete .. | .vddAonLoss .. =>
    fun listed => absurd listed Bool.false_ne_true

/-- Settles O49: the memory frame of every listed command. -/
theorem memoryFrame : Obligations.MemoryFrame := fun c _ _ => keeps_exec c

end Sys2Proof.Machine
end

section
/-!
PROOFS. Loads and stores of control space (R7, R481, R495 to R497), on a path that reaches it.
-/

namespace Sys2Proof.Machine

open Sys2Proof

/-- A command that ends in `done` does its effect. -/
theorem does_of_done {c : Instr} {s u t : State} (h : exec c s = done u) (e : u = t) : Does c s t := by
  subst e
  exact h

/-- A load on a path that reaches control space sends the word that `readWord` gives (R493). -/
theorem load_of_up {s : State} {p : Path} (h : regUp s p = true) (a : Nat) :
    load p a s = send (.readVal p a (readWord p a s).2.1) (readWord p a s).1 := by
  simp [load, h]

theorem does_registerWrite {s : State} {p : Path} (h : regUp s p = true) (a : Nat) (v : Word) :
    Does (.registerWrite p a v) s (writeWord p a v s) :=
  does_of_done rfl (if_neg (by simp [h]))

/-- REG_READ of a range that the command takes (R495). -/
theorem does_regRead {s : State} {p : Path} (up : BelvorUp s p) {a n : Nat} (range : badRange a n = false) (tag : Nat) :
    Does (.regRead p tag a n) s (complete p tag 0x02 (b2n (readWords p (wordRun a n) s).2.2)
      (readWords p (wordRun a n) s).2.1 (readWords p (wordRun a n) s).1) :=
  does_of_done rfl (by rw [belvor_of_up up, range]; rfl)

/-- REG_WRITE of a range that the command takes (R495). -/
theorem does_regWrite {s : State} {p : Path} (up : BelvorUp s p) {a : Nat} {w : List Word}
    (range : badRange a w.length = false) (tag : Nat) :
    Does (.regWrite p tag a w) s (complete p tag 0x03 (b2n (writeWords p ((wordRun a w.length).zip w) s).2) []
      (writeWords p ((wordRun a w.length).zip w) s).1) :=
  does_of_done rfl (by rw [belvor_of_up up, range]; rfl)

/-- GLADE_ACCESS while Glade is open, below level 2 (R479, R481): the store or load itself, in the state with the
instruction loaded. -/
theorem exec_gladeAccess_of_open {s : State} (up : regUp (loadIr 0x41 s) .glade = true) (lvl : s.cfg.rdp ≠ 2)
    (wr : Bool) (a : Nat) (v : Word) :
    exec (.gladeAccess wr a v) s = done (if wr then writeWord .glade a v (loadIr 0x41 s)
      else send (.jtag 0x41 (readWord .glade a (loadIr 0x41 s)).2.1) (readWord .glade a (loadIr 0x41 s)).1) := by
  have lvl' : (loadIr 0x41 s).cfg.rdp ≠ 2 := lvl
  simp [execGladeAccess, up, lvl']

/-- Settles O35: each gate, on a path that reaches control space, is the load or store behind it. -/
theorem controlAccess : Obligations.ControlAccess :=
  ⟨fun _ _ a up => ⟨does_of_done rfl (load_of_up up a), does_of_done rfl (load_of_up up a)⟩,
    fun _ _ a v up => does_registerWrite up a v,
    fun _ _ tag _ _ up range => does_regRead up range tag,
    fun _ _ tag _ _ up range => does_regWrite up range tag,
    fun _ a v up lvl =>
      ⟨does_of_done (exec_gladeAccess_of_open up lvl true a v) (if_pos rfl),
        does_of_done (exec_gladeAccess_of_open up lvl false a v) (if_neg Bool.false_ne_true)⟩⟩

end Sys2Proof.Machine
end

section
/-!
PROOFS. A line merged with a write (R18, R54), bit by bit and so byte by byte, and a line of T1 as it is written.
-/

namespace Sys2Proof

/-! ## The bits of a merged line (R18, R54) -/

/-- Selecting bytes one by one: a bit is set once its byte has been selected. -/
theorem getLsbD_selectBytes (l : List Nat) (a : LineData) (j : Nat) :
    (l.foldl (fun acc k => acc ||| (BitVec.ofNat 512 255 <<< (8 * k))) a).getLsbD j
      = (a.getLsbD j || decide (j < 512) && decide (j / 8 ∈ l)) := by
  induction l generalizing a with
  | nil => simp
  | cons k l ih =>
    have byte : (BitVec.ofNat 512 255 <<< (8 * k)).getLsbD j = (decide (j < 512) && decide (j / 8 = k)) := by
      have ones : (255 : Nat).testBit (j - 8 * k) = decide (j - 8 * k < 8) := Nat.testBit_two_pow_sub_one 8 _
      rw [BitVec.getLsbD_shiftLeft, BitVec.getLsbD_ofNat, ones, Bool.eq_iff_iff]
      simp only [Bool.and_eq_true, Bool.not_eq_true', decide_eq_true_eq, decide_eq_false_iff_not]
      omega
    rw [List.foldl_cons, ih, BitVec.getLsbD_or, byte]
    simp only [List.mem_cons, Bool.decide_or, Bool.and_or_distrib_left, Bool.or_assoc]

@[simp] theorem mem_bitsSet {w : Nat} {x : BitVec w} {i : Nat} : i ∈ bitsSet x ↔ x.getLsbD i = true := by
  simp only [bitsSet, List.mem_filter, List.mem_range, and_iff_right_iff_imp]
  exact BitVec.lt_of_getLsbD

theorem getLsbD_spread (m : Mask) (j : Nat) : (spread m).getLsbD j = m.getLsbD (j / 8) := by
  have bound : m.getLsbD (j / 8) = true → j < 512 := fun h => by
    have := BitVec.lt_of_getLsbD h
    omega
  rw [spread, getLsbD_selectBytes, Bool.eq_iff_iff]
  simpa using bound

theorem getLsbD_mergeLine (old new : LineData) (m : Mask) (j : Nat) :
    (mergeLine old new m).getLsbD j = if m.getLsbD (j / 8) then new.getLsbD j else old.getLsbD j := by
  have beyond : ¬ j < 512 → ∀ d : LineData, d.getLsbD j = false :=
    fun h d => BitVec.getLsbD_of_ge d j (Nat.le_of_not_lt h)
  simp only [mergeLine, BitVec.getLsbD_or, BitVec.getLsbD_and, BitVec.getLsbD_not, getLsbD_spread]
  by_cases h : j < 512
  · cases m.getLsbD (j / 8) <;> simp [h]
  · simp [beyond h]

theorem lineByte_mergeLine (old new : LineData) (m : Mask) (k : Nat) :
    lineByte (mergeLine old new m) k = if m.getLsbD k then lineByte new k else lineByte old k := by
  ext i hi
  have byte : (8 * k + i) / 8 = k := by omega
  simp only [lineByte, BitVec.getElem_extractLsb', getLsbD_mergeLine, byte]
  split <;> simp

/-- Two writes merged in turn are one: where both name a byte, the later one's stands. -/
theorem mergeLine_mergeLine (old a b : LineData) (m n : Mask) :
    mergeLine (mergeLine old a m) b n = mergeLine old (mergeLine a b n) (m ||| n) := by
  apply BitVec.eq_of_getLsbD_eq
  intro j _
  simp only [getLsbD_mergeLine, BitVec.getLsbD_or]
  cases m.getLsbD (j / 8) <;> cases n.getLsbD (j / 8) <;> rfl

end Sys2Proof

namespace Sys2Proof.Machine

open Sys2Proof

/-- Settles O53: the bits of a merged line, and the map laws for T1. -/
theorem lineMerge : Obligations.LineMerge :=
  ⟨fun old new m k _ => lineByte_mergeLine old new m k, mergeLine_mergeLine, fun _ _ _ d wf =>
    ⟨SMap.get_set_same wf _ d, SMap.wf_set wf _ d, fun _ other => SMap.get_set_other wf d other⟩⟩

end Sys2Proof.Machine
end

section
/-!
PROOFS. The stamps of a source (R29, R30), and the input that the merge takes next (R30, R34).
-/

namespace Sys2Proof.Machine

open Sys2Proof

/-! ## Stamps (R29, R30) -/

theorem mark_le_stampNow (s : State) (src : Nat) : SMap.get s.seqr.marks 0 src ≤ stampNow s src := Nat.le_max_left _ _

theorem stampNow_le (s : State) (src : Nat) : stampNow s src ≤ max (SMap.get s.seqr.marks 0 src) (now s) :=
  max_le_max_left _ (Nat.sub_le _ _)

/-- A source's GTC copy is at most 2 ns behind (R29). -/
theorem now_le_stampNow (s : State) (src : Nat) : now s ≤ stampNow s src + 2 := by
  unfold stampNow
  omega

/-- A mark set to no less than it was reads back: where it does not rise, it stood there. -/
theorem mark_setMark {s : State} {src g : Nat} (h : SMap.get s.seqr.marks 0 src ≤ g) :
    SMap.get (setMark src g s).seqr.marks 0 src = g := by
  unfold setMark
  split
  next rises =>
    have set : SMap.set s.seqr.marks 0 src g = SMap.put s.seqr.marks src g := if_neg (by omega)
    simp only [set, SMap.get_put_same]
  next stands => exact Nat.le_antisymm h (Nat.le_of_not_lt stands)

@[simp] theorem setMark_inputs (src g : Nat) (s : State) : (setMark src g s).seqr.inputs = s.seqr.inputs := by
  unfold setMark
  split <;> rfl

@[simp] theorem setMark_gpf (src g : Nat) (s : State) : (setMark src g s).seqr.gpf = s.seqr.gpf := by
  unfold setMark
  split <;> rfl

theorem mark_stampInput (src org ra : Nat) (op : InOp) (ack : AckTo) (key : BitVec 64) (s : State) :
    SMap.get (stampInput src op ack org key ra s).seqr.marks 0 src = stampNow s src :=
  mark_setMark (mark_le_stampNow s src)

/-! ## The input that comes next (R30, R34) -/

/-- Input `i` comes before `j` by its stamp, or they have the same stamp. -/
def StampLe (i j : Input) : Prop := i.gtc < j.gtc ∨ (i.gtc = j.gtc ∧ i.src ≤ j.src)

/-- Input `i` comes strictly before `j` by its stamp. -/
def StampLt (i j : Input) : Prop := i.gtc < j.gtc ∨ (i.gtc = j.gtc ∧ i.src < j.src)

/-- `i` is the first of the least stamps of `l`. -/
def FirstLeast (l : List Input) (i : Input) : Prop :=
  ∃ a b, l = a ++ i :: b ∧ (∀ j ∈ a, StampLt i j) ∧ ∀ j ∈ b, StampLe i j

/-- What `headOf` keeps of the input found so far and the next one. -/
def earlier (b : Option Input) (i : Input) : Option Input :=
  match b with
  | none => some i
  | some x => if i.gtc < x.gtc || (i.gtc == x.gtc && decide (i.src < x.src)) then some i else some x

theorem headOf_eq (l : List Input) : headOf l = l.foldl earlier none := rfl

theorem earlier_some (x i : Input) :
    (earlier (some x) i = some i ∧ StampLt i x) ∨ (earlier (some x) i = some x ∧ StampLe x i) := by
  unfold earlier StampLt StampLe
  dsimp only
  split
  next h => exact .inl ⟨rfl, by simpa using h⟩
  next h =>
    simp only [Bool.or_eq_true, decide_eq_true_eq, Bool.and_eq_true, beq_iff_eq] at h
    exact .inr ⟨rfl, by omega⟩

/-- A later input that comes strictly before the first least one takes its place; any other leaves it. -/
theorem firstLeast_concat_of_lt {l : List Input} {x i : Input} (h : FirstLeast l x) (lt : StampLt i x) :
    FirstLeast (l ++ [i]) i := by
  obtain ⟨a, b, rfl, ha, hb⟩ := h
  refine ⟨a ++ x :: b, [], rfl, fun j hj => ?_, by simp⟩
  rcases List.mem_append.1 hj with hj | hj
  · have := ha j hj
    unfold StampLt at *
    omega
  · rcases List.mem_cons.1 hj with rfl | hj
    · exact lt
    · have := hb j hj
      unfold StampLt StampLe at *
      omega

theorem firstLeast_concat_of_le {l : List Input} {x i : Input} (h : FirstLeast l x) (le : StampLe x i) :
    FirstLeast (l ++ [i]) x := by
  obtain ⟨a, b, rfl, ha, hb⟩ := h
  refine ⟨a, b ++ [i], by simp, ha, fun j hj => ?_⟩
  rcases List.mem_append.1 hj with hj | hj
  · exact hb j hj
  · exact List.mem_singleton.1 hj ▸ le

theorem foldl_earlier (l seen : List Input) (x : Input) (h : FirstLeast seen x) :
    ∃ i, l.foldl earlier (some x) = some i ∧ FirstLeast (seen ++ l) i := by
  induction l generalizing seen x with
  | nil => exact ⟨x, rfl, by simpa using h⟩
  | cons j l ih =>
    rw [List.foldl_cons, List.append_cons]
    rcases earlier_some x j with ⟨takes, lt⟩ | ⟨stays, le⟩
    · rw [takes]
      exact ih _ j (firstLeast_concat_of_lt h lt)
    · rw [stays]
      exact ih _ x (firstLeast_concat_of_le h le)

theorem headOf_cons (j : Input) (l : List Input) : ∃ i, headOf (j :: l) = some i ∧ FirstLeast (j :: l) i :=
  foldl_earlier l [j] j ⟨[], [], rfl, by simp, by simp⟩

theorem firstLeast_of_headOf {l : List Input} {i : Input} (h : headOf l = some i) : FirstLeast l i := by
  cases l with
  | nil => cases h
  | cons j l =>
    obtain ⟨k, e, least⟩ := headOf_cons j l
    exact Option.some.inj (e.symm.trans h) ▸ least

theorem headOf_eq_none_iff {l : List Input} : headOf l = none ↔ l = [] := by
  cases l with
  | nil => exact ⟨fun _ => rfl, fun _ => rfl⟩
  | cons j l =>
    obtain ⟨k, e, -⟩ := headOf_cons j l
    simp [e]

/-- Settles O56: the mark of a source after a stamp is the stamp, and `headOf` finds the first least one. -/
theorem stampOrder : Obligations.StampOrder := by
  refine ⟨fun s src => ⟨mark_le_stampNow s src, stampNow_le s src, now_le_stampNow s src⟩,
    fun s src org ra op ack key _ => ⟨?_, ?_, ?_⟩, fun _ _ => firstLeast_of_headOf, fun _ => headOf_eq_none_iff⟩
  · exact mark_stampInput src org ra op ack key s
  · exact setMark_inputs _ _ _
  · exact mark_stampInput src org ra op ack key s ▸ mark_le_stampNow _ src

end Sys2Proof.Machine
end

section
/-!
PROOFS. The state right after reset (R27, R382, R405, R501; log 4).
-/

namespace Sys2Proof.Machine

open Sys2Proof

theorem regWord_reset (id : RegId) (i j : Nat) : regWord State.reset id i j = (regDflt id).toNat := rfl

/-- Settles O2: each field at the value its declaration gives, and no register written (log 4). -/
theorem resetState : Obligations.ResetState :=
  ⟨rfl, rfl, rfl, rfl, rfl, rfl, rfl, rfl, rfl, rfl, rfl, rfl, rfl, rfl, rfl, regWord_reset⟩

end Sys2Proof.Machine
end

section
/-!
PROOFS. The rules that the commands below share: the effect of a command of a unit of the part, and what the checks of a
request (R42 to R45) and the monitors (R454) leave alone.
-/

namespace Sys2Proof.Machine

open Sys2Proof

/-! ## What a command of a unit of the part does -/

/-- A command that ends in `onUnit` for a unit of the part does its effect. -/
theorem does_of_onUnit {c : Instr} {ok : Bool} {s u t : State} (h : exec c s = onUnit ok s u) (there : ok = true)
    (e : u = t) : Does c s t := by
  subst there e
  exact h

/-! ## What the checks of a request leave alone (R42 to R45) -/

/-- What the node has sent, the sequencer, the host ports and the lines of T1, T2 and the landing buffer. -/
def State.served (s : State) := (s.out, s.seqr, s.host, s.tier.t1, s.tier.t2, s.can.land)

theorem served_eq_iff {s t : State} : t.served = s.served ↔ t.out = s.out ∧ t.seqr = s.seqr ∧ t.host = s.host
    ∧ t.tier.t1 = s.tier.t1 ∧ t.tier.t2 = s.tier.t2 ∧ t.can.land = s.can.land := by
  simp only [State.served, Prod.mk.injEq]

/-- A state whose parts that `served` reads are those of `s`. -/
theorem served_of {s t : State} (out : t.out = s.out) (seqr : t.seqr = s.seqr) (host : t.host = s.host)
    (tier : t.tier = s.tier) (land : t.can.land = s.can.land) : t.served = s.served :=
  served_eq_iff.2 ⟨out, seqr, host, congrArg (·.t1) tier, congrArg (·.t2) tier, land⟩

@[simp] theorem served_ite (c : Prop) [Decidable c] (a b : State) :
    (if c then a else b).served = if c then a.served else b.served := apply_ite _ c a b

@[simp] theorem served_onlyIf (b : Bool) (f : State → State) (s : State) (h : (f s).served = s.served) :
    (onlyIf b f s).served = s.served := by
  unfold onlyIf
  split
  · exact h
  · rfl

@[simp] theorem served_setBad (m w : Nat) (e : BitVec 80) (s : State) : (setBad m w e s).served = s.served :=
  served_of rfl rfl rfl rfl rfl
@[simp] theorem served_setRegWord (id : RegId) (i j v : Nat) (s : State) : (setRegWord id i j v s).served = s.served :=
  served_of rfl rfl rfl rfl rfl
@[simp] theorem served_setFld (id : RegId) (i hi lo x : Nat) (s : State) : (setFld id i hi lo x s).served = s.served :=
  served_of rfl rfl rfl rfl rfl
@[simp] theorem served_bumpRc (id : RegId) (i hi lo n : Nat) (s : State) : (bumpRc id i hi lo n s).served = s.served :=
  served_of rfl rfl rfl rfl rfl
@[simp] theorem served_raise (e : Nat) (s : State) : (raise e s).served = s.served := served_of rfl rfl rfl rfl rfl
@[simp] theorem served_raiseClearing (e : Nat) (s : State) : (raiseClearing e s).served = s.served :=
  served_of rfl rfl rfl rfl rfl
@[simp] theorem served_integ (s : State) (x : Integ) : ({ s with integ := x } : State).served = s.served :=
  served_of rfl rfl rfl rfl rfl
@[simp] theorem served_cfg (s : State) (x : Cfg) : ({ s with cfg := x } : State).served = s.served :=
  served_of rfl rfl rfl rfl rfl
@[simp] theorem served_useFree (s : State) : (useFree s).served = s.served := served_of rfl rfl rfl rfl rfl
@[simp] theorem served_touchWay (k w : Nat) (s : State) : (touchWay k w s).served = s.served :=
  served_of rfl rfl rfl rfl rfl

@[simp] theorem served_touchAge (g t : Nat) (s : State) : (touchAge g t s).served = s.served := by
  unfold touchAge
  split
  · rfl
  · exact served_eq_iff.2 ⟨rfl, rfl, rfl, rfl, rfl, rfl⟩

@[simp] theorem served_protWrite (m w : Nat) (s : State) : (protWrite m w s).served = s.served := by
  simp [protWrite]

@[simp] theorem served_eraseSector (n : Nat) (s : State) : (eraseSector n s).served = s.served := by
  simp [eraseSector]

@[simp] theorem served_writeCopy (item : Nat) (s : State) : (writeCopy item s).served = s.served := by
  simp [writeCopy, updCopy]

@[simp] theorem served_putRepairs (l : List RepairRec) (s : State) : (putRepairs l s).served = s.served := by
  simp [putRepairs]

@[simp] theorem served_hardFault (m w b : Nat) (s : State) : (hardFault m w b s).served = s.served := by
  unfold hardFault
  dsimp only
  split
  · rfl
  · split <;> simp

@[simp] theorem served_uncorrectable (m w : Nat) (scrub : Bool) (s : State) :
    (uncorrectable m w scrub s).served = s.served := by
  simp [uncorrectable]

@[simp] theorem served_protRead (m w : Nat) (scrub : Bool) (stuck : BitVec 80) (s : State) :
    (protRead m w scrub stuck s).1.served = s.served := by
  unfold protRead
  dsimp only
  split
  · rfl
  · split <;> simp

@[simp] theorem served_readMapEntry (src e : Nat) (s : State) : (readMapEntry src e s).1.served = s.served :=
  served_protRead _ _ _ _ _

@[simp] theorem served_checkReq (s : State) (r : CxlReq) (write poison : Bool) :
    (checkReq s r write poison).1.served = s.served := by
  unfold checkReq
  dsimp only
  split
  · rfl
  · split
    · simp
    · split <;> simp [apply_ite Prod.fst]

/-! ## What the monitors leave alone (R452, R454) -/

@[simp] theorem bumpPerf_seqr (u c n : Nat) (s : State) : (bumpPerf u c n s).seqr = s.seqr := by
  unfold bumpPerf onlyIf
  dsimp only
  split
  · split <;> rfl
  · rfl

theorem seqr_forEach {α : Type} (l : List α) (f : α → State → State) (h : ∀ a t, (f a t).seqr = t.seqr) (s : State) :
    (forEach l f s).seqr = s.seqr := by
  unfold forEach
  induction l generalizing s with
  | nil => rfl
  | cons a l ih => rw [List.foldl_cons, ih, h]

@[simp] theorem perfUnit_seqr (r : PReq) (ev n u : Nat) (s : State) : (perfUnit r ev n u s).seqr = s.seqr := by
  unfold perfUnit
  split
  · rfl
  · refine seqr_forEach _ _ (fun c t => ?_) s
    unfold onlyIf
    repeat' split
    all_goals simp

@[simp] theorem perfAdd_seqr (r : PReq) (ev n : Nat) (s : State) : (perfAdd r ev n s).seqr = s.seqr := by
  unfold perfAdd
  split
  · exact seqr_forEach _ _ (fun u t => perfUnit_seqr r ev n u t) s
  · rfl

end Sys2Proof.Machine
end

section
/-!
PROOFS. CXL.mem messages (R14, R18, R269 to R273), GPF (R56, R57) and the read watchdog (R273, R316).
-/

namespace Sys2Proof.Machine

open Sys2Proof

/-! ## CXL requests at a port (R269 to R271) -/

/-- A message on Req at READY, at a port with Req credits, has the effect that follows its acceptance. -/
theorem does_req {c : Instr} {s t : State} {r : CxlReq} {f : State → State}
    (h : exec c s = onUnit (decide (r.port < 16)) s (onReq r f s)) (arrives : CxlIn s r)
    (credit : waitingReads s r.port < 256) (e : f s = t) : Does c s t :=
  does_of_onUnit h (decide_eq_true arrives.1) ((onReq_of_in arrives credit f).trans e)

/-- A message on RwD at READY, at a port with RwD credits, has the effect that follows its acceptance. -/
theorem does_rwd {c : Instr} {s t : State} {r : CxlReq} {f : State → State}
    (h : exec c s = onUnit (decide (r.port < 16)) s (onRwd r f s)) (arrives : CxlIn s r)
    (credit : heldOf s r.port < 128) (e : f s = t) : Does c s t :=
  does_of_onUnit h (decide_eq_true arrives.1) ((onRwd_of_in arrives credit f).trans e)

theorem does_memRd {s : State} {r : CxlReq} {g line : Nat} (arrives : CxlIn s r) (credit : waitingReads s r.port < 256)
    (go : (checkReq s r false false).2 = .go g line) (chk : ArrayCheck) :
    Does (.memRd r chk) s (startRead r g line chk (checkReq s r false false).1) :=
  does_req rfl arrives credit (by simp only [go])

theorem does_memInv {s : State} {r : CxlReq} {g line : Nat} (arrives : CxlIn s r) (credit : waitingReads s r.port < 256)
    (go : (checkInv s r).2 = .go g line) :
    Does (.memInv r) s
      (send (.cmp r.port r.ld r.tag (devLoad (checkInv s r).1 r.port (some g))) (checkInv s r).1) :=
  does_req rfl arrives credit (by simp only [go])

/-- Whether a MEM_SPEC_RD is dropped or its lookups start, they touch only the map's words, a pseudo-LRU or an AGE. -/
theorem does_memSpecRd {s : State} {r : CxlReq} (arrives : CxlIn s r) (credit : waitingReads s r.port < 256) :
    ∃ t, Does (.memSpecRd r) s t ∧ t.served = s.served := by
  refine ⟨_, does_req rfl arrives credit rfl, ?_⟩
  dsimp only
  split
  · split
    · simp
    · split <;> simp
  · rfl

theorem earlyReason_unsupported {s : State} {r : CxlReq} (unisolated : (portOf s r.port).isolated = false)
    (serves : serving s = true) : earlyReason s r true = some 8 := by
  simp [earlyReason, unisolated, serves]

theorem does_unsupported_req {s : State} {r : CxlReq} (arrives : CxlIn s r) (credit : waitingReads s r.port < 256)
    (unisolated : (portOf s r.port).isolated = false) (serves : serving s = true) :
    Does (.unsupportedM2sOpcode r false) s (refuseCxl r 8 false ((dpaOf s r).getD r.hpa) none s) :=
  does_req rfl arrives credit (by simp only [earlyReason_unsupported unisolated serves, Option.getD_some])

theorem does_unsupported_rwd {s : State} {r : CxlReq} (arrives : CxlIn s r) (credit : heldOf s r.port < 128)
    (unisolated : (portOf s r.port).isolated = false) (serves : serving s = true) :
    Does (.unsupportedM2sOpcode r true) s (refuseCxl r 8 true ((dpaOf s r).getD r.hpa) none s) :=
  does_rwd rfl arrives credit (by simp only [earlyReason_unsupported unisolated serves, Option.getD_some])

theorem does_readWatchdog_cxl {s : State} {id : Nat} {x : PendRead}
    (waits : s.seqr.reads.find? (fun r => r.id = id) = some x) :
    Does (.readWatchdog id) s (portEvent x.req.port 3 (setBit .hostCause x.req.port 6
      (send (.memData x.req.port x.req.ld x.req.tag 0 true (devLoad s x.req.port (some x.grove)))
        { s with seqr := { s.seqr with reads := s.seqr.reads.filter (fun y => y.id ≠ id) } }))) :=
  does_of_done rfl (by rw [waits])

theorem does_readWatchdog_vrmp {s : State} {id : Nat} {j : ReadJob}
    (noRead : s.seqr.reads.find? (fun r => r.id = id) = none) (job : s.seqr.jobs.find? (fun x => x.id = id) = some j) :
    Does (.readWatchdog id) s (finishJob j s) :=
  does_of_done rfl (by rw [noRead, job])

/-- Settles O4: each message by the gate of its channel, and the watchdog by what it finds. -/
theorem cxlReads : Obligations.CxlReads := by
  refine ⟨fun _ _ chk _ _ arrives credit go => does_memRd arrives credit go chk, fun _ _ arrives credit => ?_,
    fun _ _ _ _ => does_memInv, fun _ _ => does_unsupported_req, fun _ _ => does_unsupported_rwd,
    fun _ _ _ => does_readWatchdog_cxl, fun _ _ _ => does_readWatchdog_vrmp⟩
  obtain ⟨t, does, same⟩ := does_memSpecRd arrives credit
  exact ⟨t, does, served_eq_iff.1 same⟩

/-! ## Writes and GPF (R18, R56, R57) -/

/-- An admitted write: with no byte enabled it is completed, else it is stamped or held. -/
theorem does_write {c : Instr} {s t : State} {r : CxlReq} {data : LineData} {mask : Mask} {g line : Nat}
    (h : exec c s = onUnit (decide (r.port < 16)) s (memWrite r data mask false s)) (arrives : CxlIn s r)
    (credit : heldOf s r.port < 128) (go : (checkReq s r true false).2 = .go g line)
    (e : (if mask = 0 then send (.cmp r.port r.ld r.tag (devLoad (checkReq s r true false).1 r.port (some g)))
        (checkReq s r true false).1
      else admitCxl r g ⟨line, data, mask⟩ (checkReq s r true false).1) = t) : Does c s t :=
  does_rwd h arrives credit (by simp only [go, e])

theorem fullMask_ne_zero : fullMask ≠ 0 := by decide

/-- A condition that a port meets, in the form in which the commands test it. -/
theorem portUp_test {s : State} {port : Nat} (up : PortUp s port) : (isReady s && (portOf s port).link == .up) = true := by
  obtain ⟨-, ready, link⟩ := up
  simp [ready, link]

theorem does_gpfPhase1 {s : State} {port : Nat} (up : PortUp s port) :
    Does (.gpfPhase1 port) s (send (.gpfDone port 1) s) :=
  does_of_onUnit rfl (decide_eq_true up.1) (if_pos (portUp_test up))

theorem does_gpfPhase2 {s : State} {port : Nat} (up : PortUp s port) : ∃ t, Does (.gpfPhase2 port) s t
    ∧ t.seqr.gpf = s.seqr.gpf ++ [(port, stampNow s (16 * port), 16 * port)] ∧ t.seqr.inputs = s.seqr.inputs :=
  ⟨_, does_of_onUnit rfl (decide_eq_true up.1) (if_pos (portUp_test up)), by simp, by simp⟩

theorem does_gpfPhase2Complete {s : State} {port : Nat} {x : Nat × Nat × Nat} (there : port < 16)
    (waits : s.seqr.gpf.find? (fun y => y.1 = port) = some x) (covered : gpfCovered s x.2.1 x.2.2 = true)
    (answers : canAnswer s = true) :
    Does (.gpfPhase2Complete port) s
      (send (.gpfDone port 2) { s with seqr := { s.seqr with gpf := s.seqr.gpf.erase x } }) :=
  does_of_onUnit rfl (decide_eq_true there) (by simp [waits, covered, answers])

theorem does_gpfPhase2Overtime {s : State} {port : Nat} (there : port < 16)
    (waits : s.seqr.gpf.any (fun x => x.1 = port) = true) : Does (.gpfPhase2Overtime port) s (portEvent port 1 s) :=
  does_of_onUnit rfl (decide_eq_true there) (if_pos waits)

/-- Settles O5: the three writes by `does_write`, the GPF phases by what the port and the request meet. -/
theorem cxlWrites : Obligations.CxlWrites :=
  ⟨fun _ _ _ _ _ arrives credit go => does_write rfl arrives credit go (if_neg fullMask_ne_zero),
    fun _ _ _ _ _ _ arrives credit go names => does_write rfl arrives credit go (if_neg names),
    fun _ _ _ _ _ arrives credit go => does_write rfl arrives credit go (if_pos rfl),
    fun _ _ => does_gpfPhase1, fun _ _ => does_gpfPhase2, fun _ _ _ => does_gpfPhase2Complete,
    fun _ _ => does_gpfPhase2Overtime⟩

end Sys2Proof.Machine
end

section
/-!
PROOFS. The commands of the sequencer, of held writes and of the landing buffer (R20, R33, R34, R36, R54).
-/

namespace Sys2Proof.Machine

open Sys2Proof

/-! ## The merge (R33, R34, R36) -/

theorem does_sourceHeartbeat {s : State} {src : Nat} (there : src ≤ 315) (merged : s.seqr.mergeSet.contains src = true)
    (lag : Nat) : Does (.sourceHeartbeat src lag) s (setMark src (now s - min lag 2) s) :=
  does_of_onUnit rfl (decide_eq_true there) (if_pos merged)

theorem does_mergeStall {s : State} {src : Nat} (there : src ≤ 315) (merged : inMerge s src = true)
    (heard : s.seqr.stalled.contains src = false) :
    Does (.mergeStall src) s (raise 53 { s with seqr := { s.seqr with stalled := s.seqr.stalled ++ [src] } }) :=
  does_of_onUnit rfl (decide_eq_true there) (if_pos (by simp only [merged, heard, Bool.not_false, Bool.and_self]))

theorem does_heldWriteRelease {s : State} {h : HeldReq} (admits : holdAll s = false)
    (first : firstFree s [] s.seqr.held = some h) :
    Does .heldWriteRelease s (releaseHeld h { s with seqr := { s.seqr with held := s.seqr.held.erase h } }) :=
  does_of_done rfl (by simp [admits, first])

/-! ## The landing drain (R20, R54) -/

theorem does_landingDrain {s u : State} {g line : Nat} {e : LandEntry} (works : working s = true)
    (entry : landOf s g line = some e) (rests : e.draining = false) (noPromo : promoting s g (tileOf line) = false)
    (noMove : moving s g (tileOf line) = false) (keyed : groveKeyed s g = true) (free : ceilingHolds s g line = false)
    (ok : landOk s g line = true) (known : tileBlank (tile s g (tileOf line)) = false)
    (resident : (tile s g (tileOf line)).frame.isSome = true)
    (passes : passReq .drain g line (if e.mask = fullMask then 1 else 2) (qosOf s g) s = some u) :
    Does (.landingDrain g line) s (updLand g line (fun x => { x with draining := true, remerged := false })
      (markDirty g (tileOf line) (secOf line) (touchAge g (tileOf line) (landGet g line u)))) := by
  have framed : (tile s g (tileOf line)).frame.isNone = false := by simpa using resident
  exact does_of_done rfl (by simp [works, entry, rests, noPromo, noMove, keyed, free, ok, known, framed, passes])

theorem does_landingDrainDone {s u : State} {g line : Nat} {e : LandEntry} (works : working s = true)
    (entry : landOf s g line = some e) (drains : e.draining = true) (whole : e.remerged = false)
    (free : ceilingHolds s g line = false) (resident : (tile s g (tileOf line)).frame.isSome = true)
    (finished : finishReq .drain g line s = some u) (o : DramRead) :
    Does (.landingDrainDone g line o) s
      (runQueue (landedToClean g line (setLand g line none (drainInto g line e o u)))) := by
  have framed : (tile s g (tileOf line)).frame.isNone = false := by simpa using resident
  exact does_of_done rfl (by simp [works, entry, drains, whole, free, framed, finished])

/-- Settles O10: each command of the sequencer in the state that its conditions describe. -/
theorem sequencer : Obligations.Sequencer :=
  ⟨fun _ _ lag there merged => does_sourceHeartbeat there merged lag, fun _ _ => does_of_done rfl rfl,
    fun _ _ => does_mergeStall, fun _ _ => does_heldWriteRelease, fun _ _ _ _ _ => does_landingDrain,
    fun _ _ _ _ _ o works entry drains whole free resident finished =>
      does_landingDrainDone works entry drains whole free resident finished o⟩

end Sys2Proof.Machine
end

section
/-!
PROOFS. Thermal events, time and clocks (R26, R28, R396, R429, R505, R527 to R529).
-/

namespace Sys2Proof.Machine

open Sys2Proof

/-! ## Sensors, duty and the trip (R26, R527 to R529) -/

theorem does_thermalSample {s : State} (up : s.pwr.aon = true) (ts : List Int) :
    Does (.thermalSample ts) s (releaseTrip (noteSpread
      (forEach (List.range (nQuads s)) noteHot (forEach (List.range 16) (takeSample ts) s)))) :=
  does_of_done rfl (if_neg (by simp [up]))

/-- The quadrants of a state as a duty update leaves them. -/
def duties (s : State) : State := forEach (List.range (nQuads s)) stepDuty s

/-- Some quadrant's duty is below the full 16. -/
def dutyCut (s : State) : Bool := (List.range (nQuads s)).any (fun q => decide ((quadOf (duties s) q).duty < 16))

/-- A duty update while the GTC runs: event 608 where a cut begins (R528). -/
theorem exec_dutyUpdate_of_runs {s : State} (runs : gtcRuns s = true) :
    exec .dutyUpdate s = done (onlyIf (dutyCut s && !s.therm.began) (raise 608)
      { duties s with therm := { (duties s).therm with began := dutyCut s } }) := by
  simp only [exec_dutyUpdate, execDutyUpdate, runs, Bool.not_true, Bool.false_eq_true, if_false]
  rfl

theorem does_dutyUpdate_steady {s : State} (runs : gtcRuns s = true) (steady : dutyCut s = false ∨ s.therm.began = true) :
    Does .dutyUpdate s { duties s with therm := { (duties s).therm with began := dutyCut s } } :=
  does_of_done (exec_dutyUpdate_of_runs runs) (if_neg (by rcases steady with h | h <;> simp [h]))

theorem does_dutyUpdate_begins {s : State} (runs : gtcRuns s = true) (cut : dutyCut s = true)
    (full : s.therm.began = false) :
    Does .dutyUpdate s (raise 608 { duties s with therm := { (duties s).therm with began := true } }) :=
  does_of_done (exec_dutyUpdate_of_runs runs) (by simp [onlyIf, cut, full])

/-- A sensor's third sample at its limit trips a node that is on and has not tripped (R529). -/
theorem does_thermalTrip {s : State} {n : Nat} {t : Int} (there : n < 16) (up : s.pwr.aon = true)
    (first : s.pwr.trip = false) (hot : 3 ≤ (sensorOf s n).hotFor) (on : s.pwr.state = .on) :
    Does (.thermalTrip n false t) s (startDown true (cutAnywhere (noteTrip n false t s))) :=
  does_of_onUnit rfl (by simpa using there) (by simp [up, first, on, Nat.not_lt.2 hot])

/-! ## Time, clocks and crossings (R28, R396, R429, R505) -/

theorem does_ppsEdge {s : State} (runs : gtcRuns s = true) (own : timeFollows s = false) :
    Does .ppsEdge s { s with clk := { s.clk with pps := some (s.clk.gtc - 100) } } :=
  does_of_done rfl (if_neg (by simp [runs, own]))

theorem does_ppsMissing {s : State} (image : s.cfg.img.isSome = true) (own : timeFollows s = false)
    (src : (img s).clocks.timeSrc = 1) : Does .ppsMissing s (raise 627 s) :=
  does_of_done rfl (if_pos (by simp [image, own, src]))

/-- The correction that a write of GTC_CORR_HI completes (R507). -/
def corrOf (s : State) (hi : Word) : Int := signed64 (regWord s .gtcCorrLo + hi.toNat * 2 ^ 32)

theorem does_gtcCorrection {s : State} (up : pathUp s .sp = true) (serves : serving s = true) (hi : Word) :
    Does (.gtcCorrection .sp hi) s (correct (corrOf s hi) { s with clk := { s.clk with
      disc := (img s).clocks.timeSrc, offset := satOffset (corrOf s hi)
      locked := decide (-100 ≤ corrOf s hi) && decide (corrOf s hi ≤ 100) } }) :=
  does_of_done rfl (by simp only [up, serves, Bool.not_true, Bool.false_eq_true, if_false]; rfl)

/-- A clock loss that is seen, on a domain that runs, passes the test of its command. -/
theorem loss_test {s : State} {d : Nat} (seen : lossSeen s = true) (runs : domainOn s d = true) :
    ¬ (!lossSeen s || !domainOn s d) = true := by
  simp [seen, runs]

theorem does_crossingFault {s : State} {e : Nat} (there : hasCrossing s e = true) (listens : collecting s = true) :
    Does (.crossingFault e) s (raise e (portCrossing e s)) :=
  does_of_onUnit rfl there (if_pos listens)

/-- Settles O43: each event in the state that its conditions describe. -/
theorem thermalAndTime : Obligations.ThermalAndTime :=
  ⟨fun _ ts up => does_thermalSample up ts,
    fun _ runs => ⟨does_dutyUpdate_steady runs, does_dutyUpdate_begins runs⟩,
    fun _ _ _ there up first hot _ on => does_thermalTrip there up first hot on,
    fun _ => does_ppsEdge, fun _ => does_ppsMissing, fun _ hi up serves => does_gtcCorrection up serves hi,
    fun _ _ there seen runs =>
      ⟨does_of_onUnit rfl (decide_eq_true there) (if_neg (loss_test seen runs)),
        does_of_onUnit rfl (decide_eq_true there) (if_neg (loss_test seen runs))⟩,
    fun _ _ => does_crossingFault⟩

end Sys2Proof.Machine
end

section
/-!
PROOFS. The host's configuration requests, decoders, SPDM and IDE (R57, R265, R274, R275, R279, R333), and the
grove behind a CXL address (R42).
-/

namespace Sys2Proof.Machine

open Sys2Proof

/-! ## Configuration requests and decoders (R57, R265, R274, R279) -/

theorem does_configurationRequest {s : State} {port ld : Nat} (up : PortUp s port)
    (there : (ldOf s port ld).present = true) (addr : Nat) :
    Does (.configurationRequest port ld addr) s (useFree (send (.cfgCpl port ld false
      (if addr = Config.gpfDvsec then gpfPhase2Us else (Config.anyWord (s.free + addr)).toNat)) s)) :=
  does_of_onUnit rfl (decide_eq_true up.1) (by simp [up.2.1, up.2.2, there])

/-- In stages 7 to 9 the node is not READY, and the answer is CRS (R279). -/
theorem does_configurationRequest_crs {s : State} {port ld : Nat} (formed : port < 16)
    (link : (portOf s port).link = .up) (there : (ldOf s port ld).present = true) (trained : 7 ≤ s.pwr.stage)
    (early : s.pwr.stage ≤ 9) (addr : Nat) :
    Does (.configurationRequest port ld addr) s (send (.cfgCpl port ld true 0) s) := by
  have notReady : isReady s = false := by simp [isReady]; omega
  exact does_of_onUnit rfl (decide_eq_true formed) (by simp [link, there, notReady, trained, early])

/-- Whether a decoder's DPA range meets that of another committed decoder of the logical device (R265). -/
def decoderClash (s : State) (port ld idx : Nat) (d : Decoder) : Bool :=
  (SMap.present (ldOf s port ld).decs).any (fun p =>
    decide (p.1 ≠ idx) && decide (p.2.dpaBase < dpaEnd d) && decide (d.dpaBase < dpaEnd p.2))

section
variable {s : State} {port ld idx : Nat} {d : Decoder} (up : PortUp s port) (four : idx < 4)
  (there : (ldOf s port ld).present = true) (uncommitted : SMap.find (ldOf s port ld).decs idx = none)
include up four there uncommitted

theorem does_decoderCommit (ways : d.ways ≠ 0) (gran : d.gran ≠ 0) (apart : decoderClash s port ld idx d = false) :
    Does (.decoderCommit port ld idx d) s (updLd port ld (fun y => { y with
      decs := SMap.put y.decs idx (some d), decErr := y.decErr.filter (· ≠ idx) }) s) := by
  unfold decoderClash at apart
  exact does_of_onUnit rfl (by simp [up.1, four]) (by simp only [there, up.2.1, up.2.2, uncommitted, apart]; simp [ways, gran])

theorem does_decoderCommit_error (clash : decoderClash s port ld idx d = true) :
    Does (.decoderCommit port ld idx d) s (updLd port ld (fun y => { y with
      decs := SMap.del y.decs idx, decErr := insertNat idx y.decErr }) s) := by
  unfold decoderClash at clash
  exact does_of_onUnit rfl (by simp [up.1, four]) (by simp only [there, up.2.1, up.2.2, uncommitted, clash]; simp)

end

/-! ## SPDM and IDE (R275, R333) -/

theorem does_spdmMessage {s : State} {port : Nat} (up : PortUp s port) :
    Does (.spdmMessage port true) s (updPort port (fun x => { x with spdm := true }) s) :=
  does_of_onUnit rfl (decide_eq_true up.1) (by simp [up.2.1, up.2.2])

theorem does_ideKmKeyProg {s : State} {port n : Nat} (formed : port < 16) (link : (portOf s port).link = .up)
    (session : (portOf s port).spdm = true) (slot : ideSlot s port true = some n) (key : BitVec 256) :
    Does (.ideKmKeyProg port true key) s (updPort port (fun x => { x with ideTx := true })
      (setSlot n { slotOf s n with
        state := .loaded, key := key.setWidth 512, oldKey := 0, ctr := 0, warn := false, usedEmpty := false } s)) :=
  does_of_onUnit rfl (decide_eq_true formed) (by simp [slot, session, link])

theorem does_keyGo {s : State} {port : Nat} (formed : port < 16) (link : (portOf s port).link = .up)
    (session : (portOf s port).spdm = true) (rx : (portOf s port).ideRx = true) (tx : (portOf s port).ideTx = true)
    (containment : Bool) :
    Does (.keyGo port containment) s (updPort port (fun y => { y with ide := if containment then 2 else 1 }) s) :=
  does_of_onUnit rfl (decide_eq_true formed) (by simp [session, rx, tx, link])

theorem does_ideFail {s : State} {port : Nat} (formed : port < 16) (link : (portOf s port).link = .up)
    (inForce : (portOf s port).ide = 1) :
    Does (.ideFail port) s (hostDown port (portEvent port 3 (setBit .hostCause port 3 (zeroIde port
      (updPort port (fun y => { y with ide := 3, ideRx := false, ideTx := false, ideErr := true })
        (send (.ideTerminated port) s)))))) :=
  does_of_onUnit rfl (decide_eq_true formed) (by simp [inForce, link])

/-- Settles O7: each request and event in the state that its conditions describe. -/
theorem hostIde : Obligations.HostIde :=
  ⟨fun _ _ _ addr up there => ⟨_, does_configurationRequest up there addr, fun h => if_pos h⟩,
    fun _ _ _ addr formed link there trained early => does_configurationRequest_crs formed link there trained early addr,
    fun _ _ _ _ _ => does_decoderCommit, fun _ _ _ _ _ => does_decoderCommit_error, fun _ _ => does_spdmMessage,
    fun _ _ _ key formed link session slot => does_ideKmKeyProg formed link session slot key,
    fun _ _ containment formed link session rx tx => does_keyGo formed link session rx tx containment,
    fun _ _ => does_ideFail⟩

/-! ## The grove behind a CXL address (R42) -/

/-- What a CXL address that passes its checks maps to: the entry that its DPA indexes in the grove map. -/
structure MapsTo (s : State) (r : CxlReq) (g line : Nat) (dpa : Nat) (x : MapEntry) : Prop where
  decoded : dpaOf s r = some dpa
  inMap : dpa / 2 ^ 24 < ldEntries s r.port r.ld
  entry : entryFor s (16 * r.port + r.ld) (dpa / 2 ^ 24)
    (SMap.find s.tier.md.map (mapKey (16 * r.port + r.ld) (dpa / 2 ^ 24))) = some x
  valid : x.valid = true
  grove : g = x.grove
  offset : line = x.extent * 2 ^ 18 + dpa % 2 ^ 24 / 64

/-- The address checks let a DPA through that the decoders give and the grove map holds (R269, R42). -/
theorem checkDpa_inr {s : State} {r : CxlReq} {dpa : Nat} (h : checkDpa s r = .inr dpa) :
    dpaOf s r = some dpa ∧ dpa / 2 ^ 24 < ldEntries s r.port r.ld := by
  unfold checkDpa at h
  split at h
  case h_1 | h_2 => nomatch h
  case h_3 d early decoded =>
    split at h
    · nomatch h
    next inMap =>
      obtain rfl := Sum.inr.inj h
      exact ⟨decoded, Nat.lt_of_not_le inMap⟩

/-- The checks of a CXL request stop at a DPA that no entry serves. -/
theorem checkDpa_inl_ne_go {s : State} {r : CxlReq} {c : Check} (h : checkDpa s r = .inl c) (g line : Nat) :
    c ≠ .go g line := by
  unfold checkDpa at h
  split at h
  case h_3 =>
    split at h
    · obtain rfl := Sum.inl.inj h
      nofun
    · nomatch h
  all_goals
    obtain rfl := Sum.inl.inj h
    nofun

theorem mapsTo_of_checkReq {s t : State} {r : CxlReq} {write poison : Bool} {g line : Nat}
    (h : checkReq s r write poison = (t, .go g line)) : ∃ dpa x, MapsTo s r g line dpa x := by
  unfold checkReq at h
  split at h
  case h_1 c stop => exact absurd (congrArg Prod.snd h) (checkDpa_inl_ne_go stop g line)
  case h_2 dpa pass =>
    obtain ⟨decoded, inMap⟩ := checkDpa_inr pass
    dsimp only at h
    split at h
    · simp at h
    · split at h
      · simp at h
      next x entry =>
        have valid : x.valid = true := by
          cases valid : x.valid
          · simp [valid] at h
          · rfl
        split_ifs at h <;> simp at h
        all_goals
          obtain ⟨-, rfl, rfl⟩ := h
          exact ⟨dpa, x, decoded, inMap, entry, valid, rfl, rfl⟩

/-- A grove extent of 16 MiB holds 2^18 lines. -/
theorem line_of_extent (extent off : Nat) : extent * 2 ^ 18 + off / 64 = (extent * (16 * 2 ^ 20) + off) / 64 := by
  omega

/-- Settles O55: the entry that the checks found, and the decoder that gave the DPA. -/
theorem groveAddress : Obligations.GroveAddress := by
  refine ⟨fun s t r write poison g line h => ?_, fun s r dpa h => ?_⟩
  · obtain ⟨dpa, x, decoded, inMap, entry, valid, grove, offset⟩ := mapsTo_of_checkReq h
    exact ⟨dpa, x, decoded, inMap, entry, valid, grove, offset.trans (line_of_extent ..)⟩
  · obtain ⟨i, four, decodes⟩ := List.exists_of_findSome?_eq_some h
    obtain ⟨d, decoder, hpa⟩ := Option.bind_eq_some_iff.1 decodes
    exact ⟨i, d, List.mem_range.1 four, decoder, hpa⟩

end Sys2Proof.Machine
end

section
/-!
PROOFS. Grove commands and GET_VERSION of Belvor (R48, R73, R375, R485).
-/

namespace Sys2Proof.Machine

open Sys2Proof

/-- A Belvor command that is logged, of management at a serving node that holds nothing, is stamped (R32, R48). -/
theorem stampCmd_of_mgr {s : State} {p : Path} (mgr : BelvorMgr s p) (serves : serving s = true)
    (admits : holdAll s = false) (tag code : Nat) (op : RecOp) :
    stampCmd p tag code op s = stampInput 311 (.log op) (.cmd p tag code) (srcOf p) 0 0 s := by
  rw [stampCmd, belvorMgmt_of_mgr mgr]
  simp only [serves, Bool.not_true, Bool.false_eq_true, if_false, stampMgmt_of_free admits]

theorem does_groveStatus {s : State} {p : Path} (up : BelvorUp s p) (tag g : Nat) :
    Does (.groveStatus p tag g) s (complete p tag 0x23 0 [if seesGrove s p g then groveStatusWord s g else 0] s) :=
  does_of_done rfl (belvor_of_up up ..)

/-- The debug port answers GET_VERSION by itself while its UART is up, and with the same word. -/
theorem does_getVersion {s : State} {p : Path} (up : BelvorUp s p) (tag : Nat) :
    Does (.getVersion p tag) s (useFree (complete p tag 0x01 0 [(Config.anyWord s.free).toNat] s)) := by
  refine does_of_done rfl ?_
  split
  · rfl
  · exact belvor_of_up up ..

/-- Settles O34: the three stamped commands alike, and the two that answer at once. -/
theorem groveCommands : Obligations.GroveCommands :=
  ⟨fun _ _ _ _ _ mgr serves admits =>
      ⟨does_of_done rfl (stampCmd_of_mgr mgr serves admits ..), does_of_done rfl (stampCmd_of_mgr mgr serves admits ..),
        does_of_done rfl (stampCmd_of_mgr mgr serves admits ..)⟩,
    fun _ _ tag g up => does_groveStatus up tag g, fun _ _ tag up => does_getVersion up tag⟩

end Sys2Proof.Machine
end

section
/-!
PROOFS. Requests, sessions and closing of VRMP (R58, R59, R290, R293, R300 to R308, R314 to R318).
-/

namespace Sys2Proof.Machine

open Sys2Proof

/-! ## Requests in order (R300, R303, R314 to R318) -/

/-- A request that passes every check of R300 has the effect that its operation gives it. -/
theorem does_request {c : Instr} {s t : State} {h : Pkt} {b : ReqBody}
    (e : exec c s = onUnit (decide (h.port < 8)) s (request h b s)) (order : InOrder s h b)
    (effect : doReq h b (taken h s) = t) : Does c s t :=
  does_of_onUnit e (decide_eq_true (port_of_order order)) ((request_of_order order).trans effect)

theorem doWrite_of_ok {s : State} {h : Pkt} {g off : Nat} (d : List Byte)
    (ok : translate s h h.length (fun w => w.wr) = .ok g off) :
    doWrite h d s = doData h (.write d) g ((piecesOf off d).map (·.line)) (.log (.write g (piecesOf off d))) false s := by
  simp only [doWrite, ok]

theorem doRead_of_ok {s : State} {h : Pkt} {g off : Nat} (ok : translate s h h.length (fun w => w.rd) = .ok g off) :
    doRead h true s = startJob h g off (freeCharge h.qpn 256 (acceptReq h .read s)) := by
  simp only [doRead, ok, if_true]

theorem doAtomic_of_ok {s : State} {h : Pkt} {g off : Nat} (b : ReqBody) (op : Nat → Nat → InOp)
    (ok : translate s h 8 (fun w => w.atomic) = .ok g off) :
    doAtomic h b op s = doData h b g [off / 64] (op g off) true s := by
  simp only [doAtomic, ok]

theorem doFlush_of_key {s : State} {h : Pkt} (l : Nat) (key : keyCheck s h = none) :
    doFlush h l s = acceptReq h (.flush l) (stampVrmp h (.flush l)
      (.log (.flush h.qpn (if l = 2 then .mir else .loc)))
      (perfAdd ⟨engineOf s h.qpn, 2, none⟩ 0x01 1 (updQp h.qpn (fun x => { x with
        flushes := x.flushes ++ [⟨h.psn, if l = 2 then .mir else .loc, now s, false, false, x.lowest⟩] }) s))) := by
  simp only [doFlush, key]

/-- The delivery that an accepted NOTIFY asks for (R317). -/
def noteOf (s : State) (h : Pkt) (target v : Nat) : Note :=
  { id := s.ids, qpn := h.qpn, psn := h.psn, target := target, value := v, src := engineOf s h.qpn,
    gtc := stampNow s (engineOf s h.qpn), key := h.key }

theorem doNotify_of_common {s : State} {h : Pkt} {target : Nat} {x : Qp} (v : Nat) (key : keyCheck s h = none)
    (there : qpOf s target = some x)
    (common : (keyGroves s h.key).any (fun g => (keyGroves s x.key).contains g) = true) :
    doNotify h target v s = freeCharge h.qpn 256 (acceptReq h (.notify target v) (useFree (bumpId
      { s with net := { s.net with notes := s.net.notes ++ [noteOf s h target v] } }))) := by
  simp only [doNotify, key, there, common, Bool.not_true, Bool.false_eq_true, if_false]
  rfl

theorem does_notify {s : State} {h : Pkt} {target v : Nat} {x : Qp} (order : InOrder s h (.notify target v))
    (key : keyCheck (taken h s) h = none) (there : qpOf (taken h s) target = some x)
    (common : (keyGroves (taken h s) h.key).any (fun g => (keyGroves (taken h s) x.key).contains g) = true) :
    Does (.notify h target v) s (freeCharge h.qpn 256 (acceptReq h (.notify target v) (useFree (bumpId
      { taken h s with net := { (taken h s).net with
        notes := (taken h s).net.notes ++ [noteOf (taken h s) h target v] } })))) :=
  does_request rfl order (doNotify_of_common v key there common)

/-- Settles O20: each request as `doReq` serves it, with the window or the key that admits it. -/
theorem vrmpRequests : Obligations.VrmpRequests :=
  ⟨fun _ _ d _ _ order ok => does_request rfl order (doWrite_of_ok d ok),
    fun _ _ _ _ order ok => does_request rfl order (doRead_of_ok ok),
    fun _ _ l order key => does_request rfl order (doFlush_of_key l key),
    fun _ _ _ _ _ order ok => does_request rfl order (doAtomic_of_ok _ _ ok),
    fun _ _ _ _ _ _ order ok => does_request rfl order (doAtomic_of_ok _ _ ok),
    fun _ _ _ _ _ order key there common =>
      ⟨noteOf _ _ _ _, rfl, rfl, rfl, rfl, rfl, does_notify order key there common⟩,
    fun _ _ _ order => does_request rfl order rfl⟩

/-! ## Sessions (R59, R290, R293) -/

section
variable {s : State} {h : Pkt} {b : HelloBody} {n : Nat} {c : PeerClass} (arrives : PacketIn s h) (length : h.length = 64)
  (cls : classFor s h.srcIp = some (n, c)) (keyed : classKeyed s c = true)
  (new : (peerAt s h.srcIp).bind (fun p => p.2.cookies.find? (fun k => k.1 = b.cookie &&
    decide (now s < k.2.1 + 10000000))) = none)
include arrives length cls keyed new

theorem does_hello_peer (peer : b.peerFlag = true) (noQp : h.qpn = 0) (ver : h.ver = b.maxVer) :
    Does (.hello h b) s (helloPeer h b n c s) :=
  does_of_onUnit rfl (decide_eq_true (port_of_in arrives)) ((step1_of_in arrives _).trans
    (by simp only [cls, keyed, serving_of_in arrives, hdrOk_of_in arrives, peer, noQp, ver, length, new]; simp))

theorem does_hello_qp (queue : b.peerFlag = false) (newQp : h.qpn = 0xFFFFFF) (ext : extOk s h none = true) :
    Does (.hello h b) s (helloQp h b c s) :=
  does_of_onUnit rfl (decide_eq_true (port_of_in arrives)) ((step1_of_in arrives _).trans
    (by simp only [cls, keyed, serving_of_in arrives, hdrOk_of_in arrives, queue, newQp, ext, length, new]; simp))

end

/-! ## Acknowledgements and credit (R301, R305, R307, R308) -/

theorem does_ack_ntf {s : State} {h : Pkt} (arrives : QpPacket s h (some 0)) :
    Does (.ack h true) s (updQp h.qpn (fun x => { x with
      notifs := x.notifs.filter (fun n => n.seq ≠ h.psn) }) (noteLimit h s)) :=
  does_of_onUnit rfl (decide_eq_true (port_of_qp arrives)) ((step1_of_in arrives.1 _).trans
    (by simp only [serving_of_in arrives.1, Bool.not_true, Bool.false_eq_true, if_false, if_true, gate_of_qp arrives]))

theorem does_credit {s : State} {h : Pkt} (arrives : QpPacket s h (some 0)) : Does (.credit h) s (noteLimit h s) :=
  does_of_onUnit rfl (decide_eq_true (port_of_qp arrives)) (gate_of_qp arrives _)

theorem does_flushAck {s : State} {q psn : Nat} {x : Qp} {f : FlushP} (there : qpOf s q = some x)
    (flush : x.flushes.find? (fun f => f.psn = psn && f.emitted && !f.acked) = some f)
    (covered : flushCovered s q f = true) (answers : canAnswer s = true) :
    let lv := min (levelRank f.level) (min f.low (waitingRank s q f))
    Does (.flushAck q psn) s (recSample 6 (now s - f.gtc) (sendQp q (.flushAck q psn lv) (updQp q (fun y => { y with
      flushes := mapIf (fun z => z.psn = psn) (fun z => { z with acked := true, level := levelOfRank lv }) y.flushes
      unacked := if (x.expPsn + (2 ^ 32 - 1)) % 2 ^ 32 = psn then 0 else y.unacked }) s))) :=
  does_of_done rfl (by simp only [there, flush, covered, answers]; simp)

theorem does_ackDelayExpiry {s : State} {q : Nat} {x : Qp} (there : qpOf s q = some x) (owed : x.unacked ≠ 0) :
    Does (.ackDelayExpiry q) s (sendAck q s) :=
  does_of_done rfl (by simp only [there, if_neg owed])

/-! ## A fetched context (R303) -/

/-- The packets that wait for the context of a queue pair. -/
def waitingFor (s : State) (q : Nat) : List (Nat × Pkt × ReqBody) := s.net.waiting.filter (fun w => w.2.1.qpn = q)

/-- A state that has the context of a queue pair back and no packet waiting for it. -/
def contextBack (q : Nat) (s : State) : State :=
  touchCtx q (evictCtx { s with net := { s.net with waiting := s.net.waiting.filter (fun w => w.2.1.qpn ≠ q) } })

theorem does_qpContextFetch_idle {s : State} {q : Nat} (there : (qpOf s q).isSome = true) (idle : waitingFor s q = []) :
    Does (.qpContextFetch q) s (contextBack q s) := by
  unfold waitingFor at idle
  exact does_of_done rfl ((if_neg (by simp [Option.isSome_iff_ne_none.1 there])).trans (by simp only [idle]; rfl))

theorem does_qpContextFetch_waits {s : State} {q : Nat} (there : (qpOf s q).isSome = true)
    {w : Nat × Pkt × ReqBody} {l : List (Nat × Pkt × ReqBody)} (waits : waitingFor s q = w :: l) :
    Does (.qpContextFetch q) s
      (forEach (waitingFor s q) (fun w t => serveReq w.2.1 w.2.2 (freeBuffer q (chargeOf w.2.1 w.2.2) t))
        (recSample 13 (now s - w.1) (contextBack q s))) := by
  rw [waits]
  unfold waitingFor at waits
  exact does_of_done rfl ((if_neg (by simp [Option.isSome_iff_ne_none.1 there])).trans (by simp only [waits]; rfl))

/-! ## Closing (R303, R318) -/

theorem does_closeComplete {s : State} {q : Nat} {x : Qp} (there : qpOf s q = some x) (closing : x.closing = true)
    (answered : allAnswered s q x = true) (answers : canAnswer s = true) :
    Does (.closeComplete q) s (finishPeer x.peer (freeQp q (sendQp q (.close q 0) s))) :=
  does_of_done rfl (by simp only [there, closing, answered, answers, Bool.and_self, if_true])

theorem does_peerClose {s : State} {h : Pkt} {n : Nat} {p : Peer} (arrives : PacketIn s h)
    (ext : extOk s h (some 0) = true) (noQp : h.qpn = 0) (there : peerAt s h.srcIp = some (n, p)) :
    Does (.peerClose h) s (finishPeer n (forEach (qpsOfPeer s n)
      (fun q u => updQp q (fun x => { x with closing := true }) u)
      (updPeer n (fun p => { p with closing := true }) s))) :=
  does_of_onUnit rfl (decide_eq_true (port_of_in arrives)) ((step1_of_in arrives _).trans
    (by simp only [serving_of_in arrives, hdrOk_of_in arrives, ext, noQp, there]; simp))

theorem does_peerIdleTimeout {s : State} {n : Nat} (there : (peerOf s n).isSome = true) (idle : qpsOfPeer s n = []) :
    Does (.peerIdleTimeout n) s (freePeer n s) :=
  does_of_done rfl (if_pos (by simp [there, idle]))

/-- Settles O21: each packet by the checks that it passes, each event by what it finds. -/
theorem vrmpSession : Obligations.VrmpSession :=
  ⟨fun _ _ _ _ _ arrives length cls keyed new => ⟨does_hello_peer arrives length cls keyed new,
      does_hello_qp arrives length cls keyed new⟩,
    fun _ _ => does_ack_ntf, fun _ _ => does_credit, fun _ _ _ _ _ => does_flushAck,
    fun _ _ _ => does_ackDelayExpiry,
    fun _ _ there => ⟨does_qpContextFetch_idle there, fun _ _ => does_qpContextFetch_waits there⟩,
    fun _ _ _ => does_closeComplete, fun _ _ _ _ => does_peerClose, fun _ _ => does_peerIdleTimeout⟩

end Sys2Proof.Machine
end

section
/-!
PROOFS. Canonical memories (log 4; R54, R131, R166, R465): the operations of the parts. One lemma for each operation of
the model: an equation where it writes none of the memories, an implication where it writes one and keeps its form.
Most operations write none, so the equations rewrite a state back to the one before, and the few that write (T1, T2,
the Cellar, landing, the vault, the store, the data memory) are proved from the rules of `SMap.wf`. An equation named
after a field (`memory_wf_seqr`) says of a variable state that the field holds no memory.
-/

namespace Sys2Proof.Machine

open Sys2Proof

set_option maxRecDepth 20000

/-! ### The shape of a state -/

/-- The canonical form of the seven memories that a state holds. -/
def memoryFields (t1 t2 cel : SMap LineData) (vault : Option Vault) (land : SMap (Option LandEntry))
    (flash sp : SMap Byte) : Bool :=
  SMap.wf 0 t1 && SMap.wf 0 t2 && SMap.wf 0 cel && SMap.wf none land && vault.all (fun v => SMap.wf none v.land)
    && SMap.wf 0xFF flash && SMap.wf 0 sp

@[simp] theorem memoryFields_fold (s : State) : memoryFields s.tier.t1 s.tier.t2 s.tier.cel s.tier.vault s.can.land
    s.cfg.flash s.cipher.spMem = Memory.wf s := rfl

@[simp] theorem memory_wf_mk (a b c d e f g h i j k l m n o p q r s t u v w x y) :
    Memory.wf (State.mk a b c d e f g h i j k l m n o p q r s t u v w x y)
      = memoryFields h.t1 h.t2 h.cel h.vault g.land t.flash n.spMem := rfl

@[simp] theorem memory_wf_ite (c : Prop) [Decidable c] (a b : State) :
    Memory.wf (if c then a else b) = if c then Memory.wf a else Memory.wf b := apply_ite _ c a b

@[simp] theorem memory_wf_forEach {α : Type} {g : α → State → State} {s : State} (h : Memory.wf s = true)
    (hg : ∀ a t, Memory.wf t = true → Memory.wf (g a t) = true) (l : List α) : Memory.wf (forEach l g s) = true := by
  unfold forEach
  induction l generalizing s with
  | nil => exact h
  | cons a l ih => exact ih (hg a s h)

@[simp] theorem memory_wf_forEach_eq {α : Type} {g : α → State → State} (hg : ∀ a t, Memory.wf (g a t) = Memory.wf t)
    (l : List α) (s : State) : Memory.wf (forEach l g s) = Memory.wf s := by
  unfold forEach
  induction l generalizing s with
  | nil => rfl
  | cons a l ih => rw [List.foldl_cons, ih, hg]

/-! ### Runs over a list -/

theorem memory_wf_foldl_eq {α β : Type} {f : State × β → α → State × β}
    (hf : ∀ a x, Memory.wf (f a x).1 = Memory.wf a.1) :
    ∀ (l : List α) (a : State × β), Memory.wf (l.foldl f a).1 = Memory.wf a.1
  | [], _ => rfl
  | x :: l, a => by rw [List.foldl_cons, memory_wf_foldl_eq hf l, hf]

theorem memory_wf_foldl {α β : Type} {f : State × β → α → State × β}
    (hf : ∀ a x, Memory.wf a.1 = true → Memory.wf (f a x).1 = true) :
    ∀ (l : List α) {a : State × β}, Memory.wf a.1 = true → Memory.wf (l.foldl f a).1 = true
  | [], _, h => h
  | x :: l, a, h => memory_wf_foldl hf l (hf a x h)

/-! ### Ops -/

@[simp] theorem memory_wf_send (o : Out) (s : State) : Memory.wf (send o s) = Memory.wf s := by simp [send]
@[simp] theorem memory_wf_bumpId (s : State) : Memory.wf (bumpId s) = Memory.wf s := by simp [bumpId]
@[simp] theorem memory_wf_useFree (s : State) : Memory.wf (useFree s) = Memory.wf s := by simp [useFree]

@[simp] theorem memory_wf_setRegWord (id : RegId) (i j : Nat) (v : Nat) (s : State) :
    Memory.wf (setRegWord id i j v s) = Memory.wf s := by
  simp [setRegWord]

@[simp] theorem memory_wf_setFld (id : RegId) (i hi lo x : Nat) (s : State) :
    Memory.wf (setFld id i hi lo x s) = Memory.wf s := by
  simp [setFld]

@[simp] theorem memory_wf_bumpRc (id : RegId) (i hi lo n : Nat) (s : State) :
    Memory.wf (bumpRc id i hi lo n s) = Memory.wf s := by
  simp [bumpRc]

@[simp] theorem memory_wf_maxRc (id : RegId) (i hi lo n : Nat) (s : State) :
    Memory.wf (maxRc id i hi lo n s) = Memory.wf s := by
  simp [maxRc]

@[simp] theorem memory_wf_setBit (id : RegId) (i n : Nat) (s : State) :
    Memory.wf (setBit id i n s) = Memory.wf s := by
  simp [setBit]

@[simp] theorem memory_wf_raiseAt (e tgt : Nat) (s : State) : Memory.wf (raiseAt e tgt s) = Memory.wf s := by
  simp [raiseAt]

@[simp] theorem memory_wf_raise (e : Nat) (s : State) : Memory.wf (raise e s) = Memory.wf s := by simp [raise]

@[simp] theorem memory_wf_raiseClearing (e : Nat) (s : State) : Memory.wf (raiseClearing e s) = Memory.wf s := by
  simp [raiseClearing]

@[simp] theorem memory_wf_raiseOff (e : Nat) (s : State) : Memory.wf (raiseOff e s) = Memory.wf s := by simp [raiseOff]

@[simp] theorem memory_wf_onlyIf (b : Bool) (f : State → State) (h1 : ∀ t, Memory.wf (f t) = Memory.wf t)
    (s : State) : Memory.wf (onlyIf b f s) = Memory.wf s := by
  simp [onlyIf, h1]

@[simp] theorem memory_wf_onlyIf_of {s : State} (h : Memory.wf s = true) (b : Bool) (f : State → State)
    (h1 : ∀ t, Memory.wf t = true → Memory.wf (f t) = true) : Memory.wf (onlyIf b f s) = true := by
  simp [onlyIf, h, h1]

@[simp] theorem memory_wf_accessEvent (write : Bool) (cause : Nat) (p : Path) (addr : Nat) (s : State) :
    Memory.wf (accessEvent write cause p addr s) = Memory.wf s := by
  simp [accessEvent]

@[simp] theorem memory_wf_mailboxIrq (p : Path) (code : Nat) (s : State) :
    Memory.wf (mailboxIrq p code s) = Memory.wf s := by
  unfold mailboxIrq
  split <;> simp

@[simp] theorem memory_wf_complete (p : Path) (tag code result : Nat) (body : List Nat) (s : State) :
    Memory.wf (complete p tag code result body s) = Memory.wf s := by
  simp [complete]

@[simp] theorem memory_wf_mboxDone (port ld tag result : Nat) (body : List Nat) (s : State) :
    Memory.wf (mboxDone port ld tag result body s) = Memory.wf s := by
  simp [mboxDone]

@[simp] theorem memory_wf_mgmtOnly (p : Path) (tag code : Nat) (f : State → State)
    (h1 : ∀ t, Memory.wf (f t) = Memory.wf t) (s : State) : Memory.wf (mgmtOnly p tag code f s) = Memory.wf s := by
  simp [mgmtOnly, h1]

@[simp] theorem memory_wf_mgmtOnly_of {s : State} (h : Memory.wf s = true) (p : Path) (tag code : Nat)
    (f : State → State) (h1 : ∀ t, Memory.wf t = true → Memory.wf (f t) = true) :
    Memory.wf (mgmtOnly p tag code f s) = true := by
  simp [mgmtOnly, h, h1]

@[simp] theorem memory_wf_mgmtWrite (p : Path) (addr : Nat) (f : State → State)
    (h1 : ∀ t, Memory.wf (f t) = Memory.wf t) (s : State) : Memory.wf (mgmtWrite p addr f s) = Memory.wf s := by
  simp [mgmtWrite, h1]

@[simp] theorem memory_wf_mgmtWrite_of {s : State} (h : Memory.wf s = true) (p : Path) (addr : Nat)
    (f : State → State) (h1 : ∀ t, Memory.wf t = true → Memory.wf (f t) = true) :
    Memory.wf (mgmtWrite p addr f s) = true := by
  simp [mgmtWrite, h, h1]

@[simp] theorem memory_wf_raisePwr (e : Nat) (s : State) : Memory.wf (raisePwr e s) = Memory.wf s := by simp [raisePwr]

@[simp] theorem memory_wf_logPwr (reason src : Nat) (s : State) : Memory.wf (logPwr reason src s) = Memory.wf s := by
  simp [logPwr]

@[simp] theorem memory_wf_updCopy (item bank : Nat) (f : CopySt → CopySt) (s : State) :
    Memory.wf (updCopy item bank f s) = Memory.wf s := by
  simp [updCopy]

@[simp] theorem memory_wf_writeCopy {s : State} (h : Memory.wf s = true) (item : Nat) :
    Memory.wf (writeCopy item s) = true := by
  simp [writeCopy, h, memory_wf_eraseSector]

@[simp] theorem memory_wf_putNode {s : State} (h : Memory.wf s = true) (f : NodeRec → NodeRec) :
    Memory.wf (putNode f s) = true := by
  simp [putNode, h]

@[simp] theorem memory_wf_putRepairs {s : State} (h : Memory.wf s = true) (l : List RepairRec) :
    Memory.wf (putRepairs l s) = true := by
  simp [putRepairs, h]

@[simp] theorem memory_wf_takeCopy (item : Nat) (c : Option CopySt) (s : State) :
    Memory.wf (takeCopy item c s) = Memory.wf s := by
  unfold takeCopy
  split <;> simp

@[simp] theorem memory_wf_markCopies (item : Nat) (s : State) : Memory.wf (markCopies item s) = Memory.wf s := by
  simp [markCopies]

@[simp] theorem memory_wf_readCopies (item : Nat) (s : State) : Memory.wf (readCopies item s) = Memory.wf s := by
  simp [readCopies]

/-! ### Prot -/

@[simp] theorem memory_wf_setBad (m w : Nat) (e : BitVec 80) (s : State) :
    Memory.wf (setBad m w e s) = Memory.wf s := by
  simp [setBad]

@[simp] theorem memory_wf_protWrite (m w : Nat) (s : State) : Memory.wf (protWrite m w s) = Memory.wf s := by
  simp [protWrite]

@[simp] theorem memory_wf_hardFault {s : State} (h : Memory.wf s = true) (m w b : Nat) :
    Memory.wf (hardFault m w b s) = true := by
  unfold hardFault
  dsimp only
  (repeat' split) <;> simp [h]

@[simp] theorem memory_wf_uncorrectable (m w : Nat) (scrub : Bool) (s : State) :
    Memory.wf (uncorrectable m w scrub s) = Memory.wf s := by
  simp [uncorrectable]

@[simp] theorem memory_wf_protRead {s : State} (h : Memory.wf s = true) (m w : Nat) (scrub : Bool) (stuck : BitVec 80) :
    Memory.wf (protRead m w scrub stuck s).1 = true := by
  unfold protRead
  dsimp only
  split
  · exact h
  · split
    · exact (memory_wf_uncorrectable m w scrub s).trans h
    · refine memory_wf_onlyIf_of ?_ _ _ (fun t ht => memory_wf_hardFault ht m w _)
      rw [memory_wf_setBad, memory_wf_protWrite, memory_wf_raise, memory_wf_bumpRc]
      exact h

@[simp] theorem memory_wf_protGet {s : State} (h : Memory.wf s = true) (c key : Nat) :
    Memory.wf (protGet c key s) = true := by
  simp +contextual [protGet, h]

@[simp] theorem memory_wf_protPut (c key : Nat) (s : State) : Memory.wf (protPut c key s) = Memory.wf s := by
  simp [protPut]

/-! ### TierOps -/

@[simp] theorem memory_wf_touchMeta (key : Nat) (s : State) : Memory.wf (touchMeta key s) = Memory.wf s := by
  simp [touchMeta]

@[simp] theorem memory_wf_modMeta (f : Meta → Meta) (s : State) : Memory.wf (modMeta f s) = Memory.wf s := by
  simp [modMeta]

@[simp] theorem memory_wf_setTile (g t : Nat) (x : Tile) (s : State) : Memory.wf (setTile g t x s) = Memory.wf s := by
  simp [setTile]

@[simp] theorem memory_wf_updTile (g t : Nat) (f : Tile → Tile) (s : State) :
    Memory.wf (updTile g t f s) = Memory.wf s := by
  simp [updTile]

@[simp] theorem memory_wf_touchAge (g t : Nat) (s : State) : Memory.wf (touchAge g t s) = Memory.wf s := by
  simp [touchAge]

@[simp] theorem memory_wf_notePoison (g t : Nat) (sectors : BitVec 16) (s : State) :
    Memory.wf (notePoison g t sectors s) = Memory.wf s := by
  simp [notePoison]

theorem memory_wf_plogFull (b : Bool) (s : State) :
    Memory.wf { s with tier := { s.tier with plogFull := b } } = Memory.wf s := rfl

@[simp] theorem memory_wf_logPoison (g t : Nat) (sectors : BitVec 16) (origin : Nat) (s : State) :
    Memory.wf (logPoison g t sectors origin s) = Memory.wf s := by
  unfold logPoison
  split
  · exact memory_wf_notePoison ..
  · split
    · rfl
    · extract_lets s1 full
      have h1 : Memory.wf s1 = Memory.wf s := memory_wf_bumpRc ..
      clear_value s1
      split
      · exact h1
      · exact (memory_wf_raise ..).trans ((memory_wf_plogFull true s1).trans h1)

@[simp] theorem memory_wf_poisonLines (g t : Nat) (m : BitVec 1024) (origin : Nat) (s : State) :
    Memory.wf (poisonLines g t m origin s) = Memory.wf s := by
  unfold poisonLines
  dsimp only
  (repeat' split) <;> simp

@[simp] theorem memory_wf_settleMissing (g t : Nat) (s : State) : Memory.wf (settleMissing g t s) = Memory.wf s := by
  simp [settleMissing]

@[simp] theorem memory_wf_clearPoison (g line : Nat) (s : State) :
    Memory.wf (clearPoison g line s) = Memory.wf s := by
  unfold clearPoison
  dsimp only
  (repeat' split) <;> simp

@[simp] theorem memory_wf_countPoisonRead (g t : Nat) (s : State) :
    Memory.wf (countPoisonRead g t s) = Memory.wf s := by
  simp [countPoisonRead]

@[simp] theorem memory_wf_updSet (n : Nat) (f : DramSet → DramSet) (s : State) :
    Memory.wf (updSet n f s) = Memory.wf s := by
  simp [updSet]

@[simp] theorem memory_wf_markT1 (f i : Nat) (s : State) : Memory.wf (markT1 f i s) = Memory.wf s := by simp [markT1]

@[simp] theorem memory_wf_noteRead (f i : Nat) (o : DramRead) (s : State) :
    Memory.wf (noteRead f i o s) = Memory.wf s := by
  simp [noteRead]

@[simp] theorem memory_wf_noteReads (errs : List LineRead) (s : State) : Memory.wf (noteReads errs s) = Memory.wf s :=
  memory_wf_forEach_eq (fun e t => by split <;> simp) errs s

@[simp] theorem memory_wf_markDirty (g t sec : Nat) (s : State) : Memory.wf (markDirty g t sec s) = Memory.wf s := by
  simp [markDirty]

@[simp] theorem memory_wf_writeT1 {s : State} (h : Memory.wf s = true) (g line : Nat) (d : LineData) (m : Mask) :
    Memory.wf (writeT1 g line d m s) = true := by
  unfold writeT1
  dsimp only
  (repeat' split) <;> simp [h, memory_wf_putT1]

@[simp] theorem memory_wf_takeFrame (g t f : Nat) (s : State) : Memory.wf (takeFrame g t f s) = Memory.wf s := by
  simp [takeFrame]

@[simp] theorem memory_wf_dropReloc (g t : Nat) (s : State) : Memory.wf (dropReloc g t s) = Memory.wf s := by
  simp [dropReloc]

@[simp] theorem memory_wf_dropT2 (g t : Nat) (s : State) : Memory.wf (dropT2 g t s) = Memory.wf s := by
  unfold dropT2
  split <;> simp

/-- The records and the content of a tile leave with it. -/
@[simp] theorem memory_wf_dropTile {s : State} (h : Memory.wf s = true) (g t : Nat) :
    Memory.wf (dropTile g t s) = true := by
  unfold dropTile
  extract_lets e s1 s2 tier s3
  have h1 : Memory.wf s1 = true := by
    unfold s1
    split
    · exact memory_wf_dropFrame h _
    · exact h
  have h2 : Memory.wf s2 = true := by
    unfold s2
    split
    · exact (memory_wf_modMeta _ s1).trans h1
    · exact h1
  have h3 : Memory.wf s3 = true := memory_wf_cel h2 (fun k => decide (k / 1024 ≠ tkey g t))
  exact (memory_wf_setTile ..).trans h3

@[simp] theorem memory_wf_firstFrame (g t : Nat) (s : State) : Memory.wf (firstFrame g t s) = Memory.wf s := by
  unfold firstFrame
  (repeat' split) <;> simp

@[simp] theorem memory_wf_chargeLines (n k : Nat) (s : State) : Memory.wf (chargeLines n k s) = Memory.wf s := by
  simp [chargeLines]

/-! ### Ftl -/

@[simp] theorem memory_wf_updDieAt (k : Nat) (f : Die → Die) (s : State) :
    Memory.wf (updDieAt k f s) = Memory.wf s := by
  simp [updDieAt]

@[simp] theorem memory_wf_updDie (ch die : Nat) (f : Die → Die) (s : State) :
    Memory.wf (updDie ch die f s) = Memory.wf s := by
  simp [updDie]

@[simp] theorem memory_wf_putOwner (n g t kind : Nat) (cipher : List LineData) (s : State) :
    Memory.wf (putOwner n g t kind cipher s) = Memory.wf s := by
  simp [putOwner]

@[simp] theorem memory_wf_addBytes (n : Nat) (s : State) : Memory.wf (addBytes n s) = Memory.wf s := by simp [addBytes]

@[simp] theorem memory_wf_nandEvent (n off : Nat) (s : State) : Memory.wf (nandEvent n off s) = Memory.wf s := by
  simp [nandEvent]

@[simp] theorem memory_wf_mediaFault (ch bit : Nat) (s : State) : Memory.wf (mediaFault ch bit s) = Memory.wf s := by
  simp [mediaFault]

@[simp] theorem memory_wf_ftlCause (bit : Nat) (s : State) : Memory.wf (ftlCause bit s) = Memory.wf s := by
  simp [ftlCause]

@[simp] theorem memory_wf_dieStep (k : Nat) (s : State) : Memory.wf (dieStep k s) = Memory.wf s := by
  unfold dieStep
  dsimp only
  (repeat' split) <;> simp

@[simp] theorem memory_wf_runDie (k : Nat) (s : State) : Memory.wf (runDie k s) = Memory.wf s := by simp [runDie]

@[simp] theorem memory_wf_pushDie (k : Nat) (o : DieOp) (s : State) : Memory.wf (pushDie k o s) = Memory.wf s := by
  simp [pushDie]

@[simp] theorem memory_wf_endCur (k : Nat) (s : State) : Memory.wf (endCur k s) = Memory.wf s := by simp [endCur]
@[simp] theorem memory_wf_hurry (g t : Nat) (s : State) : Memory.wf (hurry g t s) = Memory.wf s := by simp [hurry]

@[simp] theorem memory_wf_startErase (b : Nat) (s : State) : Memory.wf (startErase b s) = Memory.wf s := by
  simp [startErase]

@[simp] theorem memory_wf_openSuper (n : Nat) (s : State) : Memory.wf (openSuper n s) = Memory.wf s := by
  simp [openSuper]

@[simp] theorem memory_wf_queueWl (prio n : Nat) (s : State) : Memory.wf (queueWl prio n s) = Memory.wf s := by
  simp [queueWl]

theorem memory_wf_placeProg {s u : State} {p : Prog} {avoid : Option Nat}
    (e : placeProg p avoid s = some u) : Memory.wf u = Memory.wf s := by
  unfold placeProg at e
  split at e
  · contradiction
  · cases e
    simp

@[simp] theorem memory_wf_placeProg_getD (p : Prog) (avoid : Option Nat) {s u : State}
    (hu : Memory.wf u = Memory.wf s) : Memory.wf ((placeProg p avoid u).getD s) = Memory.wf s := by
  cases e : placeProg p avoid u with
  | none => rfl
  | some v => exact (memory_wf_placeProg e).trans hu

theorem memory_wf_unprotected (l : List Nat) (s : State) :
    Memory.wf { s with tier := { s.tier with unprotected := l } } = Memory.wf s := rfl

theorem memory_wf_parity {s : State} (h :
    Memory.wf s = true) (a : Nat) (l : List LineData) (own : SMap (List (BitVec 128))) :
    Memory.wf { s with
      tier := { s.tier with t2 := SMap.writeRun s.tier.t2 0 a l }, nand := { s.nand with parityOwn := own } } = true :=
  memory_wf_t2 h a l

@[simp] theorem memory_wf_closeStripe {s : State} (h : Memory.wf s = true) (key : Nat) :
    Memory.wf (closeStripe key s) = true := by
  unfold closeStripe
  split
  · exact h
  · dsimp only
    split
    · rw [memory_wf_addBytes, memory_wf_putOwner]
      exact memory_wf_parity (by simp [h]) _ _ _
    · rw [memory_wf_unprotected]
      simp [h]

@[simp] theorem memory_wf_noteStripe {s : State} (h : Memory.wf s = true) (n : Nat) (cipher : List LineData) :
    Memory.wf (noteStripe n cipher s) = true := by
  simp [noteStripe, h]

@[simp] theorem memory_wf_programSlot {s : State} (h : Memory.wf s = true) (n g t kind : Nat) (l : List LineData) :
    Memory.wf (programSlot n g t kind l s) = true := by
  refine memory_wf_noteStripe ?_ n _
  rw [memory_wf_addBytes, memory_wf_putOwner]
  exact memory_wf_t2 h _ _

@[simp] theorem memory_wf_padSlot {s : State} (h : Memory.wf s = true) (n : Nat) :
    Memory.wf (padSlot n s) = true := by
  simp [padSlot, h]

@[simp] theorem memory_wf_queueReloc (n : Nat) (s : State) : Memory.wf (queueReloc n s) = Memory.wf s := by
  simp [queueReloc]

@[simp] theorem memory_wf_settleDie (k : Nat) (s : State) : Memory.wf (settleDie k s) = Memory.wf s := by
  simp [settleDie]

@[simp] theorem memory_wf_retireDie (k : Nat) (s : State) : Memory.wf (retireDie k s) = Memory.wf s := by
  simp [retireDie]

@[simp] theorem memory_wf_startRebuild (s : State) : Memory.wf (startRebuild s) = Memory.wf s := by
  unfold startRebuild
  (repeat' split) <;> simp

@[simp] theorem memory_wf_rewrite (k : Nat) (p : Prog) (s : State) : Memory.wf (rewrite k p s) = Memory.wf s :=
  memory_wf_placeProg_getD _ _ rfl

@[simp] theorem memory_wf_killDie (k : Nat) (s : State) : Memory.wf (killDie k s) = Memory.wf s := by simp [killDie]
@[simp] theorem memory_wf_dieFail (k : Nat) (s : State) : Memory.wf (dieFail k s) = Memory.wf s := by simp [dieFail]

@[simp] theorem memory_wf_retireBlock (b : Nat) (s : State) : Memory.wf (retireBlock b s) = Memory.wf s := by
  simp [retireBlock]

@[simp] theorem memory_wf_settleBlock (b : Nat) (s : State) : Memory.wf (settleBlock b s) = Memory.wf s := by
  simp [settleBlock]

@[simp] theorem memory_wf_countBlock (b k : Nat) (s : State) : Memory.wf (countBlock b k s) = Memory.wf s := by
  simp [countBlock]

@[simp] theorem memory_wf_countReads (n k : Nat) (s : State) : Memory.wf (countReads n k s) = Memory.wf s := by
  simp [countReads]

@[simp] theorem memory_wf_reapDie (k : Nat) (s : State) : Memory.wf (reapDie k s) = Memory.wf s := by simp [reapDie]

@[simp] theorem memory_wf_askRead (p : Promo) (s : State) : Memory.wf (askRead p s) = Memory.wf s := by
  unfold askRead
  split <;> simp

@[simp] theorem memory_wf_growCellar (s : State) : Memory.wf (growCellar s) = Memory.wf s := by simp [growCellar]

@[simp] theorem memory_wf_settleNand (s : State) : Memory.wf (settleNand s) = Memory.wf s := by
  simp [settleNand]

@[simp] theorem memory_wf_celWrite (v : Nat) (x : CelSect) (key : Option Nat) (s : State) :
    Memory.wf (celWrite v x key s) = Memory.wf s := by
  unfold celWrite
  (repeat' split) <;> simp

@[simp] theorem memory_wf_celWriteN (v : Nat) (x : CelSect) (n : Nat) (s : State) :
    Memory.wf (celWriteN v x n s) = Memory.wf s := by
  simp [celWriteN]

@[simp] theorem memory_wf_celErase (b : Nat) (s : State) : Memory.wf (celErase b s) = Memory.wf s := by simp [celErase]

@[simp] theorem memory_wf_anchorPut (i : Nat) (fresh : Bool) (r : AnchorRec) (s : State) :
    Memory.wf (anchorPut i fresh r s) = Memory.wf s := by
  simp [anchorPut]

@[simp] theorem memory_wf_anchorWrite (r : AnchorRec) (s : State) : Memory.wf (anchorWrite r s) = Memory.wf s := by
  simp [anchorWrite]

/-! ### Channel -/

@[simp] theorem memory_wf_updCh (n : Nat) (f : DramCh → DramCh) (s : State) :
    Memory.wf (updCh n f s) = Memory.wf s := by
  simp [updCh]

@[simp] theorem memory_wf_dramEvent (n off : Nat) (s : State) : Memory.wf (dramEvent n off s) = Memory.wf s := by
  simp [dramEvent]

@[simp] theorem memory_wf_logUe (f i src cls action : Nat) (s : State) :
    Memory.wf (logUe f i src cls action s) = Memory.wf s := by
  simp [logUe]

@[simp] theorem memory_wf_demandUe (f i src cls : Nat) (s : State) :
    Memory.wf (demandUe f i src cls s) = Memory.wf s := by
  simp [demandUe]

@[simp] theorem memory_wf_updRank (ch r : Nat) (f : Rank → Rank) (s : State) :
    Memory.wf (updRank ch r f s) = Memory.wf s := by
  simp [updRank]

@[simp] theorem memory_wf_wakeCh (n : Nat) (s : State) : Memory.wf (wakeCh n s) = Memory.wf s := by simp [wakeCh]

@[simp] theorem memory_wf_wakeLine (f i : Nat) (s : State) : Memory.wf (wakeLine f i s) = Memory.wf s := by
  simp [wakeLine]

@[simp] theorem memory_wf_wakeFrame (f : Nat) (s : State) : Memory.wf (wakeFrame f s) = Memory.wf s := by
  unfold wakeFrame
  split <;> simp

@[simp] theorem memory_wf_wakeTile (g t : Nat) (s : State) : Memory.wf (wakeTile g t s) = Memory.wf s := by
  unfold wakeTile
  split <;> simp

@[simp] theorem memory_wf_updSub (k : Nat) (f : DramSub → DramSub) (s : State) :
    Memory.wf (updSub k f s) = Memory.wf s := by
  simp [updSub]

@[simp] theorem memory_wf_endBurst (ch rank : Nat) (s : State) : Memory.wf (endBurst ch rank s) = Memory.wf s := by
  simp [endBurst]

@[simp] theorem memory_wf_issueOne (k : Nat) (s : State) : Memory.wf (issueOne k s) = Memory.wf s := by
  unfold issueOne
  dsimp only
  (repeat' split) <;> simp

theorem memory_wf_passReq {s u : State} {kind : ReqKind} {g a lines n : Nat}
    (e : passReq kind g a lines n s = some u) : Memory.wf u = Memory.wf s := by
  unfold passReq at e
  split at e
  · contradiction
  · dsimp only at e
    split at e
    · contradiction
    · cases e
      simp

@[simp] theorem memory_wf_issueTo (fuel : Nat) (kind : ReqKind) (g a k : Nat) (s : State) :
    Memory.wf (issueTo fuel kind g a k s) = Memory.wf s := by
  induction fuel generalizing s with
  | zero => rfl
  | succ n ih =>
    unfold issueTo
    split
    · split
      · rfl
      · rw [ih, memory_wf_issueOne]
    · rfl

theorem memory_wf_finishReq {s u : State} {kind : ReqKind} {g a : Nat}
    (e : finishReq kind g a s = some u) : Memory.wf u = Memory.wf s := by
  unfold finishReq at e
  split at e
  · contradiction
  · dsimp only at e
    split at e
    · split at e
      · contradiction
      · cases e
        simp
    · contradiction

@[simp] theorem memory_wf_dropReqs (g t : Nat) (s : State) : Memory.wf (dropReqs g t s) = Memory.wf s := by
  simp [dropReqs]

@[simp] theorem memory_wf_dropEvicts (g t : Nat) (s : State) : Memory.wf (dropEvicts g t s) = Memory.wf s := by
  simp [dropEvicts]

@[simp] theorem memory_wf_schedule (s : State) : Memory.wf (schedule s) = Memory.wf s := by simp [schedule]

/-! ### CanopyOps -/

@[simp] theorem memory_wf_updCanSet (k : Nat) (f : CanSet → CanSet) (s : State) :
    Memory.wf (updCanSet k f s) = Memory.wf s := by
  simp [updCanSet]

@[simp] theorem memory_wf_putWay (k w : Nat) (x : Way) (s : State) : Memory.wf (putWay k w x s) = Memory.wf s := by
  simp [putWay]

@[simp] theorem memory_wf_dropWay (k w : Nat) (s : State) : Memory.wf (dropWay k w s) = Memory.wf s := by
  simp [dropWay]

@[simp] theorem memory_wf_touchWay (k w : Nat) (s : State) : Memory.wf (touchWay k w s) = Memory.wf s := by
  simp [touchWay]

@[simp] theorem memory_wf_updLine (g a : Nat) (f : Way → Way) (s : State) :
    Memory.wf (updLine g a f s) = Memory.wf s := by
  unfold updLine
  split <;> simp

@[simp] theorem memory_wf_setWf (sl : Nat) (l : List WfLine) (s : State) :
    Memory.wf (setWf sl l s) = Memory.wf s := by
  simp [setWf]

@[simp] theorem memory_wf_setTrk (sl : Nat) (l : List TrkEntry) (s : State) :
    Memory.wf (setTrk sl l s) = Memory.wf s := by
  simp [setTrk]

@[simp] theorem memory_wf_dropWf (g a : Nat) (s : State) : Memory.wf (dropWf g a s) = Memory.wf s := by simp [dropWf]

@[simp] theorem memory_wf_pushWf (g a : Nat) (st : LineState) (d : LineData) (s : State) :
    Memory.wf (pushWf g a st d s) = Memory.wf s := by
  simp [pushWf]

@[simp] theorem memory_wf_passEntry (acc : State × List TrkEntry) (x : TrkEntry) :
    Memory.wf (passEntry acc x).1 = Memory.wf acc.1 := by
  unfold passEntry
  dsimp only
  split
  · rfl
  · split
    · rfl
    · split
      · next passes => rw [memory_wf_passReq passes, memory_wf_firstFrame]
      · rfl

@[simp] theorem memory_wf_passTrk (sl : Nat) (s : State) : Memory.wf (passTrk sl s) = Memory.wf s := by
  unfold passTrk
  rw [memory_wf_setTrk, memory_wf_foldl_eq memory_wf_passEntry]

@[simp] theorem memory_wf_pushTrk (g a : Nat) (d : LineData) (m : Mask) (walk : Bool) (src : Option Nat) (s : State) :
    Memory.wf (pushTrk g a d m walk src s) = Memory.wf s := by
  simp [pushTrk]

@[simp] theorem memory_wf_landGet {s : State} (h : Memory.wf s = true) (g a : Nat) :
    Memory.wf (landGet g a s) = true := by
  simp [landGet, h]

@[simp] theorem memory_wf_landMerge {s : State} (h : Memory.wf s = true) (g a : Nat) (d : LineData) (m : Mask)
    (seq src : Nat) : Memory.wf (landMerge g a d m seq src s) = true := by
  simp [landMerge, h, memory_wf_setLand]

@[simp] theorem memory_wf_canErrLog (e sl way set g : Nat) (s : State) :
    Memory.wf (canErrLog e sl way set g s) = Memory.wf s := by
  simp [canErrLog]

@[simp] theorem memory_wf_dropErrs (p : ErrPlace) (tags : Bool) (s : State) :
    Memory.wf (dropErrs p tags s) = Memory.wf s := by
  simp [dropErrs]

@[simp] theorem memory_wf_addErr (g a : Nat) (chk : ArrayCheck) (s : State) :
    Memory.wf (addErr g a chk s) = Memory.wf s := by
  unfold addErr
  dsimp only
  split <;> simp

@[simp] theorem memory_wf_addErrs (errs : List (Nat × Nat × ArrayCheck)) (s : State) :
    Memory.wf (addErrs errs s) = Memory.wf s := by
  simp [addErrs]

@[simp] theorem memory_wf_loseWay (e k w g : Nat) (s : State) : Memory.wf (loseWay e k w g s) = Memory.wf s := by
  simp [loseWay]

@[simp] theorem memory_wf_tagError (e : ArrErr) (s : State) : Memory.wf ((tagError e s).1) = Memory.wf s := by
  unfold tagError
  dsimp only
  (repeat' split) <;> simp

@[simp] theorem memory_wf_checkTags (here : Nat → Bool) (s : State) : Memory.wf (checkTags here s).1 = Memory.wf s := by
  unfold checkTags
  rw [memory_wf_foldl_eq]
  exact fun a e => memory_wf_tagError e a.1

@[simp] theorem memory_wf_dataError (k w : Nat) (x : Way) (chk : ArrayCheck) (s : State) :
    Memory.wf ((dataError k w x chk s).1) = Memory.wf s := by
  unfold dataError
  dsimp only
  (repeat' split) <;> simp

@[simp] theorem memory_wf_dataCheck (k w : Nat) (x : Way) (s : State) :
    Memory.wf (dataCheck k w x s).1 = Memory.wf s := by
  unfold dataCheck
  rw [memory_wf_foldl_eq (fun a e => by split <;> simp), memory_wf_dropErrs]

@[simp] theorem memory_wf_wfCheck (g a : Nat) (s : State) : Memory.wf (wfCheck g a s) = Memory.wf s := by
  simp [wfCheck]

@[simp] theorem memory_wf_trkCheck (g a : Nat) (s : State) : Memory.wf ((trkCheck g a s).1) = Memory.wf s := by
  unfold trkCheck
  dsimp only
  (repeat' split) <;> simp

@[simp] theorem memory_wf_checkWrite (g a : Nat) (m : Mask) (s : State) :
    Memory.wf (checkWrite g a m s) = Memory.wf s := by
  unfold checkWrite
  dsimp only
  split <;> simp

@[simp] theorem memory_wf_evict (k w : Nat) (s : State) : Memory.wf (evict k w s) = Memory.wf s := by
  unfold evict
  split <;> simp

@[simp] theorem memory_wf_install (g a cls : Nat) (st : LineState) (pin fill : Bool) (d : LineData) (m : Mask)
    (s : State) : Memory.wf (install g a cls st pin fill d m s) = Memory.wf s := by
  unfold install
  split <;> simp

@[simp] theorem memory_wf_recallLine (g a : Nat) (x : WfLine) (s : State) :
    Memory.wf (recallLine g a x s) = Memory.wf s := by
  simp [recallLine]

@[simp] theorem memory_wf_setMiss (sl : Nat) (l : List Miss) (s : State) :
    Memory.wf (setMiss sl l s) = Memory.wf s := by
  simp [setMiss]

@[simp] theorem memory_wf_passFill (acc : State × List Miss) (m : Miss) :
    Memory.wf (passFill acc m).1 = Memory.wf acc.1 := by
  unfold passFill
  split
  · rfl
  · split
    · next passes => exact memory_wf_passReq passes
    · rfl

@[simp] theorem memory_wf_passMiss (sl : Nat) (s : State) : Memory.wf (passMiss sl s) = Memory.wf s := by
  unfold passMiss
  rw [memory_wf_setMiss, memory_wf_foldl_eq memory_wf_passFill]

@[simp] theorem memory_wf_passAll (s : State) : Memory.wf (passAll s) = Memory.wf s := by simp [passAll]

@[simp] theorem memory_wf_joinMiss (g a n : Nat) (w : Waiter) (s : State) :
    Memory.wf (joinMiss g a n w s) = Memory.wf s := by
  unfold joinMiss
  split <;> simp

@[simp] theorem memory_wf_fillFor (g a n : Nat) (s : State) : Memory.wf (fillFor g a n s) = Memory.wf s := by
  unfold fillFor
  split <;> simp

@[simp] theorem memory_wf_flushTracker {s : State} (h : Memory.wf s = true) (g t : Nat) :
    Memory.wf (flushTracker g t s) = true := by
  refine memory_wf_forEach h (fun sl s1 h1 => ?_) _
  refine memory_wf_forEach ((memory_wf_setTrk ..).trans h1) (fun x s2 h2 => memory_wf_writeT1 ?_ ..) _
  split <;> simp [h2]

@[simp] theorem memory_wf_invalidateWay {s : State} (h : Memory.wf s = true) (x : Nat × Nat × Way) :
    Memory.wf (invalidateWay x s) = true := by
  unfold invalidateWay
  split <;> simp [h]

@[simp] theorem memory_wf_settleTile {s : State} (h : Memory.wf s = true) (g t : Nat) :
    Memory.wf (settleTile g t s) = true := by
  simp +contextual [settleTile, h]

@[simp] theorem memory_wf_cleanDirty {s : State} (h : Memory.wf s = true) : Memory.wf (cleanDirty s) = true := by
  refine memory_wf_forEach h (fun p t ht => ?_) _
  split
  · exact ht
  · next x _ =>
    have hc : Memory.wf (dataCheck p.1 p.2 x t).1 = true := (memory_wf_dataCheck ..).trans ht
    dsimp only
    split
    · exact hc
    · split
      · exact (memory_wf_putWay ..).trans (memory_wf_landMerge hc ..)
      · refine (memory_wf_putWay ..).trans (memory_wf_writeT1 ?_ ..)
        rw [memory_wf_chargeLines, memory_wf_dropEvicts, memory_wf_flushTracker]
        exact hc

@[simp] theorem memory_wf_forget {s : State} (h : Memory.wf s = true) (mine : Nat → Nat → Bool) :
    Memory.wf (forget mine s) = true := by
  unfold forget
  extract_lets s1 s2 s3 can s4
  have h3 : Memory.wf s3 = true := by
    simp [s3, s2, s1, h]
  exact memory_wf_landKeep h3 (fun k => !mine (k / 2 ^ 42) (k % 2 ^ 42))

@[simp] theorem memory_wf_unsend (g t : Nat) (s : State) : Memory.wf (unsend g t s) = Memory.wf s := by simp [unsend]

/-! ### MonOps -/

@[simp] theorem memory_wf_bumpPerf (u c n : Nat) (s : State) : Memory.wf (bumpPerf u c n s) = Memory.wf s := by
  simp [bumpPerf]

@[simp] theorem memory_wf_perfUnit (r : PReq) (ev n u : Nat) (s : State) :
    Memory.wf (perfUnit r ev n u s) = Memory.wf s := by
  simp [perfUnit]

@[simp] theorem memory_wf_perfAdd (r : PReq) (ev n : Nat) (s : State) :
    Memory.wf (perfAdd r ev n s) = Memory.wf s := by
  simp [perfAdd]

@[simp] theorem memory_wf_perfLat (r : PReq) (ns : Nat) (s : State) : Memory.wf (perfLat r ns s) = Memory.wf s := by
  simp [perfLat]

@[simp] theorem memory_wf_moved (cls src g a n : Nat) (s : State) :
    Memory.wf (moved cls src g a n s) = Memory.wf s := by
  simp [moved]

@[simp] theorem memory_wf_ttLookup {s : State} (h : Memory.wf s = true) (r : PReq) (g t : Nat) :
    Memory.wf (ttLookup r g t s) = true := by
  simp [ttLookup, h]

@[simp] theorem memory_wf_recSample (p v : Nat) (s : State) : Memory.wf (recSample p v s) = Memory.wf s := by
  simp [recSample]

@[simp] theorem memory_wf_updPort (p : Nat) (f : HostPort → HostPort) (s : State) :
    Memory.wf (updPort p f s) = Memory.wf s := by
  simp [updPort]

@[simp] theorem memory_wf_updLd (p l : Nat) (f : Ld → Ld) (s : State) : Memory.wf (updLd p l f s) = Memory.wf s := by
  simp [updLd]

@[simp] theorem memory_wf_postRec (p l log kind : Nat) (detail : List Nat) (s : State) :
    Memory.wf (postRec p l log kind detail s) = Memory.wf s := by
  simp [postRec]

@[simp] theorem memory_wf_portEvent (p off : Nat) (s : State) : Memory.wf (portEvent p off s) = Memory.wf s := by
  simp [portEvent]

@[simp] theorem memory_wf_portReset (p : Nat) (s : State) : Memory.wf (portReset p s) = Memory.wf s := by
  simp [portReset]

@[simp] theorem memory_wf_portInternal (p : Nat) (s : State) : Memory.wf (portInternal p s) = Memory.wf s := by
  simp [portInternal]

@[simp] theorem memory_wf_hostDown (p : Nat) (s : State) : Memory.wf (hostDown p s) = Memory.wf s := by simp [hostDown]

@[simp] theorem memory_wf_setSlot (n : Nat) (x : Slot) (s : State) : Memory.wf (setSlot n x s) = Memory.wf s := by
  simp [setSlot]

@[simp] theorem memory_wf_zeroSlot (n : Nat) (s : State) : Memory.wf (zeroSlot n s) = Memory.wf s := by simp [zeroSlot]

@[simp] theorem memory_wf_setWrap (n gen : Nat) (w : Option Wrapped) (s : State) :
    Memory.wf (setWrap n gen w s) = Memory.wf s := by
  simp [setWrap]

theorem memory_wf_logUsed (m : SMap Nat) (s : State) :
    Memory.wf { s with cipher := { s.cipher with logUsed := m } } = Memory.wf s := rfl

@[simp] theorem memory_wf_appendWrap {s : State} (h : Memory.wf s = true) (k : Nat) :
    Memory.wf (appendWrap k s) = true := by
  unfold appendWrap
  extract_lets b used n live reset
  split
  · exact (memory_wf_raise ..).trans
      (memory_wf_forEach ((memory_wf_logUsed ..).trans h) (fun n t ht => memory_wf_eraseSector ht n) _)
  · exact (memory_wf_logUsed ..).trans h

@[simp] theorem memory_wf_storeSlot {s : State} (h : Memory.wf s = true) (n : Nat) :
    Memory.wf (storeSlot n s) = true := by
  simp [storeSlot, h]

@[simp] theorem memory_wf_startRoll {s : State} (h : Memory.wf s = true) (n : Nat) :
    Memory.wf (startRoll n s) = true := by
  simp [startRoll, h]

@[simp] theorem memory_wf_slotExhausted (n : Nat) (s : State) : Memory.wf (slotExhausted n s) = Memory.wf s := by
  unfold slotExhausted
  dsimp only
  split <;> simp

@[simp] theorem memory_wf_countSlot {s : State} (h : Memory.wf s = true) (n k : Nat) :
    Memory.wf (countSlot n k s) = true := by
  simp [countSlot, h]

@[simp] theorem memory_wf_useSlot {s : State} (h : Memory.wf s = true) (n k : Nat) :
    Memory.wf (useSlot n k s) = true := by
  simp [useSlot, h]

@[simp] theorem memory_wf_useGrove {s : State} (h : Memory.wf s = true) (g t k : Nat) :
    Memory.wf (useGrove g t k s) = true := by
  simp [useGrove, h]

/-! ### IntegOps -/

@[simp] theorem memory_wf_setMapEntry (src e : Nat) (x : Option MapEntry) (s : State) :
    Memory.wf (setMapEntry src e x s) = Memory.wf s := by
  simp [setMapEntry]

@[simp] theorem memory_wf_readMapEntry {s : State} (h : Memory.wf s = true) (src e : Nat) :
    Memory.wf ((readMapEntry src e s).1) = true := by
  simp [readMapEntry, h]

/-! ### UtlOps -/

@[simp] theorem memory_wf_derive {s : State} (h : Memory.wf s = true) (n : Nat) : Memory.wf (derive n s) = true := by
  unfold derive
  split <;> simp [h]

@[simp] theorem memory_wf_sessionKeys {s : State} (h : Memory.wf s = true) (own peer : BitVec 256) :
    Memory.wf (sessionKeys own peer s) = true := by
  simp [sessionKeys, h]

@[simp] theorem memory_wf_txFrame (f : Frame) (s : State) : Memory.wf (txFrame f s) = Memory.wf s := by simp [txFrame]
@[simp] theorem memory_wf_sendUtl (f : Frame) (s : State) : Memory.wf (sendUtl f s) = Memory.wf s := by simp [sendUtl]

@[simp] theorem memory_wf_pumpTx (fuel : Nat) (s : State) : Memory.wf (pumpTx fuel s) = Memory.wf s :=
  pumpTx_ind (P := fun t => Memory.wf t = Memory.wf s) (fun _ _ _ ht => (memory_wf_txFrame ..).trans ht) fuel s rfl

@[simp] theorem memory_wf_sendNet (f : Frame) (s : State) : Memory.wf (sendNet f s) = Memory.wf s := by
  unfold sendNet
  split <;> simp

@[simp] theorem memory_wf_sendBoth (f : Frame) (s : State) : Memory.wf (sendBoth f s) = Memory.wf s := by
  simp [sendBoth]

@[simp] theorem memory_wf_sendLandingAck (s : State) : Memory.wf (sendLandingAck s) = Memory.wf s := by
  simp [sendLandingAck]

@[simp] theorem memory_wf_utlDown (s : State) : Memory.wf (utlDown s) = Memory.wf s := by simp [utlDown]

/-! ### DataOps -/

@[simp] theorem memory_wf_updQp (n : Nat) (f : Qp → Qp) (s : State) : Memory.wf (updQp n f s) = Memory.wf s := by
  unfold updQp
  split <;> simp

@[simp] theorem memory_wf_updPeer (n : Nat) (f : Peer → Peer) (s : State) :
    Memory.wf (updPeer n f s) = Memory.wf s := by
  unfold updPeer
  split <;> simp

@[simp] theorem memory_wf_sendPeer (n eng : Nat) (o : Out) (s : State) :
    Memory.wf (sendPeer n eng o s) = Memory.wf s := by
  unfold sendPeer
  split <;> simp

@[simp] theorem memory_wf_sendQp (q : Nat) (o : Out) (s : State) : Memory.wf (sendQp q o s) = Memory.wf s := by
  unfold sendQp
  split <;> simp

@[simp] theorem memory_wf_sendIp (ip : BitVec 128) (eng : Nat) (o : Out) (s : State) :
    Memory.wf (sendIp ip eng o s) = Memory.wf s := by
  unfold sendIp
  split <;> simp

@[simp] theorem memory_wf_sendNakTo (ip : BitVec 128) (qpn psn code addr : Nat) (hint : Bool) (s : State) :
    Memory.wf (sendNakTo ip qpn psn code addr hint s) = Memory.wf s := by
  simp [sendNakTo]

@[simp] theorem memory_wf_sendNak (qpn psn code addr : Nat) (s : State) :
    Memory.wf (sendNak qpn psn code addr s) = Memory.wf s := by
  simp [sendNak]

@[simp] theorem memory_wf_impliesAck (q psn : Nat) (s : State) : Memory.wf (impliesAck q psn s) = Memory.wf s := by
  simp [impliesAck]

@[simp] theorem memory_wf_refuseCxl (r : CxlReq) (reason : Nat) (write : Bool) (dpa : Nat) (g : Option Nat)
    (s : State) : Memory.wf (refuseCxl r reason write dpa g s) = Memory.wf s := by
  simp [refuseCxl]

@[simp] theorem memory_wf_setMark (src g : Nat) (s : State) : Memory.wf (setMark src g s) = Memory.wf s := by
  simp [setMark]

@[simp] theorem memory_wf_stampInput (src : Nat) (op : InOp) (ack : AckTo) (origin : Nat) (key : BitVec 64)
    (raddr : Nat) (s : State) : Memory.wf (stampInput src op ack origin key raddr s) = Memory.wf s := by
  simp [stampInput]

@[simp] theorem memory_wf_localInput (op : InOp) (s : State) : Memory.wf (localInput op s) = Memory.wf s := by
  simp [localInput]

@[simp] theorem memory_wf_localPass (src : Nat) (s : State) : Memory.wf (localPass src s) = Memory.wf s := by
  simp [localPass]

@[simp] theorem memory_wf_answerAck (a : AckTo) (level : Level) (gtc src : Nat) (s : State) :
    Memory.wf (answerAck a level gtc src s) = Memory.wf s := by
  unfold answerAck
  split <;> simp

@[simp] theorem memory_wf_updPlacing (id : Nat) (f : Placing → Placing) (s : State) :
    Memory.wf (updPlacing id f s) = Memory.wf s := by
  simp [updPlacing]

@[simp] theorem memory_wf_tryAck (id : Nat) (s : State) : Memory.wf (tryAck id s) = Memory.wf s := by
  unfold tryAck
  split <;> simp

@[simp] theorem memory_wf_pieceDone (id : Nat) (s : State) : Memory.wf (pieceDone id s) = Memory.wf s := by
  simp [pieceDone]

@[simp] theorem memory_wf_mirrorToLocal (s : State) : Memory.wf (mirrorToLocal s) = Memory.wf s := by
  simp [mirrorToLocal]

@[simp] theorem memory_wf_mirrorAcked (upto : Nat) (s : State) : Memory.wf (mirrorAcked upto s) = Memory.wf s := by
  simp [mirrorAcked]

@[simp] theorem memory_wf_foldDigest (seq : Nat) (r : StampRec) (s : State) :
    Memory.wf (foldDigest seq r s) = Memory.wf s := by
  simp [foldDigest]

@[simp] theorem memory_wf_flushRecs (fuel : Nat) (s : State) : Memory.wf (flushRecs fuel s) = Memory.wf s := by
  induction fuel generalizing s with
  | zero => rfl
  | succ n ih =>
    unfold flushRecs
    split
    · rw [ih]
      simp
    · rfl

@[simp] theorem memory_wf_fillRec (seq : Nat) (r : StampRec) (s : State) :
    Memory.wf (fillRec seq r s) = Memory.wf s := by
  simp [fillRec]

@[simp] theorem memory_wf_retain (seq g line gtc src : Nat) (s : State) :
    Memory.wf (retain seq g line gtc src s) = Memory.wf s := by
  simp [retain]

@[simp] theorem memory_wf_enqueue (q : QAcc) (s : State) : Memory.wf (enqueue q s) = Memory.wf s := by simp [enqueue]

@[simp] theorem memory_wf_answerRead (id g a : Nat) (d : Option LineData) (hit : Bool) (s : State) :
    Memory.wf (answerRead id g a d hit s) = Memory.wf s := by
  unfold answerRead
  split <;> simp

@[simp] theorem memory_wf_finishJob (j : ReadJob) (s : State) : Memory.wf (finishJob j s) = Memory.wf s := by
  unfold finishJob
  dsimp only
  (repeat' split) <;> simp

@[simp] theorem memory_wf_gotLine (id g a : Nat) (d : Option LineData) (s : State) :
    Memory.wf (gotLine id g a d s) = Memory.wf s := by
  unfold gotLine
  split <;> simp

@[simp] theorem memory_wf_mergeWay (g a : Nat) (d : LineData) (m : Mask) (st : LineState) (s : State) :
    Memory.wf (mergeWay g a d m st s) = Memory.wf s := by
  unfold mergeWay
  split <;> simp

@[simp] theorem memory_wf_mergeWf (g a : Nat) (d : LineData) (m : Mask) (st : LineState) (s : State) :
    Memory.wf (mergeWf g a d m st s) = Memory.wf s := by
  simp [mergeWf]

@[simp] theorem memory_wf_allocWrite (g a n : Nat) (d : LineData) (m : Mask) (st : LineState) (s : State) :
    Memory.wf (allocWrite g a n d m st s) = Memory.wf s := by
  simp [allocWrite]

@[simp] theorem memory_wf_landWrite {s : State} (h : Memory.wf s = true) (id g : Nat) (p : Piece) (seq : Nat) :
    Memory.wf (landWrite id g p seq s) = true := by
  unfold landWrite
  dsimp only
  (repeat' split) <;> simp [h]

@[simp] theorem memory_wf_volApply {s : State} (h : Memory.wf s = true) (id g : Nat) (p : Piece) :
    Memory.wf (volApply id g p s) = true := by
  unfold volApply
  dsimp only
  (repeat' split) <;> simp [h]

@[simp] theorem memory_wf_atomicDone (a : AckTo) (orig : BitVec 64) (s : State) :
    Memory.wf (atomicDone a orig s) = Memory.wf s := by
  unfold atomicDone
  split <;> simp

@[simp] theorem memory_wf_atomicExec {s : State} (h : Memory.wf s = true) (id seq : Nat) (i : Input)
    (d : Option LineData) : Memory.wf (atomicExec id seq i d s) = true := by
  unfold atomicExec
  dsimp only
  (repeat' split) <;> simp [h]

@[simp] theorem memory_wf_deliver {s : State} (h : Memory.wf s = true) (g a : Nat) (d : Option LineData)
    (hit : Bool) (w : Waiter) : Memory.wf (deliver g a d hit w s) = true := by
  unfold deliver
  split <;> simp [h]

@[simp] theorem memory_wf_updPromo (g t : Nat) (f : Promo → Promo) (s : State) :
    Memory.wf (updPromo g t f s) = Memory.wf s := by
  simp [updPromo]

theorem memory_wf_startPromo {s u : State} {g t kind line : Nat} {pin : Bool}
    (e : startPromo g t kind line pin s = some u) : Memory.wf u = Memory.wf s := by
  unfold startPromo at e
  split at e
  · contradiction
  · split at e
    · contradiction
    · cases e
      dsimp only
      split
      · split <;> simp
      · simp

@[simp] theorem memory_wf_startPromo_getD (g t kind line : Nat) (pin : Bool) (s : State) {u : State}
    (hu : Memory.wf u = Memory.wf s) : Memory.wf ((startPromo g t kind line pin s).getD u) = Memory.wf s := by
  cases e : startPromo g t kind line pin s with
  | none => exact hu
  | some v => exact memory_wf_startPromo e

@[simp] theorem memory_wf_noFrame (s : State) : Memory.wf (noFrame s) = Memory.wf s := by simp [noFrame]

@[simp] theorem memory_wf_demand (g a : Nat) (w : Waiter) (s : State) : Memory.wf (demand g a w s) = Memory.wf s := by
  unfold demand
  split
  · next starts => rw [memory_wf_updPromo, memory_wf_startPromo starts]
  · simp

@[simp] theorem memory_wf_directRead (g a : Nat) (s : State) : Memory.wf (directRead g a s) = Memory.wf s := by
  unfold directRead
  split
  · simp
  · dsimp only
    have hp : Memory.wf (pinNow s).2 = Memory.wf s := by simp [pinNow]
    rw [memory_wf_startPromo_getD _ _ _ _ _ _ ((memory_wf_noFrame s).trans hp.symm), hp]

@[simp] theorem memory_wf_serveLates {s : State} (h : Memory.wf s = true) (g t : Nat) :
    Memory.wf (serveLates g t s) = true := by
  simp +contextual [serveLates, h]

@[simp] theorem memory_wf_lateTouch {s : State} (h : Memory.wf s = true) (g a : Nat) (w : Waiter) (q : QEntry) :
    Memory.wf (lateTouch g a w q s) = true := by
  simp [lateTouch, h]

@[simp] theorem memory_wf_readCold {s : State} (h : Memory.wf s = true) (g a : Nat) (w : Waiter) :
    Memory.wf (readCold g a w s) = true := by
  unfold readCold
  dsimp only
  (repeat' split) <;> simp [h]

@[simp] theorem memory_wf_sampleHit (g a : Nat) (s : State) : Memory.wf (sampleHit g a s) = Memory.wf s := by
  simp [sampleHit]

@[simp] theorem memory_wf_readBelow {s : State} (h : Memory.wf s = true) (g a : Nat) (w : Waiter) (r : PReq) :
    Memory.wf (readBelow g a w r s) = true := by
  unfold readBelow
  split <;> simp [h]

@[simp] theorem memory_wf_readHit {s : State} (h : Memory.wf s = true) (g a k n : Nat) (y : Way) (slow : Bool)
    (w : Waiter) (r : PReq) : Memory.wf (readHit g a k n y slow w r s) = true := by
  simp [readHit, h]

@[simp] theorem memory_wf_readLine {s : State} (h : Memory.wf s = true) (g a : Nat) (w : Waiter) (r : PReq) :
    Memory.wf (readLine g a w r s) = true := by
  unfold readLine
  dsimp only
  (repeat' split) <;> simp [h]

@[simp] theorem memory_wf_readAt {s : State} (h : Memory.wf s = true) (g a : Nat) (w : Waiter) (r : PReq) :
    Memory.wf (readAt g a w r s) = true := by
  simp [readAt, h]

@[simp] theorem memory_wf_placePiece {s : State} (h : Memory.wf s = true) (id g seq : Nat) (land : Bool) (p : Piece) :
    Memory.wf (placePiece id g seq land p s) = true := by
  simp [placePiece, h]

@[simp] theorem memory_wf_retryOne {s : State} (h : Memory.wf s = true) (q : QAcc) :
    Memory.wf (retryOne q s) = true := by
  unfold retryOne
  split <;> simp [h]

@[simp] theorem memory_wf_retryLate (l : LateTouch) (s : State) : Memory.wf (retryLate l s) = Memory.wf s := by
  simp [retryLate]

@[simp] theorem memory_wf_runQueue {s : State} (h : Memory.wf s = true) : Memory.wf (runQueue s) = true := by
  simp +contextual [runQueue, h]

@[simp] theorem memory_wf_passLine (g a : Nat) (s : State) : Memory.wf (passLine g a s) = Memory.wf s := by
  unfold passLine
  split <;> simp

/-! ### CopOps -/

@[simp] theorem memory_wf_poolSettle (p : Nat) (s : State) : Memory.wf (poolSettle p s) = Memory.wf s := by
  simp [poolSettle]

@[simp] theorem memory_wf_copSettle (s : State) : Memory.wf (copSettle s) = Memory.wf s := by simp [copSettle]

theorem memory_wf_copAlloc {s u : State} {p owner : Nat} {grant : Bool} (e : copAlloc p owner grant s = some u) :
    Memory.wf u = Memory.wf s := by
  unfold copAlloc at e
  (repeat' split at e) <;> simp at e <;> subst e <;> simp

@[simp] theorem memory_wf_copAlloc_getD (p owner : Nat) (grant : Bool) {s u : State} (hu : Memory.wf u = Memory.wf s) :
    Memory.wf ((copAlloc p owner grant u).getD s) = Memory.wf s := by
  cases e : copAlloc p owner grant u with
  | none => rfl
  | some v => exact (memory_wf_copAlloc e).trans hu

@[simp] theorem memory_wf_badFree (double : Bool) (blk idx owner who : Nat) (s : State) :
    Memory.wf (badFree double blk idx owner who s) = Memory.wf s := by
  simp [badFree]

@[simp] theorem memory_wf_setOwner (blk idx : Nat) (heir : Option Nat) (s : State) :
    Memory.wf (setOwner blk idx heir s) = Memory.wf s := by
  unfold setOwner
  (repeat' split) <;> simp

@[simp] theorem memory_wf_copHand (blk idx who : Nat) (heir : Option Nat) (s : State) :
    Memory.wf (copHand blk idx who heir s) = Memory.wf s := by
  unfold copHand
  split <;> simp

@[simp] theorem memory_wf_copFree (p owner : Nat) (s : State) : Memory.wf (copFree p owner s) = Memory.wf s := by
  unfold copFree
  split <;> simp

@[simp] theorem memory_wf_reapBufs (s : State) : Memory.wf (reapBufs s) = Memory.wf s := by simp [reapBufs]

@[simp] theorem memory_wf_copRead (mem : Nat) (s : State) : Memory.wf ((copRead mem s).1) = Memory.wf s := by
  unfold copRead
  (repeat' split) <;> simp

/-! ### DramOps -/

@[simp] theorem memory_wf_corrected (f i : Nat) (s : State) : Memory.wf (corrected f i s) = Memory.wf s := by
  simp [corrected]

@[simp] theorem memory_wf_fromPeer (g t i : Nat) (s : State) : Memory.wf ((fromPeer g t i s).1) = Memory.wf s := by
  simp [fromPeer]

@[simp] theorem memory_wf_copierSource {s : State} (h : Memory.wf s = true) (g t i f src : Nat) :
    Memory.wf ((copierSource g t i f src s).1) = true := by
  unfold copierSource
  dsimp only
  (repeat' split) <;> simp [h, memory_wf_putT1]

@[simp] theorem memory_wf_copierLine {s : State} (h : Memory.wf s = true) (g t i src : Nat) :
    Memory.wf ((copierLine g t i src s).1) = true := by
  unfold copierLine
  dsimp only
  (repeat' split) <;> simp [h]

@[simp] theorem memory_wf_copierScan {s : State} (h : Memory.wf s = true) (g t src : Nat) :
    Memory.wf (copierScan g t src s) = true := by
  refine memory_wf_forEach h (fun i u hu => ?_) _
  have hc := memory_wf_copierLine hu g t i src
  dsimp only
  split
  · exact hc
  · exact (memory_wf_poisonLines ..).trans hc

@[simp] theorem memory_wf_setChannels (n : Nat) (f : DramCh → DramCh) (s : State) :
    Memory.wf (setChannels n f s) = Memory.wf s := by
  simp [setChannels]

@[simp] theorem memory_wf_startEvac (n : Nat) (s : State) : Memory.wf (startEvac n s) = Memory.wf s := by
  simp [startEvac]

@[simp] theorem memory_wf_tryEvac (n : Nat) (s : State) : Memory.wf (tryEvac n s) = Memory.wf s := by simp [tryEvac]

@[simp] theorem memory_wf_finishEvac (s : State) : Memory.wf (finishEvac s) = Memory.wf s := by
  unfold finishEvac
  split <;> simp

end Sys2Proof.Machine
end

section
/-!
PROOFS. Canonical memories: power, the reactions, the twin link, the placing of inputs and the tick.
-/

namespace Sys2Proof.Machine

open Sys2Proof

set_option maxRecDepth 20000

/-! ### PowerOps -/

@[simp] theorem memory_wf_modPwr (f : Pwr → Pwr) (s : State) : Memory.wf (modPwr f s) = Memory.wf s := by simp [modPwr]

@[simp] theorem memory_wf_updNet (p : Nat) (f : NetPort → NetPort) (s : State) :
    Memory.wf (updNet p f s) = Memory.wf s := by
  simp [updNet]

@[simp] theorem memory_wf_netDown (p : Nat) (s : State) : Memory.wf (netDown p s) = Memory.wf s := by simp [netDown]
@[simp] theorem memory_wf_netHold (p : Nat) (s : State) : Memory.wf (netHold p s) = Memory.wf s := by simp [netHold]
@[simp] theorem memory_wf_sendLeaving (s : State) : Memory.wf (sendLeaving s) = Memory.wf s := by simp [sendLeaving]

@[simp] theorem memory_wf_placeQueued {s : State} (h : Memory.wf s = true) (q : QAcc) :
    Memory.wf (placeQueued q s) = true := by
  unfold placeQueued
  split <;> simp [h]

@[simp] theorem memory_wf_quiesce {s : State} (h : Memory.wf s = true) : Memory.wf (quiesce s) = true := by
  simp +contextual [quiesce, h]

@[simp] theorem memory_wf_linksDown (s : State) : Memory.wf (linksDown s) = Memory.wf s := by
  simp [linksDown]

@[simp] theorem memory_wf_abandonStore {s : State} (h : Memory.wf s = true) : Memory.wf (abandonStore s) = true := by
  unfold abandonStore
  (repeat' split) <;> simp [h, memory_wf_putStore]

@[simp] theorem memory_wf_cutKeyErase (s : State) : Memory.wf (cutKeyErase s) = Memory.wf s := by simp [cutKeyErase]

theorem memory_wf_seqr (x : Seqr) (s : State) : Memory.wf { s with seqr := x } = Memory.wf s := rfl

theorem memory_wf_celRecs (l : List Nat) (s : State) :
    Memory.wf { s with tier := { s.tier with celRecs := l } } = Memory.wf s := rfl

@[simp] theorem memory_wf_writeRecord {s : State} (h : Memory.wf s = true) (k : Nat) :
    Memory.wf (writeRecord k s) = true := by
  unfold writeRecord
  refine memory_wf_useSlot (memory_wf_useGrove ?_ ..) ..
  rw [memory_wf_celWrite, memory_wf_celRecs]
  exact memory_wf_forEach h (fun i t ht => memory_wf_celPut ht _ _) _

@[simp] theorem memory_wf_writeSectors {s : State} (h : Memory.wf s = true) (n : Nat) (fails : List Nat) :
    Memory.wf (writeSectors n fails s) = true :=
  memory_wf_forEach h (fun k t ht => memory_wf_writeRecord (by simp [ht]) k) _

/-- A change of the vault that keeps its landing entries in form keeps memory in form. -/
theorem memory_wf_modVault_of {s : State} (h : Memory.wf s = true) {f : Vault → Vault}
    (keep : ∀ v, SMap.wf none v.land = true → SMap.wf none (f v).land = true) : Memory.wf (modVault f s) = true := by
  rw [memory_wf_and] at h ⊢
  obtain ⟨t1, t2, cel, land, vault, rest⟩ := h
  refine ⟨t1, t2, cel, land, ?_, rest⟩
  unfold modVault
  cases e : s.tier.vault with
  | none => rfl
  | some v =>
    rw [e] at vault
    exact keep v vault

@[simp] theorem memory_wf_noteRecords {s : State} (h : Memory.wf s = true) : Memory.wf (noteRecords s) = true :=
  memory_wf_modVault h _ (fun _ => rfl)

@[simp] theorem memory_wf_quietNand (s : State) : Memory.wf (quietNand s) = Memory.wf s := by simp [quietNand]

/-- A vault whose landing entries are in form is opened; what was in flight goes. -/
theorem memory_wf_openVault {s : State} (h : Memory.wf s = true) {v : Vault} (hv : SMap.wf none v.land = true)
    (un : List Nat) (n : Nand) (i : Integ) :
    Memory.wf { s with
      tier := { s.tier with
        vault := some v, session := false, promos := [], moves := [], repairs := [], lates := [], unprotected := un }
      nand := n, integ := i } = true := by
  rw [memory_wf_and] at h ⊢
  obtain ⟨t1, t2, cel, land, -, rest⟩ := h
  exact ⟨t1, t2, cel, land, hv, rest⟩

@[simp] theorem memory_wf_cellarAction {s : State} (h : Memory.wf s = true) : Memory.wf (cellarAction s) = true := by
  unfold cellarAction
  extract_lets s1 s2 v
  have h1 : Memory.wf s1 = true := memory_wf_abandonStore (by simp [h])
  have h2 : Memory.wf s2 = true := (memory_wf_modPwr ..).trans h1
  rw [memory_wf_raise, memory_wf_celWrite, memory_wf_quietNand]
  exact memory_wf_openVault h2 (land_wf_newVault h2) _ _ _

@[simp] theorem memory_wf_writeLm {s : State} (h : Memory.wf s = true) : Memory.wf (writeLm s) = true := by
  refine memory_wf_modVault_of ?_ (fun v hv => wf_markLanding hv s)
  exact memory_wf_useSlot (by simp [h]) ..

@[simp] theorem memory_wf_endVault {s : State} (h : Memory.wf s = true) : Memory.wf (endVault s) = true :=
  memory_wf_modVault h _ (fun _ => rfl)

@[simp] theorem memory_wf_cutVault {s : State} (h : Memory.wf s = true) (c : VaultCut) :
    Memory.wf (cutVault c s) = true :=
  match c with
  | .beforeLm => memory_wf_endVault h
  | .afterLm _ => memory_wf_endVault (memory_wf_noteRecords (memory_wf_writeSectors (memory_wf_writeLm h) ..))

@[simp] theorem memory_wf_powerLoss {s : State} (h : Memory.wf s = true) : Memory.wf (powerLoss s) = true := by
  rw [memory_wf_and] at h ⊢
  obtain ⟨-, t2, cel, -, vault, flash, -⟩ := h
  exact ⟨rfl, t2, cel, rfl, vault, flash, rfl⟩

@[simp] theorem memory_wf_setEn (n : Nat) (on : Bool) (s : State) : Memory.wf (setEn n on s) = Memory.wf s := by
  simp [setEn]

@[simp] theorem memory_wf_setPg (n : Nat) (on : Bool) (s : State) : Memory.wf (setPg n on s) = Memory.wf s := by
  simp [setPg]

@[simp] theorem memory_wf_railFail (n : Nat) (s : State) : Memory.wf (railFail n s) = Memory.wf s := by simp [railFail]
@[simp] theorem memory_wf_railsOff (s : State) : Memory.wf (railsOff s) = Memory.wf s := by simp [railsOff]

@[simp] theorem memory_wf_dropRails (fuel : Nat) (l : List Nat) (s : State) :
    Memory.wf (dropRails fuel l s) = Memory.wf s := by
  induction fuel generalizing l s with
  | zero => rfl
  | succ k ih =>
    cases l with
    | nil => exact memory_wf_railsOff s
    | cons n rest =>
      unfold dropRails
      simp [ih]

@[simp] theorem memory_wf_startDown {s : State} (h : Memory.wf s = true) (toHold : Bool) :
    Memory.wf (startDown toHold s) = true := by
  simp [startDown, h]

@[simp] theorem memory_wf_vaultDown {s : State} (h : Memory.wf s = true) (toHold : Bool) :
    Memory.wf (vaultDown toHold s) = true := by
  simp [vaultDown, h]

@[simp] theorem memory_wf_beginStep (k : Nat) (s : State) : Memory.wf (beginStep k s) = Memory.wf s := by
  unfold beginStep
  split <;> simp

@[simp] theorem memory_wf_stepFails (n : Nat) (s : State) : Memory.wf (stepFails n s) = Memory.wf s := by
  simp [stepFails]

@[simp] theorem memory_wf_startStage1 (kind : Nat) (s : State) : Memory.wf (startStage1 kind s) = Memory.wf s := by
  simp [startStage1]

@[simp] theorem memory_wf_tryAuto (s : State) : Memory.wf (tryAuto s) = Memory.wf s := by simp [tryAuto]
@[simp] theorem memory_wf_stopNode (s : State) : Memory.wf (stopNode s) = Memory.wf s := by simp [stopNode]

@[simp] theorem memory_wf_startClearing {s : State} (h : Memory.wf s = true) (evt : Nat) :
    Memory.wf (startClearing evt s) = true := by
  simp [startClearing, h]

@[simp] theorem memory_wf_freeWork {s : State} (h : Memory.wf s = true) : Memory.wf (freeWork s) = true :=
  memory_wf_forEach h (fun _ _ ht => memory_wf_dropFrame ht _) _

@[simp] theorem memory_wf_allSelfRefresh (s : State) : Memory.wf (allSelfRefresh s) = Memory.wf s := by
  simp [allSelfRefresh]

@[simp] theorem memory_wf_clearReset {s : State} (h : Memory.wf s = true) : Memory.wf (clearReset s) = true := by
  have hw := memory_wf_freeWork h
  rw [memory_wf_and] at hw ⊢
  obtain ⟨t1, t2, cel, land, vault, flash, -⟩ := hw
  exact ⟨t1, t2, cel, SMap.wf_mapVals land _, vault, flash, rfl⟩

/-! ### React -/

@[simp] theorem memory_wf_setFlt (e : Nat) (x : FltSrc) (s : State) : Memory.wf (setFlt e x s) = Memory.wf s := by
  simp [setFlt]

@[simp] theorem memory_wf_driveAlert (s : State) : Memory.wf (driveAlert s) = Memory.wf s := by simp [driveAlert]

@[simp] theorem memory_wf_setSticky (e : Nat) (s : State) : Memory.wf (setSticky e s) = Memory.wf s := by
  simp [setSticky]

@[simp] theorem memory_wf_noteFirst (e g : Nat) (s : State) : Memory.wf (noteFirst e g s) = Memory.wf s := by
  simp [noteFirst]

@[simp] theorem memory_wf_occur (r : Raised) (s : State) : Memory.wf ((occur r s).1) = Memory.wf s := by
  unfold occur
  dsimp only
  split <;> simp

@[simp] theorem memory_wf_notify (e : Nat) (s : State) : Memory.wf (notify e s) = Memory.wf s := by simp [notify]

@[simp] theorem memory_wf_isolatePort (p : Nat) (s : State) : Memory.wf (isolatePort p s) = Memory.wf s := by
  simp [isolatePort]

@[simp] theorem memory_wf_retireChannel (n : Nat) (s : State) : Memory.wf (retireChannel n s) = Memory.wf s := by
  simp [retireChannel]

@[simp] theorem memory_wf_contain (e tgt : Nat) (s : State) : Memory.wf (contain e tgt s) = Memory.wf s := by
  simp [contain]

@[simp] theorem memory_wf_powerOff {s : State} (h : Memory.wf s = true) (e : Nat) :
    Memory.wf (powerOff e s) = true := by
  simp [powerOff, h]

@[simp] theorem memory_wf_actAll {s : State} (h : Memory.wf s = true) (hits : List Hit) (forced : List (Nat × Nat)) :
    Memory.wf (actAll hits forced s) = true := by
  unfold actAll
  dsimp only
  split <;> simp [h]

@[simp] theorem memory_wf_takeBatch {s : State} (h : Memory.wf s = true) (batch : List Raised) :
    Memory.wf (takeBatch batch s) = true := by
  unfold takeBatch
  dsimp only
  split
  · exact memory_wf_actAll (by simp [h]) ..
  · rw [memory_wf_driveAlert]
    refine memory_wf_actAll (Eq.trans ?_ h) ..
    rw [memory_wf_foldl_eq]
    exact fun a r => memory_wf_occur r a.1

@[simp] theorem memory_wf_drainRaised {s : State} (h : Memory.wf s = true) (fuel : Nat) :
    Memory.wf (drainRaised fuel s) = true := by
  induction fuel generalizing s with
  | zero => exact h
  | succ k ih =>
    unfold drainRaised
    split
    · exact h
    · dsimp only
      split
      · refine ih (memory_wf_takeBatch ?_ _)
        exact h
      · exact h

@[simp] theorem memory_wf_syncCond (s : State) : Memory.wf (syncCond s) = Memory.wf s := by simp [syncCond]
@[simp] theorem memory_wf_condChange (s : State) : Memory.wf (condChange s) = Memory.wf s := by simp [condChange]
@[simp] theorem memory_wf_ceilChange (s : State) : Memory.wf (ceilChange s) = Memory.wf s := by simp [ceilChange]

@[simp] theorem memory_wf_settle {s : State} (h : Memory.wf s = true) : Memory.wf (settle s) = true := by
  unfold settle
  exact memory_wf_drainRaised (by simp [h]) _

/-- A command that runs leaves the memories in canonical form. -/
def YieldsWf (o : Host.Outcome State Fault Refusal) : Prop := ∀ t, o = .next t → Memory.wf t = true

@[simp] theorem yieldsWf_done {u : State} (h : Memory.wf u = true) : YieldsWf (done u) :=
  fun _ e => Host.Outcome.next.inj e ▸ memory_wf_settle h

@[simp] theorem yieldsWf_onUnit {s u : State} (h : Memory.wf s = true) (hu : Memory.wf u = true) (ok : Bool) :
    YieldsWf (onUnit ok s u) := by
  unfold onUnit
  split
  · exact yieldsWf_done hu
  · exact fun _ e => Host.Outcome.next.inj e ▸ h

/-! ### Access -/

@[simp] theorem memory_wf_refuseOpen (p : Path) (tag code : Nat) (s : State) :
    Memory.wf (refuseOpen p tag code s) = Memory.wf s := by
  simp [refuseOpen]

@[simp] theorem memory_wf_belvor (p : Path) (tag code : Nat) (f : State → State)
    (h1 : ∀ t, Memory.wf (f t) = Memory.wf t) (s : State) : Memory.wf (belvor p tag code f s) = Memory.wf s := by
  simp [belvor, h1]

@[simp] theorem memory_wf_belvor_of {s : State} (h : Memory.wf s = true) (p : Path) (tag code : Nat)
    (f : State → State) (h1 : ∀ t, Memory.wf t = true → Memory.wf (f t) = true) :
    Memory.wf (belvor p tag code f s) = true := by
  simp [belvor, h, h1]

@[simp] theorem memory_wf_belvorMgmt (p : Path) (tag code : Nat) (f : State → State)
    (h1 : ∀ t, Memory.wf (f t) = Memory.wf t) (s : State) : Memory.wf (belvorMgmt p tag code f s) = Memory.wf s := by
  simp [belvorMgmt, h1]

@[simp] theorem memory_wf_fromV2 (v1 : Bool) (p : Path) (tag code : Nat) (f : State → State)
    (h1 : ∀ t, Memory.wf (f t) = Memory.wf t) (s : State) : Memory.wf (fromV2 v1 p tag code f s) = Memory.wf s := by
  simp [fromV2, h1]

@[simp] theorem memory_wf_fromV2_of {s : State} (h : Memory.wf s = true) (v1 : Bool) (p : Path) (tag code : Nat)
    (f : State → State) (h1 : ∀ t, Memory.wf t = true → Memory.wf (f t) = true) :
    Memory.wf (fromV2 v1 p tag code f s) = true := by
  simp [fromV2, h, h1]

@[simp] theorem memory_wf_belvorPower (p : Path) (tag code : Nat) (f : State → State)
    (h1 : ∀ t, Memory.wf (f t) = Memory.wf t) (s : State) : Memory.wf (belvorPower p tag code f s) = Memory.wf s := by
  simp [belvorPower, h1]

@[simp] theorem memory_wf_belvorPower_of {s : State} (h : Memory.wf s = true) (p : Path) (tag code : Nat)
    (f : State → State) (h1 : ∀ t, Memory.wf t = true → Memory.wf (f t) = true) :
    Memory.wf (belvorPower p tag code f s) = true := by
  simp +contextual [belvorPower, h, h1]

@[simp] theorem memory_wf_ctlWrite (p : Path) (addr : Nat) (f : State → State)
    (h1 : ∀ t, Memory.wf (f t) = Memory.wf t) (s : State) : Memory.wf (ctlWrite p addr f s) = Memory.wf s := by
  simp [ctlWrite, h1]

@[simp] theorem memory_wf_ctlWrite_of {s : State} (h : Memory.wf s = true) (p : Path) (addr : Nat)
    (f : State → State) (h1 : ∀ t, Memory.wf t = true → Memory.wf (f t) = true) :
    Memory.wf (ctlWrite p addr f s) = true := by
  simp +contextual [ctlWrite, h, h1]

@[simp] theorem memory_wf_refuseWrite (p : Path) (addr : Nat) (s : State) :
    Memory.wf (refuseWrite p addr s) = Memory.wf s := by
  simp [refuseWrite]

/-! ### TwinOps -/

@[simp] theorem memory_wf_modTwin (f : Twin → Twin) (s : State) : Memory.wf (modTwin f s) = Memory.wf s := by
  simp [modTwin]

@[simp] theorem memory_wf_setRole {s : State} (h : Memory.wf s = true) (r : Role) :
    Memory.wf (setRole r s) = true := by
  simp [setRole, h]

@[simp] theorem memory_wf_setEpoch {s : State} (h : Memory.wf s = true) (e : Nat) :
    Memory.wf (setEpoch e s) = true := by
  simp [setEpoch, h]

@[simp] theorem memory_wf_openBitmap (start : Nat) (s : State) : Memory.wf (openBitmap start s) = Memory.wf s := by
  simp [openBitmap]

@[simp] theorem memory_wf_toSolo {s : State} (h : Memory.wf s = true) : Memory.wf (toSolo s) = true := by
  simp [toSolo, h]

@[simp] theorem memory_wf_refuseHeld_refuseAck (a : AckTo) (s : State) :
    Memory.wf (refuseHeld.refuseAck a s) = Memory.wf s := by
  unfold refuseHeld.refuseAck
  split <;> simp

@[simp] theorem memory_wf_refuseHeld (p : HeldReq) (s : State) : Memory.wf (refuseHeld p s) = Memory.wf s := by
  unfold refuseHeld
  split <;> simp

@[simp] theorem memory_wf_refuseAllHeld (s : State) : Memory.wf (refuseAllHeld s) = Memory.wf s := by
  simp [refuseAllHeld]

@[simp] theorem memory_wf_refuseWaiting (a : AckTo) (dpa : Nat) (s : State) :
    Memory.wf (refuseWaiting a dpa s) = Memory.wf s := by
  unfold refuseWaiting
  split <;> simp

@[simp] theorem memory_wf_dropQps (reason : Nat) (s : State) : Memory.wf (dropQps reason s) = Memory.wf s := by
  simp [dropQps]

@[simp] theorem memory_wf_fence {s : State} (h : Memory.wf s = true) : Memory.wf (fence s) = true := by simp [fence, h]

@[simp] theorem memory_wf_grantCredit (chunk : Bool) (bytes : Nat) (s : State) :
    Memory.wf (grantCredit chunk bytes s) = Memory.wf s := by
  simp [grantCredit]

@[simp] theorem memory_wf_holdRx (owner bytes : Nat) (s : State) : Memory.wf (holdRx owner bytes s) = Memory.wf s := by
  unfold holdRx
  split
  · exact memory_wf_copAlloc_getD _ _ _ rfl
  · rfl

@[simp] theorem memory_wf_freeRx (owner : Nat) (chunk : Bool) (bytes : Nat) (s : State) :
    Memory.wf (freeRx owner chunk bytes s) = Memory.wf s := by
  unfold freeRx
  split <;> simp

@[simp] theorem memory_wf_freeApplied (upto : Nat) (s : State) : Memory.wf (freeApplied upto s) = Memory.wf s := by
  simp [freeApplied]

@[simp] theorem memory_wf_dropRx (s : State) : Memory.wf (dropRx s) = Memory.wf s := by simp [dropRx]

@[simp] theorem memory_wf_sendRecopy (l : List (Nat × Nat)) (s : State) :
    Memory.wf (sendRecopy l s) = Memory.wf s := by
  simp [sendRecopy]

@[simp] theorem memory_wf_toJoining {s : State} (h : Memory.wf s = true) (bulk : Bool) (tiles : List (Nat × Nat)) :
    Memory.wf (toJoining bulk tiles s) = true := by
  simp [toJoining, h]

@[simp] theorem memory_wf_streamError {s : State} (h : Memory.wf s = true) : Memory.wf (streamError s) = true := by
  simp [streamError, h]

@[simp] theorem memory_wf_addDiv (r : Retained) (s : State) : Memory.wf (addDiv r s) = Memory.wf s := by simp [addDiv]
@[simp] theorem memory_wf_dropWaits (s : State) : Memory.wf (dropWaits s) = Memory.wf s := by simp [dropWaits]

@[simp] theorem memory_wf_diverge {s : State} (h : Memory.wf s = true) (endSeq epoch : Nat) :
    Memory.wf (diverge endSeq epoch s) = true := by
  unfold diverge
  extract_lets late s1 tiles s0 can s2 s3
  have h0 : Memory.wf s0 = true := by simp [s0, s1, h]
  have h2 : Memory.wf s2 = true := memory_wf_landMap h0 _
  have h3 : Memory.wf s3 = true := (memory_wf_modTwin ..).trans h2
  refine memory_wf_toJoining (memory_wf_setEpoch ?_ _) ..
  rw [memory_wf_seqr]
  exact h3

@[simp] theorem memory_wf_higherEpoch {s : State} (h : Memory.wf s = true) (epoch : Nat) (endSeq : Option Nat) :
    Memory.wf (higherEpoch epoch endSeq s) = true := by
  unfold higherEpoch
  (repeat' split) <;> simp [h]

/-! ### LogicOps -/

@[simp] theorem memory_wf_sealProgress (s : State) : Memory.wf (sealProgress s) = Memory.wf s := by simp [sealProgress]

@[simp] theorem memory_wf_applySeal (g first count gtc src : Nat) (ack : AckTo) (s : State) :
    Memory.wf (applySeal g first count gtc src ack s) = Memory.wf s := by
  simp [applySeal]

@[simp] theorem memory_wf_applyUnseal (g first count : Nat) (s : State) :
    Memory.wf (applyUnseal g first count s) = Memory.wf s := by
  simp [applyUnseal]

@[simp] theorem memory_wf_unpinLines (g t : Nat) (s : State) : Memory.wf (unpinLines g t s) = Memory.wf s := by
  simp [unpinLines]

@[simp] theorem memory_wf_unschedule (g t : Nat) (s : State) : Memory.wf (unschedule g t s) = Memory.wf s := by
  unfold unschedule
  split <;> simp

@[simp] theorem memory_wf_retireEntry (q : QEntry) (s : State) : Memory.wf (retireEntry q s) = Memory.wf s := by
  simp [retireEntry]

@[simp] theorem memory_wf_addEntry (c : SchedCmd) (e : SchedEntry) (s : State) :
    Memory.wf (addEntry c e s) = Memory.wf s := by
  simp [addEntry]

@[simp] theorem memory_wf_applySched (c : SchedCmd) (s : State) : Memory.wf (applySched c s) = Memory.wf s := by
  simp [applySched]

@[simp] theorem memory_wf_forgetTile {s : State} (h : Memory.wf s = true) (g t : Nat) :
    Memory.wf (forgetTile g t s) = true :=
  (memory_wf_unsend ..).trans (memory_wf_forget h _)

@[simp] theorem memory_wf_releaseTile {s : State} (h : Memory.wf s = true) (g t : Nat) :
    Memory.wf (releaseTile g t s) = true :=
  memory_wf_dropTile (memory_wf_forgetTile h g t) g t

@[simp] theorem memory_wf_generateKey {s : State} (h : Memory.wf s = true) (n : Nat) :
    Memory.wf (generateKey n s) = true := by
  simp [generateKey, h]

@[simp] theorem memory_wf_sizeNeed (s : State) : Memory.wf (sizeNeed s) = Memory.wf s := by simp [sizeNeed]

@[simp] theorem memory_wf_setGrove (g : Nat) (r : Option GroveRec) (s : State) :
    Memory.wf (setGrove g r s) = Memory.wf s := by
  simp [setGrove]

@[simp] theorem memory_wf_applyCreate {s : State} (h : Memory.wf s = true) (r : GroveRec) :
    Memory.wf (applyCreate r s) = true := by
  simp [applyCreate, h]

@[simp] theorem memory_wf_applyResize {s : State} (h : Memory.wf s = true) (g extents : Nat) :
    Memory.wf (applyResize g extents s) = true := by
  unfold applyResize
  split <;> simp +contextual [h]

@[simp] theorem memory_wf_applyDelete {s : State} (h : Memory.wf s = true) (g : Nat) :
    Memory.wf (applyDelete g s) = true := by
  unfold applyDelete
  split <;> simp +contextual [h]

@[simp] theorem memory_wf_applyGrove {s : State} (h : Memory.wf s = true) (r : GroveRec) :
    Memory.wf (applyGrove r s) = true := by
  unfold applyGrove
  split <;> simp [h]

@[simp] theorem memory_wf_setKey_ (k : BitVec 64) (r : Option KeyRec) (s : State) :
    Memory.wf (setKey_ k r s) = Memory.wf s := by
  simp [setKey_]

@[simp] theorem memory_wf_freeKey (k : BitVec 64) (s : State) : Memory.wf (freeKey k s) = Memory.wf s := by
  simp [freeKey]

@[simp] theorem memory_wf_applyLsa (ld off : Nat) (d : List Byte) (s : State) :
    Memory.wf (applyLsa ld off d s) = Memory.wf s := by
  simp [applyLsa]

@[simp] theorem memory_wf_applyMeta {s : State} (h : Memory.wf s = true) (op : RecOp) (gtc src : Nat) (ack : AckTo) :
    Memory.wf (applyMeta op gtc src ack s) = true := by
  unfold applyMeta
  split <;> simp [h]

/-! ### Emit -/

@[simp] theorem memory_wf_refuseVrmp (q psn code addr : Nat) (s : State) :
    Memory.wf (refuseVrmp q psn code addr s) = Memory.wf s := by
  simp [refuseVrmp]

@[simp] theorem memory_wf_refuseData (i : Input) (reason code : Nat) (s : State) :
    Memory.wf (refuseData i reason code s) = Memory.wf s := by
  unfold refuseData
  split <;> simp

@[simp] theorem memory_wf_refuseCmd (i : Input) (code event : Nat) (s : State) :
    Memory.wf (refuseCmd i code event s) = Memory.wf s := by
  unfold refuseCmd
  split <;> simp

@[simp] theorem memory_wf_takeNumber (r : Option StampRec) (s : State) :
    Memory.wf (takeNumber r s) = Memory.wf s := by
  simp [takeNumber]

@[simp] theorem memory_wf_addPlacing (i : Input) (seq n : Nat) (l : Level) (s : State) :
    Memory.wf (addPlacing i seq n l s) = Memory.wf s := by
  simp [addPlacing]

@[simp] theorem memory_wf_applyPieces {s : State} (h : Memory.wf s = true) (id g seq : Nat) (land : Bool)
    (ps : List Piece) : Memory.wf (applyPieces id g seq land ps s) = true := by
  simp +contextual [applyPieces, h]

@[simp] theorem memory_wf_emitWrite {s : State} (h : Memory.wf s = true) (i : Input) (g : Nat) (ps : List Piece) :
    Memory.wf (emitWrite i g ps s) = true := by
  unfold emitWrite
  split <;> simp [h]

@[simp] theorem memory_wf_emitAtomic {s : State} (h : Memory.wf s = true) (i : Input) (g off : Nat) :
    Memory.wf (emitAtomic i g off s) = true := by
  unfold emitAtomic
  split <;> simp [h]

@[simp] theorem memory_wf_emitFlush (i : Input) (q : Nat) (l : Level) (s : State) :
    Memory.wf (emitFlush i q l s) = Memory.wf s := by
  simp [emitFlush]

@[simp] theorem memory_wf_emitSeal {s : State} (h : Memory.wf s = true) (i : Input) (op : RecOp) (g f n : Nat)
    (isSeal : Bool) : Memory.wf (emitSeal i op g f n isSeal s) = true := by
  simp [emitSeal, h]

@[simp] theorem memory_wf_emitSched (i : Input) (c : SchedCmd) (s : State) :
    Memory.wf (emitSched i c s) = Memory.wf s := by
  simp [emitSched]

@[simp] theorem memory_wf_emitGrove {s : State} (h : Memory.wf s = true) (i : Input) (r : GroveRec) :
    Memory.wf (emitGrove i r s) = true := by
  unfold emitGrove
  (repeat' split) <;> simp [h]

@[simp] theorem memory_wf_emitKey (i : Input) (k : KeyRec) (s : State) : Memory.wf (emitKey i k s) = Memory.wf s := by
  unfold emitKey
  split <;> simp

@[simp] theorem memory_wf_emitRevoke (i : Input) (k : BitVec 64) (s : State) :
    Memory.wf (emitRevoke i k s) = Memory.wf s := by
  simp [emitRevoke]

@[simp] theorem memory_wf_emitOwn {s : State} (h : Memory.wf s = true) (i : Input) :
    Memory.wf (emitOwn i s) = true := by
  unfold emitOwn
  (repeat' split) <;> simp [h]

@[simp] theorem memory_wf_noteApplied (seq gtc : Nat) (s : State) :
    Memory.wf (noteApplied seq gtc s) = Memory.wf s := by
  simp [noteApplied]

@[simp] theorem memory_wf_replayed (r : StampRec) (lane : Nat) (s : State) :
    Memory.wf (replayed r lane s) = Memory.wf s := by
  unfold replayed
  (repeat' split) <;> simp

@[simp] theorem memory_wf_applyReplay {s : State} (h : Memory.wf s = true) (seq : Nat) (r : StampRec) (lane : Nat) :
    Memory.wf (applyReplay seq r lane s) = true := by
  unfold applyReplay
  (repeat' split) <;> simp [h]

@[simp] theorem memory_wf_takeInput (i : Input) (s : State) : Memory.wf (takeInput i s) = Memory.wf s := by
  simp [takeInput]

@[simp] theorem memory_wf_emitLoop {s : State} (h : Memory.wf s = true) (fuel : Nat) :
    Memory.wf (emitLoop fuel s) = true := by
  induction fuel generalizing s with
  | zero => exact h
  | succ n ih =>
    unfold emitLoop
    split
    · exact h
    · split
      · exact h
      · split
        · exact ih (memory_wf_emitOwn (by simp [h]) _)
        · split
          · exact ih (memory_wf_applyReplay (by simp [h]) ..)
          · exact h

/-! ### Tick -/

@[simp] theorem memory_wf_gtcTick (s : State) : Memory.wf (gtcTick s) = Memory.wf s := by simp [gtcTick]
@[simp] theorem memory_wf_aonTick (s : State) : Memory.wf (aonTick s) = Memory.wf s := by simp [aonTick]
@[simp] theorem memory_wf_refill (n : Nat) (s : State) : Memory.wf (refill n s) = Memory.wf s := by simp [refill]
@[simp] theorem memory_wf_unitTick (u : Nat) (s : State) : Memory.wf (unitTick u s) = Memory.wf s := by simp [unitTick]

@[simp] theorem memory_wf_channelTick {s : State} (h : Memory.wf s = true) : Memory.wf (channelTick s) = true := by
  simp [channelTick, h]

@[simp] theorem memory_wf_tick {s : State} (h : Memory.wf s = true) : Memory.wf (tick s) = true := by
  unfold tick
  extract_lets s1 s2
  have h1 : Memory.wf s1 = true := (memory_wf_aonTick _).trans ((memory_wf_gtcTick s).trans h)
  clear_value s1
  have h2 : Memory.wf s2 = true := by
    unfold s2
    split
    · exact memory_wf_channelTick ((memory_wf_forEach_eq memory_wf_refill _ s1).trans h1)
    · exact h1
  clear_value s2
  refine memory_wf_settle ?_
  split
  · exact (memory_wf_forEach_eq memory_wf_unitTick _ s2).trans h2
  · exact h2

end Sys2Proof.Machine
end

section
/-!
PROOFS. Canonical memories: the commands of the hosts, of power, VRMP, the sequencer, the network ports and Canopy.
-/

namespace Sys2Proof.Machine

open Sys2Proof

set_option maxRecDepth 20000

/-! ### Host -/

@[simp] theorem memory_wf_checkReq {s : State} (h : Memory.wf s = true) (r : CxlReq) (write poison : Bool) :
    Memory.wf ((checkReq s r write poison).1) = true := by
  unfold checkReq
  dsimp only
  (repeat' split) <;> simp [h]

@[simp] theorem memory_wf_checkInv {s : State} (h : Memory.wf s = true) (r : CxlReq) :
    Memory.wf (checkInv s r).1 = true := by
  have hc := memory_wf_checkReq h r false false
  unfold checkInv
  split
  · next e => simpa [e] using hc
  · exact hc

@[simp] theorem memory_wf_overflow (p : Nat) (s : State) : Memory.wf (overflow p s) = Memory.wf s := by simp [overflow]

@[simp] theorem memory_wf_onReq (r : CxlReq) (f : State → State) (h1 : ∀ t, Memory.wf (f t) = Memory.wf t)
    (s : State) : Memory.wf (onReq r f s) = Memory.wf s := by
  simp [onReq, h1]

@[simp] theorem memory_wf_onReq_of {s : State} (h : Memory.wf s = true) (r : CxlReq) (f : State → State)
    (h1 : ∀ t, Memory.wf t = true → Memory.wf (f t) = true) : Memory.wf (onReq r f s) = true := by
  simp [onReq, h, h1]

@[simp] theorem memory_wf_onRwd (r : CxlReq) (f : State → State) (h1 : ∀ t, Memory.wf (f t) = Memory.wf t)
    (s : State) : Memory.wf (onRwd r f s) = Memory.wf s := by
  simp [onRwd, h1]

@[simp] theorem memory_wf_onRwd_of {s : State} (h : Memory.wf s = true) (r : CxlReq) (f : State → State)
    (h1 : ∀ t, Memory.wf t = true → Memory.wf (f t) = true) : Memory.wf (onRwd r f s) = true := by
  simp [onRwd, h, h1]

@[simp] theorem memory_wf_startRead {s : State} (h : Memory.wf s = true) (r : CxlReq) (g line : Nat)
    (chk : ArrayCheck) : Memory.wf (startRead r g line chk s) = true := by
  simp [startRead, h]

@[simp] theorem yieldsWf_execMemRd {s : State} (h : Memory.wf s = true) (r : CxlReq) (chk : ArrayCheck) :
    YieldsWf (execMemRd r chk s) := by
  unfold execMemRd
  refine yieldsWf_onUnit h (memory_wf_onReq_of h _ _ fun t ht => ?_) _
  dsimp only
  split <;> simp [ht]

@[simp] theorem yieldsWf_execMemSpecRd {s : State} (h : Memory.wf s = true) (r : CxlReq) :
    YieldsWf (execMemSpecRd r s) := by
  unfold execMemSpecRd
  refine yieldsWf_onUnit h (memory_wf_onReq_of h _ _ fun t ht => ?_) _
  dsimp only
  split
  · split
    · simp [ht]
    · split <;> simp [ht]
  · exact ht

@[simp] theorem yieldsWf_execMemInv {s : State} (h : Memory.wf s = true) (r : CxlReq) :
    YieldsWf (execMemInv r s) := by
  unfold execMemInv
  refine yieldsWf_onUnit h (memory_wf_onReq_of h _ _ fun t ht => ?_) _
  dsimp only
  split <;> simp [ht]

@[simp] theorem yieldsWf_execUnsupportedM2sOpcode {s : State} (h : Memory.wf s = true) (r : CxlReq) (rwd : Bool) :
    YieldsWf (execUnsupportedM2sOpcode r rwd s) := by
  unfold execUnsupportedM2sOpcode
  refine yieldsWf_onUnit h ?_ _
  split <;> simp [h]

@[simp] theorem yieldsWf_execReadWatchdog {s : State} (h : Memory.wf s = true) (id : Nat) :
    YieldsWf (execReadWatchdog id s) := by
  unfold execReadWatchdog
  refine yieldsWf_done ?_
  (repeat' split) <;> simp [h]

@[simp] theorem memory_wf_stampCxl (r : CxlReq) (g : Nat) (p : Piece) (dpa : Nat) (s : State) :
    Memory.wf (stampCxl r g p dpa s) = Memory.wf s := by
  simp [stampCxl]

@[simp] theorem memory_wf_admitCxl (r : CxlReq) (g : Nat) (p : Piece) (s : State) :
    Memory.wf (admitCxl r g p s) = Memory.wf s := by
  simp [admitCxl]

@[simp] theorem memory_wf_memWrite {s : State} (h : Memory.wf s = true) (r : CxlReq) (data : LineData) (mask : Mask)
    (poison : Bool) : Memory.wf (memWrite r data mask poison s) = true := by
  refine memory_wf_onRwd_of h _ _ (fun t ht => ?_)
  have hc := memory_wf_checkReq ht r true poison
  dsimp only
  split
  · simp [hc]
  · exact hc
  · split <;> simp [hc]

@[simp] theorem yieldsWf_execMemWr {s : State} (h : Memory.wf s = true) (r : CxlReq) (data : LineData)
    (poison : Bool) : YieldsWf (execMemWr r data poison s) := by
  simp [execMemWr, h]

@[simp] theorem yieldsWf_execMemWrPtl {s : State} (h : Memory.wf s = true) (r : CxlReq) (data : LineData)
    (mask : Mask) (poison : Bool) : YieldsWf (execMemWrPtl r data mask poison s) := by
  simp [execMemWrPtl, h]

@[simp] theorem yieldsWf_execGpfPhase1 {s : State} (h : Memory.wf s = true) (port : Nat) :
    YieldsWf (execGpfPhase1 port s) := by
  simp [execGpfPhase1, h]

@[simp] theorem yieldsWf_execGpfPhase2 {s : State} (h : Memory.wf s = true) (port : Nat) :
    YieldsWf (execGpfPhase2 port s) := by
  simp [execGpfPhase2, h]

@[simp] theorem yieldsWf_execGpfPhase2Complete {s : State} (h : Memory.wf s = true) (port : Nat) :
    YieldsWf (execGpfPhase2Complete port s) := by
  unfold execGpfPhase2Complete
  refine yieldsWf_onUnit h ?_ _
  split <;> simp [h]

@[simp] theorem yieldsWf_execGpfPhase2Overtime {s : State} (h : Memory.wf s = true) (port : Nat) :
    YieldsWf (execGpfPhase2Overtime port s) := by
  simp [execGpfPhase2Overtime, h]

@[simp] theorem memory_wf_retrainTo (p w r : Nat) (s : State) : Memory.wf (retrainTo p w r s) = Memory.wf s := by
  simp [retrainTo]

@[simp] theorem memory_wf_retrainBoth (p width rate : Nat) (s : State) :
    Memory.wf (retrainBoth p width rate s) = Memory.wf s := by
  simp [retrainBoth]

@[simp] theorem memory_wf_linkUp (p width rate : Nat) (s : State) :
    Memory.wf (linkUp p width rate s) = Memory.wf s := by
  simp [linkUp]

@[simp] theorem yieldsWf_execHostLinkUp {s : State} (h : Memory.wf s = true) (port width rate : Nat) :
    YieldsWf (execHostLinkUp port width rate s) := by
  simp [execHostLinkUp, h]

@[simp] theorem yieldsWf_execHostLaneFailure {s : State} (h : Memory.wf s = true) (port width rate : Nat) :
    YieldsWf (execHostLaneFailure port width rate s) := by
  simp [execHostLaneFailure, h]

@[simp] theorem yieldsWf_execHostLinkDown {s : State} (h : Memory.wf s = true) (port : Nat) :
    YieldsWf (execHostLinkDown port s) := by
  simp [execHostLinkDown, h]

@[simp] theorem yieldsWf_execHotReset {s : State} (h : Memory.wf s = true) (port : Nat) :
    YieldsWf (execHotReset port s) := by
  simp [execHotReset, h]

@[simp] theorem yieldsWf_execPmeTurnOff {s : State} (h : Memory.wf s = true) (port : Nat) :
    YieldsWf (execPmeTurnOff port s) := by
  simp [execPmeTurnOff, h]

@[simp] theorem memory_wf_portCmd (p : Path) (port : Nat) (f : State → State)
    (h1 : ∀ t, Memory.wf (f t) = Memory.wf t) (s : State) : Memory.wf (portCmd p port f s) = Memory.wf s := by
  simp [portCmd, h1]

@[simp] theorem yieldsWf_execIsolate {s : State} (h : Memory.wf s = true) (p : Path) (port : Nat) :
    YieldsWf (execIsolate p port s) := by
  simp [execIsolate, h]

@[simp] theorem memory_wf_rejoin (port : Nat) (s : State) : Memory.wf (rejoin port s) = Memory.wf s := by simp [rejoin]

@[simp] theorem yieldsWf_execHostPortRelease {s : State} (h : Memory.wf s = true) (p : Path) (port : Nat) :
    YieldsWf (execHostPortRelease p port s) := by
  simp [execHostPortRelease, h]

@[simp] theorem yieldsWf_execRetrain {s : State} (h : Memory.wf s = true) (p : Path) (port width rate : Nat) :
    YieldsWf (execRetrain p port width rate s) := by
  simp [execRetrain, h]

@[simp] theorem yieldsWf_execLogClear {s : State} (h : Memory.wf s = true) (p : Path) (port : Nat) :
    YieldsWf (execLogClear p port s) := by
  simp [execLogClear, h]

@[simp] theorem yieldsWf_execConfigurationRequest {s : State} (h : Memory.wf s = true) (port ld addr : Nat) :
    YieldsWf (execConfigurationRequest port ld addr s) := by
  simp [execConfigurationRequest, h]

@[simp] theorem yieldsWf_execDecoderCommit {s : State} (h : Memory.wf s = true) (port ld idx : Nat) (d : Decoder) :
    YieldsWf (execDecoderCommit port ld idx d s) := by
  simp [execDecoderCommit, h]

@[simp] theorem yieldsWf_execSpdmMessage {s : State} (h : Memory.wf s = true) (port : Nat) (authOk : Bool) :
    YieldsWf (execSpdmMessage port authOk s) := by
  simp [execSpdmMessage, h]

@[simp] theorem yieldsWf_execIdeKmKeyProg {s : State} (h : Memory.wf s = true) (port : Nat) (tx : Bool)
    (key : BitVec 256) : YieldsWf (execIdeKmKeyProg port tx key s) := by
  unfold execIdeKmKeyProg
  refine yieldsWf_onUnit h ?_ _
  split <;> simp [h]

@[simp] theorem yieldsWf_execKeyGo {s : State} (h : Memory.wf s = true) (port : Nat) (containment : Bool) :
    YieldsWf (execKeyGo port containment s) := by
  simp [execKeyGo, h]

@[simp] theorem memory_wf_zeroIde (port : Nat) (s : State) : Memory.wf (zeroIde port s) = Memory.wf s :=
  memory_wf_forEach_eq (fun d t => by split <;> simp) _ s

@[simp] theorem yieldsWf_execIdeFail {s : State} (h : Memory.wf s = true) (port : Nat) :
    YieldsWf (execIdeFail port s) := by
  simp [execIdeFail, h]

@[simp] theorem memory_wf_onFm (f : State → State) (h1 : ∀ t, Memory.wf (f t) = Memory.wf t) (s : State) :
    Memory.wf (onFm f s) = Memory.wf s := by
  simp [onFm, h1]

@[simp] theorem memory_wf_onFm_of {s : State} (h : Memory.wf s = true) (f : State → State)
    (h1 : ∀ t, Memory.wf t = true → Memory.wf (f t) = true) : Memory.wf (onFm f s) = true := by
  simp [onFm, h, h1]

@[simp] theorem memory_wf_onMailbox (port ld : Nat) (f : State → State) (h1 : ∀ t, Memory.wf (f t) = Memory.wf t)
    (s : State) : Memory.wf (onMailbox port ld f s) = Memory.wf s := by
  simp [onMailbox, h1]

@[simp] theorem memory_wf_onMailbox_of {s : State} (h : Memory.wf s = true) (port ld : Nat) (f : State → State)
    (h1 : ∀ t, Memory.wf t = true → Memory.wf (f t) = true) : Memory.wf (onMailbox port ld f s) = true := by
  simp [onMailbox, h, h1]

@[simp] theorem yieldsWf_execInitiateDynamicCapacityAdd {s : State} (h : Memory.wf s = true)
    (tag port ld region : Nat) (es : List DcExtent) :
    YieldsWf (execInitiateDynamicCapacityAdd tag port ld region es s) := by
  simp [execInitiateDynamicCapacityAdd, h]

@[simp] theorem memory_wf_stampMgmt (op : InOp) (ack : AckTo) (origin : Nat) (s : State) :
    Memory.wf (stampMgmt op ack origin s) = Memory.wf s := by
  simp [stampMgmt]

@[simp] theorem memory_wf_stampMaps (src : Nat) (es : List (DcExtent × (Nat → MapEntry))) (ack : AckTo) (s : State) :
    Memory.wf (stampMaps src es ack s) = Memory.wf s := by
  simp [stampMaps]

@[simp] theorem memory_wf_awaitDcd (tag port ld n : Nat) (s : State) :
    Memory.wf (awaitDcd tag port ld n s) = Memory.wf s := by
  simp [awaitDcd]

@[simp] theorem yieldsWf_execAddDynamicCapacityResponse {s : State} (h : Memory.wf s = true) (tag port ld : Nat)
    (es : List DcExtent) : YieldsWf (execAddDynamicCapacityResponse tag port ld es s) := by
  simp [execAddDynamicCapacityResponse, h]

@[simp] theorem memory_wf_unlist (port ld : Nat) (es : List DcExtent) (s : State) :
    Memory.wf (unlist port ld es s) = Memory.wf s := by
  simp [unlist]

@[simp] theorem yieldsWf_execReleaseDynamicCapacity {s : State} (h : Memory.wf s = true) (tag port ld : Nat)
    (es : List DcExtent) : YieldsWf (execReleaseDynamicCapacity tag port ld es s) := by
  simp [execReleaseDynamicCapacity, h]

@[simp] theorem yieldsWf_execForcedDynamicCapacityRelease {s : State} (h : Memory.wf s = true) (tag port ld : Nat)
    (es : List DcExtent) : YieldsWf (execForcedDynamicCapacityRelease tag port ld es s) := by
  simp [execForcedDynamicCapacityRelease, h]

@[simp] theorem yieldsWf_execGetLdInfo {s : State} (h : Memory.wf s = true) (tag : Nat) :
    YieldsWf (execGetLdInfo tag s) := by
  simp [execGetLdInfo, h]

@[simp] theorem yieldsWf_execGetLdAllocations {s : State} (h : Memory.wf s = true) (tag port : Nat) :
    YieldsWf (execGetLdAllocations tag port s) := by
  simp [execGetLdAllocations, h]

@[simp] theorem yieldsWf_execGetMultiHeadedInfo {s : State} (h : Memory.wf s = true) (tag : Nat) :
    YieldsWf (execGetMultiHeadedInfo tag s) := by
  simp [execGetMultiHeadedInfo, h]

@[simp] theorem memory_wf_setBind {s : State} (h : Memory.wf s = true) (port ld : Nat) (b : Bool) :
    Memory.wf (setBind port ld b s) = true := by
  simp [setBind, h]

@[simp] theorem yieldsWf_execBindLd {s : State} (h : Memory.wf s = true) (tag port ld : Nat) :
    YieldsWf (execBindLd tag port ld s) := by
  unfold execBindLd
  refine yieldsWf_onUnit h ?_ _
  simp +contextual [h]

@[simp] theorem yieldsWf_execUnbindLd {s : State} (h : Memory.wf s = true) (tag port ld : Nat) :
    YieldsWf (execUnbindLd tag port ld s) := by
  unfold execUnbindLd
  refine yieldsWf_onUnit h ?_ _
  simp +contextual [h]

@[simp] theorem yieldsWf_execSetLdAllocations {s : State} (h : Memory.wf s = true) (tag port : Nat) :
    YieldsWf (execSetLdAllocations tag port s) := by
  simp [execSetLdAllocations, h]

@[simp] theorem yieldsWf_execIdentifyMemoryDevice {s : State} (h : Memory.wf s = true) (tag port ld : Nat) :
    YieldsWf (execIdentifyMemoryDevice tag port ld s) := by
  simp [execIdentifyMemoryDevice, h]

@[simp] theorem yieldsWf_execSetPartitionInfo {s : State} (h : Memory.wf s = true) (tag port ld : Nat) :
    YieldsWf (execSetPartitionInfo tag port ld s) := by
  simp [execSetPartitionInfo, h]

@[simp] theorem yieldsWf_execSetLsa {s : State} (h : Memory.wf s = true) (tag port ld off : Nat) (data : List Byte) :
    YieldsWf (execSetLsa tag port ld off data s) := by
  simp [execSetLsa, h]

@[simp] theorem yieldsWf_execGetPoisonList {s : State} (h : Memory.wf s = true) (tag port ld dpa len : Nat) :
    YieldsWf (execGetPoisonList tag port ld dpa len s) := by
  simp [execGetPoisonList, h]

@[simp] theorem yieldsWf_execClearPoison {s : State} (h :
    Memory.wf s = true) (tag port ld dpa : Nat) (data : LineData) :
    YieldsWf (execClearPoison tag port ld dpa data s) := by
  unfold execClearPoison
  refine yieldsWf_onUnit h (memory_wf_onMailbox_of h _ _ _ fun t ht => ?_) _
  split
  · split <;> simp [ht]
  · simp [ht]

@[simp] theorem yieldsWf_execInjectPoison {s : State} (h : Memory.wf s = true) (tag port ld dpa : Nat) :
    YieldsWf (execInjectPoison tag port ld dpa s) := by
  simp [execInjectPoison, h]

/-! ### Power -/

@[simp] theorem yieldsWf_execVddAonValid {s : State} (h : Memory.wf s = true) : YieldsWf (execVddAonValid s) := by
  simp [execVddAonValid, h]

@[simp] theorem yieldsWf_execVddAonLoss {s : State} (h : Memory.wf s = true) : YieldsWf (execVddAonLoss s) := by
  unfold execVddAonLoss
  extract_lets cut s1 s2
  have h1 : Memory.wf s1 = true := by
    unfold s1
    split <;> simp [h]
  clear_value s1
  have h2 : Memory.wf s2 = true := memory_wf_powerLoss ((memory_wf_cutKeyErase _).trans (memory_wf_abandonStore h1))
  clear_value s2
  refine yieldsWf_done ?_
  split
  · exact h2
  · exact h

@[simp] theorem memory_wf_reErase {s : State} (h : Memory.wf s = true) (l : List Nat) :
    Memory.wf (reErase l s) = true := by
  simp +contextual [reErase, h, memory_wf_eraseSector]

@[simp] theorem memory_wf_massErase {s : State} (h : Memory.wf s = true) : Memory.wf (massErase s) = true := by
  rw [memory_wf_and] at h ⊢
  obtain ⟨t1, t2, cel, land, vault, -, sp⟩ := h
  exact ⟨t1, t2, cel, land, vault, rfl, sp⟩

@[simp] theorem yieldsWf_execStage1 {s : State} (h : Memory.wf s = true) (i : Stage1In) :
    YieldsWf (execStage1 i s) := by
  unfold execStage1
  refine yieldsWf_done ?_
  dsimp only
  (repeat' split) <;> simp [h]

@[simp] theorem yieldsWf_execPgGood {s : State} (h : Memory.wf s = true) (n : Nat) : YieldsWf (execPgGood n s) := by
  simp [execPgGood, h]

@[simp] theorem yieldsWf_execPgTimeout {s : State} (h : Memory.wf s = true) (n : Nat) :
    YieldsWf (execPgTimeout n s) := by
  simp [execPgTimeout, h]

@[simp] theorem yieldsWf_execSettleExpiry {s : State} (h : Memory.wf s = true) : YieldsWf (execSettleExpiry s) := by
  simp [execSettleExpiry, h]

@[simp] theorem yieldsWf_execRailRetryExpiry {s : State} (h : Memory.wf s = true) :
    YieldsWf (execRailRetryExpiry s) := by
  simp [execRailRetryExpiry, h]

@[simp] theorem yieldsWf_execRstoStretchExpiry {s : State} (h : Memory.wf s = true) (i : Nat) :
    YieldsWf (execRstoStretchExpiry i s) := by
  simp [execRstoStretchExpiry, h]

@[simp] theorem yieldsWf_execPgLoss {s : State} (h : Memory.wf s = true) (n : Nat) (cut : VaultCut) :
    YieldsWf (execPgLoss n cut s) := by
  unfold execPgLoss
  refine yieldsWf_onUnit h ?_ _
  simp [h]

@[simp] theorem memory_wf_nextRails (s : State) : Memory.wf (nextRails s) = Memory.wf s := by simp [nextRails]

@[simp] theorem yieldsWf_execPgFall {s : State} (h : Memory.wf s = true) (n : Nat) : YieldsWf (execPgFall n s) := by
  simp [execPgFall, h]

@[simp] theorem yieldsWf_execPgLowTimeout {s : State} (h : Memory.wf s = true) (n : Nat) :
    YieldsWf (execPgLowTimeout n s) := by
  simp [execPgLowTimeout, h]

@[simp] theorem memory_wf_pushRing {s : State} (h : Memory.wf s = true) (r : PwrRec) :
    Memory.wf (pushRing r s) = true := by
  simp [pushRing, h, memory_wf_eraseSector]

@[simp] theorem memory_wf_flushLog {s : State} (h : Memory.wf s = true) : Memory.wf (flushLog s) = true := by
  simp +contextual [flushLog, h]

@[simp] theorem yieldsWf_execPowerLogProgram {s : State} (h : Memory.wf s = true) (torn : Bool) :
    YieldsWf (execPowerLogProgram torn s) := by
  unfold execPowerLogProgram
  refine yieldsWf_done ?_
  (repeat' split) <;> simp [h]

@[simp] theorem yieldsWf_execLogFlushDone {s : State} (h : Memory.wf s = true) : YieldsWf (execLogFlushDone s) := by
  simp [execLogFlushDone, h]

@[simp] theorem yieldsWf_execInfailNAssert {s : State} (h : Memory.wf s = true) : YieldsWf (execInfailNAssert s) := by
  simp [execInfailNAssert, h]

@[simp] theorem yieldsWf_execInfailNDeassert {s : State} (h : Memory.wf s = true) :
    YieldsWf (execInfailNDeassert s) := by
  simp [execInfailNDeassert, h]

@[simp] theorem yieldsWf_execEstoreOkAssert {s : State} (h : Memory.wf s = true) :
    YieldsWf (execEstoreOkAssert s) := by
  simp [execEstoreOkAssert, h]

@[simp] theorem yieldsWf_execEstoreOkDeassert {s : State} (h : Memory.wf s = true) :
    YieldsWf (execEstoreOkDeassert s) := by
  simp [execEstoreOkDeassert, h]

@[simp] theorem yieldsWf_execMinOffTimeExpiry {s : State} (h : Memory.wf s = true) :
    YieldsWf (execMinOffTimeExpiry s) := by
  simp [execMinOffTimeExpiry, h]

@[simp] theorem memory_wf_powerOffNow {s : State} (h : Memory.wf s = true) (p : Path) :
    Memory.wf (powerOffNow p s) = true := by
  unfold powerOffNow
  split <;> simp [h]

@[simp] theorem yieldsWf_execPowerOn {s : State} (h : Memory.wf s = true) (p : Path) (tag : Nat) :
    YieldsWf (execPowerOn p tag s) := by
  simp [execPowerOn, h]

@[simp] theorem yieldsWf_execPowerOff {s : State} (h : Memory.wf s = true) (p : Path) (tag : Nat) :
    YieldsWf (execPowerOff p tag s) := by
  unfold execPowerOff
  refine yieldsWf_done ?_
  simp +contextual [h]

@[simp] theorem yieldsWf_execPowerStatus {s : State} (h : Memory.wf s = true) (p : Path) (tag : Nat) :
    YieldsWf (execPowerStatus p tag s) := by
  simp [execPowerStatus, h]

@[simp] theorem yieldsWf_execPowerLogRead {s : State} (h : Memory.wf s = true) (p : Path) (tag : Nat) :
    YieldsWf (execPowerLogRead p tag s) := by
  simp [execPowerLogRead, h]

@[simp] theorem yieldsWf_execClear {s : State} (h : Memory.wf s = true) (p : Path) : YieldsWf (execClear p s) := by
  simp [execClear, h]

@[simp] theorem yieldsWf_execClearing {s : State} (h : Memory.wf s = true) (event : Nat) :
    YieldsWf (execClearing event s) := by
  simp [execClearing, h]

@[simp] theorem yieldsWf_execClearingEntryDone {s : State} (h : Memory.wf s = true) :
    YieldsWf (execClearingEntryDone s) := by
  simp [execClearingEntryDone, h]

@[simp] theorem yieldsWf_execVaultComplete {s : State} (h : Memory.wf s = true) (fails : List Nat) :
    YieldsWf (execVaultComplete fails s) := by
  unfold execVaultComplete
  refine yieldsWf_done ?_
  split
  · exact h
  · extract_lets s1 s2
    have h1 : Memory.wf s1 = true := by simp [s1, h]
    clear_value s1
    have h2 : Memory.wf s2 = true :=
      memory_wf_endVault (memory_wf_noteRecords (memory_wf_modVault ((memory_wf_celWrite ..).trans h1) _ fun _ => rfl))
    clear_value s2
    simp [h2]

/-! ### VrmpOps -/

@[simp] theorem memory_wf_sumCredit (s : State) : Memory.wf (sumCredit s) = Memory.wf s := by simp [sumCredit]

@[simp] theorem memory_wf_toldLimits (q : Nat) (s : State) : Memory.wf (toldLimits q s) = Memory.wf s := by
  unfold toldLimits
  split <;> simp

@[simp] theorem memory_wf_sendAck (q : Nat) (s : State) : Memory.wf (sendAck q s) = Memory.wf s := by
  unfold sendAck
  split <;> simp

@[simp] theorem memory_wf_maybeCredit (q : Nat) (s : State) : Memory.wf (maybeCredit q s) = Memory.wf s := by
  unfold maybeCredit
  split <;> simp

@[simp] theorem memory_wf_freeCharge (q n : Nat) (s : State) : Memory.wf (freeCharge q n s) = Memory.wf s := by
  unfold freeCharge
  split <;> simp

@[simp] theorem memory_wf_takeCharge (q n : Nat) (s : State) : Memory.wf (takeCharge q n s) = Memory.wf s := by
  unfold takeCharge
  split <;> simp

@[simp] theorem memory_wf_keepBuffer (q n : Nat) (s : State) : Memory.wf (keepBuffer q n s) = Memory.wf s := by
  unfold keepBuffer
  dsimp only
  split
  · exact memory_wf_copAlloc_getD _ _ _ rfl
  · rfl

@[simp] theorem memory_wf_freeBuffer (q n : Nat) (s : State) : Memory.wf (freeBuffer q n s) = Memory.wf s := by
  unfold freeBuffer
  split <;> simp

@[simp] theorem memory_wf_dropWaiting (q : Nat) (s : State) : Memory.wf (dropWaiting q s) = Memory.wf s := by
  simp [dropWaiting]

@[simp] theorem memory_wf_freeQp (q : Nat) (s : State) : Memory.wf (freeQp q s) = Memory.wf s := by
  unfold freeQp
  split <;> simp

@[simp] theorem memory_wf_freePeer (p : Nat) (s : State) : Memory.wf (freePeer p s) = Memory.wf s := by simp [freePeer]

@[simp] theorem memory_wf_finishPeer (p : Nat) (s : State) : Memory.wf (finishPeer p s) = Memory.wf s := by
  unfold finishPeer
  split <;> simp

@[simp] theorem memory_wf_closeQpWith (reason q : Nat) (s : State) :
    Memory.wf (closeQpWith reason q s) = Memory.wf s := by
  unfold closeQpWith
  split <;> simp

@[simp] theorem memory_wf_acceptReq (p : Pkt) (b : ReqBody) (s : State) :
    Memory.wf (acceptReq p b s) = Memory.wf s := by
  unfold acceptReq
  dsimp only
  split <;> simp

@[simp] theorem memory_wf_refuseReq (p : Pkt) (b : ReqBody) (code addr : Nat) (s : State) :
    Memory.wf (refuseReq p b code addr s) = Memory.wf s := by
  simp [refuseReq]

@[simp] theorem memory_wf_touchKey (k : BitVec 64) (s : State) : Memory.wf (touchKey k s) = Memory.wf s := by
  simp [touchKey]

@[simp] theorem memory_wf_stampVrmp (p : Pkt) (b : ReqBody) (op : InOp) (s : State) :
    Memory.wf (stampVrmp p b op s) = Memory.wf s := by
  simp [stampVrmp]

@[simp] theorem memory_wf_touchCtx {s : State} (h : Memory.wf s = true) (q : Nat) :
    Memory.wf (touchCtx q s) = true := by
  simp [touchCtx, h]

@[simp] theorem memory_wf_noteLimit (p : Pkt) (s : State) : Memory.wf (noteLimit p s) = Memory.wf s := by
  simp [noteLimit]

@[simp] theorem memory_wf_step1 (p : Pkt) (f : State → State) (h1 : ∀ t, Memory.wf (f t) = Memory.wf t) (s : State) :
    Memory.wf (step1 p f s) = Memory.wf s := by
  unfold step1
  (repeat' split) <;> simp [h1]

@[simp] theorem memory_wf_step1_of {s : State} (h : Memory.wf s = true) (p : Pkt) (f : State → State)
    (h1 : ∀ t, Memory.wf t = true → Memory.wf (f t) = true) : Memory.wf (step1 p f s) = true := by
  unfold step1
  (repeat' split) <;> simp [h, h1]

@[simp] theorem memory_wf_gate (p : Pkt) (hdr : Bool) (words : Option Nat) (f : State → State)
    (h1 : ∀ t, Memory.wf (f t) = Memory.wf t) (s : State) : Memory.wf (gate p hdr words f s) = Memory.wf s := by
  unfold gate
  refine memory_wf_step1 _ _ (fun t => ?_) s
  (repeat' split) <;> simp [h1]

@[simp] theorem memory_wf_gate_of {s : State} (h : Memory.wf s = true) (p : Pkt) (hdr : Bool) (words : Option Nat)
    (f : State → State) (h1 : ∀ t, Memory.wf t = true → Memory.wf (f t) = true) :
    Memory.wf (gate p hdr words f s) = true := by
  refine memory_wf_step1_of h _ _ (fun t ht => ?_)
  split
  · simp [ht]
  · split
    · simp [ht]
    · split
      · simp [ht]
      · split
        · simp [ht]
        · exact h1 _ (by simp [ht])

@[simp] theorem memory_wf_violation (p : Pkt) (s : State) : Memory.wf (violation p s) = Memory.wf s := by
  unfold violation
  dsimp only
  split <;> simp

@[simp] theorem memory_wf_nakSequence (p : Pkt) (exp : Nat) (at_ : Option Nat) (s : State) :
    Memory.wf (nakSequence p exp at_ s) = Memory.wf s := by
  simp [nakSequence]

/-! ### Vrmp -/

@[simp] theorem memory_wf_startJob {s : State} (h : Memory.wf s = true) (p : Pkt) (g off : Nat) :
    Memory.wf (startJob p g off s) = true := by
  simp +contextual [startJob, h]

@[simp] theorem memory_wf_doRead {s : State} (h : Memory.wf s = true) (p : Pkt) (first : Bool) :
    Memory.wf (doRead p first s) = true := by
  unfold doRead
  split <;> simp [h]

@[simp] theorem memory_wf_doData (p : Pkt) (b : ReqBody) (g : Nat) (lines : List Nat) (op : InOp) (atomic : Bool)
    (s : State) : Memory.wf (doData p b g lines op atomic s) = Memory.wf s := by
  simp [doData]

@[simp] theorem memory_wf_doWrite (p : Pkt) (d : List Byte) (s : State) :
    Memory.wf (doWrite p d s) = Memory.wf s := by
  unfold doWrite
  split <;> simp

@[simp] theorem memory_wf_doAtomic (p : Pkt) (b : ReqBody) (op : Nat → Nat → InOp) (s : State) :
    Memory.wf (doAtomic p b op s) = Memory.wf s := by
  unfold doAtomic
  split <;> simp

@[simp] theorem memory_wf_doFlush (p : Pkt) (l : Nat) (s : State) : Memory.wf (doFlush p l s) = Memory.wf s := by
  unfold doFlush
  split <;> simp

@[simp] theorem memory_wf_doNotify (p : Pkt) (target value : Nat) (s : State) :
    Memory.wf (doNotify p target value s) = Memory.wf s := by
  unfold doNotify
  split <;> simp

@[simp] theorem memory_wf_doClose (p : Pkt) (reason : Nat) (s : State) :
    Memory.wf (doClose p reason s) = Memory.wf s := by
  simp [doClose]

@[simp] theorem memory_wf_doReq {s : State} (h : Memory.wf s = true) (p : Pkt) (b : ReqBody) :
    Memory.wf (doReq p b s) = true := by
  unfold doReq
  split <;> simp [h]

@[simp] theorem memory_wf_duplicate_again {s : State} (h : Memory.wf s = true) (p : Pkt) (x : Qp) :
    Memory.wf (duplicate.again p s x) = true := by
  unfold duplicate.again
  split <;> simp [h]

@[simp] theorem memory_wf_duplicate {s : State} (h : Memory.wf s = true) (p : Pkt) (b : ReqBody) :
    Memory.wf (duplicate p b s) = true := by
  unfold duplicate
  (repeat' split) <;> simp [h]

@[simp] theorem memory_wf_serveReq {s : State} (h : Memory.wf s = true) (p : Pkt) (b : ReqBody) :
    Memory.wf (serveReq p b s) = true := by
  unfold serveReq
  dsimp only
  (repeat' split) <;> simp [h]

@[simp] theorem memory_wf_request {s : State} (h : Memory.wf s = true) (p : Pkt) (b : ReqBody) :
    Memory.wf (request p b s) = true := by
  refine memory_wf_gate_of h _ _ _ _ (fun t ht => ?_)
  dsimp only
  split
  · simp [ht]
  · split
    · simp [ht]
    · split
      · simp [ht]
      · exact memory_wf_serveReq (by simp [ht]) ..

@[simp] theorem yieldsWf_execWrite {s : State} (h : Memory.wf s = true) (p : Pkt) (data : List Byte) :
    YieldsWf (execWrite p data s) := by
  simp [execWrite, h]

@[simp] theorem yieldsWf_execReadReq {s : State} (h : Memory.wf s = true) (p : Pkt) : YieldsWf (execReadReq p s) := by
  simp [execReadReq, h]

@[simp] theorem yieldsWf_execFlush {s : State} (h : Memory.wf s = true) (p : Pkt) (level : Nat) :
    YieldsWf (execFlush p level s) := by
  simp [execFlush, h]

@[simp] theorem yieldsWf_execAtomicFadd {s : State} (h : Memory.wf s = true) (p : Pkt) (addend : BitVec 64) :
    YieldsWf (execAtomicFadd p addend s) := by
  simp [execAtomicFadd, h]

@[simp] theorem yieldsWf_execAtomicCas {s : State} (h : Memory.wf s = true) (p : Pkt) (compare swap : BitVec 64) :
    YieldsWf (execAtomicCas p compare swap s) := by
  simp [execAtomicCas, h]

@[simp] theorem yieldsWf_execNotify {s : State} (h : Memory.wf s = true) (p : Pkt) (target value : Nat) :
    YieldsWf (execNotify p target value s) := by
  simp [execNotify, h]

@[simp] theorem yieldsWf_execClose {s : State} (h : Memory.wf s = true) (p : Pkt) (reason : Nat) :
    YieldsWf (execClose p reason s) := by
  simp [execClose, h]

@[simp] theorem yieldsWf_execReservedOpcode {s : State} (h : Memory.wf s = true) (p : Pkt) (code : Nat) :
    YieldsWf (execReservedOpcode p code s) := by
  simp [execReservedOpcode, h]

@[simp] theorem yieldsWf_execAck {s : State} (h : Memory.wf s = true) (p : Pkt) (ntf : Bool) :
    YieldsWf (execAck p ntf s) := by
  unfold execAck
  refine yieldsWf_onUnit h ?_ _
  simp [h]

@[simp] theorem yieldsWf_execCredit {s : State} (h : Memory.wf s = true) (p : Pkt) : YieldsWf (execCredit p s) := by
  simp [execCredit, h]

@[simp] theorem yieldsWf_execFlushAck {s : State} (h : Memory.wf s = true) (qpn psn : Nat) :
    YieldsWf (execFlushAck qpn psn s) := by
  unfold execFlushAck
  refine yieldsWf_done ?_
  (repeat' split) <;> simp [h]

@[simp] theorem yieldsWf_execAckDelayExpiry {s : State} (h : Memory.wf s = true) (qpn : Nat) :
    YieldsWf (execAckDelayExpiry qpn s) := by
  unfold execAckDelayExpiry
  refine yieldsWf_done ?_
  split <;> simp [h]

@[simp] theorem memory_wf_evictCtx (s : State) : Memory.wf (evictCtx s) = Memory.wf s := by
  unfold evictCtx
  (repeat' split) <;> simp

@[simp] theorem yieldsWf_execQpContextFetch {s : State} (h : Memory.wf s = true) (qpn : Nat) :
    YieldsWf (execQpContextFetch qpn s) := by
  unfold execQpContextFetch
  refine yieldsWf_done ?_
  dsimp only
  (repeat' split) <;> simp +contextual [h]

@[simp] theorem yieldsWf_execCloseComplete {s : State} (h : Memory.wf s = true) (qpn : Nat) :
    YieldsWf (execCloseComplete qpn s) := by
  unfold execCloseComplete
  refine yieldsWf_done ?_
  split <;> simp [h]

@[simp] theorem yieldsWf_execPeerClose {s : State} (h : Memory.wf s = true) (p : Pkt) :
    YieldsWf (execPeerClose p s) := by
  unfold execPeerClose
  refine yieldsWf_onUnit h (memory_wf_step1_of h _ _ fun t ht => ?_) _
  (repeat' split) <;> simp [ht]

@[simp] theorem yieldsWf_execPeerIdleTimeout {s : State} (h : Memory.wf s = true) (peer : Nat) :
    YieldsWf (execPeerIdleTimeout peer s) := by
  simp [execPeerIdleTimeout, h]

@[simp] theorem memory_wf_dropNote (id : Nat) (s : State) : Memory.wf (dropNote id s) = Memory.wf s := by
  simp [dropNote]

@[simp] theorem yieldsWf_execNotifyDelivery {s : State} (h : Memory.wf s = true) (id : Nat) :
    YieldsWf (execNotifyDelivery id s) := by
  unfold execNotifyDelivery
  refine yieldsWf_done ?_
  (repeat' split) <;> simp [h]

@[simp] theorem yieldsWf_execNotifyRetransmit {s : State} (h : Memory.wf s = true) (qpn : Nat) :
    YieldsWf (execNotifyRetransmit qpn s) := by
  unfold execNotifyRetransmit
  refine yieldsWf_done ?_
  (repeat' split) <;> simp [h]

@[simp] theorem yieldsWf_execNotifyUndelivered {s : State} (h : Memory.wf s = true) (id : Nat) :
    YieldsWf (execNotifyUndelivered id s) := by
  unfold execNotifyUndelivered
  refine yieldsWf_done ?_
  split <;> simp [h]

@[simp] theorem memory_wf_helloRefused (ip : BitVec 128) (cookie status : Nat) (full : Bool) (s : State) :
    Memory.wf (helloRefused ip cookie status full s) = Memory.wf s := by
  simp [helloRefused]

@[simp] theorem memory_wf_sendHello (slot : Option Nat) (gcm : Bool) (o : Out) (s : State) :
    Memory.wf (sendHello slot gcm o s) = Memory.wf s := by
  unfold sendHello
  split <;> simp

@[simp] theorem memory_wf_keepCookie (n cookie : Nat) (o : Out) (s : State) :
    Memory.wf (keepCookie n cookie o s) = Memory.wf s := by
  simp [keepCookie]

theorem memory_wf_pinCount (n : Nat) (s : State) :
    Memory.wf { s with tier := { s.tier with pinCount := n } } = Memory.wf s := rfl

theorem memory_wf_promos (l : List Promo) (s : State) :
    Memory.wf { s with tier := { s.tier with promos := l } } = Memory.wf s := rfl

theorem memory_wf_net (x : Net) (s : State) : Memory.wf { s with net := x } = Memory.wf s := rfl

@[simp] theorem memory_wf_helloPeer {s : State} (h :
    Memory.wf s = true) (p : Pkt) (b : HelloBody) (n : Nat) (c : PeerClass) :
    Memory.wf (helloPeer p b n c s) = true := by
  unfold helloPeer
  extract_lets v gcmHere feats agreed old id rand gcm slot key derived
  have hd : ∀ t, Memory.wf t = true → Memory.wf (derived t) = true := by simp +contextual [derived]
  clear_value id
  split
  · simp [h]
  · split
    · simp [h]
    · split
      · simp [h]
      · split
        · simp [h]
        · dsimp only
          rw [memory_wf_keepCookie, memory_wf_sendHello]
          refine hd _ ?_
          rw [memory_wf_sumCredit, memory_wf_useFree, memory_wf_net]
          simp [h]

@[simp] theorem memory_wf_helloQp {s : State} (h : Memory.wf s = true) (p : Pkt) (b : HelloBody) (c : PeerClass) :
    Memory.wf (helloQp p b c s) = true := by
  unfold helloQp
  dsimp only
  (repeat' split) <;> simp [h]

@[simp] theorem yieldsWf_execHello {s : State} (h : Memory.wf s = true) (p : Pkt) (b : HelloBody) :
    YieldsWf (execHello p b s) := by
  unfold execHello
  refine yieldsWf_onUnit h (memory_wf_step1_of h _ _ fun t ht => ?_) _
  dsimp only
  (repeat' split) <;> simp [ht]

@[simp] theorem memory_wf_stampCmd (p : Path) (tag code : Nat) (op : RecOp) (s : State) :
    Memory.wf (stampCmd p tag code op s) = Memory.wf s := by
  simp [stampCmd]

@[simp] theorem yieldsWf_execKeyRegister {s : State} (h : Memory.wf s = true) (p : Path) (tag : Nat)
    (ws : List Window) (any : Bool) (cls : Nat) : YieldsWf (execKeyRegister p tag ws any cls s) := by
  simp [execKeyRegister, h]

@[simp] theorem yieldsWf_execKeyRevoke {s : State} (h : Memory.wf s = true) (p : Path) (tag : Nat) (key : BitVec 64) :
    YieldsWf (execKeyRevoke p tag key s) := by
  simp [execKeyRevoke, h]

@[simp] theorem yieldsWf_execRevocationComplete {s : State} (h : Memory.wf s = true) (key : BitVec 64) :
    YieldsWf (execRevocationComplete key s) := by
  unfold execRevocationComplete
  refine yieldsWf_done ?_
  split <;> simp [h]

@[simp] theorem yieldsWf_execCloseQp {s : State} (h : Memory.wf s = true) (p : Path) (qpn : Nat) :
    YieldsWf (execCloseQp p qpn s) := by
  simp [execCloseQp, h]

@[simp] theorem yieldsWf_execClosePeer {s : State} (h : Memory.wf s = true) (p : Path) (peer : Nat) :
    YieldsWf (execClosePeer p peer s) := by
  unfold execClosePeer
  refine yieldsWf_done (memory_wf_ctlWrite_of h _ _ _ fun t ht => ?_)
  split
  · exact ht
  · dsimp only
    split <;> simp [ht]

/-! ### Seqr -/

@[simp] theorem yieldsWf_execSourceHeartbeat {s : State} (h : Memory.wf s = true) (src lag : Nat) :
    YieldsWf (execSourceHeartbeat src lag s) := by
  simp [execSourceHeartbeat, h]

@[simp] theorem yieldsWf_execSequencerEmit {s : State} (h : Memory.wf s = true)
    (errs : List (Nat × Nat × ArrayCheck)) : YieldsWf (execSequencerEmit errs s) := by
  simp [execSequencerEmit, h]

@[simp] theorem yieldsWf_execMergeStall {s : State} (h : Memory.wf s = true) (src : Nat) :
    YieldsWf (execMergeStall src s) := by
  simp [execMergeStall, h]

@[simp] theorem memory_wf_releaseHeld {s : State} (h : Memory.wf s = true) (p : HeldReq) :
    Memory.wf (releaseHeld p s) = true := by
  unfold releaseHeld
  dsimp only
  (repeat' split) <;> simp [h]

@[simp] theorem yieldsWf_execHeldWriteRelease {s : State} (h : Memory.wf s = true) :
    YieldsWf (execHeldWriteRelease s) := by
  unfold execHeldWriteRelease
  refine yieldsWf_done ?_
  (repeat' split) <;> simp [h]

@[simp] theorem memory_wf_updLand {s : State} (h : Memory.wf s = true) (g a : Nat) (f : LandEntry → LandEntry) :
    Memory.wf (updLand g a f s) = true := by
  unfold updLand
  split <;> simp [h, memory_wf_setLand]

@[simp] theorem yieldsWf_execLandingDrain {s : State} (h : Memory.wf s = true) (g line : Nat) :
    YieldsWf (execLandingDrain g line s) := by
  unfold execLandingDrain
  extract_lets t
  refine yieldsWf_done ?_
  repeat' split
  · exact h
  · exact h
  · exact h
  · simp [h]
  · simp [h]
  · exact (memory_wf_startPromo_getD _ _ _ _ _ _ (memory_wf_noFrame s)).trans h
  · exact h
  · next passes => simp [memory_wf_passReq passes, h]

@[simp] theorem memory_wf_discarded (src : Nat) (s : State) : Memory.wf (discarded src s) = Memory.wf s := by
  simp [discarded]

@[simp] theorem memory_wf_readBefore (f i : Nat) (m : Mask) (o : DramRead) (s : State) :
    Memory.wf (readBefore f i m o s) = Memory.wf s := by
  simp [readBefore]

@[simp] theorem memory_wf_drainInto {s : State} (h : Memory.wf s = true) (g a : Nat) (e : LandEntry) (o : DramRead) :
    Memory.wf (drainInto g a e o s) = true := by
  unfold drainInto
  split <;> simp [h]

@[simp] theorem memory_wf_landedToClean (g a : Nat) (s : State) : Memory.wf (landedToClean g a s) = Memory.wf s := by
  simp [landedToClean]

@[simp] theorem yieldsWf_execLandingDrainDone {s : State} (h : Memory.wf s = true) (g line : Nat) (o : DramRead) :
    YieldsWf (execLandingDrainDone g line o s) := by
  unfold execLandingDrainDone
  refine yieldsWf_done ?_
  split
  · exact h
  · split
    · exact h
    · split
      · simp [h]
      · split
        · exact h
        · next u finished =>
          have hu : Memory.wf u = true := (memory_wf_finishReq finished).trans h
          have hd := fun e => memory_wf_drainInto hu g line e o
          dsimp only
          split
          · simp [hd]
          · exact memory_wf_runQueue ((memory_wf_landedToClean ..).trans (memory_wf_setLand (hd _) ..))

/-! ### NetPort -/

@[simp] theorem memory_wf_netDrop (p : Nat) (s : State) : Memory.wf (netDrop p s) = Memory.wf s :=
  memory_wf_bumpRc ..

@[simp] theorem yieldsWf_execArpRequest {s : State} (h : Memory.wf s = true) (port : Nat) (ip : BitVec 128) :
    YieldsWf (execArpRequest port ip s) := by
  simp [execArpRequest, h]

@[simp] theorem yieldsWf_execNeighborSolicitation {s : State} (h : Memory.wf s = true) (port : Nat)
    (ip : BitVec 128) : YieldsWf (execNeighborSolicitation port ip s) := by
  simp [execNeighborSolicitation, h]

@[simp] theorem yieldsWf_execIcmpEcho {s : State} (h : Memory.wf s = true) (port : Nat) (ip : BitVec 128)
    (v6 : Bool) : YieldsWf (execIcmpEcho port ip v6 s) := by
  simp [execIcmpEcho, h]

@[simp] theorem yieldsWf_execPauseFrame {s : State} (h : Memory.wf s = true) (port : Nat) :
    YieldsWf (execPauseFrame port s) := by
  simp [execPauseFrame, h]

@[simp] theorem yieldsWf_execPtpEventMessage {s : State} (h : Memory.wf s = true) (port : Nat) (tx : Bool)
    (mtype seqId : Nat) : YieldsWf (execPtpEventMessage port tx mtype seqId s) := by
  simp [execPtpEventMessage, h]

@[simp] theorem yieldsWf_execNetLinkChange {s : State} (h : Memory.wf s = true) (port : Nat) (up : Bool) :
    YieldsWf (execNetLinkChange port up s) := by
  simp [execNetLinkChange, h]

/-! ### CanopyMaint -/

@[simp] theorem memory_wf_failedAccess (w : Waiter) (s : State) : Memory.wf (failedAccess w s) = Memory.wf s := by
  unfold failedAccess
  (repeat' split) <;> simp

@[simp] theorem memory_wf_readEvents (g a f src : Nat) (o : DramRead) (s : State) :
    Memory.wf (readEvents g a f src o s) = Memory.wf s := by
  unfold readEvents
  split <;> simp

@[simp] theorem memory_wf_installFill (g a : Nat) (d : Option LineData) (s : State) :
    Memory.wf (installFill g a d s) = Memory.wf s := by
  unfold installFill
  (repeat' split) <;> simp

@[simp] theorem memory_wf_freeMiss (g a : Nat) (s : State) : Memory.wf (freeMiss g a s) = Memory.wf s := by
  simp [freeMiss]

@[simp] theorem memory_wf_takeFill {s : State} (h : Memory.wf s = true) (g a f : Nat) (m : Miss) (o : DramRead)
    (chk : ArrayCheck) : Memory.wf (takeFill g a f m o chk s) = true := by
  unfold takeFill
  extract_lets s0 met src s1 s2 d s3 s4 s5
  have h1 : Memory.wf s1 = true := by simp [s1, s0, h]
  clear_value s0 s1
  have h2 : Memory.wf s2 = true := by
    unfold s2
    split <;> simp [h1]
  clear_value s2
  have h3 : Memory.wf s3 = true := by simp [s3, h2]
  clear_value s3
  have h4 : Memory.wf s4 = true := by
    unfold s4
    split <;> simp [h3]
  clear_value s4
  refine memory_wf_runQueue (memory_wf_forEach ?_ (fun w t ht => memory_wf_deliver ht ..) _)
  exact (memory_wf_installFill ..).trans h4

@[simp] theorem yieldsWf_execCanopyFill {s : State} (h : Memory.wf s = true) (g line : Nat) (o : DramRead)
    (chk : ArrayCheck) : YieldsWf (execCanopyFill g line o chk s) := by
  unfold execCanopyFill
  refine yieldsWf_done ?_
  repeat' split
  · exact h
  · exact h
  · next finished =>
    exact memory_wf_takeFill ((memory_wf_finishReq finished).trans ((memory_wf_passMiss ..).trans h)) ..
  · exact h
  · extract_lets s1 s2
    have h1 : Memory.wf s1 = true := (memory_wf_freeMiss ..).trans h
    clear_value s1
    have h2 : Memory.wf s2 = true := by
      unfold s2
      (repeat' split) <;> simp [h1]
    clear_value s2
    exact memory_wf_forEach h2 (fun w t ht => memory_wf_readAt ht ..) _
  · exact h

@[simp] theorem memory_wf_writeEntry {s : State} (h : Memory.wf s = true) (x : TrkEntry) (o : DramRead) :
    Memory.wf (writeEntry x o s) = true := by
  unfold writeEntry
  dsimp only
  split <;> simp [h]

theorem memory_wf_writeOldest {s u : State} (h : Memory.wf s = true) {g a : Nat} {o : DramRead}
    (e : writeOldest g a o s = some u) : Memory.wf u = true := by
  unfold writeOldest at e
  obtain ⟨v, finishes, e⟩ := Option.bind_eq_some_iff.mp e
  obtain ⟨x, -, rfl⟩ := Option.map_eq_some_iff.mp e
  refine memory_wf_writeEntry ?_ ..
  rw [memory_wf_setTrk, memory_wf_finishReq finishes, memory_wf_passTrk, h]

@[simp] theorem memory_wf_makeRoom {s : State} (h : Memory.wf s = true) (fuel g a n : Nat) :
    Memory.wf (makeRoom fuel g a n s) = true := by
  induction fuel generalizing s with
  | zero => exact h
  | succ k ih =>
    unfold makeRoom
    split
    · exact h
    · split
      · next x _ =>
        cases e : writeOldest x.grove x.line .clean s with
        | none => exact h
        | some u => exact ih (memory_wf_writeOldest h e)
      · exact h

theorem memory_wf_walkWay {s u : State} {op : MaintOp} {all : Bool} {k w : Nat} {x : Way}
    (e : walkWay op all k w x s = some u) : Memory.wf u = Memory.wf s := by
  unfold walkWay at e
  dsimp only at e
  (repeat' split at e) <;> simp at e <;> subst e <;> simp

@[simp] theorem memory_wf_walkOn (x : Walk) (here : Nat → Option Nat) (s : State) :
    Memory.wf (walkOn x here s) = Memory.wf s := by
  unfold walkOn
  extract_lets inSet s1 r
  have hr : Memory.wf r.1 = Memory.wf s := by
    refine (memory_wf_foldl_eq (fun a e => ?_) _ _).trans (memory_wf_checkTags ..)
    dsimp only
    split
    · rfl
    · split
      · rfl
      · split
        · next walks => exact memory_wf_walkWay walks
        · rfl
  split
  · exact hr
  · split
    · exact hr
    · rw [memory_wf_forEach_eq (fun sl t => memory_wf_setWf ..)]
      exact hr

@[simp] theorem memory_wf_walkMore (s : State) : Memory.wf (walkMore s) = Memory.wf s := by
  unfold walkMore
  split <;> simp

@[simp] theorem yieldsWf_execEvictionWritten {s : State} (h : Memory.wf s = true) (g line : Nat) (chk : ArrayCheck)
    (o : DramRead) : YieldsWf (execEvictionWritten g line chk o s) := by
  unfold execEvictionWritten
  refine yieldsWf_done ?_
  split
  · exact h
  · extract_lets cd c
    have hc : Memory.wf c.1 = true := by
      unfold c
      rw [memory_wf_trkCheck]
      split <;> exact h
    clear_value c
    split
    · exact hc
    · split
      · exact h
      · next written => simp [memory_wf_writeOldest hc written]

@[simp] theorem memory_wf_maintCmd (p : Path) (g num : Nat) (f : State → State)
    (h1 : ∀ t, Memory.wf (f t) = Memory.wf t) (s : State) : Memory.wf (maintCmd p g num f s) = Memory.wf s := by
  simp [maintCmd, h1]

@[simp] theorem memory_wf_maintWalk (p : Path) (g num : Nat) (op : MaintOp) (errs : List (Nat × Nat × ArrayCheck))
    (s : State) : Memory.wf (maintWalk p g num op errs s) = Memory.wf s := by
  simp [maintWalk]

@[simp] theorem yieldsWf_execClean {s : State} (h : Memory.wf s = true) (p : Path) (grove : Nat)
    (errs : List (Nat × Nat × ArrayCheck)) : YieldsWf (execClean p grove errs s) := by
  simp [execClean, h]

@[simp] theorem yieldsWf_execInvalidate {s : State} (h : Memory.wf s = true) (p : Path) (grove : Nat)
    (errs : List (Nat × Nat × ArrayCheck)) : YieldsWf (execInvalidate p grove errs s) := by
  simp [execInvalidate, h]

@[simp] theorem yieldsWf_execCleanInvalidate {s : State} (h : Memory.wf s = true) (p : Path) (grove : Nat)
    (errs : List (Nat × Nat × ArrayCheck)) : YieldsWf (execCleanInvalidate p grove errs s) := by
  simp [execCleanInvalidate, h]

@[simp] theorem memory_wf_stampZero (g : Nat) (x : Nat × Nat) (s : State) :
    Memory.wf (stampZero g x s) = Memory.wf s := by
  simp [stampZero]

@[simp] theorem memory_wf_startZero (g : Nat) (s : State) : Memory.wf (startZero g s) = Memory.wf s := by
  simp [startZero]

@[simp] theorem yieldsWf_execZeroRange {s : State} (h : Memory.wf s = true) (p : Path) (grove : Nat) :
    YieldsWf (execZeroRange p grove s) := by
  simp [execZeroRange, h]

@[simp] theorem yieldsWf_execMaintComplete {s : State} (h : Memory.wf s = true) : YieldsWf (execMaintComplete s) := by
  simp [execMaintComplete, h]

@[simp] theorem memory_wf_cleanAll (errs : List (Nat × Nat × ArrayCheck)) (s : State) :
    Memory.wf (cleanAll errs s) = Memory.wf s := by
  simp [cleanAll]

@[simp] theorem memory_wf_canopyOff (p : Path) (errs : List (Nat × Nat × ArrayCheck)) (s : State) :
    Memory.wf (canopyOff p errs s) = Memory.wf s := by
  simp [canopyOff]

@[simp] theorem memory_wf_canopyOn (p : Path) (s : State) : Memory.wf (canopyOn p s) = Memory.wf s := by
  simp [canopyOn]

@[simp] theorem yieldsWf_execCanopyDisable {s : State} (h : Memory.wf s = true) (p : Path)
    (errs : List (Nat × Nat × ArrayCheck)) : YieldsWf (execCanopyDisable p errs s) := by
  simp [execCanopyDisable, h]

@[simp] theorem yieldsWf_execCanopyEnable {s : State} (h : Memory.wf s = true) (p : Path) :
    YieldsWf (execCanopyEnable p s) := by
  simp [execCanopyEnable, h]

@[simp] theorem yieldsWf_execDisableComplete {s : State} (h : Memory.wf s = true) :
    YieldsWf (execDisableComplete s) := by
  simp [execDisableComplete, h]

end Sys2Proof.Machine
end

section
/-!
PROOFS. Canonical memories: the commands of the tiers, DRAM, NAND, the twin and its link.
-/

namespace Sys2Proof.Machine

open Sys2Proof

set_option maxRecDepth 20000

/-! ### TierWork -/

@[simp] theorem memory_wf_spend (k : ProgKind) (forced : Bool) (s : State) :
    Memory.wf (spend k forced s) = Memory.wf s := by
  simp [spend]

theorem memory_wf_takeBuf {s u : State} {need : Bool} (e : takeBuf need s = some u) : Memory.wf u = Memory.wf s := by
  unfold takeBuf at e
  split at e
  · exact memory_wf_copAlloc e
  · cases e
    rfl

@[simp] theorem memory_wf_readUse {u : State} (h : Memory.wf u = true) (g t : Nat) (s : State) :
    Memory.wf (readUse g t s u) = true := by
  simp [readUse, h]

/-- A buffer, then a place for its program. -/
theorem memory_wf_placed {s u : State} {need : Bool} {p : Prog} {avoid : Option Nat}
    (e : (takeBuf need s).bind (placeProg p avoid) = some u) : Memory.wf u = Memory.wf s := by
  obtain ⟨w, takes, places⟩ := Option.bind_eq_some_iff.mp e
  rw [memory_wf_placeProg places, memory_wf_takeBuf takes]

theorem memory_wf_startProg {s u : State} (h : Memory.wf s = true) {k : ProgKind} {g t : Nat} {forced : Bool}
    (e : startProg k g t forced s = some u) : Memory.wf u = true := by
  unfold startProg at e
  split at e
  · contradiction
  · extract_lets s1 p at e
    have h1 : Memory.wf s1 = true := by simp [s1, h]
    obtain ⟨v, placed, rfl⟩ := Option.map_eq_some_iff.mp e
    have hv : Memory.wf v = true := (memory_wf_placed placed).trans h1
    simp [hv]

@[simp] theorem memory_wf_t2Pressure (s : State) : Memory.wf (t2Pressure s) = Memory.wf s := by simp [t2Pressure]

@[simp] theorem memory_wf_tryProg {s : State} (h : Memory.wf s = true) (k : ProgKind) (g t : Nat) (forced : Bool) :
    Memory.wf (tryProg k g t forced s) = true := by
  unfold tryProg
  cases e : startProg k g t forced s with
  | none => exact (memory_wf_t2Pressure s).trans h
  | some u => exact memory_wf_startProg h e

@[simp] theorem memory_wf_freeFrame {s : State} (h : Memory.wf s = true) (g t : Nat) :
    Memory.wf (freeFrame g t s) = true := by
  unfold freeFrame
  split <;> simp [h, memory_wf_dropFrame]

@[simp] theorem memory_wf_demoteTile {s : State} (h : Memory.wf s = true) (cls g t : Nat) (k : ProgKind)
    (forced : Bool) : Memory.wf (demoteTile cls g t k forced s) = true := by
  simp [demoteTile, h]

@[simp] theorem memory_wf_pinOverflow (id : Nat) (s : State) : Memory.wf (pinOverflow id s) = Memory.wf s := by
  unfold pinOverflow
  split <;> simp

@[simp] theorem memory_wf_pinLine {s : State} (h : Memory.wf s = true) (id g a : Nat) :
    Memory.wf (pinLine id g a s) = true := by
  unfold pinLine
  dsimp only
  (repeat' split) <;> simp [h]

@[simp] theorem memory_wf_pinTile {s : State} (h : Memory.wf s = true) (id g t : Nat) :
    Memory.wf (pinTile id g t s) = true := by
  simp +contextual [pinTile, h]

@[simp] theorem memory_wf_fillFrame {s : State} (h : Memory.wf s = true) (g t f : Nat) :
    Memory.wf (fillFrame g t f s) = true := by
  refine memory_wf_forEach h (fun i u hu => ?_) _
  split
  · exact memory_wf_putT1 hu ..
  · exact (memory_wf_markT1 ..).trans hu

@[simp] theorem memory_wf_noteResident (g t : Nat) (s : State) : Memory.wf (noteResident g t s) = Memory.wf s := by
  simp [noteResident]

@[simp] theorem memory_wf_serveWaiters {s : State} (h : Memory.wf s = true) (g t : Nat) (here : Nat → Bool) :
    Memory.wf (serveWaiters g t here s) = true := by
  unfold serveWaiters
  split <;> simp +contextual [h]

@[simp] theorem memory_wf_endPromo {s : State} (h : Memory.wf s = true) (g t : Nat) :
    Memory.wf (endPromo g t s) = true := by
  unfold endPromo
  split
  · exact h
  · next p _ =>
    extract_lets pin s1 e s2 tier s3 s4 s5 tier6 s6 s7 s8 s9
    have h2 : Memory.wf s2 = true := by simp [s2, s1, h]
    have h3 : Memory.wf s3 = true := by
      unfold s3
      split
      · exact (memory_wf_pinCount _ s2).trans h2
      · exact h2
    have h4 : Memory.wf s4 = true := by simp [s4, h3]
    have h5 : Memory.wf s5 = true := by simp [s5, h4]
    have h6 : Memory.wf s6 = true := (memory_wf_promos _ s5).trans h5
    have h7 : Memory.wf s7 = true := by simp [s7, h6]
    have h8 : Memory.wf s8 = true := by
      unfold s8
      split <;> simp [h7]
    have h9 : Memory.wf s9 = true := by simp [s9, h8]
    exact memory_wf_runQueue ((memory_wf_noteResident ..).trans h9)

@[simp] theorem memory_wf_finishSeal (g t : Nat) (s : State) : Memory.wf (finishSeal g t s) = Memory.wf s := by
  simp [finishSeal]

/-! ### Tiers -/

@[simp] theorem yieldsWf_execPromotionLineArrival {s : State} (h : Memory.wf s = true) (g t : Nat) :
    YieldsWf (execPromotionLineArrival g t s) := by
  unfold execPromotionLineArrival
  refine yieldsWf_done ?_
  split
  · exact h
  · next p _ =>
    dsimp only
    split
    · exact h
    · refine memory_wf_serveLates (memory_wf_serveWaiters ?_ ..) ..
      rw [memory_wf_recSample, memory_wf_recSample, memory_wf_passLine]
      exact memory_wf_useSlot ((memory_wf_updPromo ..).trans h) ..

@[simp] theorem yieldsWf_execPromotionComplete {s : State} (h : Memory.wf s = true) (grove tile : Nat) :
    YieldsWf (execPromotionComplete grove tile s) := by
  unfold execPromotionComplete
  refine yieldsWf_done ?_
  split <;> simp [h]

@[simp] theorem yieldsWf_execLateBoundExpiry {s : State} (h : Memory.wf s = true) (id : Nat) :
    YieldsWf (execLateBoundExpiry id s) := by
  unfold execLateBoundExpiry
  refine yieldsWf_done ?_
  split <;> simp [h]

@[simp] theorem yieldsWf_execDemotion {s : State} (h : Memory.wf s = true) (errs : List LineRead) :
    YieldsWf (execDemotion errs s) := by
  unfold execDemotion
  refine yieldsWf_done ?_
  (repeat' split) <;> simp [h]

@[simp] theorem yieldsWf_execAgeSweep {s : State} (h : Memory.wf s = true) : YieldsWf (execAgeSweep s) := by
  simp [execAgeSweep, h]

@[simp] theorem yieldsWf_execTrickle {s : State} (h : Memory.wf s = true) (errs : List LineRead) :
    YieldsWf (execTrickle errs s) := by
  unfold execTrickle
  refine yieldsWf_done ?_
  (repeat' split) <;> simp [h]

@[simp] theorem yieldsWf_execMetadataTrickle {s : State} (h : Memory.wf s = true) :
    YieldsWf (execMetadataTrickle s) := by
  unfold execMetadataTrickle
  refine yieldsWf_done ?_
  simp [h]

@[simp] theorem yieldsWf_execWearGovernorTick {s : State} (h : Memory.wf s = true) :
    YieldsWf (execWearGovernorTick s) := by
  simp [execWearGovernorTick, h]

@[simp] theorem memory_wf_stampFrom (src : Nat) (op : InOp) (ack : AckTo) (origin : Nat) (s : State) :
    Memory.wf (stampFrom src op ack origin s) = Memory.wf s := by
  simp [stampFrom]

@[simp] theorem memory_wf_postCmd (v1 : Bool) (p : Path) (tag code : Nat) (op : RecOp) (s : State) :
    Memory.wf (postCmd v1 p tag code op s) = Memory.wf s := by
  unfold postCmd
  split <;> simp

@[simp] theorem yieldsWf_execSeal {s : State} (h : Memory.wf s = true) (p : Path) (tag grove first count : Nat) :
    YieldsWf (execSeal p tag grove first count s) := by
  simp [execSeal, h]

@[simp] theorem yieldsWf_execUnseal {s : State} (h : Memory.wf s = true) (p : Path) (tag grove first count : Nat) :
    YieldsWf (execUnseal p tag grove first count s) := by
  simp [execUnseal, h]

@[simp] theorem yieldsWf_execPost {s : State} (h : Memory.wf s = true) (p : Path) (tag : Nat) (v1 : Bool)
    (c : SchedCmd) : YieldsWf (execPost p tag v1 c s) := by
  simp [execPost, h]

@[simp] theorem yieldsWf_execAppend {s : State} (h : Memory.wf s = true) (p : Path) (tag : Nat) (v1 : Bool)
    (c : SchedCmd) : YieldsWf (execAppend p tag v1 c s) := by
  simp [execAppend, h]

@[simp] theorem yieldsWf_execCancel {s : State} (h : Memory.wf s = true) (p : Path) (tag : Nat) (v1 : Bool)
    (c : SchedCmd) : YieldsWf (execCancel p tag v1 c s) := by
  simp [execCancel, h]

@[simp] theorem yieldsWf_execSealCopy {s : State} (h : Memory.wf s = true) (grove tile : Nat) (errs : List LineRead) :
    YieldsWf (execSealCopy grove tile errs s) := by
  unfold execSealCopy
  refine yieldsWf_done ?_
  simp [h]

@[simp] theorem memory_wf_stageTile (q : QEntry) (t : Nat) (s : State) : Memory.wf (stageTile q t s) = Memory.wf s := by
  unfold stageTile
  have hp : Memory.wf (pinNow s).2 = Memory.wf s := by simp [pinNow]
  exact (memory_wf_startPromo_getD _ _ _ _ _ _ (by simp)).trans hp

@[simp] theorem yieldsWf_execScheduleStage {s : State} (h : Memory.wf s = true) : YieldsWf (execScheduleStage s) := by
  unfold execScheduleStage
  refine yieldsWf_done ?_
  split
  · exact h
  · split
    · exact h
    · split
      · next allocated => exact (memory_wf_stageTile ..).trans ((memory_wf_copAlloc allocated).trans h)
      · split <;> exact h

@[simp] theorem yieldsWf_execAllocationGrant {s : State} (h : Memory.wf s = true) (pool : Nat) :
    YieldsWf (execAllocationGrant pool s) := by
  unfold execAllocationGrant
  refine yieldsWf_onUnit h ?_ _
  split
  · exact h
  · split
    · exact h
    · next u allocated =>
      have hu : Memory.wf u = true := (memory_wf_copAlloc allocated).trans h
      dsimp only
      split
      · exact (memory_wf_stageTile ..).trans hu
      · exact (memory_wf_copFree ..).trans hu

@[simp] theorem yieldsWf_execScheduleEntryRetire {s : State} (h : Memory.wf s = true) (entry : Nat) :
    YieldsWf (execScheduleEntryRetire entry s) := by
  unfold execScheduleEntryRetire
  refine yieldsWf_done ?_
  split <;> simp [h]

/-- The Cellar's records of one run of lines. -/
theorem memory_wf_celRun {s : State} (h : Memory.wf s = true) (a : Nat) (l : List LineData) :
    Memory.wf { s with tier := { s.tier with cel := SMap.writeRun s.tier.cel 0 a l } } = true := by
  rw [memory_wf_and] at h ⊢
  obtain ⟨t1, t2, cel, rest⟩ := h
  exact ⟨t1, t2, SMap.wf_writeRun _ _ cel, rest⟩

@[simp] theorem memory_wf_putCellar {s : State} (h : Memory.wf s = true) (r : Repair) (l : List LineData) :
    Memory.wf (putCellar r l s) = true := by
  refine memory_wf_forEach h (fun x u hu => ?_) _
  split
  · exact hu
  · exact (memory_wf_celWrite ..).trans (memory_wf_celRun hu ..)

theorem memory_wf_putRepair {s u : State} (h : Memory.wf s = true) {r : Repair} {l : List LineData}
    (e : putRepair r l s = some u) : Memory.wf u = true := by
  unfold putRepair at e
  split at e
  · cases e
    exact memory_wf_putCellar h r l
  · obtain ⟨v, placed, rfl⟩ := Option.map_eq_some_iff.mp e
    have hv : Memory.wf v = true := by rw [memory_wf_placed placed, memory_wf_dropReloc, h]
    exact memory_wf_putCellar (memory_wf_useSlot (by simp [hv]) ..) ..

@[simp] theorem memory_wf_endRepair {s : State} (h : Memory.wf s = true) (r : Repair) :
    Memory.wf (endRepair r s) = true := by
  unfold endRepair
  extract_lets tier s1 s2 s3
  have h2 : Memory.wf s2 = true := (memory_wf_updPromo ..).trans h
  clear_value s2
  have h3 : Memory.wf s3 = true :=
    memory_wf_forEach h2 (fun w u hu => memory_wf_deliver ((memory_wf_passLine ..).trans hu) ..) _
  exact memory_wf_serveLates (memory_wf_serveWaiters h3 ..) ..

@[simp] theorem memory_wf_repairDone {s : State} (h : Memory.wf s = true) (g t : Nat) (r : RepairResult) :
    Memory.wf (repairDone g t r s) = true := by
  unfold repairDone
  split
  · exact h
  · next x _ =>
    extract_lets good
    have hg : ∀ ev l, Memory.wf (good ev l) = true := by
      intro ev l
      unfold good
      split
      · exact h
      · split
        · next u repairs => simp [memory_wf_putRepair h repairs]
        · simp [h]
    split
    · exact h
    · split
      · simp [h]
      · split
        · split
          · exact hg ..
          · exact h
        · split
          · exact hg ..
          · exact h
        · split
          · exact (memory_wf_sendUtl ..).trans h
          · simp [h]

@[simp] theorem yieldsWf_execT2RepairDone {s : State} (h : Memory.wf s = true) (grove tile : Nat) (r : RepairResult) :
    YieldsWf (execT2RepairDone grove tile r s) := by
  simp [execT2RepairDone, h]

@[simp] theorem yieldsWf_execPoisonClear {s : State} (h : Memory.wf s = true) (p : Path) :
    YieldsWf (execPoisonClear p s) := by
  simp +contextual [execPoisonClear, h]

@[simp] theorem memory_wf_endDrain {s : State} (h : Memory.wf s = true) : Memory.wf (endDrain s) = true := by
  unfold endDrain
  split
  · rw [memory_wf_raise]
    rw [memory_wf_and] at h ⊢
    obtain ⟨t1, t2, -, rest⟩ := h
    exact ⟨t1, t2, rfl, rest⟩
  · exact h

@[simp] theorem yieldsWf_execCellarDrain {s : State} (h : Memory.wf s = true) (errs : List LineRead) :
    YieldsWf (execCellarDrain errs s) := by
  unfold execCellarDrain
  refine yieldsWf_done ?_
  (repeat' split) <;> simp [h]

/-! ### Dram -/

@[simp] theorem yieldsWf_execZqCalibration {s : State} (h : Memory.wf s = true) (ch : Nat) :
    YieldsWf (execZqCalibration ch s) := by
  simp [execZqCalibration, h]

@[simp] theorem yieldsWf_execDqsDriftCompensation {s : State} (h : Memory.wf s = true) (ch : Nat) :
    YieldsWf (execDqsDriftCompensation ch s) := by
  simp [execDqsDriftCompensation, h]

@[simp] theorem memory_wf_closeRows (ch rank : Nat) (s : State) : Memory.wf (closeRows ch rank s) = Memory.wf s := by
  simp [closeRows]

@[simp] theorem yieldsWf_execRefreshDue {s : State} (h : Memory.wf s = true) (ch rank : Nat) :
    YieldsWf (execRefreshDue ch rank s) := by
  simp [execRefreshDue, h]

@[simp] theorem yieldsWf_execMr4Poll {s : State} (h : Memory.wf s = true) (ch : Nat) (hotRanks : List Nat) :
    YieldsWf (execMr4Poll ch hotRanks s) := by
  simp [execMr4Poll, h]

@[simp] theorem yieldsWf_execSelfRefreshEntry {s : State} (h : Memory.wf s = true) (ch : Nat) :
    YieldsWf (execSelfRefreshEntry ch s) := by
  simp [execSelfRefreshEntry, h]

@[simp] theorem memory_wf_loseMetaLine (t i : Nat) (s : State) : Memory.wf (loseMetaLine t i s) = Memory.wf s := by
  refine memory_wf_forEach_eq (fun k u => ?_) _ s
  split
  · split <;> simp
  · rfl

@[simp] theorem memory_wf_repairMeta {s : State} (h : Memory.wf s = true) (n f i cls src : Nat) (m : Nat × Nat) :
    Memory.wf (repairMeta n f i cls src m s) = true := by
  simp [repairMeta, h, memory_wf_putT1]

@[simp] theorem memory_wf_patrolRepair {s : State} (h : Memory.wf s = true) (n f i cls : Nat)
    (peer : Option LineData) : Memory.wf (patrolRepair n f i cls peer s) = true := by
  unfold patrolRepair
  dsimp only
  (repeat' split) <;> simp [h, memory_wf_putT1]

@[simp] theorem memory_wf_rewriteClean (f i : Nat) (s : State) : Memory.wf (rewriteClean f i s) = Memory.wf s := by
  simp [rewriteClean]

@[simp] theorem memory_wf_patrolStep (n : Nat) (s : State) : Memory.wf (patrolStep n s) = Memory.wf s := by
  simp [patrolStep]

@[simp] theorem yieldsWf_execPatrolRead {s : State} (h : Memory.wf s = true) (ch : Nat) (o : DramRead)
    (peerData : Option LineData) : YieldsWf (execPatrolRead ch o peerData s) := by
  unfold execPatrolRead
  refine yieldsWf_onUnit h ?_ _
  dsimp only
  (repeat' split) <;> simp [h]

@[simp] theorem yieldsWf_execCaParityAlert {s : State} (h : Memory.wf s = true) (ch sub : Nat) (replayOk : Bool) :
    YieldsWf (execCaParityAlert ch sub replayOk s) := by
  simp [execCaParityAlert, h]

@[simp] theorem yieldsWf_execCaRecoveryComplete {s : State} (h : Memory.wf s = true) (ch sub : Nat) (ok : Bool) :
    YieldsWf (execCaRecoveryComplete ch sub ok s) := by
  simp [execCaRecoveryComplete, h]

@[simp] theorem yieldsWf_execUeClear {s : State} (h : Memory.wf s = true) (p : Path) (ch : Nat) :
    YieldsWf (execUeClear p ch s) := by
  simp [execUeClear, h]

@[simp] theorem memory_wf_evacResult (n r : Nat) (s : State) : Memory.wf (evacResult n r s) = Memory.wf s := by
  simp [evacResult]

@[simp] theorem yieldsWf_execEvacuate {s : State} (h : Memory.wf s = true) (p : Path) (set : Nat) :
    YieldsWf (execEvacuate p set s) := by
  simp [execEvacuate, h]

@[simp] theorem memory_wf_startMove (g t dst : Nat) (s : State) : Memory.wf (startMove g t dst s) = Memory.wf s := by
  unfold startMove
  split <;> simp

@[simp] theorem memory_wf_rehome (r : MetaRun) (first : Bool) (f : Nat) (s : State) :
    Memory.wf (rehome r first f s) = Memory.wf s := by
  simp [rehome]

theorem memory_wf_moveMeta {s u : State} {n : Nat} (e : moveMeta n s = some u) : Memory.wf u = Memory.wf s := by
  unfold moveMeta at e
  split at e
  · contradiction
  · dsimp only at e
    split at e
    · contradiction
    · obtain ⟨f, -, rfl⟩ := Option.map_eq_some_iff.mp e
      simp

@[simp] theorem memory_wf_evacDemote {s : State} (h : Memory.wf s = true) (ok : Nat → Nat → Bool) :
    Memory.wf (evacDemote ok s) = true := by
  unfold evacDemote
  split <;> simp [h]

@[simp] theorem yieldsWf_execFrameMove {s : State} (h : Memory.wf s = true) (errs : List LineRead) :
    YieldsWf (execFrameMove errs s) := by
  unfold execFrameMove
  extract_lets s0
  have h0 : Memory.wf s0 = true := (memory_wf_noteReads ..).trans h
  clear_value s0
  refine yieldsWf_done ?_
  split
  · exact h0
  · next n _ =>
    split
    · exact h0
    · extract_lets l first room freeUp
      have hf : Memory.wf freeUp = true := by
        unfold freeUp
        split <;> simp [h0]
      clear_value freeUp
      have hm : Memory.wf ((moveMeta n s0).getD freeUp) = true := by
        cases e : moveMeta n s0
        · exact hf
        · exact (memory_wf_moveMeta e).trans h0
      split
      · exact (memory_wf_finishEvac _).trans hm
      · (repeat' split) <;> simp [hf, h0]

@[simp] theorem yieldsWf_execFrameMoveComplete {s : State} (h : Memory.wf s = true) (g t : Nat) (errs : List LineRead) :
    YieldsWf (execFrameMoveComplete g t errs s) := by
  unfold execFrameMoveComplete
  extract_lets s0
  have h0 : Memory.wf s0 = true := (memory_wf_noteReads ..).trans h
  clear_value s0
  refine yieldsWf_done ?_
  split
  · exact h0
  · split
    · exact h0
    · extract_lets s1 s2 s3 tier s4
      have h1 : Memory.wf s1 = true := by simp [s1, h0]
      clear_value s1
      have h2 : Memory.wf s2 = true := by
        refine memory_wf_forEach h1 (fun i u hu => ?_) _
        dsimp only
        split
        · exact memory_wf_putT1 (memory_wf_copierLine hu ..) ..
        · simp [hu]
      clear_value s2
      have h3 : Memory.wf s3 = true :=
        (memory_wf_updTile ..).trans (memory_wf_dropFrame ((memory_wf_unsend ..).trans h2) _)
      have h4 : Memory.wf s4 = true := (memory_wf_moved ..).trans ((memory_wf_chargeLines ..).trans h3)
      clear_value s4
      exact (memory_wf_finishEvac _).trans (memory_wf_runQueue h4)

@[simp] theorem yieldsWf_execReturnSet {s : State} (h : Memory.wf s = true) (p : Path) (set : Nat) :
    YieldsWf (execReturnSet p set s) := by
  simp [execReturnSet, h]

@[simp] theorem memory_wf_saveTrain (c : Nat) (t : DramTrain) (s : State) :
    Memory.wf (saveTrain c t s) = Memory.wf s := by
  simp [saveTrain]

@[simp] theorem yieldsWf_execReturnTrainingComplete {s : State} (h : Memory.wf s = true) (set : Nat)
    (dram : List DramTrain) : YieldsWf (execReturnTrainingComplete set dram s) := by
  unfold execReturnTrainingComplete
  refine yieldsWf_done ?_
  split
  · exact h
  · extract_lets x chs ok idle s1 s2 refused
    have h1 : Memory.wf s1 = true := by
      refine (memory_wf_forEach_eq (fun k u => ?_) _ _).trans h
      split <;> simp
    clear_value s1
    have h2 : Memory.wf s2 = true := by
      refine (memory_wf_forEach_eq (fun k u => ?_) _ _).trans h1
      split <;> simp
    clear_value s2
    split
    · exact memory_wf_runQueue ((memory_wf_setChannels ..).trans ((memory_wf_updSet ..).trans h2))
    · exact (memory_wf_setChannels ..).trans ((memory_wf_updSet ..).trans h1)

@[simp] theorem yieldsWf_execAbortEvac {s : State} (h : Memory.wf s = true) (p : Path) (set : Nat) :
    YieldsWf (execAbortEvac p set s) := by
  unfold execAbortEvac
  refine yieldsWf_done (memory_wf_ctlWrite_of h _ _ _ fun t ht => ?_)
  split
  · exact (memory_wf_setChannels ..).trans ((memory_wf_updSet ..).trans ht)
  · simp [ht]

/-! ### Nand -/

@[simp] theorem memory_wf_startRepair (g t : Nat) (sectors : BitVec 16) (origin : Nat) (s : State) :
    Memory.wf (startRepair g t sectors origin s) = Memory.wf s := by
  simp [startRepair]

@[simp] theorem memory_wf_ladder (ch : Nat) (o : Ladder) (s : State) : Memory.wf (ladder ch o s) = Memory.wf s := by
  unfold ladder
  split <;> simp

@[simp] theorem memory_wf_readWhole (n : Nat) (reads : List (Nat × Ladder)) (s : State) :
    Memory.wf (readWhole n reads s) = Memory.wf s := by
  simp [readWhole]

@[simp] theorem memory_wf_readStripe (n : Nat) (s : State) : Memory.wf (readStripe n s) = Memory.wf s := by
  simp [readStripe]

@[simp] theorem memory_wf_readSlot {s : State} (h : Memory.wf s = true) (g t n sec origin : Nat) (o : Ladder) :
    Memory.wf (readSlot g t n sec origin o s) = true := by
  unfold readSlot
  (repeat' split) <;> simp [h]

@[simp] theorem memory_wf_cwRead (g t sec : Nat) (s : State) : Memory.wf (cwRead g t sec s) = Memory.wf s := by
  simp [cwRead]

@[simp] theorem yieldsWf_execNandReadComplete {s : State} (h : Memory.wf s = true) (grove tile sector : Nat)
    (o : Ladder) : YieldsWf (execNandReadComplete grove tile sector o s) := by
  unfold execNandReadComplete
  refine yieldsWf_done ?_
  (repeat' split) <;> simp [h]

@[simp] theorem memory_wf_scanAt {s : State} (h : Memory.wf s = true) (t2 sector : Nat) (o : Ladder) :
    Memory.wf (scanAt t2 sector o s) = true := by
  unfold scanAt
  (repeat' split) <;> simp [h]

theorem memory_wf_nand (x : Nand) (s : State) : Memory.wf { s with nand := x } = Memory.wf s := rfl

@[simp] theorem yieldsWf_execBackgroundScan {s : State} (h : Memory.wf s = true) (t2 sector : Nat) (o : Ladder) :
    YieldsWf (execBackgroundScan t2 sector o s) := by
  unfold execBackgroundScan
  refine yieldsWf_done ?_
  split
  · exact h
  · extract_lets s1 took late noted s2
    have h1 : Memory.wf s1 = true := memory_wf_scanAt h ..
    clear_value s1 took late
    have h2 : Memory.wf s2 = true :=
      (memory_wf_onlyIf _ _ (fun _ => memory_wf_ftlCause ..) _).trans ((memory_wf_nand _ s1).trans h1)
    clear_value s2
    split
    · exact (memory_wf_nand _ s2).trans h2
    · exact (memory_wf_nand _ s2).trans h2

@[simp] theorem memory_wf_freeIfClean {s : State} (h : Memory.wf s = true) (g t : Nat) :
    Memory.wf (freeIfClean g t s) = true := by
  simp [freeIfClean, h]

@[simp] theorem memory_wf_afterProg {s : State} (h : Memory.wf s = true) (p : Prog) :
    Memory.wf (afterProg p s) = true := by
  unfold afterProg
  split <;> simp [h]

@[simp] theorem memory_wf_progOk {s : State} (h : Memory.wf s = true) (p : Prog) : Memory.wf (progOk p s) = true := by
  simp [progOk, h]

@[simp] theorem memory_wf_padRest {s : State} (h : Memory.wf s = true) (w : Nat) :
    Memory.wf (padRest w s) = true := by
  simp +contextual [padRest, h]

@[simp] theorem memory_wf_wlOk {s : State} (h : Memory.wf s = true) (w : Nat) : Memory.wf (wlOk w s) = true :=
  memory_wf_padRest (memory_wf_forEach h (fun p _ ht => memory_wf_progOk ht p) _) w

@[simp] theorem memory_wf_wlFailed (w : Nat) (s : State) : Memory.wf (wlFailed w s) = Memory.wf s := by
  simp [wlFailed]

@[simp] theorem memory_wf_wlBegin (w : Nat) (s : State) : Memory.wf (wlBegin w s) = Memory.wf s := by
  unfold wlBegin
  dsimp only
  split <;> simp

@[simp] theorem memory_wf_inVault {s : State} (h : Memory.wf s = true) : Memory.wf (inVault s) = true := by
  unfold inVault
  split
  · exact memory_wf_modVault h _ (fun _ => rfl)
  · exact h

@[simp] theorem yieldsWf_execNandProgramDone {s : State} (h : Memory.wf s = true) (id : Nat) (ok : Bool) :
    YieldsWf (execNandProgramDone id ok s) := by
  unfold execNandProgramDone
  refine yieldsWf_done ?_
  split <;> simp [h]

@[simp] theorem memory_wf_releaseSuper (k : Nat) (s : State) : Memory.wf (releaseSuper k s) = Memory.wf s := by
  refine memory_wf_forEach_eq (fun n u => ?_) _ s
  split <;> simp

@[simp] theorem memory_wf_noteCrit (s : State) : Memory.wf (noteCrit s) = Memory.wf s := by simp [noteCrit]

@[simp] theorem yieldsWf_execReclaim {s : State} (h : Memory.wf s = true) : YieldsWf (execReclaim s) := by
  unfold execReclaim
  refine yieldsWf_done ?_
  (repeat' split) <;> simp [h]

@[simp] theorem memory_wf_rollReloc {s : State} (h : Memory.wf s = true) (g n : Nat) :
    Memory.wf (rollReloc g n s) = true := by
  unfold rollReloc
  split <;> simp [h]

@[simp] theorem memory_wf_relocate {s : State} (h : Memory.wf s = true) (n : Nat) (reads : List (Nat × Ladder)) :
    Memory.wf (relocate n reads s) = true := by
  unfold relocate
  extract_lets drop
  have hd : ∀ u, Memory.wf (drop u) = Memory.wf u := fun _ => rfl
  split
  · exact (hd s).trans h
  · split
    · exact h
    · split
      · rw [hd]
        simp [h]
      · dsimp only
        split
        · next u placed =>
          have hu : Memory.wf u = true := (memory_wf_placed placed).trans h
          rw [hd]
          simp [hu]
        · simp [h]

@[simp] theorem yieldsWf_execRelocation {s : State} (h : Memory.wf s = true) (t2 : Nat)
    (reads : List (Nat × Ladder)) : YieldsWf (execRelocation t2 reads s) := by
  simp [execRelocation, h]

@[simp] theorem memory_wf_erased {s : State} (h : Memory.wf s = true) (b : Nat) : Memory.wf (erased b s) = true := by
  rw [memory_wf_and] at h ⊢
  obtain ⟨t1, t2, rest⟩ := h
  exact ⟨t1, SMap.wf_filterKeys t2 (fun k => decide (k / 2 ^ 20 ≠ b)), rest⟩

@[simp] theorem memory_wf_dropUnprotected (b : Nat) (s : State) : Memory.wf (dropUnprotected b s) = Memory.wf s := by
  simp [dropUnprotected]

@[simp] theorem memory_wf_closeSuper (b : Nat) (s : State) : Memory.wf (closeSuper b s) = Memory.wf s := by
  simp [closeSuper]

@[simp] theorem yieldsWf_execNandEraseDone {s : State} (h : Memory.wf s = true) (ch die block : Nat) (ok : Bool) :
    YieldsWf (execNandEraseDone ch die block ok s) := by
  simp [execNandEraseDone, h]

@[simp] theorem yieldsWf_execStaticWearLevel {s : State} (h : Memory.wf s = true) (ch die : Nat) :
    YieldsWf (execStaticWearLevel ch die s) := by
  unfold execStaticWearLevel
  refine yieldsWf_onUnit h ?_ _
  dsimp only
  (repeat' split) <;> simp [h]

@[simp] theorem yieldsWf_execReadDisturbLimit {s : State} (h : Memory.wf s = true) (ch die block : Nat) :
    YieldsWf (execReadDisturbLimit ch die block s) := by
  simp [execReadDisturbLimit, h]

@[simp] theorem yieldsWf_execStripeParityTimeout {s : State} (h : Memory.wf s = true) (grp die vblock slot : Nat) :
    YieldsWf (execStripeParityTimeout grp die vblock slot s) := by
  unfold execStripeParityTimeout
  refine yieldsWf_onUnit h ?_ _
  dsimp only
  split <;> simp [h]

@[simp] theorem memory_wf_endRebuild (s : State) : Memory.wf (endRebuild s) = Memory.wf s := by simp [endRebuild]

@[simp] theorem yieldsWf_execDieRebuild {s : State} (h : Memory.wf s = true) (reads : List (Nat × Ladder)) :
    YieldsWf (execDieRebuild reads s) := by
  unfold execDieRebuild
  refine yieldsWf_done ?_
  split
  · exact h
  · split
    · simp [h]
    · next n rest _ =>
      extract_lets nand s1 member climbed s2 failed
      have h1 : Memory.wf s1 = true := h
      have hc : ∀ u, Memory.wf (climbed u) = Memory.wf u := fun u =>
        (memory_wf_forEach_eq (fun r v => by simp) _ _).trans (memory_wf_readStripe ..)
      clear_value s1 climbed
      have h2 : Memory.wf s2 = true := by
        unfold s2
        split
        · exact (hc _).trans h1
        · exact h1
      clear_value s2
      split
      · simp [h1]
      · next g t _ =>
        extract_lets p
        clear_value p
        split
        · exact (memory_wf_endRebuild _).trans ((memory_wf_startRepair ..).trans h2)
        · split
          · next u placed =>
            obtain ⟨w, taken, placed⟩ := Option.bind_eq_some_iff.mp placed
            simp [hc, memory_wf_placeProg placed, memory_wf_takeBuf taken, h1]
          · simp [h]

@[simp] theorem yieldsWf_execDieDead {s : State} (h : Memory.wf s = true) (ch die : Nat) :
    YieldsWf (execDieDead ch die s) := by
  simp [execDieDead, h]

@[simp] theorem memory_wf_celCompact (s : State) : Memory.wf (celCompact s) = Memory.wf s := by
  unfold celCompact
  dsimp only
  split <;> simp

@[simp] theorem yieldsWf_execCellarBlockErase {s : State} (h : Memory.wf s = true) :
    YieldsWf (execCellarBlockErase s) := by
  unfold execCellarBlockErase
  refine yieldsWf_done ?_
  split
  · exact h
  · extract_lets recs dead kept s1 s2 low
    have h1 : Memory.wf s1 = true := by
      refine (memory_wf_forEach_eq (fun b u => memory_wf_celErase b u) _ _).trans ?_
      exact memory_wf_cel h (fun a => recs.contains (a / 1024 * 16 + a % 1024 / 64))
    clear_value s1
    have h2 : Memory.wf s2 = true := by
      unfold s2
      split <;> simp [h1]
    clear_value s2 low
    exact (memory_wf_onlyIf _ _ (fun _ => memory_wf_ftlCause ..) _).trans h2

/-! ### TwinWork -/

@[simp] theorem memory_wf_applyReceived {s : State} (h : Memory.wf s = true) (fuel : Nat) :
    Memory.wf (applyReceived fuel s) = true := by
  induction fuel generalizing s with
  | zero => exact h
  | succ n ih =>
    unfold applyReceived
    split
    · exact h
    · exact ih (by simp [h])

@[simp] theorem memory_wf_promoteTo {s : State} (h : Memory.wf s = true) (e : Nat) :
    Memory.wf (promoteTo e s) = true := by
  unfold promoteTo
  split
  · exact (memory_wf_raise ..).trans h
  · extract_lets s1 last start s2
    have h1 : Memory.wf s1 = true := memory_wf_applyReceived h _
    clear_value s1
    split
    · exact h1
    · have h2 : Memory.wf s2 = true :=
        (memory_wf_openBitmap ..).trans (memory_wf_setRole (memory_wf_setEpoch (by simp [h1]) e) _)
      exact (memory_wf_sendBoth ..).trans ((memory_wf_raise ..).trans h2)

@[simp] theorem memory_wf_promote {s : State} (h : Memory.wf s = true) : Memory.wf (promote s) = true := by
  simp [promote, h]

@[simp] theorem memory_wf_joinUnder {s : State} (h : Memory.wf s = true) (epoch last : Nat) :
    Memory.wf (joinUnder epoch last s) = true := by
  simp [joinUnder, h]

@[simp] theorem memory_wf_rank_ {s : State} (h : Memory.wf s = true) (n : NegRec) : Memory.wf (rank_ n s) = true := by
  simp [rank_, h]

@[simp] theorem memory_wf_elect {s : State} (h : Memory.wf s = true) (n : NegRec) : Memory.wf (elect n s) = true := by
  unfold elect
  (repeat' split) <;> simp [h]

@[simp] theorem memory_wf_epochGate {s : State} (h : Memory.wf s = true) (p : FrameHdr) (endSeq : Option Nat)
    (ack : Bool) (f : State → State) (h1 : ∀ t, Memory.wf t = true → Memory.wf (f t) = true) :
    Memory.wf (epochGate p endSeq ack f s) = true := by
  unfold epochGate
  (repeat' split) <;> simp [h, h1]

@[simp] theorem memory_wf_ackFrames (upto : Nat) (s : State) : Memory.wf (ackFrames upto s) = Memory.wf s := by
  simp [ackFrames]

@[simp] theorem memory_wf_onUtl {s : State} (h : Memory.wf s = true) (p : FrameHdr) (endSeq : Option Nat)
    (ack : Bool) (f : State → State) (h1 : ∀ t, Memory.wf t = true → Memory.wf (f t) = true) :
    Memory.wf (onUtl p endSeq ack f s) = true := by
  simp +contextual [onUtl, h, h1]

@[simp] theorem memory_wf_onNet {s : State} (h : Memory.wf s = true) (p : FrameHdr) (endSeq : Option Nat)
    (f : State → State) (h1 : ∀ t, Memory.wf t = true → Memory.wf (f t) = true) :
    Memory.wf (onNet p endSeq f s) = true := by
  simp +contextual [onNet, h, h1]

@[simp] theorem memory_wf_onEither {s : State} (h : Memory.wf s = true) (p : FrameHdr) (endSeq : Option Nat)
    (f : State → State) (h1 : ∀ t, Memory.wf t = true → Memory.wf (f t) = true) :
    Memory.wf (onEither p endSeq f s) = true := by
  simp +contextual [onEither, h, h1]

@[simp] theorem memory_wf_dropLink (e : Nat) (s : State) : Memory.wf (dropLink e s) = Memory.wf s := by simp [dropLink]

@[simp] theorem memory_wf_takeCredit (c : Nat) (s : State) : Memory.wf (takeCredit c s) = Memory.wf s := by
  simp [takeCredit]

@[simp] theorem memory_wf_takeAck (ackSeq : Nat) (s : State) : Memory.wf (takeAck ackSeq s) = Memory.wf s := by
  simp [takeAck]

@[simp] theorem memory_wf_takeReport {s : State} (h : Memory.wf s = true) (applied : Nat) :
    Memory.wf (takeReport applied s) = true := by
  simp [takeReport, h]

/-! ### Resync -/

@[simp] theorem memory_wf_copyLine {s : State} (h : Memory.wf s = true) (g a src : Nat) :
    Memory.wf ((copyLine g a src s).1) = true := by
  unfold copyLine
  split <;> simp [h]

@[simp] theorem memory_wf_chunkCorrected (g t c : Nat) (s : State) :
    Memory.wf (chunkCorrected g t c s) = Memory.wf s := by
  unfold chunkCorrected
  split <;> simp

@[simp] theorem memory_wf_chunkLines {s : State} (h : Memory.wf s = true) (g t c src : Nat) :
    Memory.wf ((chunkLines g t c src s).1) = true := by
  unfold chunkLines
  extract_lets s1 r
  have h1 : Memory.wf s1 = true := (memory_wf_chunkCorrected ..).trans h
  clear_value s1
  have hr : Memory.wf r.1 = true := memory_wf_foldl (fun a x ha => by simp [ha]) _ h1
  clear_value r
  simp [hr]

@[simp] theorem memory_wf_startResync (s : State) : Memory.wf (startResync s) = Memory.wf s := by simp [startResync]

@[simp] theorem memory_wf_resyncIfAsked (s : State) : Memory.wf (resyncIfAsked s) = Memory.wf s := by
  simp [resyncIfAsked]

@[simp] theorem yieldsWf_execRecopy {s : State} (h : Memory.wf s = true) (p : FrameHdr) (last : Bool)
    (ts : List (Nat × Nat)) : YieldsWf (execRecopy p last ts s) := by
  simp [execRecopy, h]

@[simp] theorem memory_wf_sendChunk (g t c : Nat) (b : ChunkBody) (s : State) :
    Memory.wf (sendChunk g t c b s) = Memory.wf s := by
  simp [sendChunk]

@[simp] theorem memory_wf_doneIfLast (s : State) : Memory.wf (doneIfLast s) = Memory.wf s := by simp [doneIfLast]

@[simp] theorem yieldsWf_execResyncChunkRead {s : State} (h : Memory.wf s = true) (errs : List LineRead) :
    YieldsWf (execResyncChunkRead errs s) := by
  unfold execResyncChunkRead
  refine yieldsWf_done ?_
  (repeat' split) <;> simp [h]

@[simp] theorem memory_wf_clearSchedules (s : State) : Memory.wf (clearSchedules s) = Memory.wf s := by
  simp [clearSchedules]

@[simp] theorem yieldsWf_execResyncStart {s : State} (h :
    Memory.wf s = true) (p : FrameHdr) (bulk : Bool) (start : Nat) :
    YieldsWf (execResyncStart p bulk start s) := by
  unfold execResyncStart
  refine yieldsWf_done (memory_wf_onUtl h _ _ _ _ fun t ht => ?_)
  split
  · exact ht
  · extract_lets old seqr t1 t2 gs ss part
    have h1 : Memory.wf t1 = true := (memory_wf_dropRx _).trans ht
    clear_value t1
    have h2 : Memory.wf t2 = true := memory_wf_forEach h1 (fun x u hu => memory_wf_releaseTile hu ..) _
    clear_value t2
    simp [h2]

@[simp] theorem yieldsWf_execResyncDone {s : State} (h : Memory.wf s = true) (p : FrameHdr) (last : Nat) :
    YieldsWf (execResyncDone p last s) := by
  simp [execResyncDone, h]

@[simp] theorem memory_wf_confirmSeal (g t : Nat) (s : State) : Memory.wf (confirmSeal g t s) = Memory.wf s := by
  simp [confirmSeal]

@[simp] theorem memory_wf_waitSeal (g t gtc src : Nat) (s : State) :
    Memory.wf (waitSeal g t gtc src s) = Memory.wf s := by
  simp [waitSeal]

@[simp] theorem memory_wf_sealAs (x : Nat × Nat × Nat × Nat) (s : State) : Memory.wf (sealAs x s) = Memory.wf s := by
  simp [sealAs]

@[simp] theorem memory_wf_compareSeal (g t gtc src : Nat) (s : State) :
    Memory.wf (compareSeal g t gtc src s) = Memory.wf s := by
  simp [compareSeal]

@[simp] theorem memory_wf_takeRepair {s : State} (h : Memory.wf s = true) (c : Chunk) (l : Option (List LineData)) :
    Memory.wf (takeRepair c l s) = true := by
  unfold takeRepair
  dsimp only
  split <;> simp [h]

@[simp] theorem yieldsWf_execResyncData {s : State} (h : Memory.wf s = true) (p : FrameHdr) (c : Chunk) :
    YieldsWf (execResyncData p c s) := by
  unfold execResyncData
  refine yieldsWf_done ?_
  split <;> simp +contextual [h]

@[simp] theorem memory_wf_beginTile {s : State} (h : Memory.wf s = true) (g t : Nat) :
    Memory.wf (beginTile g t s) = true := by
  simp [beginTile, h]

@[simp] theorem memory_wf_forgetLines {s : State} (h : Memory.wf s = true) (g lo : Nat) :
    Memory.wf (forgetLines g lo s) = true := by
  simp [forgetLines, h]

@[simp] theorem memory_wf_fillChunk {s : State} (h : Memory.wf s = true) (g t c : Nat) (ls : List LineData)
    (m : BitVec 128) : Memory.wf (fillChunk g t c ls m s) = true := by
  unfold fillChunk
  split
  · exact h
  · refine memory_wf_useGrove ?_ ..
    rw [memory_wf_poisonLines, memory_wf_markDirty, memory_wf_markDirty]
    refine memory_wf_forEach (memory_wf_forgetLines h ..) (fun k u hu => ?_) _
    split
    · simp [hu]
    · exact memory_wf_putT1 (by simp [hu]) ..

@[simp] theorem memory_wf_tileInstalled (g t : Nat) (s : State) : Memory.wf (tileInstalled g t s) = Memory.wf s := by
  unfold tileInstalled
  split <;> simp

@[simp] theorem memory_wf_installMeta {s : State} (h : Memory.wf s = true) (m : StampRec) :
    Memory.wf (installMeta m s) = true := by
  unfold installMeta
  split <;> simp [h]

@[simp] theorem memory_wf_installChunk {s : State} (h : Memory.wf s = true) (c : Chunk) :
    Memory.wf (installChunk c s) = true := by
  unfold installChunk
  (repeat' split) <;> simp [h]

@[simp] theorem yieldsWf_execResyncChunkInstall {s : State} (h : Memory.wf s = true) :
    YieldsWf (execResyncChunkInstall s) := by
  unfold execResyncChunkInstall
  refine yieldsWf_done ?_
  split <;> simp [h]

@[simp] theorem yieldsWf_execResyncComplete {s : State} (h : Memory.wf s = true) : YieldsWf (execResyncComplete s) := by
  unfold execResyncComplete
  refine yieldsWf_done ?_
  split
  · exact h
  · split
    · exact h
    · extract_lets stale s1 s2 s3 s4
      have h1 : Memory.wf s1 = true := memory_wf_forEach h (fun x u hu => memory_wf_releaseTile hu ..) _
      clear_value s1
      have h2 : Memory.wf s2 = true := memory_wf_forEach h1 (fun g u hu => memory_wf_applyDelete hu g) _
      clear_value s2
      have h3 : Memory.wf s3 = true := by
        refine (memory_wf_forEach_eq (fun x u => ?_) _ s2).trans h2
        split <;> simp
      clear_value s3
      have h4 : Memory.wf s4 = true := (memory_wf_forEach_eq (fun x u => memory_wf_sealAs x u) _ s3).trans h3
      clear_value s4
      exact (memory_wf_raise ..).trans (memory_wf_setRole ((memory_wf_modTwin ..).trans h4) _)

@[simp] theorem yieldsWf_execRepairReq {s : State} (h :
    Memory.wf s = true) (p : FrameHdr) (g t : Nat) (mask : BitVec 16) :
    YieldsWf (execRepairReq p g t mask s) := by
  unfold execRepairReq
  refine yieldsWf_done (memory_wf_onUtl h _ _ _ _ fun u hu => ?_)
  split
  · exact hu
  · exact memory_wf_forEach hu (fun c v hv => (memory_wf_sendUtl ..).trans (memory_wf_chunkLines hv ..)) _

/-! ### Twin -/

@[simp] theorem memory_wf_queueReplay (seq : Nat) (r : StampRec) (s : State) :
    Memory.wf (queueReplay seq r s) = Memory.wf s := by
  simp [queueReplay]

theorem memory_wf_queueReplays (w : Nat) : ∀ (l : List (StampRec × Nat)) (u : State),
    Memory.wf (l.foldl (fun u x => queueReplay (w + x.2) x.1 u) u) = Memory.wf u
  | [], _ => rfl
  | x :: l, u => by rw [List.foldl_cons, memory_wf_queueReplays, memory_wf_queueReplay]

@[simp] theorem memory_wf_takeRecords {s : State} (h : Memory.wf s = true) (first : Nat) (recs : List StampRec) :
    Memory.wf (takeRecords first recs s) = true := by
  unfold takeRecords
  dsimp only
  generalize (if first ≤ s.twin.ackSeq + 1 then recs.drop (s.twin.ackSeq + 1 - first) else []) = new
  split
  · simp [h]
  · rw [memory_wf_sendLandingAck]
    split <;> simp [memory_wf_queueReplays, h]

@[simp] theorem yieldsWf_execStampedInput {s : State} (h : Memory.wf s = true) (p : FrameHdr) (first : Nat)
    (recs : List StampRec) : YieldsWf (execStampedInput p first recs s) := by
  unfold execStampedInput
  refine yieldsWf_done ?_
  simp +contextual [h]

@[simp] theorem yieldsWf_execLandingAck {s : State} (h : Memory.wf s = true) (p : FrameHdr)
    (credit ackSeq applied : Nat) : YieldsWf (execLandingAck p credit ackSeq applied s) := by
  unfold execLandingAck
  refine yieldsWf_done ?_
  simp +contextual [h]

@[simp] theorem memory_wf_peerReports {s : State} (h : Memory.wf s = true) (r : Role) (net : Bool) :
    Memory.wf (peerReports r net s) = true := by
  unfold peerReports
  dsimp only
  split <;> simp [h]

@[simp] theorem yieldsWf_execHeartbeat {s : State} (h : Memory.wf s = true) (p : FrameHdr) (role : Role)
    (credit ackSeq applied : Nat) : YieldsWf (execHeartbeat p role credit ackSeq applied s) :=
  yieldsWf_done (memory_wf_onEither h _ _ _ fun _ ht =>
    memory_wf_peerReports (memory_wf_takeReport ((memory_wf_takeCredit ..).trans ht) _) ..)

@[simp] theorem yieldsWf_execEpochFrame {s : State} (h : Memory.wf s = true) (p : FrameHdr) (endSeq : Nat)
    (role : Role) : YieldsWf (execEpochFrame p endSeq role s) := by
  simp [execEpochFrame, h]

@[simp] theorem yieldsWf_execReservedFrameType {s : State} (h : Memory.wf s = true) (p : FrameHdr) (type : Nat) :
    YieldsWf (execReservedFrameType p type s) := by
  simp [execReservedFrameType, h]

@[simp] theorem yieldsWf_execDigest {s : State} (h :
    Memory.wf s = true) (p : FrameHdr) (first : Nat) (value : BitVec 128) :
    YieldsWf (execDigest p first value s) := by
  unfold execDigest
  refine yieldsWf_done (memory_wf_onUtl h _ _ _ _ fun t ht => ?_)
  split
  · split
    · exact (memory_wf_modTwin ..).trans (memory_wf_toSolo ((memory_wf_raise ..).trans ht))
    · exact ht
  · exact ht

@[simp] theorem yieldsWf_execLeaving {s : State} (h : Memory.wf s = true) (p : FrameHdr) (lastSeq : Nat) :
    YieldsWf (execLeaving p lastSeq s) := by
  unfold execLeaving
  refine yieldsWf_done (memory_wf_onEither h _ _ _ fun t ht => ?_)
  split <;> simp [ht]

@[simp] theorem yieldsWf_execRelease {s : State} (h : Memory.wf s = true) (p : FrameHdr) :
    YieldsWf (execRelease p s) := by
  unfold execRelease
  refine yieldsWf_done ?_
  split <;> simp +contextual [h]

@[simp] theorem yieldsWf_execReleaseAck {s : State} (h : Memory.wf s = true) (p : FrameHdr) :
    YieldsWf (execReleaseAck p s) := by
  unfold execReleaseAck
  refine yieldsWf_done ?_
  simp +contextual [h]

@[simp] theorem memory_wf_takeTime (off : Int) (s : State) : Memory.wf (takeTime off s) = Memory.wf s := by
  simp [takeTime]

@[simp] theorem yieldsWf_execTimeFrame {s : State} (h : Memory.wf s = true) (p : FrameHdr) (t1 t2 t3 : Nat) :
    YieldsWf (execTimeFrame p t1 t2 t3 s) := by
  simp [execTimeFrame, h]

@[simp] theorem yieldsWf_execTimeTimer {s : State} (h : Memory.wf s = true) : YieldsWf (execTimeTimer s) := by
  simp [execTimeTimer, h]

@[simp] theorem memory_wf_newKeys {s : State} (h : Memory.wf s = true) (own peer : BitVec 256) :
    Memory.wf (newKeys own peer s) = true := by
  simp [newKeys, h]

@[simp] theorem yieldsWf_execRekey {s : State} (h : Memory.wf s = true) (p : FrameHdr) (rand : BitVec 256) :
    YieldsWf (execRekey p rand s) := by
  unfold execRekey
  refine yieldsWf_done ?_
  simp +contextual [h]

@[simp] theorem yieldsWf_execRekeyCount {s : State} (h : Memory.wf s = true) : YieldsWf (execRekeyCount s) := by
  simp [execRekeyCount, h]

@[simp] theorem yieldsWf_execHandoverFrame {s : State} (h : Memory.wf s = true) (p : FrameHdr) (lastSeq : Nat) :
    YieldsWf (execHandoverFrame p lastSeq s) := by
  unfold execHandoverFrame
  refine yieldsWf_done (memory_wf_onUtl h _ _ _ _ fun t ht => ?_)
  split
  · exact ht
  · split
    · exact (memory_wf_raise ..).trans ht
    · extract_lets t1 e
      have h1 : Memory.wf t1 = true := memory_wf_applyReceived ht _
      clear_value t1
      split
      · exact h1
      · rw [memory_wf_raise, memory_wf_sendUtl]
        exact memory_wf_setRole (memory_wf_setEpoch ((memory_wf_modTwin ..).trans h1) _) _

@[simp] theorem yieldsWf_execHandoverAck {s : State} (h : Memory.wf s = true) (p : FrameHdr) (epoch : Nat) :
    YieldsWf (execHandoverAck p epoch s) := by
  unfold execHandoverAck
  refine yieldsWf_done (memory_wf_onUtl h _ _ _ _ fun t ht => ?_)
  split
  · extract_lets last rds t1 seqr t2 t3
    have h1 : Memory.wf t1 = true :=
      memory_wf_setRole (memory_wf_setEpoch ((memory_wf_modTwin ..).trans (memory_wf_cleanDirty ht)) _) _
    clear_value t1
    have h2 : Memory.wf t2 = true := (memory_wf_refuseAllHeld _).trans ((memory_wf_seqr ..).trans h1)
    clear_value t2
    have h3 : Memory.wf t3 = true := (memory_wf_forEach_eq (fun r u => memory_wf_refuseCxl _ _ _ _ _ u) _ t2).trans h2
    exact (memory_wf_dropQps ..).trans h3
  · exact ht

@[simp] theorem yieldsWf_execHandoverSend {s : State} (h : Memory.wf s = true) : YieldsWf (execHandoverSend s) := by
  simp [execHandoverSend, h]

@[simp] theorem memory_wf_loseUtl (s : State) : Memory.wf (loseUtl s) = Memory.wf s := by simp [loseUtl]
@[simp] theorem memory_wf_loseNet (s : State) : Memory.wf (loseNet s) = Memory.wf s := by simp [loseNet]
@[simp] theorem memory_wf_noteSilence (s : State) : Memory.wf (noteSilence s) = Memory.wf s := by simp [noteSilence]

@[simp] theorem yieldsWf_execHeartbeatTimer {s : State} (h : Memory.wf s = true) :
    YieldsWf (execHeartbeatTimer s) := by
  simp [execHeartbeatTimer, h]

@[simp] theorem yieldsWf_execThbExpiry {s : State} (h : Memory.wf s = true) : YieldsWf (execThbExpiry s) := by
  simp [execThbExpiry, h]

@[simp] theorem yieldsWf_execLeaderUtlSilence {s : State} (h : Memory.wf s = true) :
    YieldsWf (execLeaderUtlSilence s) := by
  simp [execLeaderUtlSilence, h]

@[simp] theorem yieldsWf_execFenceExpiry {s : State} (h : Memory.wf s = true) : YieldsWf (execFenceExpiry s) := by
  simp [execFenceExpiry, h]

@[simp] theorem yieldsWf_execTjoinExpiry {s : State} (h : Memory.wf s = true) : YieldsWf (execTjoinExpiry s) := by
  simp [execTjoinExpiry, h]

@[simp] theorem yieldsWf_execLagHoldStart {s : State} (h : Memory.wf s = true) : YieldsWf (execLagHoldStart s) := by
  simp [execLagHoldStart, h]

@[simp] theorem yieldsWf_execLagHoldLong {s : State} (h : Memory.wf s = true) : YieldsWf (execLagHoldLong s) := by
  simp [execLagHoldLong, h]

@[simp] theorem memory_wf_twinCmd (p : Path) (f : State → State) (h1 : ∀ t, Memory.wf (f t) = Memory.wf t)
    (s : State) : Memory.wf (twinCmd p f s) = Memory.wf s := by
  simp [twinCmd, h1]

@[simp] theorem memory_wf_twinCmd_of {s : State} (h : Memory.wf s = true) (p : Path) (f : State → State)
    (h1 : ∀ t, Memory.wf t = true → Memory.wf (f t) = true) : Memory.wf (twinCmd p f s) = true := by
  simp +contextual [twinCmd, h, h1]

@[simp] theorem memory_wf_twinResult (n : Nat) (s : State) : Memory.wf (twinResult n s) = Memory.wf s := by
  simp [twinResult]

@[simp] theorem yieldsWf_execHandover {s : State} (h : Memory.wf s = true) (p : Path) :
    YieldsWf (execHandover p s) := by
  simp [execHandover, h]

@[simp] theorem memory_wf_promoteCmd {s : State} (h : Memory.wf s = true) : Memory.wf (promoteCmd s) = true := by
  simp [promoteCmd, h]

@[simp] theorem yieldsWf_execResume {s : State} (h : Memory.wf s = true) (p : Path) : YieldsWf (execResume p s) := by
  unfold execResume
  refine yieldsWf_done ?_
  simp +contextual [h]

@[simp] theorem memory_wf_setIncomplete (s : State) : Memory.wf (setIncomplete s) = Memory.wf s := by
  simp [setIncomplete]

@[simp] theorem memory_wf_poisonTile {s : State} (h : Memory.wf s = true) (x : Nat × Nat) :
    Memory.wf (poisonTile x s) = true := by
  unfold poisonTile
  extract_lets s1 s2
  have h1 : Memory.wf s1 = true := memory_wf_forgetTile h ..
  clear_value s1
  have h2 : Memory.wf s2 = Memory.wf s1 := by
    unfold s2
    split
    · exact memory_wf_forEach_eq (fun i t => memory_wf_markT1 _ i t) _ s1
    · rfl
  exact (memory_wf_poisonLines ..).trans (h2.trans h1)

@[simp] theorem memory_wf_missingFrom (have_ : List (Nat × Nat)) (s : State) :
    Memory.wf (missingFrom have_ s) = Memory.wf s := by
  simp [missingFrom]

@[simp] theorem yieldsWf_execForceLead {s : State} (h : Memory.wf s = true) (p : Path) :
    YieldsWf (execForceLead p s) := by
  unfold execForceLead
  refine yieldsWf_done (memory_wf_twinCmd_of h _ _ fun t ht => ?_)
  have hp : Memory.wf (promoteCmd t) = true := memory_wf_promoteCmd ht
  dsimp only
  split
  · simp [ht]
  · split
    · split <;> simp [hp]
    · split
      · split
        · exact hp
        · have hv := memory_wf_forEach hp (fun x u hu => memory_wf_poisonTile hu x) (notInstalled t)
          split <;> simp [hv]
      · simp [ht]

@[simp] theorem yieldsWf_execWitnessGrant {s : State} (h : Memory.wf s = true) (p : Path) :
    YieldsWf (execWitnessGrant p s) := by
  unfold execWitnessGrant
  refine yieldsWf_done (memory_wf_twinCmd_of h _ _ fun t ht => ?_)
  dsimp only
  (repeat' split) <;> simp [ht]

@[simp] theorem yieldsWf_execDivClear {s : State} (h : Memory.wf s = true) (p : Path) :
    YieldsWf (execDivClear p s) := by
  simp [execDivClear, h]

/-! ### Link -/

@[simp] theorem yieldsWf_execUtlRetryTimer {s : State} (h : Memory.wf s = true) : YieldsWf (execUtlRetryTimer s) := by
  simp [execUtlRetryTimer, h]

@[simp] theorem yieldsWf_execUtlTrainLock {s : State} (h : Memory.wf s = true) (mask : BitVec 16) :
    YieldsWf (execUtlTrainLock mask s) := by
  simp [execUtlTrainLock, h]

@[simp] theorem yieldsWf_execUtlTrainTimeout {s : State} (h : Memory.wf s = true) :
    YieldsWf (execUtlTrainTimeout s) := by
  simp [execUtlTrainTimeout, h]

@[simp] theorem yieldsWf_execUtlNegotiateTimeout {s : State} (h : Memory.wf s = true) :
    YieldsWf (execUtlNegotiateTimeout s) := by
  simp [execUtlNegotiateTimeout, h]

@[simp] theorem yieldsWf_execNegotiateTimer {s : State} (h : Memory.wf s = true) :
    YieldsWf (execNegotiateTimer s) := by
  simp [execNegotiateTimer, h]

@[simp] theorem memory_wf_linkStarts {s : State} (h : Memory.wf s = true) (n : NegRec) (rtt : Nat) :
    Memory.wf (linkStarts n rtt s) = true := by
  simp [linkStarts, h]

@[simp] theorem yieldsWf_execNegotiate {s : State} (h : Memory.wf s = true) (p : FrameHdr) (n : NegRec) (rtt : Nat) :
    YieldsWf (execNegotiate p n rtt s) := by
  unfold execNegotiate
  refine yieldsWf_done ?_
  simp [h]

@[simp] theorem memory_wf_resend (expected : Nat) (s : State) : Memory.wf (resend expected s) = Memory.wf s := by
  simp [resend]

@[simp] theorem yieldsWf_execRetryReq {s : State} (h : Memory.wf s = true) (p : FrameHdr) (expected : Nat) :
    YieldsWf (execRetryReq p expected s) := by
  simp [execRetryReq, h]

@[simp] theorem memory_wf_useLanes (m : BitVec 16) (s : State) : Memory.wf (useLanes m s) = Memory.wf s := by
  unfold useLanes
  dsimp only
  split <;> simp

@[simp] theorem yieldsWf_execLaneChange {s : State} (h : Memory.wf s = true) (p : FrameHdr) (mask : BitVec 16)
    (confirm : Bool) : YieldsWf (execLaneChange p mask confirm s) := by
  simp [execLaneChange, h]

@[simp] theorem yieldsWf_execUtlLaneFault {s : State} (h : Memory.wf s = true) (healthy : BitVec 16) :
    YieldsWf (execUtlLaneFault healthy s) := by
  unfold execUtlLaneFault
  refine yieldsWf_done ?_
  (repeat' split) <;> simp [h]

@[simp] theorem yieldsWf_execLaneChangeTimeout {s : State} (h : Memory.wf s = true) :
    YieldsWf (execLaneChangeTimeout s) := by
  simp [execLaneChangeTimeout, h]

@[simp] theorem yieldsWf_execRewiden {s : State} (h : Memory.wf s = true) (p : Path) :
    YieldsWf (execRewiden p s) := by
  simp [execRewiden, h]

end Sys2Proof.Machine
end

section
/-!
PROOFS. Canonical memories: the commands of the cipher, bring-up, replay, faults, the store, control space and groves.
-/

namespace Sys2Proof.Machine

open Sys2Proof

set_option maxRecDepth 20000

/-! ### Cipher -/

@[simp] theorem memory_wf_dropSessions (n : Nat) (s : State) : Memory.wf (dropSessions n s) = Memory.wf s := by
  unfold dropSessions
  dsimp only
  split <;> simp

@[simp] theorem memory_wf_cipherResult (n : Nat) (s : State) : Memory.wf (cipherResult n s) = Memory.wf s := by
  simp [cipherResult]

@[simp] theorem yieldsWf_execZeroise {s : State} (h : Memory.wf s = true) (p : Path) (slot : Nat) :
    YieldsWf (execZeroise p slot s) := by
  simp [execZeroise, h]

@[simp] theorem yieldsWf_execRoll {s : State} (h : Memory.wf s = true) (p : Path) (slot : Nat) :
    YieldsWf (execRoll p slot s) := by
  unfold execRoll
  refine yieldsWf_done ?_
  simp +contextual [h]

@[simp] theorem memory_wf_recrypt {s : State} (h : Memory.wf s = true) (g t : Nat) :
    Memory.wf (recrypt g t s) = true := by
  unfold recrypt
  split
  · exact h
  · refine memory_wf_forEach h (fun i u hu => ?_) _
    dsimp only
    split
    · exact memory_wf_putT1 (by simp [hu]) ..
    · simp [hu]

@[simp] theorem yieldsWf_execRollWalk {s : State} (h : Memory.wf s = true) (slot : Nat) (errs : List LineRead) :
    YieldsWf (execRollWalk slot errs s) := by
  unfold execRollWalk
  extract_lets s0 g setAt
  have h0 : Memory.wf s0 = true := (memory_wf_noteReads ..).trans h
  clear_value s0
  have hs : ∀ k t, Memory.wf (setAt k t) = Memory.wf t := fun _ _ => rfl
  clear_value setAt
  refine yieldsWf_done ?_
  split
  · exact h0
  · split
    · exact (memory_wf_forEach_eq (fun n t => memory_wf_queueReloc n t) _ _).trans ((hs ..).trans h0)
    · split
      · exact h0
      · dsimp only
        rw [hs, memory_wf_moved, memory_wf_chargeLines]
        exact memory_wf_useSlot (memory_wf_useGrove (memory_wf_recrypt ((memory_wf_wakeTile ..).trans h0) ..) ..) ..

@[simp] theorem yieldsWf_execRollComplete {s : State} (h : Memory.wf s = true) (slot : Nat) :
    YieldsWf (execRollComplete slot s) := by
  simp [execRollComplete, h]

@[simp] theorem memory_wf_refuseKey (p : Path) (tag code : Nat) (s : State) :
    Memory.wf (refuseKey p tag code s) = Memory.wf s := by
  simp [refuseKey]

@[simp] theorem memory_wf_keyEntered (n : Nat) (s : State) : Memory.wf (keyEntered n s) = Memory.wf s := by
  simp [keyEntered]

/-- A Belvor command of management that came in the format of version 2. -/
theorem memory_wf_belvorV2 {s : State} (h : Memory.wf s = true) (v1 : Bool) (p : Path) (tag code : Nat)
    {f : State → State} (h1 : ∀ t, Memory.wf t = true → Memory.wf (f t) = true) :
    Memory.wf (belvor p tag code (fromV2 v1 p tag code (mgmtOnly p tag code f)) s) = true :=
  memory_wf_belvor_of h _ _ _ _ fun _ ht =>
    memory_wf_fromV2_of ht _ _ _ _ _ fun _ hu => memory_wf_mgmtOnly_of hu _ _ _ _ h1

@[simp] theorem yieldsWf_execKeyGenerate {s : State} (h : Memory.wf s = true) (p : Path) (tag : Nat) (v1 : Bool)
    (slot : Nat) : YieldsWf (execKeyGenerate p tag v1 slot s) := by
  unfold execKeyGenerate
  refine yieldsWf_done (memory_wf_belvorV2 h _ _ _ _ fun t ht => ?_)
  split <;> simp [ht]

@[simp] theorem yieldsWf_execKeyImport {s : State} (h : Memory.wf s = true) (p : Path) (tag : Nat) (v1 : Bool)
    (slot : Nat) (unwrapOk : Bool) (key : BitVec 512) : YieldsWf (execKeyImport p tag v1 slot unwrapOk key s) := by
  unfold execKeyImport
  refine yieldsWf_done (memory_wf_belvorV2 h _ _ _ _ fun t ht => ?_)
  dsimp only
  split <;> simp [ht]

@[simp] theorem memory_wf_stopRing (s : State) : Memory.wf (stopRing s) = Memory.wf s :=
  (memory_wf_raise ..).trans (memory_wf_setBit ..)

@[simp] theorem yieldsWf_execRqTailWrite {s : State} (h : Memory.wf s = true) (p : Path) (tail : Nat) :
    YieldsWf (execRqTailWrite p tail s) := by
  simp [execRqTailWrite, h]

@[simp] theorem yieldsWf_execRingRestart {s : State} (h : Memory.wf s = true) (p : Path) :
    YieldsWf (execRingRestart p s) := by
  simp [execRingRestart, h]

@[simp] theorem memory_wf_finishDesc {s : State} (h : Memory.wf s = true) (at_ outLen code : Nat) (irq : Bool) :
    Memory.wf (finishDesc at_ outLen code irq s) = true := by
  simp [finishDesc, h, memory_wf_spPut]

@[simp] theorem memory_wf_runDesc {s : State} (h : Memory.wf s = true) (mode : Nat) :
    Memory.wf (runDesc mode s) = true := by
  unfold runDesc
  extract_lets at_ d c r s1
  have h1 : Memory.wf s1 = true := memory_wf_useSlot h ..
  clear_value s1 d r
  have out : ∀ l, Memory.wf (spPut d.dst l s1) = true := memory_wf_spPut h1 _
  simp [h, out]

@[simp] theorem yieldsWf_execDescriptorXts {s : State} (h : Memory.wf s = true) : YieldsWf (execDescriptorXts s) := by
  simp [execDescriptorXts, h]

@[simp] theorem yieldsWf_execDescriptorGcm {s : State} (h : Memory.wf s = true) : YieldsWf (execDescriptorGcm s) := by
  simp [execDescriptorGcm, h]

@[simp] theorem yieldsWf_execDescriptorCmac {s : State} (h : Memory.wf s = true) :
    YieldsWf (execDescriptorCmac s) := by
  simp [execDescriptorCmac, h]

@[simp] theorem yieldsWf_execDescriptorKwp {s : State} (h : Memory.wf s = true) : YieldsWf (execDescriptorKwp s) := by
  simp [execDescriptorKwp, h]

@[simp] theorem yieldsWf_execLaneSelfTest {s : State} (h : Memory.wf s = true) (lane : Nat) (ok : Bool) :
    YieldsWf (execLaneSelfTest lane ok s) := by
  simp [execLaneSelfTest, h]

theorem memory_wf_sat (l : List Nat) (s : State) :
    Memory.wf { s with cipher := { s.cipher with sat := l } } = Memory.wf s := rfl

@[simp] theorem yieldsWf_execCipherSaturation {s : State} (h : Memory.wf s = true) (cls us : Nat) :
    YieldsWf (execCipherSaturation cls us s) := by
  unfold execCipherSaturation
  refine yieldsWf_onUnit h ?_ _
  split
  · exact h
  · extract_lets s1 l cipher
    have h1 : Memory.wf s1 = true := (memory_wf_bumpRc ..).trans h
    clear_value s1
    exact (memory_wf_onlyIf _ _ (fun _ => memory_wf_raise ..) _).trans ((memory_wf_sat l s1).trans h1)

/-! ### Bringup -/

@[simp] theorem memory_wf_toStage (n : Nat) (s : State) : Memory.wf (toStage n s) = Memory.wf s := by simp [toStage]

@[simp] theorem memory_wf_useSpare (m : Nat) (col : Bool) (s : State) :
    Memory.wf (useSpare m col s) = Memory.wf s := by
  simp [useSpare]

@[simp] theorem memory_wf_applyRepairs {s : State} (h : Memory.wf s = true) : Memory.wf (applyRepairs s) = true := by
  simp [applyRepairs, h]

@[simp] theorem memory_wf_takeDeferred (s : State) : Memory.wf (takeDeferred s) = Memory.wf s := by simp [takeDeferred]
@[simp] theorem memory_wf_tornFound (s : State) : Memory.wf (tornFound s) = Memory.wf s := by simp [tornFound]

@[simp] theorem memory_wf_disableLanes (l : List Nat) (s : State) : Memory.wf (disableLanes l s) = Memory.wf s := by
  simp [disableLanes]

@[simp] theorem yieldsWf_execStage3 {s : State} (h : Memory.wf s = true) (fuseOk bistOk : Bool)
    (badLanes : List Nat) : YieldsWf (execStage3 fuseOk bistOk badLanes s) := by
  simp [execStage3, h]

@[simp] theorem yieldsWf_execStage4 {s : State} (h : Memory.wf s = true) (locked : Bool) :
    YieldsWf (execStage4 locked s) := by
  simp [execStage4, h]

@[simp] theorem memory_wf_noteFail (bank : Nat) (f : ImgFail) (s : State) :
    Memory.wf (noteFail bank f s) = Memory.wf s := by
  unfold noteFail
  split <;> simp

@[simp] theorem memory_wf_tryBanks (fwVersion : Word) (l : List Nat) (s : State) :
    Memory.wf (tryBanks fwVersion l s) = Memory.wf s := by
  induction l generalizing s with
  | nil => exact memory_wf_stopNode s
  | cons b rest ih =>
    unfold tryBanks
    split
    · rw [ih]
      simp
    · simp

@[simp] theorem memory_wf_clearImageRegs (s : State) : Memory.wf (clearImageRegs s) = Memory.wf s := by
  simp [clearImageRegs]

@[simp] theorem memory_wf_checkSectors {s : State} (h : Memory.wf s = true) : Memory.wf (checkSectors s) = true := by
  simp [checkSectors, h]

@[simp] theorem yieldsWf_execStage5 {s : State} (h : Memory.wf s = true) (va vb : BankVerdict) (fwVersion : Word) :
    YieldsWf (execStage5 va vb fwVersion s) := by
  simp [execStage5, h]

@[simp] theorem memory_wf_setRegs (id : RegId) (vs : List Nat) (s : State) :
    Memory.wf (setRegs id vs s) = Memory.wf s := by
  simp [setRegs]

@[simp] theorem memory_wf_applyMediaRegs (im : Image) (s : State) :
    Memory.wf (applyMediaRegs im s) = Memory.wf s := by
  simp [applyMediaRegs]

@[simp] theorem memory_wf_applyTierRegs (im : Image) (s : State) : Memory.wf (applyTierRegs im s) = Memory.wf s := by
  simp [applyTierRegs]

@[simp] theorem memory_wf_applyPortRegs (im : Image) (s : State) : Memory.wf (applyPortRegs im s) = Memory.wf s := by
  simp [applyPortRegs]

@[simp] theorem memory_wf_applyUnitRegs (im : Image) (s : State) : Memory.wf (applyUnitRegs im s) = Memory.wf s := by
  simp [applyUnitRegs]

@[simp] theorem memory_wf_applyFaults (im : Image) (s : State) : Memory.wf (applyFaults im s) = Memory.wf s := by
  simp [applyFaults]

@[simp] theorem memory_wf_applyPower {s : State} (h : Memory.wf s = true) (im : Image) :
    Memory.wf (applyPower im s) = true := by
  simp [applyPower, h]

@[simp] theorem memory_wf_loadSlot (im : Image) (x : ImgSlot) (s : State) :
    Memory.wf (loadSlot im x s) = Memory.wf s := by
  unfold loadSlot
  (repeat' split) <;> simp

theorem memory_wf_reformat (b : Bool) (s : State) :
    Memory.wf { s with cfg := { s.cfg with reformat := b } } = Memory.wf s := rfl

@[simp] theorem memory_wf_genSlots {s : State} (h : Memory.wf s = true) (im : Image) :
    Memory.wf (genSlots im s) = true := by
  unfold genSlots
  extract_lets s1 cfg
  have h1 : Memory.wf s1 = true :=
    memory_wf_forEach h (fun x t ht => memory_wf_generateKey ((memory_wf_setSlot ..).trans ht) _) _
  clear_value s1
  exact memory_wf_putNode ((memory_wf_reformat true s1).trans h1) _

@[simp] theorem memory_wf_applySlots {s : State} (h : Memory.wf s = true) (im : Image) :
    Memory.wf (applySlots im s) = true := by
  simp [applySlots, h]

@[simp] theorem memory_wf_applyHosts (im : Image) (s : State) : Memory.wf (applyHosts im s) = Memory.wf s := by
  simp [applyHosts]

@[simp] theorem memory_wf_applyNets (im : Image) (s : State) : Memory.wf (applyNets im s) = Memory.wf s :=
  memory_wf_forEach_eq (fun p t => memory_wf_updNet p _ t) _ s

@[simp] theorem memory_wf_applyFigures (im : Image) (s : State) : Memory.wf (applyFigures im s) = Memory.wf s := by
  simp [applyFigures]

@[simp] theorem memory_wf_applyImage {s : State} (h : Memory.wf s = true) (im : Image) :
    Memory.wf (applyImage im s) = true := by
  simp [applyImage, h]

@[simp] theorem yieldsWf_execStage6 {s : State} (h : Memory.wf s = true) : YieldsWf (execStage6 s) := by
  unfold execStage6
  refine yieldsWf_done ?_
  dsimp only
  (repeat' split) <;> simp [h]

/-! ### Replay -/

@[simp] theorem memory_wf_coldChan (im : Image) (c : Nat) (r : Option DramTrain) (s : State) :
    Memory.wf (coldChan im c r s) = Memory.wf s := by
  unfold coldChan
  split <;> simp

@[simp] theorem memory_wf_coldSets (im : Image) (s : State) : Memory.wf (coldSets im s) = Memory.wf s := by
  simp [coldSets]

@[simp] theorem memory_wf_placeMeta (fuel t k : Nat) (s : State) : Memory.wf (placeMeta fuel t k s) = Memory.wf s := by
  induction fuel generalizing t k s with
  | zero => rfl
  | succ n ih =>
    unfold placeMeta
    extract_lets on top
    clear_value on top
    split
    · rfl
    · split
      · rfl
      · extract_lets m
        split
        · rfl
        · exact ih ..
      · exact ih ..

@[simp] theorem memory_wf_coldMeta (im : Image) (s : State) : Memory.wf (coldMeta im s) = Memory.wf s := by
  simp [coldMeta]

@[simp] theorem memory_wf_keepMeta (n fuel : Nat) (s : State) : Memory.wf (keepMeta n fuel s) = Memory.wf s := by
  induction fuel generalizing s with
  | zero => rfl
  | succ k ih =>
    unfold keepMeta
    split
    · rfl
    · extract_lets a b s1
      have h1 : Memory.wf s1 = Memory.wf s := by
        unfold s1
        split
        · exact memory_wf_forEach_eq (fun _ _ => memory_wf_loseMetaLine ..) _ s
        · rfl
      clear_value s1
      split
      · rw [ih, memory_wf_useFree, memory_wf_rehome, h1]
      · exact h1

@[simp] theorem memory_wf_loseFrame {s : State} (h : Memory.wf s = true) (x : Nat × Nat × Nat) :
    Memory.wf (loseFrame x s) = true := by
  simp [loseFrame, h, memory_wf_dropFrame]

@[simp] theorem memory_wf_loseSet {s : State} (h : Memory.wf s = true) (n : Nat) : Memory.wf (loseSet n s) = true := by
  unfold loseSet
  dsimp only
  rw [memory_wf_keepMeta, memory_wf_setChannels, memory_wf_updSet]
  exact memory_wf_forEach h (fun x t ht => memory_wf_loseFrame ht x) _

@[simp] theorem memory_wf_warmChan (c : Nat) (r : Option DramTrain) (s : State) :
    Memory.wf (warmChan c r s) = Memory.wf s := by
  simp [warmChan]

@[simp] theorem memory_wf_trainDram {s : State} (h : Memory.wf s = true) (im : Image) (d : List DramTrain) :
    Memory.wf (trainDram im d s) = true := by
  simp +contextual [trainDram, h]

@[simp] theorem memory_wf_trainDie (ch die : Nat) (chOk ok : Bool) (s : State) :
    Memory.wf (trainDie ch die chOk ok s) = Memory.wf s := by
  simp [trainDie]

@[simp] theorem memory_wf_trainNandCh (im : Image) (c : Nat) (r : Option NandTrain) (s : State) :
    Memory.wf (trainNandCh im c r s) = Memory.wf s := by
  unfold trainNandCh
  split <;> simp

@[simp] theorem memory_wf_trainNand (im : Image) (l : List NandTrain) (s : State) :
    Memory.wf (trainNand im l s) = Memory.wf s := by
  simp [trainNand]

@[simp] theorem memory_wf_mclkOn (s : State) : Memory.wf (mclkOn s) = Memory.wf s := by simp [mclkOn]

@[simp] theorem yieldsWf_execStage7 {s : State} (h : Memory.wf s = true) (dram : List DramTrain)
    (nand : List NandTrain) : YieldsWf (execStage7 dram nand s) := by
  simp [execStage7, h]

@[simp] theorem memory_wf_poisonMissing (v : Vault) (s : State) : Memory.wf (poisonMissing v s) = Memory.wf s := by
  simp [poisonMissing]

@[simp] theorem memory_wf_fromVault {s : State} (h : Memory.wf s = true) {v : Vault} (hv : SMap.wf none v.land = true) :
    Memory.wf (fromVault v s).st = true := by
  unfold fromVault
  dsimp only
  rw [memory_wf_poisonMissing]
  rw [memory_wf_and] at h ⊢
  obtain ⟨t1, t2, cel, -, rest⟩ := h
  exact ⟨t1, t2, cel, hv, rest⟩

/-- A state whose Cellar is emptied. -/
theorem memory_wf_cellarEmpty {s : State} (h : Memory.wf s = true) (x : Meta) :
    Memory.wf { s with tier := { s.tier with md := x, celRecs := [], cel := [] } } = true := by
  rw [memory_wf_and] at h ⊢
  obtain ⟨t1, t2, -, rest⟩ := h
  exact ⟨t1, t2, rfl, rest⟩

@[simp] theorem memory_wf_fromTrickle {s : State} (h : Memory.wf s = true) (keepSealed : Bool) :
    Memory.wf (fromTrickle keepSealed s).st = true := memory_wf_cellarEmpty h _

/-- The landing entries that a vault of a state in canonical form holds are in canonical form. -/
theorem land_wf_of_vault {s : State} (h : Memory.wf s = true) {v : Vault} (there : s.tier.vault = some v) :
    SMap.wf none v.land = true := by
  rw [memory_wf_and] at h
  obtain ⟨-, -, -, -, vault, -⟩ := h
  simpa [there] using vault

@[simp] theorem memory_wf_coldReplay {s : State} (h : Memory.wf s = true) (readable : Bool) :
    Memory.wf (coldReplay readable s).st = true := by
  unfold coldReplay
  split
  · exact memory_wf_cellarEmpty h _
  · split
    · exact memory_wf_fromTrickle h false
    · split
      · next v there =>
        split
        · exact memory_wf_fromTrickle h true
        · exact memory_wf_fromVault h (land_wf_of_vault h there)
      · exact memory_wf_fromTrickle h true

theorem wf_foldl_del {α V : Type} [DecidableEq V] {d : V} (key : α → Nat) : ∀ (l : List α) {m : SMap V},
    SMap.wf d m = true → SMap.wf d (l.foldl (fun m x => SMap.del m (key x)) m) = true
  | [], _, h => h
  | x :: l, _, h => wf_foldl_del key l (SMap.wf_del h (key x))

theorem wf_foldl_upd {α V : Type} [DecidableEq V] {d : V} (key : α → Nat) (f : V → V) : ∀ (l : List α) {m : SMap V},
    SMap.wf d m = true → SMap.wf d (l.foldl (fun m x => SMap.upd m d (key x) f) m) = true
  | [], _, h => h
  | x :: l, _, h => wf_foldl_upd key f l (SMap.wf_upd h (key x) f)

@[simp] theorem memory_wf_warmReplay {s : State} (h : Memory.wf s = true) (bm bd : List (Nat × Nat)) :
    Memory.wf (warmReplay bm bd s).st = true := by
  unfold warmReplay
  extract_lets keyOf found gone bad land1 land2 inTable landed vols again
  refine memory_wf_forEach ?_ (fun p t ht => by simp [ht]) _
  rw [memory_wf_and] at h ⊢
  obtain ⟨t1, t2, cel, land, rest⟩ := h
  exact ⟨t1, t2, cel, wf_foldl_upd keyOf _ bad (wf_foldl_del keyOf gone land), rest⟩

/-- The journal, the map and the tables of the groves hold no line of memory. -/
theorem memory_wf_md (x : Meta) (s : State) : Memory.wf { s with tier := { s.tier with md := x } } = Memory.wf s := rfl

@[simp] theorem memory_wf_relayGroves {s : State} (h : Memory.wf s = true) (im : Image) :
    Memory.wf (relayGroves im s) = true := by
  unfold relayGroves
  rw [memory_wf_md]
  refine memory_wf_forEach h (fun p t ht => ?_) _
  split
  · exact memory_wf_forEach ht (fun _ _ hu => memory_wf_releaseTile hu ..) _
  · exact memory_wf_forEach ht (fun _ _ hu => memory_wf_releaseTile hu ..) _

@[simp] theorem memory_wf_applyRelayout {s : State} (h : Memory.wf s = true) (im : Image) :
    Memory.wf (applyRelayout im s) = true := by
  simp [applyRelayout, h]

@[simp] theorem memory_wf_layoutStep {s : State} (h : Memory.wf s = true) (im : Image) :
    Memory.wf (layoutStep im s) = true := by
  simp [layoutStep, h]

@[simp] theorem memory_wf_listExtents (s : State) : Memory.wf (listExtents s) = Memory.wf s := by
  unfold listExtents
  split
  · rfl
  · refine memory_wf_forEach_eq (fun p t => ?_) _ s
    (repeat' split) <;> simp

@[simp] theorem memory_wf_restartSeals (s : State) : Memory.wf (restartSeals s) = Memory.wf s := by simp [restartSeals]

@[simp] theorem memory_wf_eraseOne {s : State} (h : Memory.wf s = true) (bad : List Nat) (p : Nat) :
    Memory.wf (eraseOne bad p s) = true := by
  simp [eraseOne, h]

@[simp] theorem memory_wf_eraseAgain {s : State} (h : Memory.wf s = true) (bad : List Nat) :
    Memory.wf (eraseAgain bad s) = true := by
  simp +contextual [eraseAgain, h]

@[simp] theorem memory_wf_sizeCellar (s : State) : Memory.wf (sizeCellar s) = Memory.wf s := by simp [sizeCellar]

@[simp] theorem memory_wf_missingDie (k : Nat) (s : State) : Memory.wf (missingDie k s) = Memory.wf s := by
  simp [missingDie]

@[simp] theorem memory_wf_missingDies (s : State) : Memory.wf (missingDies s) = Memory.wf s := by simp [missingDies]
@[simp] theorem memory_wf_nameSlots (s : State) : Memory.wf (nameSlots s) = Memory.wf s := by simp [nameSlots]

@[simp] theorem memory_wf_flagGroves (r : Replay) (s : State) : Memory.wf (flagGroves r s) = Memory.wf s := by
  simp [flagGroves]

@[simp] theorem memory_wf_findVault {s : State} (h : Memory.wf s = true) : Memory.wf (findVault s) = true := by
  unfold findVault
  split <;> simp [h]

theorem memory_wf_twin (x : Twin) (s : State) : Memory.wf { s with twin := x } = Memory.wf s := rfl

@[simp] theorem yieldsWf_execStage8 {s : State} (h : Memory.wf s = true) (anchorReadable : Bool)
    (badMeta badData : List (Nat × Nat)) (badErase : List Nat) :
    YieldsWf (execStage8 anchorReadable badMeta badData badErase s) := by
  unfold execStage8
  refine yieldsWf_done ?_
  split
  · exact h
  · extract_lets im r s0 s1 s2 twin s3
    have hr : Memory.wf r.st = true := by
      unfold r
      split
      · exact memory_wf_warmReplay h ..
      · exact memory_wf_coldReplay h _
    clear_value r
    have h0 : Memory.wf s0 = true := by
      unfold s0
      split
      · exact hr
      · exact memory_wf_findVault hr
    clear_value s0
    have h1 : Memory.wf s1 = true := by simp [s1, h0]
    clear_value s1
    have h2 : Memory.wf s2 = true := by simp [s2, h1]
    clear_value s2
    have h3 : Memory.wf s3 = true := (memory_wf_twin _ s2).trans h2
    clear_value s3
    simp [h3]

@[simp] theorem yieldsWf_execStage9 {s : State} (h : Memory.wf s = true) : YieldsWf (execStage9 s) := by
  simp [execStage9, h]

@[simp] theorem yieldsWf_execReady {s : State} (h : Memory.wf s = true) : YieldsWf (execReady s) := by
  unfold execReady
  refine yieldsWf_done ?_
  simp +contextual [h]

/-! ### Thermal -/

@[simp] theorem memory_wf_takeSample (temps : List Int) (n : Nat) (s : State) :
    Memory.wf (takeSample temps n s) = Memory.wf s := by
  simp [takeSample]

@[simp] theorem memory_wf_updQuad (q : Nat) (f : Quad → Quad) (s : State) :
    Memory.wf (updQuad q f s) = Memory.wf s := by
  simp [updQuad]

@[simp] theorem memory_wf_noteHot (q : Nat) (s : State) : Memory.wf (noteHot q s) = Memory.wf s := by
  unfold noteHot
  split <;> simp

@[simp] theorem memory_wf_noteSpread (s : State) : Memory.wf (noteSpread s) = Memory.wf s := by
  unfold noteSpread
  dsimp only
  (repeat' split) <;> simp

@[simp] theorem memory_wf_releaseTrip (s : State) : Memory.wf (releaseTrip s) = Memory.wf s := by simp [releaseTrip]

@[simp] theorem yieldsWf_execThermalSample {s : State} (h : Memory.wf s = true) (temps : List Int) :
    YieldsWf (execThermalSample temps s) := by
  simp [execThermalSample, h]

@[simp] theorem memory_wf_stepDuty (q : Nat) (s : State) : Memory.wf (stepDuty q s) = Memory.wf s := by simp [stepDuty]

@[simp] theorem yieldsWf_execDutyUpdate {s : State} (h : Memory.wf s = true) : YieldsWf (execDutyUpdate s) := by
  simp [execDutyUpdate, h]

@[simp] theorem memory_wf_cutAnywhere {s : State} (h : Memory.wf s = true) : Memory.wf (cutAnywhere s) = true := by
  simp [cutAnywhere, h]

@[simp] theorem memory_wf_noteTrip (n : Nat) (analog : Bool) (t : Int) (s : State) :
    Memory.wf (noteTrip n analog t s) = Memory.wf s := by
  simp [noteTrip]

@[simp] theorem yieldsWf_execThermalTrip {s : State} (h : Memory.wf s = true) (sensor : Nat) (analog : Bool)
    (temp : Int) : YieldsWf (execThermalTrip sensor analog temp s) := by
  unfold execThermalTrip
  refine yieldsWf_onUnit h ?_ _
  (repeat' split) <;> simp [h]

@[simp] theorem yieldsWf_execPpsEdge {s : State} (h : Memory.wf s = true) : YieldsWf (execPpsEdge s) := by
  simp [execPpsEdge, h]

@[simp] theorem yieldsWf_execPpsMissing {s : State} (h : Memory.wf s = true) : YieldsWf (execPpsMissing s) := by
  simp [execPpsMissing, h]

@[simp] theorem memory_wf_correct (c : Int) (s : State) : Memory.wf (correct c s) = Memory.wf s := by simp [correct]

@[simp] theorem yieldsWf_execGtcCorrection {s : State} (h : Memory.wf s = true) (p : Path) (hi : Word) :
    YieldsWf (execGtcCorrection p hi s) := by
  unfold execGtcCorrection
  refine yieldsWf_done ?_
  dsimp only
  (repeat' split) <;> simp [h]

@[simp] theorem memory_wf_clkLost (d event : Nat) (s : State) : Memory.wf (clkLost d event s) = Memory.wf s := by
  simp [clkLost]

@[simp] theorem yieldsWf_execPllLockLoss {s : State} (h : Memory.wf s = true) (domain : Nat) :
    YieldsWf (execPllLockLoss domain s) := by
  simp [execPllLockLoss, h]

@[simp] theorem yieldsWf_execRefclkLoss {s : State} (h : Memory.wf s = true) (domain : Nat) :
    YieldsWf (execRefclkLoss domain s) := by
  simp [execRefclkLoss, h]

@[simp] theorem memory_wf_portCrossing (e : Nat) (s : State) : Memory.wf (portCrossing e s) = Memory.wf s := by
  simp [portCrossing]

@[simp] theorem yieldsWf_execCrossingFault {s : State} (h : Memory.wf s = true) (event : Nat) :
    YieldsWf (execCrossingFault event s) := by
  simp [execCrossingFault, h]

/-! ### Faults -/

@[simp] theorem yieldsWf_execLeakTick {s : State} (h : Memory.wf s = true) (event : Nat) :
    YieldsWf (execLeakTick event s) := by
  simp [execLeakTick, h]

@[simp] theorem memory_wf_actLevel {s : State} (h : Memory.wf s = true) (l e tgt : Nat) :
    Memory.wf (actLevel l e tgt s) = true := by
  unfold actLevel
  split <;> simp [h]

@[simp] theorem yieldsWf_execGraceExpiry {s : State} (h : Memory.wf s = true) (event : Nat) :
    YieldsWf (execGraceExpiry event s) := by
  simp [execGraceExpiry, h]

@[simp] theorem memory_wf_acknowledge (e : Nat) (s : State) : Memory.wf (acknowledge e s) = Memory.wf s := by
  simp [acknowledge]

@[simp] theorem yieldsWf_execSevereAcknowledge {s : State} (h : Memory.wf s = true) (p : Path) (k : Nat)
    (bits : Word) : YieldsWf (execSevereAcknowledge p k bits s) := by
  unfold execSevereAcknowledge
  refine yieldsWf_done ?_
  simp [h]

@[simp] theorem yieldsWf_execAckAll {s : State} (h : Memory.wf s = true) (p : Path) : YieldsWf (execAckAll p s) := by
  unfold execAckAll
  refine yieldsWf_done ?_
  simp [h]

@[simp] theorem yieldsWf_execReleaseGrove {s : State} (h : Memory.wf s = true) (p : Path) (grove : Nat) :
    YieldsWf (execReleaseGrove p grove s) := by
  simp +contextual [execReleaseGrove, h]

@[simp] theorem yieldsWf_execReleasePort {s : State} (h : Memory.wf s = true) (p : Path) (port : Nat) :
    YieldsWf (execReleasePort p port s) := by
  simp [execReleasePort, h]

@[simp] theorem memory_wf_endLap (m : Nat) (s : State) : Memory.wf (endLap m s) = Memory.wf s := by simp [endLap]

@[simp] theorem yieldsWf_execScrubRead {s : State} (h : Memory.wf s = true) (id : Nat) (err stuck : BitVec 80) :
    YieldsWf (execScrubRead id err stuck s) := by
  simp [execScrubRead, h]

@[simp] theorem yieldsWf_execFlipArm {s : State} (h : Memory.wf s = true) (p : Path) (v : Word) :
    YieldsWf (execFlipArm p v s) := by
  simp [execFlipArm, h]

@[simp] theorem memory_wf_globalUnits (f : Nat → State → State) (h1 : ∀ x0 t, Memory.wf (f x0 t) = Memory.wf t)
    (s : State) : Memory.wf (globalUnits f s) = Memory.wf s := by
  simp [globalUnits, h1]

@[simp] theorem memory_wf_clearUnit (u : Nat) (s : State) : Memory.wf (clearUnit u s) = Memory.wf s := by
  simp [clearUnit]

@[simp] theorem yieldsWf_execPerfStart {s : State} (h : Memory.wf s = true) (p : Path) :
    YieldsWf (execPerfStart p s) := by
  unfold execPerfStart
  refine yieldsWf_done ?_
  simp [h]

@[simp] theorem yieldsWf_execPerfStop {s : State} (h : Memory.wf s = true) (p : Path) :
    YieldsWf (execPerfStop p s) := by
  unfold execPerfStop
  refine yieldsWf_done ?_
  simp [h]

@[simp] theorem yieldsWf_execPerfGlobalClear {s : State} (h : Memory.wf s = true) (p : Path) :
    YieldsWf (execPerfGlobalClear p s) := by
  unfold execPerfGlobalClear
  refine yieldsWf_done ?_
  simp [h]

@[simp] theorem yieldsWf_execPerfUnitClear {s : State} (h : Memory.wf s = true) (p : Path) (unit : Nat) :
    YieldsWf (execPerfUnitClear p unit s) := by
  simp [execPerfUnitClear, h]

@[simp] theorem memory_wf_writeRec (p : Nat) (s : State) : Memory.wf (writeRec p s) = Memory.wf s := by
  unfold writeRec
  dsimp only
  (repeat' split) <;> simp

@[simp] theorem yieldsWf_execEpochBoundary {s : State} (h : Memory.wf s = true) : YieldsWf (execEpochBoundary s) := by
  simp [execEpochBoundary, h]

@[simp] theorem yieldsWf_execFreeze {s : State} (h : Memory.wf s = true) (p : Path) : YieldsWf (execFreeze p s) := by
  simp +contextual [execFreeze, h]

@[simp] theorem yieldsWf_execThaw {s : State} (h : Memory.wf s = true) (p : Path) : YieldsWf (execThaw p s) := by
  simp [execThaw, h]

@[simp] theorem yieldsWf_execRecClear {s : State} (h : Memory.wf s = true) (p : Path) :
    YieldsWf (execRecClear p s) := by
  simp [execRecClear, h]

/-! ### Store -/

@[simp] theorem memory_wf_modEng (f : FlashEng → FlashEng) (s : State) : Memory.wf (modEng f s) = Memory.wf s := by
  simp [modEng]

@[simp] theorem memory_wf_seqErr (s : State) : Memory.wf (seqErr s) = Memory.wf s := by simp [seqErr]

@[simp] theorem memory_wf_startStore (cmd a : Nat) (data : List Word) (owed : Option (Path × Nat)) (s : State) :
    Memory.wf ((startStore cmd a data owed s).1) = Memory.wf s := by
  unfold startStore
  dsimp only
  (repeat' split) <;> simp

@[simp] theorem memory_wf_dataWrite (cmd : Nat) (data : Word) (s : State) :
    Memory.wf (dataWrite cmd data s) = Memory.wf s := by
  simp [dataWrite]

@[simp] theorem memory_wf_flashWrite (p : Path) (id : RegId) (f : State → State)
    (h1 : ∀ t, Memory.wf (f t) = Memory.wf t) (s : State) : Memory.wf (flashWrite p id f s) = Memory.wf s := by
  simp [flashWrite, h1]

@[simp] theorem memory_wf_flashOp (p : Path) (cmd : Nat) (data : Word) (s : State) :
    Memory.wf (flashOp p cmd data s) = Memory.wf s := by
  simp [flashOp]

@[simp] theorem yieldsWf_execFlashUnlock {s : State} (h : Memory.wf s = true) (p : Path) (k1 k2 : Word) :
    YieldsWf (execFlashUnlock p k1 k2 s) := by
  simp [execFlashUnlock, h]

@[simp] theorem yieldsWf_execFlashProgram {s : State} (h : Memory.wf s = true) (p : Path) (data : Word) :
    YieldsWf (execFlashProgram p data s) := by
  simp [execFlashProgram, h]

@[simp] theorem yieldsWf_execFlashErase {s : State} (h : Memory.wf s = true) (p : Path) :
    YieldsWf (execFlashErase p s) := by
  simp [execFlashErase, h]

@[simp] theorem yieldsWf_execBlankCheck {s : State} (h : Memory.wf s = true) (p : Path) :
    YieldsWf (execBlankCheck p s) := by
  simp [execBlankCheck, h]

@[simp] theorem memory_wf_writeFlashCmd (p : Path) (v : Nat) (s : State) :
    Memory.wf (writeFlashCmd p v s) = Memory.wf s := by
  simp [writeFlashCmd]

@[simp] theorem memory_wf_writeFlashAddr (p : Path) (v : Nat) (s : State) :
    Memory.wf (writeFlashAddr p v s) = Memory.wf s := by
  simp [writeFlashAddr]

@[simp] theorem memory_wf_writeFlashData (p : Path) (v : Word) (s : State) :
    Memory.wf (writeFlashData p v s) = Memory.wf s := by
  simp [writeFlashData]

@[simp] theorem memory_wf_programWords {s : State} (h : Memory.wf s = true) (a : Nat) (l : List Word) :
    Memory.wf (programWords a l s) = true := by
  simp +contextual [programWords, h, memory_wf_putStore]

@[simp] theorem memory_wf_failErase {s : State} (h : Memory.wf s = true) (n : Nat) :
    Memory.wf (failErase n s) = true := by
  simp [failErase, h, memory_wf_eraseSector]

@[simp] theorem memory_wf_finishStore {s : State} (h : Memory.wf s = true) (ok : Bool) :
    Memory.wf ((finishStore ok s).1) = true := by
  unfold finishStore
  dsimp only
  (repeat' split) <;> simp [h, memory_wf_eraseSector]

@[simp] theorem yieldsWf_execFlashCommandDone {s : State} (h : Memory.wf s = true) (verifyOk : Bool) :
    YieldsWf (execFlashCommandDone verifyOk s) := by
  unfold execFlashCommandDone
  refine yieldsWf_done ?_
  (repeat' split) <;> simp [h]

@[simp] theorem memory_wf_readFlashData (p : Path) (s : State) : Memory.wf (readFlashData p s) = Memory.wf s := by
  simp [readFlashData]

@[simp] theorem yieldsWf_execFlashDataRead {s : State} (h : Memory.wf s = true) (p : Path) :
    YieldsWf (execFlashDataRead p s) := by
  simp [execFlashDataRead, h]

@[simp] theorem memory_wf_belvorStore (v1 : Bool) (p : Path) (tag code : Nat) (f : State → State)
    (h1 : ∀ t, Memory.wf (f t) = Memory.wf t) (s : State) :
    Memory.wf (belvorStore v1 p tag code f s) = Memory.wf s := by
  unfold belvorStore
  split
  · exact memory_wf_fromV2 _ _ _ _ _ h1 s
  · exact memory_wf_belvor _ _ _ _ (fun t => memory_wf_fromV2 _ _ _ _ _ (fun u => memory_wf_mgmtOnly _ _ _ _ h1 u) t) s

@[simp] theorem memory_wf_storeCmd (p : Path) (tag code cmd a : Nat) (data : List Word) (s : State) :
    Memory.wf (storeCmd p tag code cmd a data s) = Memory.wf s := by
  simp [storeCmd]

@[simp] theorem yieldsWf_execStoreWrite {s : State} (h : Memory.wf s = true) (p : Path) (tag : Nat) (v1 : Bool)
    (addr : Nat) (words : List Word) : YieldsWf (execStoreWrite p tag v1 addr words s) := by
  simp [execStoreWrite, h]

@[simp] theorem yieldsWf_execStoreErase {s : State} (h : Memory.wf s = true) (p : Path) (tag : Nat) (v1 : Bool)
    (addr : Nat) : YieldsWf (execStoreErase p tag v1 addr s) := by
  simp [execStoreErase, h]

@[simp] theorem yieldsWf_execProvision {s : State} (h : Memory.wf s = true) (tag : Nat) :
    YieldsWf (execProvision tag s) := by
  simp [execProvision, h]

@[simp] theorem yieldsWf_execGetVersion {s : State} (h : Memory.wf s = true) (p : Path) (tag : Nat) :
    YieldsWf (execGetVersion p tag s) := by
  simp [execGetVersion, h]

@[simp] theorem memory_wf_imageCmd {s : State} (h : Memory.wf s = true) (bank : Nat) (v : BankVerdict) (sel : Bool) :
    Memory.wf (imageCmd bank v sel s) = true := by
  simp [imageCmd, h]

@[simp] theorem memory_wf_imageWrite {s : State} (h : Memory.wf s = true) (p : Path) (bank : Nat) (v : BankVerdict)
    (sel : Bool) : Memory.wf (imageWrite p bank v sel s) = true := by
  simp +contextual [imageWrite, h]

@[simp] theorem yieldsWf_execVerifyBank {s : State} (h : Memory.wf s = true) (p : Path) (bank : Nat)
    (v : BankVerdict) : YieldsWf (execVerifyBank p bank v s) := by
  simp [execVerifyBank, h]

@[simp] theorem yieldsWf_execSelectBank {s : State} (h : Memory.wf s = true) (p : Path) (bank : Nat)
    (v : BankVerdict) : YieldsWf (execSelectBank p bank v s) := by
  simp [execSelectBank, h]

@[simp] theorem memory_wf_eraseStarts {s : State} (h : Memory.wf s = true) (a n : Nat) :
    Memory.wf (eraseStarts a n s) = true := by
  simp +contextual [eraseStarts, h, memory_wf_eraseSector]

@[simp] theorem yieldsWf_execPldmFirmwareUpdate {s : State} (h : Memory.wf s = true) (bank off : Nat)
    (words : List Word) (image : Bool) : YieldsWf (execPldmFirmwareUpdate bank off words image s) := by
  unfold execPldmFirmwareUpdate
  refine yieldsWf_done ?_
  simp +contextual [h, memory_wf_putStore]

@[simp] theorem yieldsWf_execPldmActivate {s : State} (h : Memory.wf s = true) (v : BankVerdict) :
    YieldsWf (execPldmActivate v s) := by
  simp [execPldmActivate, h]

@[simp] theorem memory_wf_zeroAllSlots (s : State) : Memory.wf (zeroAllSlots s) = Memory.wf s := by simp [zeroAllSlots]

@[simp] theorem yieldsWf_execRdpRaise {s : State} (h : Memory.wf s = true) (p : Path) (v : Word) :
    YieldsWf (execRdpRaise p v s) := by
  simp [execRdpRaise, h]

@[simp] theorem yieldsWf_execRdpLower {s : State} (h : Memory.wf s = true) (p : Path) (v : Word) :
    YieldsWf (execRdpLower p v s) := by
  unfold execRdpLower
  refine yieldsWf_done ?_
  simp +contextual [h]

@[simp] theorem yieldsWf_execRdpLowerEraseDone {s : State} (h : Memory.wf s = true) :
    YieldsWf (execRdpLowerEraseDone s) := by
  unfold execRdpLowerEraseDone
  refine yieldsWf_done ?_
  simp [h]

@[simp] theorem memory_wf_loadIr (n : Nat) (s : State) : Memory.wf (loadIr n s) = Memory.wf s := by simp [loadIr]

@[simp] theorem yieldsWf_execIdcode {s : State} (h : Memory.wf s = true) : YieldsWf (execIdcode s) := by
  simp [execIdcode, h]

@[simp] theorem yieldsWf_execBypass {s : State} (h : Memory.wf s = true) : YieldsWf (execBypass s) := by
  simp [execBypass, h]

@[simp] theorem yieldsWf_execSamplePreload {s : State} (h : Memory.wf s = true) : YieldsWf (execSamplePreload s) := by
  simp [execSamplePreload, h]

@[simp] theorem memory_wf_takePins (n : Nat) (s : State) : Memory.wf (takePins n s) = Memory.wf s := by simp [takePins]

@[simp] theorem yieldsWf_execExtest {s : State} (h : Memory.wf s = true) : YieldsWf (execExtest s) := by
  simp [execExtest, h]

@[simp] theorem yieldsWf_execClamp {s : State} (h : Memory.wf s = true) : YieldsWf (execClamp s) := by
  simp [execClamp, h]

@[simp] theorem yieldsWf_execHighz {s : State} (h : Memory.wf s = true) : YieldsWf (execHighz s) := by
  simp [execHighz, h]

@[simp] theorem memory_wf_newChallenge (purpose : Nat) (s : State) :
    Memory.wf (newChallenge purpose s) = Memory.wf s := by
  simp [newChallenge]

@[simp] theorem yieldsWf_execChallenge {s : State} (h : Memory.wf s = true) (p : Path) (purpose : Nat) :
    YieldsWf (execChallenge p purpose s) := by
  simp [execChallenge, h]

@[simp] theorem yieldsWf_execGladeAuth {s : State} (h : Memory.wf s = true) (purpose : Nat) :
    YieldsWf (execGladeAuth purpose s) := by
  simp [execGladeAuth, h]

@[simp] theorem memory_wf_failSubmit (s : State) : Memory.wf (failSubmit s) = Memory.wf s := by simp [failSubmit]

@[simp] theorem memory_wf_acceptSubmit {s : State} (h : Memory.wf s = true) (purpose : Nat) :
    Memory.wf (acceptSubmit purpose s) = true := by
  simp [acceptSubmit, h]

@[simp] theorem yieldsWf_execSubmit {s : State} (h : Memory.wf s = true) (p : Path) (accepted : Bool) :
    YieldsWf (execSubmit p accepted s) := by
  unfold execSubmit
  refine yieldsWf_done ?_
  simp +contextual [h]

/-- Only the store is taken from the state whose key sectors are erased. -/
@[simp] theorem yieldsWf_execGladeOpenEraseDone {s : State} (h : Memory.wf s = true) :
    YieldsWf (execGladeOpenEraseDone s) := by
  unfold execGladeOpenEraseDone
  refine yieldsWf_done ?_
  split
  · exact h
  · have he : Memory.wf (forEach (keySectors 0 ++ keySectors 1) eraseSector s) = true :=
      memory_wf_forEach h (fun n t ht => memory_wf_eraseSector ht n) _
    rw [memory_wf_raise, memory_wf_raise]
    generalize forEach (keySectors 0 ++ keySectors 1) eraseSector s = u at he
    rw [memory_wf_and] at h he ⊢
    obtain ⟨t1, t2, cel, land, vault, -, sp⟩ := h
    obtain ⟨-, -, -, -, -, flash, -⟩ := he
    exact ⟨t1, t2, cel, land, vault, flash, sp⟩

@[simp] theorem yieldsWf_execEntdaa {s : State} (h : Memory.wf s = true) (addr : Nat) :
    YieldsWf (execEntdaa addr s) := by
  simp [execEntdaa, h]

@[simp] theorem yieldsWf_execSetdasa {s : State} (h : Memory.wf s = true) (addr : Nat) :
    YieldsWf (execSetdasa addr s) := by
  simp [execSetdasa, h]

/-! ### Control -/

@[simp] theorem memory_wf_setLatch (p : Path) (addr : Nat) (v : Option Word) (s : State) :
    Memory.wf (setLatch p addr v s) = Memory.wf s := by
  simp [setLatch]

@[simp] theorem memory_wf_latchReg (p : Path) (id : RegId) (i j : Nat) (s : State) :
    Memory.wf (latchReg p id i j s) = Memory.wf s := by
  unfold latchReg
  split <;> simp

@[simp] theorem memory_wf_latchPair (p : Path) (id : RegId) (i j : Nat) (s : State) :
    Memory.wf (latchPair p id i j s) = Memory.wf s := by
  unfold latchPair
  split <;> simp

@[simp] theorem memory_wf_clearRc (r : RegSpec) (i j : Nat) (s : State) :
    Memory.wf (clearRc r i j s) = Memory.wf s := by
  simp [clearRc]

@[simp] theorem memory_wf_popPtp (p : Path) (i : Nat) (s : State) : Memory.wf (popPtp p i s) = Memory.wf s := by
  simp [popPtp]

@[simp] theorem memory_wf_readEffect (p : Path) (r : RegSpec) (i j : Nat) (s : State) :
    Memory.wf (readEffect p r i j s) = Memory.wf s := by
  simp [readEffect]

@[simp] theorem memory_wf_readFlash (p : Path) (s : State) : Memory.wf ((readFlash p s).1) = Memory.wf s := by
  unfold readFlash
  dsimp only
  split <;> simp

@[simp] theorem memory_wf_readWord (p : Path) (addr0 : Nat) (s : State) :
    Memory.wf ((readWord p addr0 s).1) = Memory.wf s := by
  unfold readWord
  dsimp only
  (repeat' split) <;> simp

@[simp] theorem memory_wf_load (p : Path) (addr : Nat) (s : State) : Memory.wf (load p addr s) = Memory.wf s := by
  simp [load]

@[simp] theorem yieldsWf_execLoReadLatch {s : State} (h : Memory.wf s = true) (p : Path) (addr : Nat) :
    YieldsWf (execLoReadLatch p addr s) := by
  simp [execLoReadLatch, h]

@[simp] theorem yieldsWf_execRcRead {s : State} (h : Memory.wf s = true) (p : Path) (addr : Nat) :
    YieldsWf (execRcRead p addr s) := by
  simp [execRcRead, h]

@[simp] theorem yieldsWf_execPtpTimestampPop {s : State} (h : Memory.wf s = true) (p : Path) (port : Nat) :
    YieldsWf (execPtpTimestampPop p port s) := by
  simp [execPtpTimestampPop, h]

@[simp] theorem memory_wf_storeFields (p : Path) (addr : Nat) (r : RegSpec) (i j v : Nat) (s : State) :
    Memory.wf (storeFields p addr r i j v s) = Memory.wf s := by
  simp [storeFields]

@[simp] theorem memory_wf_plainWrite (p : Path) (addr : Nat) (r : RegSpec) (i j v : Nat) (s : State) :
    Memory.wf (plainWrite p addr r i j v s) = Memory.wf s := by
  simp [plainWrite]

@[simp] theorem memory_wf_afterCmd {s : State} (h : Memory.wf s = true) {o : Host.Outcome State Fault Refusal}
    (ho : YieldsWf o) : Memory.wf (afterCmd o s) = true := by
  unfold afterCmd
  split
  · exact ho _ rfl
  · exact h

@[simp] theorem yieldsWf_ite {c : Prop} [Decidable c] {a b : Host.Outcome State Fault Refusal} (ha : YieldsWf a)
    (hb : YieldsWf b) : YieldsWf (if c then a else b) := by
  split
  · exact ha
  · exact hb

@[simp] theorem memory_wf_writePwrCmd {s : State} (h : Memory.wf s = true) (p : Path) (v : Nat) :
    Memory.wf (writePwrCmd p v s) = true := by
  unfold writePwrCmd
  dsimp only
  split
  · split <;> simp [h]
  · split <;> simp [h]
  · simp [h]
  · exact h

@[simp] theorem memory_wf_writeCorrLo (p : Path) (v : Nat) (s : State) :
    Memory.wf (writeCorrLo p v s) = Memory.wf s := by
  simp [writeCorrLo]

@[simp] theorem memory_wf_writeCanCtl {s : State} (h : Memory.wf s = true) (p : Path) (r : RegSpec) (v : Nat) :
    Memory.wf (writeCanCtl p r v s) = true := by
  have stored := (memory_wf_storeFields p (regAddr .canCtl) r 0 0 v s).trans h
  exact memory_wf_afterCmd stored
    (yieldsWf_ite (yieldsWf_execCanopyEnable stored p) (yieldsWf_execCanopyDisable stored p []))

@[simp] theorem memory_wf_writeMaint {s : State} (h : Memory.wf s = true) (p : Path) (v : Nat) :
    Memory.wf (writeMaint p v s) = true := by
  unfold writeMaint
  dsimp only
  split <;> simp [h]

@[simp] theorem memory_wf_writeEvac {s : State} (h : Memory.wf s = true) (p : Path) (v : Nat) :
    Memory.wf (writeEvac p v s) = true := by
  unfold writeEvac
  dsimp only
  split <;> simp [h]

@[simp] theorem memory_wf_writeHostCmd {s : State} (h : Memory.wf s = true) (p : Path) (port v : Nat) :
    Memory.wf (writeHostCmd p port v s) = true := by
  unfold writeHostCmd
  dsimp only
  split <;> simp [h]

@[simp] theorem memory_wf_writeNetCmd {s : State} (h : Memory.wf s = true) (p : Path) (v : Nat) :
    Memory.wf (writeNetCmd p v s) = true := by
  unfold writeNetCmd
  dsimp only
  split <;> simp [h]

@[simp] theorem memory_wf_writeTwinCmd {s : State} (h : Memory.wf s = true) (p : Path) (v : Nat) :
    Memory.wf (writeTwinCmd p v s) = true := by
  unfold writeTwinCmd
  split <;> simp [h]

@[simp] theorem memory_wf_writeCipherCmd {s : State} (h : Memory.wf s = true) (p : Path) (v : Nat) :
    Memory.wf (writeCipherCmd p v s) = true := by
  unfold writeCipherCmd
  dsimp only
  split <;> simp [h]

@[simp] theorem memory_wf_writeSrcCfg (p : Path) (v : Nat) (s : State) :
    Memory.wf (writeSrcCfg p v s) = Memory.wf s := by
  simp [writeSrcCfg]

@[simp] theorem memory_wf_writeSrcWin (p : Path) (v : Nat) (s : State) :
    Memory.wf (writeSrcWin p v s) = Memory.wf s := by
  simp [writeSrcWin]

@[simp] theorem memory_wf_writeFltCmd {s : State} (h : Memory.wf s = true) (p : Path) (v : Nat) :
    Memory.wf (writeFltCmd p v s) = true := by
  unfold writeFltCmd
  dsimp only
  split <;> simp [h]

@[simp] theorem memory_wf_writePerfGlobal {s : State} (h : Memory.wf s = true) (p : Path) (v : Nat) :
    Memory.wf (writePerfGlobal p v s) = true := by
  unfold writePerfGlobal
  split <;> simp [h]

@[simp] theorem memory_wf_writeRecCmd {s : State} (h : Memory.wf s = true) (p : Path) (v : Nat) :
    Memory.wf (writeRecCmd p v s) = true := by
  unfold writeRecCmd
  split <;> simp [h]

@[simp] theorem memory_wf_writeFlashKey (p : Path) (v : Word) (s : State) :
    Memory.wf (writeFlashKey p v s) = Memory.wf s := by
  simp [writeFlashKey]

@[simp] theorem memory_wf_writeImageCmd {s : State} (h : Memory.wf s = true) (p : Path) (v : Nat) :
    Memory.wf (writeImageCmd p v s) = true := by
  unfold writeImageCmd
  dsimp only
  split <;> simp [h]

@[simp] theorem memory_wf_writeDbgCmd {s : State} (h : Memory.wf s = true) (p : Path) (v : Nat) :
    Memory.wf (writeDbgCmd p v s) = true := by
  unfold writeDbgCmd
  split <;> simp [h]

@[simp] theorem memory_wf_writePerfCtl (p : Path) (addr : Nat) (r : RegSpec) (i v : Nat) (s : State) :
    Memory.wf (writePerfCtl p addr r i v s) = Memory.wf s := by
  simp [writePerfCtl]

@[simp] theorem memory_wf_writeRdp {s : State} (h : Memory.wf s = true) (p : Path) (v : Word) :
    Memory.wf (writeRdp p v s) = true :=
  memory_wf_afterCmd h (yieldsWf_ite (yieldsWf_execRdpLower h p v) (yieldsWf_execRdpRaise h p v))

@[simp] theorem memory_wf_cmdWrite {s : State} (h : Memory.wf s = true) (p : Path) (addr : Nat) (r : RegSpec)
    (i j : Nat) (v : Word) : Memory.wf (cmdWrite p addr r i j v s) = true := by
  unfold cmdWrite
  dsimp only
  split <;> simp [h]

@[simp] theorem memory_wf_writeWord {s : State} (h : Memory.wf s = true) (p : Path) (addr0 : Nat) (v : Word) :
    Memory.wf (writeWord p addr0 v s) = true := by
  unfold writeWord
  dsimp only
  (repeat' split) <;> simp [h]

@[simp] theorem yieldsWf_execRegisterWrite {s : State} (h : Memory.wf s = true) (p : Path) (addr : Nat) (v : Word) :
    YieldsWf (execRegisterWrite p addr v s) := by
  simp [execRegisterWrite, h]

@[simp] theorem memory_wf_readWords (p : Path) (l : List Nat) (s : State) :
    Memory.wf (readWords p l s).1 = Memory.wf s := by
  induction l generalizing s with
  | nil => rfl
  | cons a l ih => simp [readWords, ih]

@[simp] theorem yieldsWf_execRegRead {s : State} (h : Memory.wf s = true) (p : Path) (tag addr count : Nat) :
    YieldsWf (execRegRead p tag addr count s) := by
  simp [execRegRead, h]

@[simp] theorem memory_wf_writeCounted {s : State} (h : Memory.wf s = true) (p : Path) (addr : Nat) (v : Word) :
    Memory.wf ((writeCounted p addr v s).1) = true := by
  simp [writeCounted, h]

@[simp] theorem memory_wf_writeWords {s : State} (h : Memory.wf s = true) (p : Path) (l : List (Nat × Word)) :
    Memory.wf (writeWords p l s).1 = true := by
  induction l generalizing s with
  | nil => exact h
  | cons w l ih =>
    unfold writeWords
    split
    · exact h
    · exact ih (memory_wf_writeCounted h p w.1 w.2)

@[simp] theorem yieldsWf_execRegWrite {s : State} (h : Memory.wf s = true) (p : Path) (tag addr : Nat)
    (words : List Word) : YieldsWf (execRegWrite p tag addr words s) := by
  unfold execRegWrite
  refine yieldsWf_done ?_
  simp +contextual [h]

@[simp] theorem yieldsWf_execGladeAccess {s : State} (h : Memory.wf s = true) (wr : Bool) (addr : Nat) (data : Word) :
    YieldsWf (execGladeAccess wr addr data s) := by
  simp [execGladeAccess, h]

/-! ### Grove -/

@[simp] theorem yieldsWf_execGroveCreate {s : State} (h : Memory.wf s = true) (p : Path) (tag tmpl extents : Nat) :
    YieldsWf (execGroveCreate p tag tmpl extents s) := by
  simp [execGroveCreate, h]

@[simp] theorem yieldsWf_execGroveResize {s : State} (h : Memory.wf s = true) (p : Path) (tag grove extents : Nat) :
    YieldsWf (execGroveResize p tag grove extents s) := by
  simp [execGroveResize, h]

@[simp] theorem yieldsWf_execGroveDelete {s : State} (h : Memory.wf s = true) (p : Path) (tag grove : Nat) :
    YieldsWf (execGroveDelete p tag grove s) := by
  simp [execGroveDelete, h]

@[simp] theorem yieldsWf_execGroveStatus {s : State} (h : Memory.wf s = true) (p : Path) (tag grove : Nat) :
    YieldsWf (execGroveStatus p tag grove s) := by
  simp [execGroveStatus, h]

end Sys2Proof.Machine
end

section
/-!
PROOFS. Every command and every step keeps the memories in canonical form (log 4): the command's lemma over the
dispatch, and that of the tick for an empty queue.
-/

namespace Sys2Proof.Machine

open Sys2Proof

/-- Each command leaves canonical memories, by the lemma of its meaning. -/
theorem yieldsWf_exec {s : State} (h : Memory.wf s = true) : ∀ c : Instr, YieldsWf (exec c s)
  | .memRd .. => yieldsWf_execMemRd h _ _
  | .memSpecRd .. => yieldsWf_execMemSpecRd h _
  | .memInv .. => yieldsWf_execMemInv h _
  | .memWr .. => yieldsWf_execMemWr h _ _ _
  | .memWrPtl .. => yieldsWf_execMemWrPtl h _ _ _ _
  | .unsupportedM2sOpcode .. => yieldsWf_execUnsupportedM2sOpcode h _ _
  | .readWatchdog .. => yieldsWf_execReadWatchdog h _
  | .gpfPhase1 .. => yieldsWf_execGpfPhase1 h _
  | .gpfPhase2 .. => yieldsWf_execGpfPhase2 h _
  | .gpfPhase2Complete .. => yieldsWf_execGpfPhase2Complete h _
  | .gpfPhase2Overtime .. => yieldsWf_execGpfPhase2Overtime h _
  | .sourceHeartbeat .. => yieldsWf_execSourceHeartbeat h _ _
  | .sequencerEmit .. => yieldsWf_execSequencerEmit h _
  | .mergeStall .. => yieldsWf_execMergeStall h _
  | .heldWriteRelease => yieldsWf_execHeldWriteRelease h
  | .landingDrain .. => yieldsWf_execLandingDrain h _ _
  | .landingDrainDone .. => yieldsWf_execLandingDrainDone h _ _ _
  | .canopyFill .. => yieldsWf_execCanopyFill h _ _ _ _
  | .evictionWritten .. => yieldsWf_execEvictionWritten h _ _ _ _
  | .promotionLineArrival .. => yieldsWf_execPromotionLineArrival h _ _
  | .promotionComplete .. => yieldsWf_execPromotionComplete h _ _
  | .lateBoundExpiry .. => yieldsWf_execLateBoundExpiry h _
  | .demotion .. => yieldsWf_execDemotion h _
  | .ageSweep => yieldsWf_execAgeSweep h
  | .trickle .. => yieldsWf_execTrickle h _
  | .metadataTrickle => yieldsWf_execMetadataTrickle h
  | .wearGovernorTick => yieldsWf_execWearGovernorTick h
  | .seal .. => yieldsWf_execSeal h _ _ _ _ _
  | .unseal .. => yieldsWf_execUnseal h _ _ _ _ _
  | .sealCopy .. => yieldsWf_execSealCopy h _ _ _
  | .post .. => yieldsWf_execPost h _ _ _ _
  | .append .. => yieldsWf_execAppend h _ _ _ _
  | .cancel .. => yieldsWf_execCancel h _ _ _ _
  | .scheduleStage => yieldsWf_execScheduleStage h
  | .scheduleEntryRetire .. => yieldsWf_execScheduleEntryRetire h _
  | .t2RepairDone .. => yieldsWf_execT2RepairDone h _ _ _
  | .poisonClear .. => yieldsWf_execPoisonClear h _
  | .cellarDrain .. => yieldsWf_execCellarDrain h _
  | .vaultComplete .. => yieldsWf_execVaultComplete h _
  | .clean .. => yieldsWf_execClean h _ _ _
  | .invalidate .. => yieldsWf_execInvalidate h _ _ _
  | .cleanInvalidate .. => yieldsWf_execCleanInvalidate h _ _ _
  | .zeroRange .. => yieldsWf_execZeroRange h _ _
  | .maintComplete => yieldsWf_execMaintComplete h
  | .canopyDisable .. => yieldsWf_execCanopyDisable h _ _
  | .canopyEnable .. => yieldsWf_execCanopyEnable h _
  | .disableComplete => yieldsWf_execDisableComplete h
  | .zqCalibration .. => yieldsWf_execZqCalibration h _
  | .dqsDriftCompensation .. => yieldsWf_execDqsDriftCompensation h _
  | .refreshDue .. => yieldsWf_execRefreshDue h _ _
  | .mr4Poll .. => yieldsWf_execMr4Poll h _ _
  | .selfRefreshEntry .. => yieldsWf_execSelfRefreshEntry h _
  | .caParityAlert .. => yieldsWf_execCaParityAlert h _ _ _
  | .patrolRead .. => yieldsWf_execPatrolRead h _ _ _
  | .evacuate .. => yieldsWf_execEvacuate h _ _
  | .frameMove .. => yieldsWf_execFrameMove h _
  | .frameMoveComplete .. => yieldsWf_execFrameMoveComplete h _ _ _
  | .returnSet .. => yieldsWf_execReturnSet h _ _
  | .abortEvac .. => yieldsWf_execAbortEvac h _ _
  | .ueClear .. => yieldsWf_execUeClear h _ _
  | .nandReadComplete .. => yieldsWf_execNandReadComplete h _ _ _ _
  | .nandProgramDone .. => yieldsWf_execNandProgramDone h _ _
  | .nandEraseDone .. => yieldsWf_execNandEraseDone h _ _ _ _
  | .reclaim => yieldsWf_execReclaim h
  | .relocation .. => yieldsWf_execRelocation h _ _
  | .staticWearLevel .. => yieldsWf_execStaticWearLevel h _ _
  | .readDisturbLimit .. => yieldsWf_execReadDisturbLimit h _ _ _
  | .stripeParityTimeout .. => yieldsWf_execStripeParityTimeout h _ _ _ _
  | .dieDead .. => yieldsWf_execDieDead h _ _
  | .dieRebuild .. => yieldsWf_execDieRebuild h _
  | .backgroundScan .. => yieldsWf_execBackgroundScan h _ _ _
  | .cellarBlockErase => yieldsWf_execCellarBlockErase h
  | .hostLaneFailure .. => yieldsWf_execHostLaneFailure h _ _ _
  | .hostLinkDown .. => yieldsWf_execHostLinkDown h _
  | .hotReset .. => yieldsWf_execHotReset h _
  | .pmeTurnOff .. => yieldsWf_execPmeTurnOff h _
  | .decoderCommit .. => yieldsWf_execDecoderCommit h _ _ _ _
  | .initiateDynamicCapacityAdd .. => yieldsWf_execInitiateDynamicCapacityAdd h _ _ _ _ _
  | .addDynamicCapacityResponse .. => yieldsWf_execAddDynamicCapacityResponse h _ _ _ _
  | .releaseDynamicCapacity .. => yieldsWf_execReleaseDynamicCapacity h _ _ _ _
  | .forcedDynamicCapacityRelease .. => yieldsWf_execForcedDynamicCapacityRelease h _ _ _ _
  | .identifyMemoryDevice .. => yieldsWf_execIdentifyMemoryDevice h _ _ _
  | .setPartitionInfo .. => yieldsWf_execSetPartitionInfo h _ _ _
  | .setLsa .. => yieldsWf_execSetLsa h _ _ _ _ _
  | .getPoisonList .. => yieldsWf_execGetPoisonList h _ _ _ _ _
  | .clearPoison .. => yieldsWf_execClearPoison h _ _ _ _ _
  | .injectPoison _ _ _ dpa => yieldsWf_execInjectPoison h _ _ _ dpa
  | .ideKmKeyProg .. => yieldsWf_execIdeKmKeyProg h _ _ _
  | .keyGo .. => yieldsWf_execKeyGo h _ _
  | .ideFail .. => yieldsWf_execIdeFail h _
  | .isolate .. => yieldsWf_execIsolate h _ _
  | .hostPortRelease .. => yieldsWf_execHostPortRelease h _ _
  | .retrain .. => yieldsWf_execRetrain h _ _ _ _
  | .logClear .. => yieldsWf_execLogClear h _ _
  | .hello .. => yieldsWf_execHello h _ _
  | .write .. => yieldsWf_execWrite h _ _
  | .readReq .. => yieldsWf_execReadReq h _
  | .flush .. => yieldsWf_execFlush h _ _
  | .flushAck .. => yieldsWf_execFlushAck h _ _
  | .atomicFadd .. => yieldsWf_execAtomicFadd h _ _
  | .atomicCas .. => yieldsWf_execAtomicCas h _ _ _
  | .ack .. => yieldsWf_execAck h _ _
  | .credit .. => yieldsWf_execCredit h _
  | .notify .. => yieldsWf_execNotify h _ _ _
  | .notifyDelivery .. => yieldsWf_execNotifyDelivery h _
  | .notifyRetransmit .. => yieldsWf_execNotifyRetransmit h _
  | .notifyUndelivered .. => yieldsWf_execNotifyUndelivered h _
  | .close .. => yieldsWf_execClose h _ _
  | .peerClose .. => yieldsWf_execPeerClose h _
  | .closeComplete .. => yieldsWf_execCloseComplete h _
  | .reservedOpcode .. => yieldsWf_execReservedOpcode h _ _
  | .ackDelayExpiry .. => yieldsWf_execAckDelayExpiry h _
  | .qpContextFetch .. => yieldsWf_execQpContextFetch h _
  | .peerIdleTimeout .. => yieldsWf_execPeerIdleTimeout h _
  | .keyRegister .. => yieldsWf_execKeyRegister h _ _ _ _ _
  | .keyRevoke .. => yieldsWf_execKeyRevoke h _ _ _
  | .revocationComplete .. => yieldsWf_execRevocationComplete h _
  | .closeQp .. => yieldsWf_execCloseQp h _ _
  | .closePeer .. => yieldsWf_execClosePeer h _ _
  | .arpRequest .. => yieldsWf_execArpRequest h _ _
  | .neighborSolicitation .. => yieldsWf_execNeighborSolicitation h _ _
  | .icmpEcho .. => yieldsWf_execIcmpEcho h _ _ _
  | .pauseFrame .. => yieldsWf_execPauseFrame h _
  | .ptpEventMessage .. => yieldsWf_execPtpEventMessage h _ _ _ _
  | .ptpTimestampPop .. => yieldsWf_execPtpTimestampPop h _ _
  | .netLinkChange .. => yieldsWf_execNetLinkChange h _ _
  | .stampedInput .. => yieldsWf_execStampedInput h _ _ _
  | .landingAck .. => yieldsWf_execLandingAck h _ _ _ _
  | .heartbeat _ _ _ ackSeq _ => yieldsWf_execHeartbeat h _ _ _ ackSeq _
  | .timeFrame .. => yieldsWf_execTimeFrame h _ _ _ _
  | .digest .. => yieldsWf_execDigest h _ _ _
  | .resyncData .. => yieldsWf_execResyncData h _ _
  | .epochFrame .. => yieldsWf_execEpochFrame h _ _ _
  | .reservedFrameType .. => yieldsWf_execReservedFrameType h _ _
  | .negotiate .. => yieldsWf_execNegotiate h _ _ _
  | .retryReq .. => yieldsWf_execRetryReq h _ _
  | .laneChange .. => yieldsWf_execLaneChange h _ _ _
  | .leaving .. => yieldsWf_execLeaving h _ _
  | .release .. => yieldsWf_execRelease h _
  | .releaseAck .. => yieldsWf_execReleaseAck h _
  | .resyncStart .. => yieldsWf_execResyncStart h _ _ _
  | .resyncDone .. => yieldsWf_execResyncDone h _ _
  | .repairReq .. => yieldsWf_execRepairReq h _ _ _ _
  | .rekey .. => yieldsWf_execRekey h _ _
  | .handoverFrame .. => yieldsWf_execHandoverFrame h _ _
  | .handoverAck .. => yieldsWf_execHandoverAck h _ _
  | .recopy .. => yieldsWf_execRecopy h _ _ _
  | .heartbeatTimer => yieldsWf_execHeartbeatTimer h
  | .timeTimer => yieldsWf_execTimeTimer h
  | .negotiateTimer => yieldsWf_execNegotiateTimer h
  | .thbExpiry => yieldsWf_execThbExpiry h
  | .leaderUtlSilence => yieldsWf_execLeaderUtlSilence h
  | .fenceExpiry => yieldsWf_execFenceExpiry h
  | .tjoinExpiry => yieldsWf_execTjoinExpiry h
  | .lagHoldStart => yieldsWf_execLagHoldStart h
  | .lagHoldLong => yieldsWf_execLagHoldLong h
  | .handoverSend => yieldsWf_execHandoverSend h
  | .resyncChunkRead .. => yieldsWf_execResyncChunkRead h _
  | .resyncChunkInstall => yieldsWf_execResyncChunkInstall h
  | .resyncComplete => yieldsWf_execResyncComplete h
  | .utlTrainLock .. => yieldsWf_execUtlTrainLock h _
  | .utlTrainTimeout => yieldsWf_execUtlTrainTimeout h
  | .utlNegotiateTimeout => yieldsWf_execUtlNegotiateTimeout h
  | .utlRetryTimer => yieldsWf_execUtlRetryTimer h
  | .utlLaneFault .. => yieldsWf_execUtlLaneFault h _
  | .laneChangeTimeout => yieldsWf_execLaneChangeTimeout h
  | .rekeyCount => yieldsWf_execRekeyCount h
  | .handover .. => yieldsWf_execHandover h _
  | .resume .. => yieldsWf_execResume h _
  | .forceLead .. => yieldsWf_execForceLead h _
  | .witnessGrant .. => yieldsWf_execWitnessGrant h _
  | .divClear .. => yieldsWf_execDivClear h _
  | .rewiden .. => yieldsWf_execRewiden h _
  | .zeroise .. => yieldsWf_execZeroise h _ _
  | .roll .. => yieldsWf_execRoll h _ _
  | .rollWalk .. => yieldsWf_execRollWalk h _ _
  | .rollComplete .. => yieldsWf_execRollComplete h _
  | .keyGenerate .. => yieldsWf_execKeyGenerate h _ _ _ _
  | .keyImport .. => yieldsWf_execKeyImport h _ _ _ _ _ _
  | .rqTailWrite .. => yieldsWf_execRqTailWrite h _ _
  | .descriptorXts => yieldsWf_execDescriptorXts h
  | .descriptorGcm => yieldsWf_execDescriptorGcm h
  | .descriptorCmac => yieldsWf_execDescriptorCmac h
  | .descriptorKwp => yieldsWf_execDescriptorKwp h
  | .ringRestart .. => yieldsWf_execRingRestart h _
  | .laneSelfTest .. => yieldsWf_execLaneSelfTest h _ _
  | .cipherSaturation .. => yieldsWf_execCipherSaturation h _ _
  | .verifyBank .. => yieldsWf_execVerifyBank h _ _ _
  | .selectBank .. => yieldsWf_execSelectBank h _ _ _
  | .groveCreate .. => yieldsWf_execGroveCreate h _ _ _ _
  | .groveResize .. => yieldsWf_execGroveResize h _ _ _ _
  | .groveDelete .. => yieldsWf_execGroveDelete h _ _ _
  | .groveStatus .. => yieldsWf_execGroveStatus h _ _ _
  | .getVersion .. => yieldsWf_execGetVersion h _ _
  | .regRead .. => yieldsWf_execRegRead h _ _ _ _
  | .regWrite .. => yieldsWf_execRegWrite h _ _ _ _
  | .storeWrite .. => yieldsWf_execStoreWrite h _ _ _ _ _
  | .storeErase .. => yieldsWf_execStoreErase h _ _ _ _
  | .provision .. => yieldsWf_execProvision h _
  | .powerOn .. => yieldsWf_execPowerOn h _ _
  | .powerOff .. => yieldsWf_execPowerOff h _ _
  | .powerStatus .. => yieldsWf_execPowerStatus h _ _
  | .powerLogRead .. => yieldsWf_execPowerLogRead h _ _
  | .clear .. => yieldsWf_execClear h _
  | .clearing .. => yieldsWf_execClearing h _
  | .clearingEntryDone => yieldsWf_execClearingEntryDone h
  | .vddAonValid => yieldsWf_execVddAonValid h
  | .stage1 .. => yieldsWf_execStage1 h _
  | .pgGood .. => yieldsWf_execPgGood h _
  | .pgTimeout .. => yieldsWf_execPgTimeout h _
  | .settleExpiry => yieldsWf_execSettleExpiry h
  | .railRetryExpiry => yieldsWf_execRailRetryExpiry h
  | .rstoStretchExpiry .. => yieldsWf_execRstoStretchExpiry h _
  | .stage3 .. => yieldsWf_execStage3 h _ _ _
  | .stage4 .. => yieldsWf_execStage4 h _
  | .stage5 .. => yieldsWf_execStage5 h _ _ _
  | .stage6 => yieldsWf_execStage6 h
  | .stage7 .. => yieldsWf_execStage7 h _ _
  | .stage8 .. => yieldsWf_execStage8 h _ _ _ _
  | .stage9 => yieldsWf_execStage9 h
  | .ready => yieldsWf_execReady h
  | .infailNAssert => yieldsWf_execInfailNAssert h
  | .infailNDeassert => yieldsWf_execInfailNDeassert h
  | .estoreOkAssert => yieldsWf_execEstoreOkAssert h
  | .estoreOkDeassert => yieldsWf_execEstoreOkDeassert h
  | .pgLoss .. => yieldsWf_execPgLoss h _ _
  | .pgFall .. => yieldsWf_execPgFall h _
  | .pgLowTimeout .. => yieldsWf_execPgLowTimeout h _
  | .logFlushDone => yieldsWf_execLogFlushDone h
  | .minOffTimeExpiry => yieldsWf_execMinOffTimeExpiry h
  | .powerLogProgram .. => yieldsWf_execPowerLogProgram h _
  | .thermalSample .. => yieldsWf_execThermalSample h _
  | .dutyUpdate => yieldsWf_execDutyUpdate h
  | .thermalTrip .. => yieldsWf_execThermalTrip h _ _ _
  | .ppsEdge => yieldsWf_execPpsEdge h
  | .ppsMissing => yieldsWf_execPpsMissing h
  | .gtcCorrection .. => yieldsWf_execGtcCorrection h _ _
  | .pllLockLoss .. => yieldsWf_execPllLockLoss h _
  | .refclkLoss .. => yieldsWf_execRefclkLoss h _
  | .crossingFault .. => yieldsWf_execCrossingFault h _
  | .leakTick .. => yieldsWf_execLeakTick h _
  | .graceExpiry .. => yieldsWf_execGraceExpiry h _
  | .severeAcknowledge .. => yieldsWf_execSevereAcknowledge h _ _ _
  | .ackAll .. => yieldsWf_execAckAll h _
  | .releaseGrove .. => yieldsWf_execReleaseGrove h _ _
  | .releasePort .. => yieldsWf_execReleasePort h _ _
  | .scrubRead .. => yieldsWf_execScrubRead h _ _ _
  | .flipArm .. => yieldsWf_execFlipArm h _ _
  | .allocationGrant .. => yieldsWf_execAllocationGrant h _
  | .perfStart .. => yieldsWf_execPerfStart h _
  | .perfStop .. => yieldsWf_execPerfStop h _
  | .perfGlobalClear .. => yieldsWf_execPerfGlobalClear h _
  | .perfUnitClear .. => yieldsWf_execPerfUnitClear h _ _
  | .epochBoundary => yieldsWf_execEpochBoundary h
  | .freeze .. => yieldsWf_execFreeze h _
  | .thaw .. => yieldsWf_execThaw h _
  | .recClear .. => yieldsWf_execRecClear h _
  | .flashUnlock .. => yieldsWf_execFlashUnlock h _ _ _
  | .flashProgram .. => yieldsWf_execFlashProgram h _ _
  | .flashErase .. => yieldsWf_execFlashErase h _
  | .blankCheck .. => yieldsWf_execBlankCheck h _
  | .flashCommandDone .. => yieldsWf_execFlashCommandDone h _
  | .flashDataRead .. => yieldsWf_execFlashDataRead h _
  | .rdpRaise .. => yieldsWf_execRdpRaise h _ _
  | .rdpLower .. => yieldsWf_execRdpLower h _ _
  | .rdpLowerEraseDone => yieldsWf_execRdpLowerEraseDone h
  | .idcode => yieldsWf_execIdcode h
  | .bypass => yieldsWf_execBypass h
  | .samplePreload => yieldsWf_execSamplePreload h
  | .extest => yieldsWf_execExtest h
  | .clamp => yieldsWf_execClamp h
  | .highz => yieldsWf_execHighz h
  | .gladeAuth .. => yieldsWf_execGladeAuth h _
  | .gladeAccess .. => yieldsWf_execGladeAccess h _ _ _
  | .challenge .. => yieldsWf_execChallenge h _ _
  | .submit .. => yieldsWf_execSubmit h _ _
  | .gladeOpenEraseDone => yieldsWf_execGladeOpenEraseDone h
  | .entdaa .. => yieldsWf_execEntdaa h _
  | .setdasa .. => yieldsWf_execSetdasa h _
  | .getLdInfo .. => yieldsWf_execGetLdInfo h _
  | .getLdAllocations .. => yieldsWf_execGetLdAllocations h _ _
  | .getMultiHeadedInfo .. => yieldsWf_execGetMultiHeadedInfo h _
  | .bindLd .. => yieldsWf_execBindLd h _ _ _
  | .unbindLd .. => yieldsWf_execUnbindLd h _ _ _
  | .setLdAllocations .. => yieldsWf_execSetLdAllocations h _ _
  | .pldmFirmwareUpdate .. => yieldsWf_execPldmFirmwareUpdate h _ _ _ _
  | .pldmActivate .. => yieldsWf_execPldmActivate h _
  | .loReadLatch .. => yieldsWf_execLoReadLatch h _ _
  | .rcRead .. => yieldsWf_execRcRead h _ _
  | .registerWrite .. => yieldsWf_execRegisterWrite h _ _ _
  | .caRecoveryComplete .. => yieldsWf_execCaRecoveryComplete h _ _ _
  | .returnTrainingComplete .. => yieldsWf_execReturnTrainingComplete h _ _
  | .hostLinkUp .. => yieldsWf_execHostLinkUp h _ _ _
  | .configurationRequest .. => yieldsWf_execConfigurationRequest h _ _ _
  | .spdmMessage .. => yieldsWf_execSpdmMessage h _ _
  | .vddAonLoss => yieldsWf_execVddAonLoss h

theorem memory_wf_pending (l : List Instr) (s : State) : Memory.wf { s with pending := l } = Memory.wf s := rfl

theorem memory_wf_step {s t : State} (h : Memory.wf s = true) (e : step s = .next t) : Memory.wf t = true := by
  unfold step at e
  split at e
  · exact Host.Outcome.next.inj e ▸ memory_wf_tick h
  · next c rest _ => exact yieldsWf_exec ((memory_wf_pending rest s).trans h) c t e

/-- Settles O50: commands by `yieldsWf_exec`, steps by `memory_wf_step`, and the empty memories of reset. -/
theorem memoryCanonical : Obligations.MemoryCanonical :=
  ⟨fun c _ t h => yieldsWf_exec h c t, fun _ _ => memory_wf_step, memory_wf_reset⟩

end Sys2Proof.Machine
end

section
/-!
PROOFS. The layouts of divergence records (R105) and of power-log records (R398), and CRC-32C (R358).
-/

namespace Sys2Proof

/-! ## Little-endian fields of a byte list (R356) -/

@[simp] theorem length_leBytes (n v : Nat) : (leBytes n v).length = n := by
  induction n generalizing v with
  | zero => rfl
  | succ n ih => simp [leBytes, ih]

theorem leNat_leBytes (n v : Nat) : leNat (leBytes n v) = v % 256 ^ n := by
  induction n generalizing v with
  | zero => simp [leBytes, leNat, Nat.mod_one]
  | succ n ih => simp [leBytes, leNat, ih, Nat.pow_succ', Nat.mod_mul]

/-- A field that begins behind the first of two runs of bytes lies in the second. -/
theorem leAt_append_of_le {a : List Byte} {off : Nat} (h : a.length ≤ off) (l : List Byte) (n : Nat) :
    leAt (a ++ l) off n = leAt l (off - a.length) n := by
  simp [leAt, slice, List.drop_append, List.drop_eq_nil_of_le h]

@[simp] theorem leAt_leBytes_append (n v : Nat) (l : List Byte) : leAt (leBytes n v ++ l) 0 n = v % 256 ^ n := by
  simp [leAt, slice, List.take_left', leNat_leBytes]

@[simp] theorem leAt_leBytes (n v : Nat) : leAt (leBytes n v) 0 n = v % 256 ^ n := by
  simpa using leAt_leBytes_append n v []

theorem length_flatten_leBytes (k : Nat) (vs : List Nat) : (vs.map (leBytes k)).flatten.length = k * vs.length := by
  induction vs with
  | nil => rfl
  | cons v vs ih => simp [ih, Nat.mul_succ, Nat.add_comm]

/-- Element `i` of an array of fields of `k` bytes. -/
theorem leAt_flatten_leBytes {k i : Nat} (l : List Byte) {vs : List Nat} (h : i < vs.length) :
    leAt ((vs.map (leBytes k)).flatten ++ l) (k * i) k = vs[i] % 256 ^ k := by
  induction vs generalizing i with
  | nil => nomatch h
  | cons v vs ih =>
    cases i with
    | zero => simp
    | succ i =>
      have behind : (leBytes k v).length ≤ k * (i + 1) := by simp [Nat.mul_succ]
      rw [List.map_cons, List.flatten_cons, List.append_assoc, leAt_append_of_le behind]
      simpa [Nat.mul_succ] using ih (Nat.lt_of_succ_lt_succ h)

end Sys2Proof

namespace Sys2Proof.Machine

open Sys2Proof

/-! ## Divergence records (R105) -/

theorem divWord_of_selected {s : State} {r : DivRec} (h : s.tier.md.divs[fld s .twinDivIndex 19 0]? = some r) (j : Nat) :
    divWord s j = recWord (divRecNum r) j := by
  simp only [divWord, h]

/-- The low two words of a record are its low 64 bits. -/
theorem recWord_low (v : Nat) : recWord v 1 * 2 ^ 32 + recWord v 0 = v % 2 ^ 64 := by
  simp only [recWord]
  omega

/-- The four words of a record of 128 bits are the record. -/
theorem recWord_all {v : Nat} (h : v < 2 ^ 128) :
    recWord v 3 * 2 ^ 96 + recWord v 2 * 2 ^ 64 + recWord v 1 * 2 ^ 32 + recWord v 0 = v := by
  simp only [recWord]
  omega

theorem divRecNum_lt (r : DivRec) : divRecNum r < 2 ^ 128 := by
  unfold divRecNum
  omega

/-- The bits of R105: the GTC value above the low 64 bits, and below them the source, the grove and the line. -/
theorem divRecNum_fields {r : DivRec} (gtc : r.gtc < 2 ^ 64) (src : r.src < 4096) (grove : r.grove < 1024)
    (line : r.line < 2 ^ 42) : divRecNum r / 2 ^ 64 = r.gtc ∧ bitsOf (divRecNum r % 2 ^ 64) 63 52 = r.src
      ∧ bitsOf (divRecNum r % 2 ^ 64) 51 42 = r.grove ∧ bitsOf (divRecNum r % 2 ^ 64) 41 0 = r.line := by
  simp only [divRecNum, bitsOf]
  omega

/-! ## Power-log records (R398, R399) -/

/-- Bytes 0 to 17 of a power-log record. -/
def PwrRec.front (r : PwrRec) : List Byte :=
  leBytes 8 r.gtc ++ leBytes 2 r.src ++ leBytes 1 r.reason ++ leBytes 1 (r.step % 16 + r.attempt * 16)
    ++ leBytes 2 r.en.toNat ++ leBytes 2 r.pg.toNat
    ++ leBytes 1 (b2n r.infail + 2 * b2n r.estore + 4 * b2n r.trip) ++ leBytes 1 r.stage

/-- The rails' times, at byte 18 of a record. -/
def PwrRec.times (r : PwrRec) : List Nat := (List.range 12).map (SMap.get r.elapsed 0)

/-- Bytes 0 to 43 of a record, which a torn one still holds (R399). -/
def PwrRec.head (r : PwrRec) : List Byte :=
  r.front ++ (r.times.map (leBytes 2)).flatten ++ leBytes 1 (twos 8 r.tj) ++ leBytes 1 0

/-- Bytes 0 to 59 of a record that is not torn: those that its integrity covers. -/
def PwrRec.covered (r : PwrRec) : List Byte :=
  r.head ++ (leBytes 4 r.seq ++ leBytes 4 r.ups ++ List.replicate 8 0)

theorem PwrRec.bytes_of_torn {r : PwrRec} (torn : r.torn = true) (checked : Bool) :
    PwrRec.bytes checked r = r.head ++ List.replicate 20 0xFF := by
  simp only [PwrRec.bytes, PwrRec.head, PwrRec.times, torn, if_true, List.map_map]
  rfl

theorem PwrRec.bytes_of_whole {r : PwrRec} (whole : r.torn = false) (checked : Bool) :
    PwrRec.bytes checked r
      = r.covered ++ (if checked then leBytes 4 (crc32c r.covered).toNat else List.replicate 4 0xFF) := by
  simp only [PwrRec.bytes, PwrRec.covered, PwrRec.head, PwrRec.times, whole, Bool.false_eq_true, if_false, List.map_map]
  rfl

@[simp] theorem PwrRec.length_front (r : PwrRec) : r.front.length = 18 := by
  simp [PwrRec.front]

@[simp] theorem PwrRec.length_times (r : PwrRec) : r.times.length = 12 := by
  simp [PwrRec.times]

@[simp] theorem PwrRec.length_head (r : PwrRec) : r.head.length = 44 := by
  simp only [PwrRec.head, List.length_append, length_front, length_flatten_leBytes, length_times, length_leBytes]

@[simp] theorem PwrRec.length_covered (r : PwrRec) : r.covered.length = 60 := by
  simp [PwrRec.covered]

/-- Torn or not, a record begins with its head, and 20 bytes follow. -/
theorem PwrRec.bytes_split (checked : Bool) (r : PwrRec) :
    ∃ tail : List Byte, tail.length = 20 ∧ PwrRec.bytes checked r = r.head ++ tail := by
  cases torn : r.torn with
  | true => exact ⟨_, List.length_replicate, r.bytes_of_torn torn checked⟩
  | false =>
    refine ⟨_, ?_, (r.bytes_of_whole torn checked).trans (List.append_assoc ..)⟩
    cases checked <;> simp

theorem PwrRec.length_bytes (checked : Bool) (r : PwrRec) : (PwrRec.bytes checked r).length = 64 := by
  obtain ⟨tail, length, split⟩ := r.bytes_split checked
  simp [split, length]

theorem b2n_le_one (b : Bool) : b2n b ≤ 1 := by
  cases b <;> simp [b2n]

/-- The fields of R398 before the rails' times. -/
theorem PwrRec.front_fields {checked : Bool} {r : PwrRec} (gtc : r.gtc < 2 ^ 64) (src : r.src < 2 ^ 16)
    (reason : r.reason < 256) (step : r.step < 16) (attempt : r.attempt < 8) (stage : r.stage < 16) :
    leAt (PwrRec.bytes checked r) 0 8 = r.gtc ∧ leAt (PwrRec.bytes checked r) 8 2 = r.src
      ∧ leAt (PwrRec.bytes checked r) 10 1 = r.reason ∧ leAt (PwrRec.bytes checked r) 11 1 = r.step + 16 * r.attempt
      ∧ leAt (PwrRec.bytes checked r) 12 2 = r.en.toNat ∧ leAt (PwrRec.bytes checked r) 14 2 = r.pg.toNat
      ∧ leAt (PwrRec.bytes checked r) 16 1 = b2n r.infail + 2 * b2n r.estore + 4 * b2n r.trip
      ∧ leAt (PwrRec.bytes checked r) 17 1 = r.stage := by
  have en := r.en.isLt
  have pg := r.pg.isLt
  have infail := b2n_le_one r.infail
  have estore := b2n_le_one r.estore
  have trip := b2n_le_one r.trip
  obtain ⟨tail, -, split⟩ := r.bytes_split checked
  simp only [split, PwrRec.head, PwrRec.front, List.append_assoc, leAt_append_of_le, length_leBytes, leAt_leBytes_append,
    Nat.reduceLeDiff, Nat.reduceSub, Nat.reducePow]
  omega

theorem PwrRec.elapsed_field (checked : Bool) {r : PwrRec} {n : Nat} (rail : n < 12)
    (fits : SMap.get r.elapsed 0 n < 2 ^ 16) :
    leAt (PwrRec.bytes checked r) (18 + 2 * n) 2 = SMap.get r.elapsed 0 n := by
  obtain ⟨tail, -, split⟩ := r.bytes_split checked
  have behind : r.front.length ≤ 18 + 2 * n := by simp
  have listed : n < r.times.length := by simpa using rail
  calc leAt (PwrRec.bytes checked r) (18 + 2 * n) 2
      = r.times[n] % 256 ^ 2 := by
        simp only [split, PwrRec.head, List.append_assoc]
        rw [leAt_append_of_le behind, PwrRec.length_front, Nat.add_sub_cancel_left, leAt_flatten_leBytes _ listed]
    _ = SMap.get r.elapsed 0 n := by
        simpa [PwrRec.times] using Nat.mod_eq_of_lt fits

/-- SEQ and UPS of a record that is not torn, and behind them its integrity, or an erased word before it is checked. -/
theorem PwrRec.tail_fields {r : PwrRec} (whole : r.torn = false) (seq : r.seq < 2 ^ 32) (ups : r.ups < 2 ^ 32) :
    leAt (PwrRec.bytes true r) 44 4 = r.seq ∧ leAt (PwrRec.bytes true r) 48 4 = r.ups
      ∧ leAt (PwrRec.bytes true r) 60 4 = (crc32c ((PwrRec.bytes true r).take 60)).toNat
      ∧ leAt (PwrRec.bytes false r) 60 4 = 0xFFFFFFFF := by
  have crc := (crc32c r.covered).isLt
  have covered : (PwrRec.bytes true r).take 60 = r.covered := by
    rw [r.bytes_of_whole whole, List.take_left' r.length_covered]
  refine ⟨?_, ?_, ?_, ?_⟩
  · simpa [r.bytes_of_whole whole, PwrRec.covered, leAt_append_of_le] using seq
  · simpa [r.bytes_of_whole whole, PwrRec.covered, leAt_append_of_le] using ups
  · rw [covered, r.bytes_of_whole whole]
    simpa [leAt_append_of_le] using crc
  · rw [r.bytes_of_whole whole, leAt_append_of_le (by simp)]
    simp [leAt, slice, leNat]

/-! ## CRC-32C (R358) -/

theorem crc32c_check : crc32c [0x31, 0x32, 0x33, 0x34, 0x35, 0x36, 0x37, 0x38, 0x39] = 0xE3069283 := by
  decide +kernel

/-- Settles O60: a divergence record by its four words, a power-log record field by field, and the check value. -/
theorem recordLayouts : Obligations.RecordLayouts := by
  refine ⟨fun s r selected gtc src grove line => ?_, PwrRec.length_bytes, fun _ _ => PwrRec.front_fields,
    fun checked _ _ => PwrRec.elapsed_field checked, fun _ => PwrRec.tail_fields, crc32c_check⟩
  simp only [divWord_of_selected selected, recWord_low, recWord_all (divRecNum_lt r)]
  exact divRecNum_fields gtc src grove line

end Sys2Proof.Machine
end

section
/-!
PROOFS. Role changes by frames of the twin (R78, R79, R92, R97, R99, R102, R107, R114, R120).
-/

namespace Sys2Proof.Machine

open Sys2Proof

/-! ## A frame in order (R117, R118, R121) -/

/-- The parts of `FrameIn` before the epoch's: a frame of the UTL is received, whatever its epoch. -/
structure FrameReceived (s : State) (h : FrameHdr) : Prop where
  live : twLive s = true
  utl : h.net = false
  link : linkOpen s = true
  ok : h.ok = true
  inOrder : h.linkSeq = s.twin.rxSeq % 2 ^ 32
  mem : h.mem = 0

theorem utl_of_frame {s : State} {h : FrameHdr} (arrives : FrameIn s h) : h.net = false := arrives.2.1

/-- A frame that is received comes to the gate of its epoch, in the state that has seen it. -/
theorem onUtl_of_received {s : State} {h : FrameHdr} (r : FrameReceived s h) (endSeq : Option Nat) (ack : Bool)
    (f : State → State) : onUtl h endSeq ack f s = epochGate h endSeq ack f (frameSeen h s) := by
  simp only [onUtl, r.live, r.utl, r.link, r.ok, r.inOrder, r.mem, copRead_zero, Bool.not_true, Bool.or_self,
    Bool.false_eq_true, if_false, if_true, ne_eq, not_true, decide_false]
  rfl

/-- HANDOVER_ACK of the next epoch acts at the leader that sent HANDOVER (R78, R114). -/
theorem epochGate_of_handoverAck {s : State} {h : FrameHdr} (leads : s.twin.role = .leader) (sent : s.twin.handover = 2)
    (next : h.epoch = s.twin.epoch + 1) (endSeq : Option Nat) (f : State → State) :
    epochGate h endSeq true f s = f s := by
  simp [epochGate, leads, sent, next]

/-- A frame of the UTL in order and of the node's epoch has the effect that follows it. -/
theorem does_utlFrame {c : Instr} {s t : State} {h : FrameHdr} {endSeq : Option Nat} {ack : Bool} {f : State → State}
    (meaning : exec c s = done (onUtl h endSeq ack f s)) (arrives : FrameIn s h) (e : f (frameSeen h s) = t) :
    Does c s t :=
  does_of_done meaning ((onUtl_of_frame arrives endSeq ack f).trans e)

/-- The same for a frame that both paths carry. -/
theorem does_eitherFrame {c : Instr} {s t : State} {h : FrameHdr} {endSeq : Option Nat} {f : State → State}
    (meaning : exec c s = done (onEither h endSeq f s)) (arrives : FrameIn s h) (e : f (frameSeen h s) = t) :
    Does c s t :=
  does_of_done meaning ((onEither_of_frame arrives endSeq f).trans e)

@[simp] theorem serving_frameSeen (h : FrameHdr) (s : State) : serving (frameSeen h s) = serving s := by
  simp only [serving, frameSeen_role]

@[simp] theorem feature_frameSeen (h : FrameHdr) (s : State) (n : Nat) : feature (frameSeen h s) n = feature s n := by
  simp only [feature, frameSeen_features]

section
variable {s : State} {h : FrameHdr} (arrives : FrameIn s h)
include arrives

/-! ## LEAVING and RELEASE (R97, R99, R102, R107) -/

theorem does_leaving_leader (leads : s.twin.role = .leader) (n : Nat) :
    Does (.leaving h n) s (toSolo (modTwin (fun w => { w with peerApplied := n }) (frameSeen h s))) :=
  does_eitherFrame rfl arrives (by simp only [frameSeen_role, leads])

theorem does_leaving_fenced (fenced : s.twin.role = .fenced) (n : Nat) :
    Does (.leaving h n) s (promote (frameSeen h s)) :=
  does_eitherFrame rfl arrives (by simp only [frameSeen_role, fenced])

/-- RELEASE_ACK goes back on the path that RELEASE came by, here the UTL. -/
theorem does_release (stands : s.twin.role = .standby) :
    Does (.release h) s (toJoining false [] (modTwin (fun w => { w with t1Intact := true })
      (sendUtl .releaseAck (frameSeen h s)))) :=
  does_eitherFrame rfl arrives (by simp [stands, utl_of_frame arrives])

theorem does_releaseAck (leads : s.twin.role = .leader) :
    Does (.releaseAck h) s (modTwin (fun w => { w with peerT1 := true }) (toSolo (frameSeen h s))) :=
  does_eitherFrame rfl arrives (if_pos ((frameSeen_role h s).trans leads))

/-! ## Planned handover (R114) -/

theorem does_handoverFrame (stands : s.twin.role = .standby) (agreed : feature s 4 = true)
    (below : s.twin.epoch + 1 < 2 ^ 32)
    (applies : (applyReceived ((frameSeen h s).seqr.inputs.length + 1) (frameSeen h s)).twin.role = .standby) (n : Nat) :
    let t := applyReceived ((frameSeen h s).seqr.inputs.length + 1) (frameSeen h s)
    Does (.handoverFrame h n) s (raise 418 (sendUtl (.handoverAck (t.twin.epoch + 1))
      (setRole .leader (setEpoch (t.twin.epoch + 1) (modTwin (fun w => { w with
        endSeq := n, unrep := [], lag := 0, peerApplied := n, peerAck := n, retained := []
        bmOpen := false, bmTiles := [], digSpan := true }) t))))) := by
  refine does_utlFrame rfl arrives ((if_neg ?_).trans ((if_neg ?_).trans (if_neg ?_)))
  · simp [stands, agreed]
  · rwa [frameSeen_epoch, Nat.not_le]
  · rw [applies]
    decide

/-! ## TIME (R92, R120, R128) -/

theorem does_timeFrame_serves (serves : serving s = true) (a b c : Nat) :
    Does (.timeFrame h a b c) s (sendUtl (.time a (now (frameSeen h s)) (now (frameSeen h s))) (frameSeen h s)) :=
  does_utlFrame rfl arrives (if_pos ((serving_frameSeen h s).trans serves))

end

/-- The state of a node that does not serve once an answer to its TIME has corrected its GTC and measured the round
trip (R92, R128). -/
def timeTaken (h : FrameHdr) (a b c : Nat) (s : State) : State :=
  let t := frameSeen h s
  takeTime (((b : Int) - a + (c - (now t : Int))) / 2) (modTwin (fun w => { w with rtt := now t - a - (c - b) }) t)

/-- An answer to TIME is taken, and drops the link where its round trip is above 1.5 µs. -/
theorem does_timeFrame_answer {s t : State} {h : FrameHdr} {a b c : Nat} (arrives : FrameIn s h)
    (follows : serving s = false) (answer : b ≠ 0)
    (e : (if 1500 < now (frameSeen h s) - a - (c - b)
      then dropLink 426 (modTwin (fun w => { w with noRetry := true }) (timeTaken h a b c s))
      else timeTaken h a b c s) = t) : Does (.timeFrame h a b c) s t :=
  have asks : ¬ serving (frameSeen h s) = true := by simp [follows]
  does_utlFrame rfl arrives ((if_neg asks).trans ((if_neg answer).trans e))

/-! ## HANDOVER_ACK (R76, R78, R114, R320) -/

theorem does_handoverAck {s : State} {h : FrameHdr} (arrives : FrameReceived s h) (leads : s.twin.role = .leader)
    (sent : s.twin.handover = 2) (next : h.epoch = s.twin.epoch + 1) :
    let t := frameSeen h s
    let last := t.seqr.nextSeq - 1
    let t1 := setRole .standby (setEpoch (s.twin.epoch + 1) (modTwin (fun w => { w with
      handover := 0, retained := [], unrep := [], lag := 0, lagHold := false, applied := last, ackSeq := last
      peerRole := .leader, cmdBusy := false, cmdResult := 0, digSpan := true }) (cleanDirty t)))
    Does (.handoverAck h (s.twin.epoch + 1)) s (dropQps 2 (forEach t.seqr.reads
      (fun r u => refuseCxl r.req 5 false r.req.hpa (some r.grove) u)
      (refuseAllHeld { t1 with seqr := { t1.seqr with reads := [] } }))) := by
  refine does_of_done rfl ((onUtl_of_received arrives ..).trans ((epochGate_of_handoverAck ?_ ?_ ?_ _ _).trans (if_pos ?_)))
  · rw [frameSeen_role, leads]
  · rw [frameSeen_handover, sent]
  · rw [frameSeen_epoch, next]
  · simp [leads, sent]

/-! ## NEGOTIATE (R79, R115, R118 to R120) -/

section
variable {s : State} {h : FrameHdr} {n : NegRec} (live : twLive s = true) (utl : h.net = false)
  (negotiates : s.twin.link = .negotiate) (ok : h.ok = true)
include live utl negotiates ok

theorem does_negotiate_sameNode (same : n.nodeB = s.pwr.nodeB) (roled : ownStage9 s = false) (rtt : Nat) :
    Does (.negotiate h n rtt) s (raise 425 (utlDown s)) :=
  does_of_done rfl (by simp [live, utl, negotiates, ok, same, roled, dropLink])

theorem does_negotiate_up {rtt : Nat} (other : n.nodeB ≠ s.pwr.nodeB) (fits : negMatches s n = true)
    (keyed : linkKeyed s = true) (near : rtt ≤ 1500)
    (lanes : laneOk (linkStarts n rtt s) (linkStarts n rtt s).twin.lanes = true) :
    Does (.negotiate h n rtt) s (elect n (linkStarts n rtt s)) :=
  does_of_done rfl (by simp [live, utl, negotiates, ok, other, fits, keyed, Nat.not_lt.2 near, lanes])

end

/-- Settles O26: each frame by the role that receives it, HANDOVER_ACK by the epoch it announces. -/
theorem twinRoles : Obligations.TwinRoles :=
  ⟨fun _ _ n arrives => ⟨fun leads => does_leaving_leader arrives leads n,
      fun fenced => does_leaving_fenced arrives fenced n⟩,
    fun _ _ => does_release, fun _ _ => does_releaseAck,
    fun _ _ n arrives stands agreed below applies => does_handoverFrame arrives stands agreed below applies n,
    fun _ _ live utl link ok inOrder mem => does_handoverAck ⟨live, utl, link, ok, inOrder, mem⟩,
    fun _ _ a b c arrives => ⟨fun serves => does_timeFrame_serves arrives serves a b c,
      fun follows answer near => does_timeFrame_answer arrives follows answer (if_neg (Nat.not_lt.2 near)),
      fun follows answer far => does_timeFrame_answer arrives follows answer (if_pos far)⟩,
    fun _ _ _ rtt live utl negotiates ok =>
      ⟨fun same roled => does_negotiate_sameNode live utl negotiates ok same roled rtt,
        does_negotiate_up live utl negotiates ok⟩⟩

end Sys2Proof.Machine
end

section
/-!
PROOFS. The timers of the twin (R80, R89, R92, R94, R96, R97, R100, R114, R118, R126).
-/

namespace Sys2Proof.Machine

open Sys2Proof

/-! ## HEARTBEAT, TIME and NEGOTIATE (R92, R94, R118, R120) -/

theorem does_heartbeatTimer {s : State} (live : twLive s = true) (roled : s.twin.role ≠ .unset) :
    Does .heartbeatTimer s (noteSilence (sendBoth
      (.heartbeat s.twin.role s.twin.lagHold (s.twin.resync ≠ 0) (report s).1 (report s).2.1 (report s).2.2) s)) :=
  does_of_done rfl (if_neg (by simp [live, roled]))

theorem does_timeTimer {s : State} (live : twLive s = true) (follows : serving s = false) (roled : s.twin.role ≠ .unset) :
    Does .timeTimer s (sendUtl (.time (now s) 0 0) s) :=
  does_of_done rfl (if_pos (by simp [live, follows, roled]))

theorem does_negotiateTimer {s : State} (live : twLive s = true) (negotiates : s.twin.link = .negotiate) :
    Does .negotiateTimer s (send (.frame { utlHdr 3 s with key := negKey s } (.negotiate (ownNeg s)))
      (modTwin (fun t => { t with txSeq := (t.txSeq + 1) % 2 ^ 64 }) s)) :=
  does_of_done rfl (if_pos (by simp [live, negotiates]))

/-! ## Silence of the peer (R80, R96, R97, R100, R126) -/

section
variable {s : State} (ready : isReady s = true) (stands : s.twin.role = .standby)
include ready stands

/-- A silent STANDBY, with its losses noted, promotes or waits as the policy says. -/
theorem exec_thbExpiry_of_standby : exec .thbExpiry s = done
    (if fld s .twinTimers 21 21 = 0 || (feature s 3 && netSilent s) then promote (loseNet (loseUtl s))
      else loseNet (loseUtl s)) :=
  congrArg done (if_neg (by simp [ready, stands]))

theorem does_thbExpiry_auto (auto : fld s .twinTimers 21 21 = 0) :
    Does .thbExpiry s (promote (loseNet (loseUtl s))) :=
  does_of_done (exec_thbExpiry_of_standby ready stands) (if_pos (by simp [auto]))

theorem does_thbExpiry_witness (witness : fld s .twinTimers 21 21 ≠ 0) (noNet : feature s 3 = false) :
    Does .thbExpiry s (loseNet (loseUtl s)) :=
  does_of_done (exec_thbExpiry_of_standby ready stands) (if_neg (by simp [witness, noNet]))

end

theorem does_leaderUtlSilence {s : State} (ready : isReady s = true) (leads : s.twin.role = .leader)
    (net : feature s 3 = true) (heard : netSilent s = false) (witness : fld s .twinTimers 21 21 = 1) :
    Does .leaderUtlSilence s (sendNet .release (loseNet (loseUtl s))) :=
  does_of_done rfl ((if_neg (by simp [ready, leads])).trans ((if_neg (by simp [net, heard])).trans (if_pos witness)))

theorem does_fenceExpiry {s : State} (ready : isReady s = true) (leads : s.twin.role = .leader) :
    Does .fenceExpiry s (fence s) :=
  does_of_done rfl (if_pos (by simp [ready, leads]))

section
variable {s : State} (live : twLive s = true) (waits : ownStage9 s = true) (other : s.twin.sameNode = false)
  (timed : fld s .twinTimers 31 22 ≠ 0)
include live waits other timed

/-- A node that has waited in stage 9 goes on as its last stored role says. -/
theorem exec_tjoinExpiry_of_waiting : exec .tjoinExpiry s = done
    (if s.cfg.node.lastRole = .leader || s.cfg.node.lastRole = .solo then promote s else raise 428 s) :=
  congrArg done (if_neg (by simp [live, waits, other, timed]))

theorem does_tjoinExpiry_served (served : s.cfg.node.lastRole = .leader ∨ s.cfg.node.lastRole = .solo) :
    Does .tjoinExpiry s (promote s) :=
  does_of_done (exec_tjoinExpiry_of_waiting live waits other timed) (if_pos (by simpa using served))

theorem does_tjoinExpiry_other (leader : s.cfg.node.lastRole ≠ .leader) (solo : s.cfg.node.lastRole ≠ .solo) :
    Does .tjoinExpiry s (raise 428 s) :=
  does_of_done (exec_tjoinExpiry_of_waiting live waits other timed) (if_neg (by simp [leader, solo]))

end

/-! ## Lag, handover and session keys (R89, R114, R118, R126) -/

theorem does_lagHoldStart {s : State} (leads : s.twin.role = .leader) (unreported : s.twin.unrep ≠ [])
    (free : s.twin.lagHold = false) : Does .lagHoldStart s { s with twin := { s.twin with lagHold := true } } :=
  does_of_done rfl (if_pos (by simp [leads, unreported, free]))

theorem does_lagHoldLong {s : State} (held : s.twin.lagHold = true) : Does .lagHoldLong s (raise 422 s) :=
  does_of_done rfl (if_pos held)

/-- A leader in a handover with nothing left to emit, whose peer has applied its last number, hands over. -/
theorem does_handoverSend {s : State} (leads : s.twin.role = .leader) (hands : s.twin.handover = 1)
    (link : linkOpen s = true) (sent : s.seqr.unsent = [])
    (emitted : ∀ i ∈ s.seqr.inputs, i.seq ≠ 0 ∨ isLocal i.op = true)
    (applied : s.twin.peerApplied = s.seqr.nextSeq - 1) :
    Does .handoverSend s (sendUtl (.handover (s.seqr.nextSeq - 1)) (modTwin (fun w => { w with handover := 2 }) s)) :=
  does_of_done rfl (if_pos (by simpa [leads, hands, link, sent, applied, imp_iff_not_or] using emitted))

theorem does_rekeyCount {s : State} (live : twLive s = true) (link : linkOpen s = true) (idle : s.twin.rekeying = false)
    (spent : 2 ^ 48 ≤ s.twin.txSeq ∨ 2 ^ 48 ≤ s.twin.netTx) :
    let r := (Config.drbg s.free).setWidth 256
    Does .rekeyCount s
      (sendUtl (.rekey r) (modTwin (fun w => { w with rekeying := true, sessionRand := r }) (useFree s))) :=
  does_of_done rfl (if_neg (by simpa [live, link, idle, imp_iff_not_or] using spent))

/-- Settles O27: each timer in the state that its conditions describe. -/
theorem twinTimers : Obligations.TwinTimers :=
  ⟨fun _ => does_heartbeatTimer, fun _ => does_timeTimer, fun _ => does_negotiateTimer,
    fun _ ready stands => ⟨does_thbExpiry_auto ready stands, does_thbExpiry_witness ready stands⟩,
    fun _ => does_leaderUtlSilence, fun _ => does_fenceExpiry,
    fun _ live waits other timed =>
      ⟨does_tjoinExpiry_served live waits other timed, does_tjoinExpiry_other live waits other timed⟩,
    fun _ => does_lagHoldStart, fun _ => does_lagHoldLong, fun _ => does_handoverSend, fun _ => does_rekeyCount⟩

end Sys2Proof.Machine
end

section
/-!
PROOFS. Training and lanes of the UTL (R116, R118, R120).
-/

namespace Sys2Proof.Machine

open Sys2Proof

/-! ## Training (R118, R120) -/

theorem does_utlRetryTimer {s : State} (live : twLive s = true) (down : s.twin.link = .down)
    (retries : s.twin.noRetry = false) :
    Does .utlRetryTimer s { s with twin := { s.twin with link := .train } } :=
  does_of_done rfl (if_pos (by simp [live, down, retries]))

theorem does_utlTrainLock {s : State} {m : BitVec 16} (live : twLive s = true) (trains : s.twin.link = .train)
    (group : (laneGroups s).contains m = true) : Does (.utlTrainLock m) s (modTwin (fun t => { t with
      link := .negotiate, lanes := m, negCount := t.negCount + 1, sessionRand := (Config.drbg s.free).setWidth 256 })
      (useFree s)) :=
  does_of_done rfl (if_pos (by simpa [live, trains] using group))

theorem does_utlTrainTimeout {s : State} (trains : s.twin.link = .train) :
    Does .utlTrainTimeout s (raise 425 (utlDown s)) :=
  does_of_done rfl (if_pos trains)

theorem does_utlNegotiateTimeout {s : State} (negotiates : s.twin.link = .negotiate) :
    Does .utlNegotiateTimeout s (raise 425 (utlDown s)) :=
  does_of_done rfl (if_pos negotiates)

/-! ## Lanes (R116, R120) -/

theorem does_laneChangeTimeout {s : State} (degrades : s.twin.link = .degrade) :
    Does .laneChangeTimeout s (raise 424 (utlDown s)) :=
  does_of_done rfl (if_pos degrades)

section
variable {s : State} {w : BitVec 16} (link : linkOpen s = true)
include link

theorem does_utlLaneFault_narrower {m : BitVec 16} (group : narrower s w = some m) : Does (.utlLaneFault w) s
    (sendUtl (.laneChange m false) (modTwin (fun t => { t with link := .degrade, proposed := some m }) s)) :=
  does_of_done rfl ((if_neg (by simp [link])).trans (by rw [group]))

theorem does_utlLaneFault_none (noGroup : narrower s w = none) : Does (.utlLaneFault w) s (raise 424 (utlDown s)) :=
  does_of_done rfl ((if_neg (by simp [link])).trans (by rw [noGroup]; rfl))

end

theorem does_laneChange_proposal {s : State} {h : FrameHdr} {m : BitVec 16} (arrives : FrameIn s h)
    (group : laneOk (frameSeen h s) m = true) :
    Does (.laneChange h m false) s (useLanes m (sendUtl (.laneChange m true) (frameSeen h s))) :=
  does_utlFrame rfl arrives (by simp [group])

/-- Settles O28: each event of the link by its state, a lane fault by the group that is left. -/
theorem utlLink : Obligations.UtlLink :=
  ⟨fun _ => does_utlRetryTimer, fun _ _ => does_utlTrainLock,
    fun _ => ⟨does_utlTrainTimeout, does_utlNegotiateTimeout, does_laneChangeTimeout⟩,
    fun _ _ _ link => does_utlLaneFault_narrower link, fun _ _ => does_utlLaneFault_none, fun _ _ _ => does_laneChange_proposal⟩

end Sys2Proof.Machine
end

section
/-!
PROOFS. TWIN_CMD (R97, R102, R106, R107, R114, R116).
-/

namespace Sys2Proof.Machine

open Sys2Proof

/-- The state in which a twin command runs: the link may train again, and no result stands (R116, R120). -/
def cmdTaken (s : State) : State := { s with twin := { s.twin with noRetry := false, cmdResult := 0 } }

section
variable (s : State)
@[simp] theorem cmdTaken_role : (cmdTaken s).twin.role = s.twin.role := rfl
@[simp] theorem cmdTaken_peerRole : (cmdTaken s).twin.peerRole = s.twin.peerRole := rfl
@[simp] theorem cmdTaken_epoch : (cmdTaken s).twin.epoch = s.twin.epoch := rfl
@[simp] theorem cmdTaken_link : (cmdTaken s).twin.link = s.twin.link := rfl
@[simp] theorem cmdTaken_cipher : (cmdTaken s).cipher = s.cipher := rfl
@[simp] theorem linkOpen_cmdTaken : linkOpen (cmdTaken s) = linkOpen s := rfl
@[simp] theorem feature_cmdTaken (n : Nat) : feature (cmdTaken s) n = feature s n := rfl
@[simp] theorem hasTwin_cmdTaken : hasTwin (cmdTaken s) = hasTwin s := rfl
@[simp] theorem regWord_cmdTaken (id : RegId) (i j : Nat) : regWord (cmdTaken s) id i j = regWord s id i j := rfl
end

section
variable {s : State} {p : Path} (mgr : Manager s p) (free : s.twin.cmdBusy = false)
include mgr free

/-- A twin command of management, with none running, has the effect that follows its acceptance. -/
theorem does_twinCmd {c : Instr} {t : State} {f : State → State} (meaning : exec c s = done (twinCmd p f s))
    (e : f (cmdTaken s) = t) : Does c s t :=
  does_of_done meaning ((twinCmd_of_manager mgr free f).trans e)

theorem does_handover (leads : s.twin.role = .leader) (converged : s.twin.peerRole = .standby)
    (link : linkOpen s = true) (agreed : feature s 4 = true) : Does (.handover p) s { s with twin := { s.twin with
      noRetry := false, cmdResult := 0, handover := 1, cmdBusy := true } } :=
  does_twinCmd mgr free rfl ((if_neg (by simp [leads, converged, link])).trans (if_neg (by simp [agreed])))

theorem does_resume (fenced : s.twin.role = .fenced) (unblocked : s.cipher.dukBlocked = false) :
    Does (.resume p) s (promoteCmd (cmdTaken s)) :=
  does_twinCmd mgr free rfl (if_neg (by simp [fenced, unblocked]))

theorem does_forceLead_stage9 (twin : hasTwin s = true) (waits : ownStage9 s = true)
    (leads : (promoteCmd (cmdTaken s)).twin.role = .solo) :
    Does (.forceLead p) s (setIncomplete (promoteCmd (cmdTaken s))) :=
  does_twinCmd mgr free rfl ((if_neg (by simp [twin])).trans ((if_pos waits).trans (if_pos leads)))

theorem does_witnessGrant_fenced (fenced : s.twin.role = .fenced) (unblocked : s.cipher.dukBlocked = false)
    (epoch : regWord s .twinCmdArg = s.twin.epoch) : Does (.witnessGrant p) s (promoteCmd (cmdTaken s)) :=
  does_twinCmd mgr free rfl (by simp [fenced, unblocked, epoch])

theorem does_divClear : Does (.divClear p) s (touchMeta (tkey 1023 8192) (modMeta (fun m => { m with divs := [] })
    { s with twin := { s.twin with noRetry := false, cmdResult := 0, divLost := 0, divFull := false } })) :=
  does_twinCmd mgr free rfl rfl

theorem does_rewiden (up : s.twin.link = .up) (narrow : s.twin.lanes ≠ allLanes s) :
    Does (.rewiden p) s (sendUtl (.laneChange (allLanes s) false) { s with twin := { s.twin with
      noRetry := false, cmdResult := 0, proposed := some (allLanes s), cmdBusy := true } }) :=
  does_twinCmd mgr free rfl ((if_neg (by simp [up])).trans (if_neg narrow))

end

/-- Settles O30: each command as `does_twinCmd` runs it. -/
theorem twinCommands : Obligations.TwinCommands :=
  ⟨fun _ _ => does_handover, fun _ _ => does_resume, fun _ _ => does_forceLead_stage9, fun _ _ => does_witnessGrant_fenced,
    fun _ _ => does_divClear, fun _ _ => does_rewiden⟩

end Sys2Proof.Machine
end

section
/-!
PROOFS. Fills, evictions, promotions and late touches (R137, R151, R184, R186).
-/

namespace Sys2Proof.Machine

open Sys2Proof

/-! ## The cache's traffic with the channels (R184, R186) -/

theorem does_canopyFill {s u : State} {g line f : Nat} {m : Miss} (misses : missLine s g line = some m)
    (resident : (tile s g (tileOf line)).frame = some f) (on : s.pwr.state = .on)
    (finished : finishReq .fill g line (passMiss (sliceOf s g line) s) = some u) (o : DramRead) (chk : ArrayCheck) :
    Does (.canopyFill g line o chk) s (takeFill g line f m o chk u) :=
  does_of_done rfl (by simp only [misses, resident, on, finished]; rfl)

theorem does_evictionWritten {s u : State} {g line : Nat} {o : DramRead} (on : s.pwr.state = .on)
    (evicts : trkLine s g line ≠ []) (reads : (trkCheck g line s).2 = false)
    (written : writeOldest g line o (trkCheck g line s).1 = some u) :
    Does (.evictionWritten g line .ok o) s (walkMore (runQueue u)) :=
  does_of_done rfl (by simp [on, evicts, reads, written])

/-! ## Promotions (R137) -/

/-- What an arrival does to the promotion: its sector is marked, the grove's key slot is used once, and paths 11 and
12 are sampled from the promotion's start (R137; log 36). -/
theorem does_promotionLineArrival {s : State} {g t : Nat} {p : Promo} (runs : promoOf s g t = some p)
    (works : working s = true) (sound : repairing s g t (secOf p.line) = false)
    (first : p.arrived.getLsbD (secOf p.line) = false) (came : sectorCame s p (secOf p.line) = true) :
    Does (.promotionLineArrival g t) s (serveLates g t (serveWaiters g t (fun a => secOf a = secOf p.line)
      (recSample 12 (now s - p.gtc) (recSample 11 (now s - p.gtc) (passLine g p.line
        (useSlot (groveSlot s g) 1 (updPromo g t (fun x => { x with
          arrived := x.arrived ||| BitVec.ofNat 16 (2 ^ secOf p.line) }) s))))))) :=
  does_of_done rfl (by simp only [runs]; exact if_neg (by simp [works, sound, first, came]))

theorem does_promotionComplete {s : State} {g t : Nat} {p : Promo} (runs : promoOf s g t = some p)
    (works : working s = true) (sound : s.tier.repairs.any (fun r => r.grove = g && r.tile = t) = false)
    (passes : portOpen s (regFor s 1) 1024 = true) (came : ∀ i < 16, sectorCame s p i = true) :
    Does (.promotionComplete g t) s (endPromo g t s) := by
  have whole : (List.range 16).all (sectorCame s p) = true :=
    List.all_eq_true.2 fun i h => came i (List.mem_range.1 h)
  exact does_of_done rfl (by simp only [runs]; exact if_neg (by simp only [works, sound, passes, whole]; decide))

/-! ## Late touches (R151) -/

/-- A late touch past its bound is marked for a direct read, and is served at once where its tile is resident by
then. -/
theorem exec_lateBoundExpiry_of_waiting {s : State} {id : Nat} {l : LateTouch}
    (waits : s.tier.lates.find? (fun x => x.id = id) = some l) (bounded : l.bound ≠ 0) :
    let s1 := raise 571 { s with tier := { s.tier with
      lates := mapIf (fun x => x.id = id) (fun x => { x with bound := 0, direct := true }) s.tier.lates } }
    exec (.lateBoundExpiry id) s = done (if (tile s l.grove (tileOf l.line)).frame.isSome
      then serveLates l.grove (tileOf l.line) s1 else directRead l.grove l.line s1) :=
  congrArg done (by simp only [waits]; exact if_neg bounded)

/-- Settles O11: each event of a channel by what waits for it, a late touch by whether its tile is resident. -/
theorem canopyTraffic : Obligations.CanopyTraffic :=
  ⟨fun _ _ _ _ _ _ o chk misses resident on finished => does_canopyFill misses resident on finished o chk,
    fun _ _ _ _ _ => does_evictionWritten, fun _ _ _ _ => does_promotionLineArrival,
    fun _ _ _ _ => does_promotionComplete,
    fun _ _ _ waits bounded =>
      ⟨fun resident => does_of_done (exec_lateBoundExpiry_of_waiting waits bounded) (if_pos resident),
        fun absent => does_of_done (exec_lateBoundExpiry_of_waiting waits bounded) (if_neg (by simp [absent]))⟩⟩

end Sys2Proof.Machine
end

section
/-!
PROOFS. Demotion, trickles, the wear governor, the Cellar drain and the age sweep (R136, R141 to R143, R156, R158,
R161, R167).
-/

namespace Sys2Proof.Machine

open Sys2Proof

/-! ## Demotion (R141 to R143) -/

section
variable {s0 s : State} {errs : List LineRead} {c g t : Nat} (noted : noteReads errs s0 = s) (works : working s = true)
  (short : freeFrames s < freeLow s) (free : metaHeld s = false) (picks : pickDemotion s (fun _ _ => true) = some (c, g, t))
include noted works short free picks

/-- Below the low watermark, a demotion in its turn takes the chosen tile, with event 568 where it is forced on
class 3. -/
theorem exec_demotion_of_short (served : turn (if demandDemotion s then 3 else 11) s = true) :
    exec (.demotion errs) s0 = done (demoteTile c g t .demotion (demandDemotion s)
      (onlyIf (demandDemotion s && c = 3) (raise 568) s)) := by
  subst noted
  exact congrArg done ((if_neg (by simp [works, short, free])).trans
    ((if_neg (by simp only [served]; decide)).trans (by simp only [picks])))

theorem does_demotion_spare (spare : demandDemotion s = false) (served : turn 11 s = true) :
    Does (.demotion errs) s0 (demoteTile c g t .demotion false s) :=
  does_of_done (exec_demotion_of_short noted works short free picks (by rw [spare]; exact served)) (by rw [spare]; rfl)

theorem does_demotion_forced (forced : demandDemotion s = true) (served : turn 3 s = true) (other : c ≠ 3) :
    Does (.demotion errs) s0 (demoteTile c g t .demotion true s) :=
  does_of_done (exec_demotion_of_short noted works short free picks (by rw [forced]; exact served))
    (by simp [onlyIf, forced, other])

theorem does_demotion_class3 (forced : demandDemotion s = true) (served : turn 3 s = true) (class3 : c = 3) :
    Does (.demotion errs) s0 (demoteTile c g t .demotion true (raise 568 s)) :=
  does_of_done (exec_demotion_of_short noted works short free picks (by rw [forced]; exact served))
    (by simp [onlyIf, forced, class3])

end

/-! ## Trickles (R143, R156, R158) -/

theorem does_trickle {s0 s : State} {errs : List LineRead} {g t : Nat} (noted : noteReads errs s0 = s)
    (works : working s = true) (mode : cellarMode s = 1) (served : turn 10 s = true) (picks : pickTrickle s = some (g, t)) :
    Does (.trickle errs) s0 (tryProg .trickle g t false s) := by
  subst noted
  exact does_of_done rfl ((if_neg (by simp [works, mode, served])).trans (by rw [picks]))

/-- The metadata in force is kept, and the dirty sectors count as programmed, outside the governor's quota (R156,
R161). -/
theorem does_metadataTrickle {s : State} (works : working s = true) (keyed : groveKeyed s 1023 = true)
    (served : turn (if metaUrgent s then 4 else 11) s = true) :
    Does .metadataTrickle s (runQueue (anchorWrite (.root (Config.freeT2 s.free s.nand.t2Tiles))
      (useSlot (groveSlot s 1023) s.tier.metaDirty.length (useFree { s with tier := { s.tier with
        snap := { s.tier.md with layoutId := s.cfg.layoutId }, metaDirty := [], metaFull := false
        nandBytes := s.tier.nandBytes + 4096 * s.tier.metaDirty.length
        ungoverned := s.tier.ungoverned + 4096 * s.tier.metaDirty.length } })))) :=
  does_of_done rfl (if_neg (by simp only [works, keyed, served]; decide))

/-! ## The wear governor (R161) -/

/-- Once the rated bytes are written, the allowance is the floor, and the governor meets it. -/
theorem does_wearGovernorTick_floor {s : State} (works : working s = true) (above : s.tier.wearLimit = false)
    (spent : (img s).nand.peRating * t2Raw s ≤ s.tier.nandBytes) :
    Does .wearGovernorTick s (raise 567 { s with tier := { s.tier with
      wearAllow := fld s .tierWearCfg 31 16 * 1000 / 1000
      wearQuota := fld s .tierWearCfg 31 16 * 1000 - s.tier.ungoverned, ungoverned := 0, wearLimit := true } }) :=
  does_of_done rfl ((if_neg (by simp [works])).trans (by simp [onlyIf, above, Nat.not_lt.2 spent]))

/-! ## The Cellar drain (R167) -/

/-- The next tile that the drain can write: its Cellar records wait, nothing else moves it, and its grove has a
key. -/
def nextDrain (s : State) : Option (Nat × Nat) :=
  (cellarTiles s).find? (fun x => !programming s x.1 x.2 && !promoting s x.1 x.2 && groveKeyed s x.1)

section
variable {s0 s : State} {errs : List LineRead} (noted : noteReads errs s0 = s) (ready : isReady s = true)
  (works : working s = true) (drains : s.tier.draining = true) (served : turn 8 s = true)
include noted ready works drains served

theorem exec_cellarDrain_of_turn : exec (.cellarDrain errs) s0 = done (match nextDrain s with
    | some (g, t) => tryProg .drain g t false s
    | none => endDrain s) := by
  subst noted
  exact congrArg done (if_neg (by simp [ready, works, drains, served]))

theorem does_cellarDrain_tile {g t : Nat} (next : nextDrain s = some (g, t)) :
    Does (.cellarDrain errs) s0 (tryProg .drain g t false s) :=
  does_of_done (exec_cellarDrain_of_turn noted ready works drains served) (by rw [next])

theorem does_cellarDrain_end (noTile : nextDrain s = none) : Does (.cellarDrain errs) s0 (endDrain s) :=
  does_of_done (exec_cellarDrain_of_turn noted ready works drains served) (by rw [noTile])

end

/-! ## The age sweep (R136) -/

/-- An entry as the age sweep leaves it (R136). -/
def agedTile (e : Tile) : Tile := if e.frame.isSome then { e with age := min 255 (e.age + 1) } else e

theorem agedTile_frame (e : Tile) : (agedTile e).frame = e.frame := by
  unfold agedTile
  split <;> rfl

theorem agedTile_t2 (e : Tile) : (agedTile e).t2 = e.t2 := by
  unfold agedTile
  split <;> rfl

theorem does_ageSweep {s : State} (works : working s = true) : Does .ageSweep s { s with tier := { s.tier with
    md := { s.tier.md with tiles := SMap.mapVals s.tier.md.tiles {} agedTile } } } :=
  does_of_done rfl (if_neg (by simp [works]))

/-- Settles O13: each sweep in its turn, a demotion by whether it is forced and on which class. -/
theorem tierSweeps : Obligations.TierSweeps :=
  ⟨fun _ _ _ _ _ works short free picks =>
      ⟨does_demotion_spare rfl works short free picks, does_demotion_forced rfl works short free picks,
        does_demotion_class3 rfl works short free picks⟩,
    fun _ _ _ _ => does_trickle rfl, fun _ => does_metadataTrickle, fun _ => does_wearGovernorTick_floor,
    fun _ _ ready works drains served =>
      ⟨fun _ _ => does_cellarDrain_tile rfl ready works drains served,
        does_cellarDrain_end rfl ready works drains served⟩,
    fun _ => does_ageSweep, fun e => ⟨agedTile_frame e, agedTile_t2 e⟩⟩

end Sys2Proof.Machine
end

section
/-!
PROOFS. SEAL, UNSEAL and tile schedules (R144 to R148, R150, R444; log 57).
-/

namespace Sys2Proof.Machine

open Sys2Proof

/-! ## The posted commands (R144, R146, R147, R150) -/

/-- Asked for in version 1, a command of version 2 is unsupported (R485). -/
theorem postCmd_v1 {s : State} {p : Path} (up : BelvorUp s p) (tag code : Nat) (op : RecOp) :
    postCmd true p tag code op s = complete p tag code 0x80 [] s :=
  belvor_of_up up ..

/-- Posted by management at a serving node that holds nothing, a command is stamped under source 311 (R144). -/
theorem postCmd_of_mgr {s : State} {p : Path} (mgr : BelvorMgr s p) (serves : serving s = true)
    (admits : holdAll s = false) (tag code : Nat) (op : RecOp) :
    postCmd false p tag code op s = stampInput 311 (.log op) (.cmd p tag code) (srcOf p) 0 0 s := by
  obtain ⟨up, ready, mgmt⟩ := mgr
  rw [postCmd, belvor_of_up ⟨up, ready⟩]
  cases p with
  | mailbox q l => exact absurd mgmt Bool.false_ne_true
  | sp | mgmt | glade => simp [fromV2, serves, stampFrom_of_free admits]

/-- The source of the migration engine that the model's free choice gives a mailbox's command (log 57). -/
def engineSrc (s : State) : Nat := 288 + Config.choose s.free 16 % 16

theorem engineSrc_bounds (s : State) : 288 ≤ engineSrc s ∧ engineSrc s ≤ 303 := by
  unfold engineSrc
  omega

/-- Posted through a mailbox, a command is stamped under the source of a migration engine, with the source of the
LD as its origin (R144, log 57). -/
theorem postCmd_of_mailbox {s : State} {q l : Nat} (up : BelvorUp s (.mailbox q l)) (serves : serving s = true)
    (admits : holdAll s = false) (tag code : Nat) (op : RecOp) :
    postCmd false (.mailbox q l) tag code op s
      = useFree (stampInput (engineSrc s) (.log op) (.cmd (.mailbox q l) tag code) (16 * q + l) 0 0 s) := by
  rw [postCmd, belvor_of_up up]
  simp [fromV2, serves, stampFrom_of_free admits, srcOf, engineSrc]

/-! ## The copy of a sealing tile (R145) -/

section
variable {s0 s : State} {g t : Nat} {errs : List LineRead} (noted : noteReads errs s0 = s) (works : working s = true)
  (free : metaHeld s = false) (served : turn 9 s = true) (sealing : (tile s g t).sealing = true)
  (drained : tileLanded s g t = false) (noPromo : promoting s g t = false) (noMove : moving s g t = false)
  (noProg : programming s g t = false) (ready : settleReady s g t = true)
include noted works free served sealing drained noPromo noMove noProg ready

/-- A quiet sealing tile is programmed where a sector is dirty or it has no copy, and is finished otherwise. -/
theorem exec_sealCopy_of_quiet : exec (.sealCopy g t errs) s0 = done
    (if (tile (settleTile g t s) g t).sdirty != 0 || (tile (settleTile g t s) g t).t2.isNone
      then tryProg .sealCopy g t false (settleTile g t s) else finishSeal g t (settleTile g t s)) := by
  subst noted
  exact congrArg done (if_neg (by simp [works, free, served, sealing, drained, noPromo, noMove, noProg, ready]))

theorem does_sealCopy_dirty (dirty : (tile (settleTile g t s) g t).sdirty ≠ 0) :
    Does (.sealCopy g t errs) s0 (tryProg .sealCopy g t false (settleTile g t s)) :=
  does_of_done (exec_sealCopy_of_quiet noted works free served sealing drained noPromo noMove noProg ready)
    (if_pos (Bool.or_eq_true_iff.2 (.inl (bne_iff_ne.2 dirty))))

theorem does_sealCopy_clean (clean : (tile (settleTile g t s) g t).sdirty = 0)
    (copied : (tile (settleTile g t s) g t).t2.isSome = true) :
    Does (.sealCopy g t errs) s0 (finishSeal g t (settleTile g t s)) :=
  does_of_done (exec_sealCopy_of_quiet noted works free served sealing drained noPromo noMove noProg ready)
    (if_neg (by simp [clean, Option.isSome_iff_ne_none.1 copied]))

end

/-! ## Schedules (R148, R150, R444) -/

theorem does_scheduleStage {s u : State} {q : QEntry} {t : Nat} (works : working s = true) (serves : serving s = true)
    (ready : isReady s = true) (served : turn 6 s = true) (next : nextEntry s = some (q, t))
    (buffer : copAlloc 3 288 false s = some u) : Does .scheduleStage s (stageTile q t u) :=
  does_of_done rfl ((if_neg (by simp [works, serves, ready, served])).trans (by simp only [next, buffer]))

theorem does_scheduleEntryRetire {s : State} {id : Nat} {q : QEntry}
    (entry : s.tier.md.queue.find? (fun x => x.id = id) = some q) (works : working s = true) :
    Does (.scheduleEntryRetire id) s (retireEntry q s) :=
  does_of_done rfl (by simp only [entry, works, if_true])

/-- A state in which an allocation no longer waits. -/
def granted (w : Nat × Nat × Nat × Bool) (u : State) : State :=
  { u with cop := { u.cop with waiting := u.cop.waiting.erase w } }

section
variable {s u : State} {pool : Nat} {w : Nat × Nat × Nat × Bool} (there : pool < 4)
  (waits : s.cop.waiting.find? (fun x => x.1 = pool) = some w) (buffer : copAlloc pool w.2.2.1 w.2.2.2 s = some u)
include there waits buffer

theorem does_allocationGrant_stages {q : QEntry} {t : Nat} (serves : serving (granted w u) = true)
    (next : nextEntry (granted w u) = some (q, t)) : Does (.allocationGrant pool) s (stageTile q t (granted w u)) := by
  unfold granted at *
  exact does_of_onUnit rfl (decide_eq_true there) (by simp only [waits, buffer, serves, if_true, next])

theorem does_allocationGrant_frees (follows : serving (granted w u) = false) :
    Does (.allocationGrant pool) s (copFree pool w.2.2.1 (granted w u)) := by
  unfold granted at *
  exact does_of_onUnit rfl (decide_eq_true there)
    (by simp only [waits, buffer, follows, Bool.false_eq_true, if_false])

end

/-- Settles O14: the five commands alike for each kind of poster, the copier and the schedule by what waits for
them. -/
theorem sealsAndSchedules : Obligations.SealsAndSchedules :=
  ⟨fun _ _ _ _ _ _ mgr serves admits =>
      ⟨does_of_done rfl (postCmd_of_mgr mgr serves admits ..), does_of_done rfl (postCmd_of_mgr mgr serves admits ..)⟩,
    fun _ _ _ _ mgr serves admits =>
      ⟨does_of_done rfl (postCmd_of_mgr mgr serves admits ..), does_of_done rfl (postCmd_of_mgr mgr serves admits ..),
        does_of_done rfl (postCmd_of_mgr mgr serves admits ..)⟩,
    fun _ _ _ _ up =>
      ⟨does_of_done rfl (postCmd_v1 up ..), does_of_done rfl (postCmd_v1 up ..), does_of_done rfl (postCmd_v1 up ..)⟩,
    fun s _ _ _ _ _ _ _ up ready serves admits =>
      have posted := postCmd_of_mailbox ⟨up, ready⟩ serves admits
      ⟨engineSrc s, (engineSrc_bounds s).1, (engineSrc_bounds s).2, does_of_done rfl (posted ..),
        does_of_done rfl (posted ..), does_of_done rfl (posted ..), does_of_done rfl (posted ..),
        does_of_done rfl (posted ..)⟩,
    fun _ _ _ _ works free served sealing drained noPromo noMove noProg ready =>
      ⟨does_sealCopy_dirty rfl works free served sealing drained noPromo noMove noProg ready,
        does_sealCopy_clean rfl works free served sealing drained noPromo noMove noProg ready⟩,
    fun _ _ _ _ => does_scheduleStage, fun _ _ _ => does_scheduleEntryRetire,
    fun _ _ _ _ there waits buffer =>
      ⟨fun _ _ => does_allocationGrant_stages there waits buffer, does_allocationGrant_frees there waits buffer⟩⟩

end Sys2Proof.Machine
end

section
/-!
PROOFS. Repairs of T2 copies and the poison log (R152 to R155, R172).
-/

namespace Sys2Proof.Machine

open Sys2Proof

section
variable {s : State} {g t : Nat} {x : Repair}
  (runs : s.tier.repairs.find? (fun y => y.grove = g && y.tile = t) = some x) (works : working s = true)
  (known : tileBlank (tile s g t) = false)
include runs works known

theorem does_t2RepairDone_parity {u : State} {l : List LineData} (free : metaHeld s = false)
    (put : putRepair x l s = some u) (parity : parityOn s = true) (copied : (tile s g t).t2.isSome = true) :
    Does (.t2RepairDone g t (.parity l)) s (endRepair x (raise 575 u)) :=
  does_of_done rfl (by simp [repairDone, runs, works, known, free, put, parity, copied])

theorem does_t2RepairDone_peer {u : State} {l : List LineData} (free : metaHeld s = false)
    (put : putRepair x l s = some u) (peer : peerRepair s g t = true) :
    Does (.t2RepairDone g t (.peer l)) s (endRepair x (raise 576 u)) :=
  does_of_done rfl (by simp [repairDone, runs, works, known, free, put, peer])

/-- A failed repair asks a peer that has not been asked and can give the content, or poisons the lines (R152,
R155). -/
theorem exec_t2RepairDone_of_failed : exec (.t2RepairDone g t .failed) s = done
    (if !x.asked && peerRepair s g t then sendUtl (.repairReq g t x.sectors) { s with tier := { s.tier with
        repairs := mapIf (fun r => r = x) (fun r => { r with asked := true }) s.tier.repairs } }
      else endRepair x (poisonLines g t (linesOf x.sectors) x.origin s)) :=
  congrArg done (by simp [repairDone, runs, works, known])

theorem does_t2RepairDone_lost (noSource : x.asked = true ∨ peerRepair s g t = false) :
    Does (.t2RepairDone g t .failed) s (endRepair x (poisonLines g t (linesOf x.sectors) x.origin s)) :=
  does_of_done (exec_t2RepairDone_of_failed runs works known) (if_neg (by rcases noSource with h | h <;> simp [h]))

theorem does_t2RepairDone_asks (first : x.asked = false) (peer : peerRepair s g t = true) :
    Does (.t2RepairDone g t .failed) s (sendUtl (.repairReq g t x.sectors) { s with tier := { s.tier with
      repairs := mapIf (fun r => r = x) (fun r => { r with asked := true }) s.tier.repairs } }) :=
  does_of_done (exec_t2RepairDone_of_failed runs works known) (if_pos (by simp [first, peer]))

end

/-- Settles O15: each result of a repair by the source that it names or lacks. -/
theorem repairAndPoison : Obligations.RepairAndPoison :=
  ⟨fun _ _ _ _ _ _ runs works known free put => ⟨does_t2RepairDone_parity runs works known free put,
      does_t2RepairDone_peer runs works known free put⟩,
    fun _ _ _ _ runs works known =>
      ⟨does_t2RepairDone_lost runs works known, does_t2RepairDone_asks runs works known⟩,
    fun _ _ mgr => does_of_done rfl (ctlWrite_of_manager mgr ..)⟩

end Sys2Proof.Machine
end

section
/-!
PROOFS. Power commands, the Clearing and the end of a vault (R165, R391, R403, R409, R414, R485).
-/

namespace Sys2Proof.Machine

open Sys2Proof

/-! ## Power commands (R391, R403, R414, R485) -/

section
variable {s : State} {p : Path} (up : pathUp s p = true) (mgmt : isMgmt p = true)
include up mgmt

theorem does_powerOn (waits : powerOnOk s = true) (tag : Nat) :
    Does (.powerOn p tag) s (startStage1 2 (logPwr 0x0B (srcOf p) (complete p tag 0x60 0 [] s))) :=
  does_of_done rfl ((belvorPower_of_mgmt up mgmt ..).trans (if_pos waits))

theorem does_powerOff (runs : powerOffOk s = true) (tag : Nat) :
    Does (.powerOff p tag) s (powerOffNow p (complete p tag 0x61 0 [] s)) :=
  does_of_done rfl ((belvorPower_of_mgmt up mgmt ..).trans (if_pos runs))

theorem does_powerStatus (tag : Nat) : Does (.powerStatus p tag) s (complete p tag 0x62 0 [seqStatus s] s) :=
  does_of_done rfl (belvorPower_of_mgmt up mgmt ..)

theorem does_powerLogRead (tag : Nat) : Does (.powerLogRead p tag) s (complete p tag 0x63 0
    ((if isReady s then logRecord s
      else (s.pwr.buf.map (fun r => r.bytes (tableOf s).checked)).flatten).map (·.toNat)) s) :=
  does_of_done rfl (belvorPower_of_mgmt up mgmt ..)

end

/-! ## The Clearing (R407 to R410, R414) -/

theorem does_clear {s : State} {p : Path} (mgr : Manager s p) (ready : isReady s = true) :
    Does (.clear p) s (raiseClearing 0x3FF s) :=
  does_of_done rfl ((ctlWrite_of_manager mgr ..).trans (if_pos ready))

theorem does_clearing {s : State} {e : Nat} (trigger : eventListed s e = true ∨ e = 0x3FF) :
    Does (.clearing e) s (raiseClearing e s) :=
  does_of_onUnit rfl (by simpa using trigger) rfl

theorem does_clearingEntryDone {s : State} (clears : s.pwr.stage = 0xD) :
    Does .clearingEntryDone s (allSelfRefresh (clearReset s)) :=
  does_of_done rfl (if_neg (by simp [clears]))

/-! ## The end of a vault (R165) -/

/-- A vault with its sections written: FOOTER closes it over the index of them all (R162). -/
def vaultEnd (fails : List Nat) (s : State) : State :=
  let s1 := writeSectors (cellarIndex s).length fails (writeLm s)
  endVault (noteRecords (modVault (fun v => { v with
    cut := 2, count := (vaultTodo s).length, crc := crc32c (Config.cellarIndex v.index) })
    (celWrite (vaultNum s1) .footer none s1)))

theorem does_vaultComplete {s : State} (vaults : s.pwr.state = .cellar) (fails : List Nat) :
    Does (.vaultComplete fails) s
      (startDown s.pwr.toHold (allSelfRefresh (logPwr 0x05 0 (raise 563 (vaultEnd fails s))))) :=
  does_of_done rfl (if_neg (by simp [vaults]))

/-- Settles O39: each power command of management, each end of a power action in the state that it ends. -/
theorem powerCommands : Obligations.PowerCommands :=
  ⟨fun _ _ tag up mgmt waits => does_powerOn up mgmt waits tag,
    fun _ _ tag up mgmt runs => does_powerOff up mgmt runs tag,
    fun _ _ tag up mgmt => ⟨does_powerStatus up mgmt tag, does_powerLogRead up mgmt tag⟩, fun _ _ => does_clear,
    fun _ _ => does_clearing, fun _ clears => ⟨does_clearingEntryDone clears, rfl, rfl⟩,
    fun _ fails vaults => does_vaultComplete vaults fails⟩

end Sys2Proof.Machine
end

section
/-!
PROOFS. Maintenance of the Canopy, its disable and its enable (R189 to R194, R199).
-/

namespace Sys2Proof.Machine

open Sys2Proof

/-! ## The maintenance commands (R189, R191, R192, R199) -/

/-- An accepted command in its registers: its word written, SKIPPED and the pieces of a ZERO at none, and BUSY set
with WALK, which tells a walk of sets (R190, R199). -/
def maintTaken (g num : Nat) (sets : Bool) (s : State) : State :=
  let s1 := setRegWord .canMaintCmd 0 0 (g % 1024 * 65536 + num) { s with can := { s.can with skipped := 0 } }
  { s1 with can := { s1.can with busy := true, setWalk := sets, zeroLeft := 0 } }

/-- A command whose range is more than 16 MiB walks the sets (R190). -/
def walkTaken (g num : Nat) (s : State) : State := maintTaken g num (decide (2 ^ 24 < maintLen s)) s

/-- The walk of the range that the registers name (R189, R190). -/
def rangeWalk (op : MaintOp) (g : Nat) (s : State) : Walk :=
  { op := op, grove := some g, first := maintStart s / 64, last := (maintStart s + maintLen s) / 64
    sets := decide (2 ^ 24 < maintLen s), at_ := [] }

section
variable {s : State} {p : Path} {g : Nat} (mgr : Manager s p)
include mgr

/-- A command that R192 does not refuse runs in the registers that took it. -/
theorem maintCmd_of_accepted {num : Nat} (known : 1 ≤ num ∧ num ≤ 4)
    (accepted : maintRefusal s g true (num = 4) = 0) (f : State → State) :
    maintCmd p g num f s = f (maintTaken g num (num ≠ 4 && decide (2 ^ 24 < maintLen s)) s) := by
  have opField : num % 16 = num := Nat.mod_eq_of_lt (by omega)
  simp [maintCmd, ctlWrite_of_manager mgr, known, accepted, opField, maintTaken]

/-- A command other than ZERO, accepted, walks its range with the errors that the arrays have taken. -/
theorem does_maintWalk {c : Instr} {num : Nat} {op : MaintOp} {errs : List (Nat × Nat × ArrayCheck)}
    (walks : 1 ≤ num ∧ num < 4) (accepted : maintRefusal s g true false = 0)
    (meaning : exec c s = done (maintWalk p g num op errs s)) :
    Does c s (walkOn (rangeWalk op g (walkTaken g num s)) (fun _ => some 0) (addErrs errs (walkTaken g num s))) := by
  have notZero : num ≠ 4 := walks.2.ne
  have wide : (num ≠ 4 && decide (2 ^ 24 < maintLen s)) = decide (2 ^ 24 < maintLen s) := by simp [notZero]
  have accepted' : maintRefusal s g true (num = 4) = 0 := by simpa [notZero] using accepted
  refine does_of_done meaning ((maintCmd_of_accepted mgr ⟨walks.1, walks.2.le⟩ accepted' _).trans ?_)
  rw [wide]
  rfl

theorem does_zeroRange (accepted : maintRefusal s g true true = 0) :
    Does (.zeroRange p g) s (startZero g (maintTaken g 4 false s)) :=
  does_of_done rfl (maintCmd_of_accepted mgr (by decide) accepted _)

end

/-! ## The end of a walk (R190, R193) -/

/-- With no part of a walk left, nothing goes on. -/
theorem walkMore_of_none {s : State} (walked : s.can.walk = none) : walkMore s = s := by
  simp only [walkMore, walked]

theorem does_maintComplete {s : State} (busy : s.can.busy = true) (maint : s.can.disabling = false)
    (stamped : s.can.zeroLeft = 0) (walked : s.can.walk = none) (issued : walkDone s = true)
    (skipped : s.can.skipped = 0) : Does .maintComplete s
      (raise 448 { s with can := { s.can with busy := false, setWalk := false, result := 0 } }) :=
  does_of_done (congrArg done (by rw [walkMore_of_none walked]))
    ((if_neg (by simp [busy, maint, stamped, issued])).trans (by simp [skipped, onlyIf]))

theorem does_disableComplete {s : State} (disables : s.can.disabling = true) (walked : s.can.walk = none)
    (issued : walkDone s = true) : Does .disableComplete s (raise 451 { s with can := { s.can with
      enabled := false, disabling := false, busy := false, setWalk := false, sets := [] } }) :=
  does_of_done (congrArg done (by rw [walkMore_of_none walked])) (if_pos (by simp [disables, issued]))

/-! ## Disabling and enabling (R193, R194) -/

section
variable {s : State} {p : Path} (mgr : Manager s p) (idle : s.can.busy = false)
include mgr idle

theorem does_canopyDisable (on : s.can.enabled = true) (holds : s.can.wf ≠ [])
    (errs : List (Nat × Nat × ArrayCheck)) : Does (.canopyDisable p errs) s
      (cleanAll errs { s with can := { s.can with disabling := true, busy := true, setWalk := true } }) :=
  does_of_done rfl <| calc
    ctlWrite p (regAddr .canCtl) (canopyOff p errs) s = canopyOff p errs s := ctlWrite_of_manager mgr ..
    _ = _ := (if_neg (by simp [idle])).trans ((if_neg (by simp [on])).trans (if_neg (by simp [holds])))

theorem does_canopyEnable (off : s.can.enabled = false) :
    Does (.canopyEnable p) s { s with can := { s.can with enabled := true, sets := [], wf := [] } } :=
  does_of_done rfl <| calc
    ctlWrite p (regAddr .canCtl) (canopyOn p) s = canopyOn p s := ctlWrite_of_manager mgr ..
    _ = _ := (if_neg (by simp [idle])).trans (if_neg (by simp [off]))

end

/-- Settles O12: each command in the registers that took it, the end of a walk with nothing left of it. -/
theorem canopyMaintenance : Obligations.CanopyMaintenance :=
  ⟨fun _ _ _ _ mgr accepted => ⟨does_maintWalk mgr (by decide) accepted rfl,
      does_maintWalk mgr (by decide) accepted rfl, does_maintWalk mgr (by decide) accepted rfl⟩,
    fun _ _ _ => does_zeroRange, fun _ => does_maintComplete,
    fun _ _ errs mgr idle on holds => does_canopyDisable mgr idle on holds errs,
    fun _ _ => does_canopyEnable, fun _ => does_disableComplete⟩

end Sys2Proof.Machine
end

section
/-!
PROOFS. Upkeep of the DRAM channels: calibration, refresh, self-refresh, patrol, CA parity and the UE log (R208, R214,
R217, R221, R222, R224, R231; logs 37, 100).
-/

namespace Sys2Proof.Machine

open Sys2Proof

/-! ## Records that differ from the default -/

/-- A value other than the unlisted one is read back as written, whatever form the map has. -/
theorem get_set_of_ne {V : Type} [DecidableEq V] {d x : V} (other : x ≠ d) (m : SMap V) (k : Nat) :
    SMap.get (SMap.set m d k x) d k = x := by
  rw [SMap.set, if_neg other, SMap.get_put_same]

theorem chOf_updCh_of_ne {s : State} {n : Nat} {f : DramCh → DramCh} (other : f (chOf s n) ≠ {}) :
    chOf (updCh n f s) n = f (chOf s n) :=
  get_set_of_ne other ..

@[simp] theorem chOf_dramEvent (ch off : Nat) (s : State) (n : Nat) : chOf (dramEvent ch off s) n = chOf s n := rfl

/-! ## Channels in service (R208, R214, R217, R221) -/

/-- An ONLINE channel takes commands. -/
theorem chOnline_of_online {s : State} {ch : Nat} (online : (chOf s ch).state = .online) : chOnline s ch = true := by
  simp [chOnline, online]

/-- A rank in no burst is in none over its declaration (R216). -/
theorem burstOver_of_none {s : State} {x : Rank} (noBurst : x.since = none) : burstOver s x = false := by
  simp only [burstOver, noBurst]

section
variable {s : State} {ch : Nat} (there : ch < nSlices s) (online : (chOf s ch).state = .online)
include there online

theorem does_zqCalibration : Does (.zqCalibration ch) s (updCh ch (fun c => { c with zqRuns := c.zqRuns + 1 }) s) :=
  does_of_onUnit rfl (decide_eq_true there) (if_pos online)

theorem does_dqsDriftCompensation :
    Does (.dqsDriftCompensation ch) s (updCh ch (fun c => { c with dqsRuns := c.dqsRuns + 1 }) s) :=
  does_of_onUnit rfl (decide_eq_true there) (if_pos online)

/-- No burst is over its declaration, so the refresh says nothing of one. -/
theorem does_refreshDue {r : Nat} (rank : r < (chOf s ch).lranks) (noBurst : (rankOf s ch r).since = none)
    (wholeRank : fld s .dramNodeCfg 1 0 ≠ 2) :
    Does (.refreshDue ch r) s (closeRows ch r (updRank ch r (fun y => { y with
      issued := y.issued + y.postponed + 1, postponed := 0 })
      (updRank ch r (fun y => { y with overSaid := y.overSaid }) s))) :=
  does_of_onUnit rfl (decide_eq_true there)
    ((if_neg (by simp [chOnline_of_online online, rank])).trans
      (by simp [burstOver_of_none noBurst, noBurst, wholeRank, onlyIf]))

theorem does_mr4Poll (hot : List Nat) : Does (.mr4Poll ch hot) s (forEach (List.range (chOf s ch).lranks)
    (fun r t => updRank ch r (fun y => { y with hot := hot.contains r }) t) s) :=
  does_of_onUnit rfl (decide_eq_true there) (if_neg (by simp [chOnline_of_online online]))

theorem does_selfRefreshEntry (enters : fld s .dramSrIdle 19 0 ≠ 0) (paced : patrolBehind s ch = false)
    (idle : chQueued s ch = false) (noRecovery : (chOf s ch).caRec = []) :
    Does (.selfRefreshEntry ch) s (updCh ch (fun c => { c with state := .selfRefresh }) s) :=
  does_of_onUnit rfl (decide_eq_true there) (if_neg (by simp [online, enters, paced, idle, noRecovery]))

theorem does_caParityAlert_replayed {sub : Nat} (half : sub < 2) :
    Does (.caParityAlert ch sub true) s (bumpRc .dramCaCount ch 15 0 1 s) :=
  does_of_onUnit rfl (decide_eq_true there)
    ((if_neg (by simp [chOnline_of_online online, half])).trans (if_pos rfl))

theorem does_caParityAlert_stops {sub : Nat} (half : sub < 2) :
    Does (.caParityAlert ch sub false) s (updCh ch (fun c => { c with caRec := insertNat sub c.caRec }) s) :=
  does_of_onUnit rfl (decide_eq_true there)
    ((if_neg (by simp [chOnline_of_online online, half])).trans (if_neg Bool.false_ne_true))

end

/-! ## Patrol (R224; logs 37, 100) -/

/-- A patrol read that decoded clean: the channel is awake, its port charged and the read counted under source 305. -/
def patrolTaken (ch f i : Nat) (s : State) : State :=
  noteRead f i .clean (perfAdd ⟨305, 5, none⟩ 0x02 1 (perfAdd ⟨305, 5, none⟩ 0x01 1
    (chargeLines (regFor s 3) 1 (wakeCh ch s))))

theorem does_patrolRead_clean {s : State} {ch f i : Nat} (there : ch < nSlices s) (may : patrolMay s ch = true)
    (member : inItsSet s ch = true) (line : patrolAt s ch (chOf s ch).patrol = (f, i))
    (clean : SMap.get (patrolTaken ch f i s).tier.t1bad .clean (f * 1024 + i) = .clean) (d : Option LineData) :
    Does (.patrolRead ch .clean d) s (patrolStep ch (patrolTaken ch f i s)) := by
  unfold patrolTaken at *
  exact does_of_onUnit rfl (decide_eq_true there)
    ((if_neg (by simp [may])).trans ((if_neg (by simp [member])).trans (by simp only [line, clean])))

/-! ## CA recovery (R221) -/

/-- A channel whose CA recovery failed: FAILED, with event +5. -/
def caLost (ch : Nat) (s : State) : State :=
  dramEvent ch 5 (updCh ch (fun c => { c with state := .failed, caRec := [] }) s)

theorem chOf_caLost_state (ch : Nat) (s : State) : (chOf (caLost ch s) ch).state = .failed := by
  have other : ({ chOf s ch with state := .failed, caRec := [] } : DramCh) ≠ {} :=
    fun same => ChState.noConfusion (congrArg DramCh.state same)
  rw [caLost, chOf_dramEvent, chOf_updCh_of_ne other]

section
variable {s : State} {ch sub : Nat} (there : ch < nSlices s) (recovers : sub ∈ (chOf s ch).caRec)
include there recovers

theorem does_caRecoveryComplete_ok :
    Does (.caRecoveryComplete ch sub true) s (runQueue (dramEvent ch 4 (bumpRc .dramCaCount ch 31 16 1
      (updCh ch (fun c => { c with caRec := c.caRec.filter (· ≠ sub) }) s)))) :=
  does_of_onUnit rfl (decide_eq_true there) ((if_neg (by simp [recovers])).trans (if_pos rfl))

/-- A failed recovery evacuates the channel's set where that set names a degraded one. -/
theorem does_caRecoveryComplete_failed {t : State}
    (e : (if (setOf (caLost ch s) (chOf (caLost ch s) ch).set).degraded = 0 then caLost ch s
      else tryEvac (chOf (caLost ch s) ch).set (caLost ch s)) = t) : Does (.caRecoveryComplete ch sub false) s t :=
  does_of_onUnit rfl (decide_eq_true there)
    ((if_neg (by simp [recovers])).trans ((if_neg Bool.false_ne_true).trans e))

end

/-! ## The UE log (R222, R231) -/

theorem does_ueClear {s : State} {p : Path} {ch : Nat} (mgr : Manager s p) (there : ch < nSlices s) :
    Does (.ueClear p ch) s (updCh ch (fun c => { c with ueLog := [], ueFull := false }) s) :=
  does_of_done rfl ((ctlWrite_of_manager mgr ..).trans (if_pos (decide_eq_true there)))

/-- Settles O16: each command on a channel of the part, in the state that its conditions describe. -/
theorem dramUpkeep : Obligations.DramUpkeep :=
  ⟨fun _ _ there online => ⟨does_zqCalibration there online, does_dqsDriftCompensation there online⟩,
    fun _ _ _ there online => does_refreshDue there online,
    fun _ _ hot there online => does_mr4Poll there online hot,
    fun _ _ there online => does_selfRefreshEntry there online,
    fun _ _ d there may member clean => does_patrolRead_clean there may member rfl clean d,
    fun _ _ _ there half online =>
      ⟨does_caParityAlert_replayed there online half, does_caParityAlert_stops there online half⟩,
    fun _ _ _ => does_caRecoveryComplete_ok,
    fun s ch _ there recovers => ⟨chOf_caLost_state ch s,
      fun alone => does_caRecoveryComplete_failed there recovers (if_pos alone),
      fun degrades => does_caRecoveryComplete_failed there recovers (if_neg degrades)⟩,
    fun _ _ _ => does_ueClear⟩

end Sys2Proof.Machine
end

section
/-!
PROOFS. Evacuation and return of the DRAM sets (R206, R226 to R228, R232; log 39).
-/

namespace Sys2Proof.Machine

open Sys2Proof

/-! ## EVACUATE and ABORT (R226, R228, R232) -/

/-- With no set under evacuation, none ends. -/
theorem finishEvac_of_none {s : State} (idle : evacuating s = none) : finishEvac s = s := by
  simp only [finishEvac, idle]

section
variable {s : State} {p : Path} {n : Nat} (mgr : Manager s p) (there : n < 16)
include mgr there

theorem does_evacuate : Does (.evacuate p n) s (finishEvac (tryEvac n s)) :=
  does_of_done rfl ((ctlWrite_of_manager mgr ..).trans (by rw [Nat.mod_eq_of_lt there]))

theorem does_evacuate_starts (accepted : evacRefusal s n = 0) :
    Does (.evacuate p n) s (finishEvac (startEvac n s)) := by
  have starts : tryEvac n s = startEvac n s := if_pos accepted
  exact starts ▸ does_evacuate mgr there

theorem does_evacuate_refused (refused : evacRefusal s n ≠ 0) (idle : evacuating s = none) :
    Does (.evacuate p n) s (evacResult n (evacRefusal s n) s) := by
  have result : tryEvac n s = evacResult n (evacRefusal s n) s := if_neg refused
  have still : evacuating (evacResult n (evacRefusal s n) s) = none := idle
  have ends := does_evacuate mgr there
  rwa [result, finishEvac_of_none still] at ends

theorem does_abortEvac {m : Nat} (runs : evacuating s = some m) : Does (.abortEvac p n) s
    (setChannels m (fun c => if c.state == .evacuating then { c with state := .online } else c)
      (updSet m (fun x => { x with state := 0 })
        { s with dram := { s.dram with evBusy := false, evSet := n, evResult := 5 } })) :=
  does_of_done rfl ((ctlWrite_of_manager mgr ..).trans (by simp only [runs, Nat.mod_eq_of_lt there]))

end

/-! ## Frame moves (R226, R227) -/

theorem does_frameMove_first {s0 s : State} {errs : List LineRead} {n f : Nat} {x : Nat × Nat}
    (noted : noteReads errs s0 = s) (runs : evacuating s = some n) (ready : isReady s = true) (works : working s = true)
    (free : metaHeld s = false) (noMeta : metaFrames s n = 0)
    (first : (setMovable s n).find? (fun x => moveFirst s x.1 x.2) = some x) (room : evacTarget s n = some f) :
    Does (.frameMove errs) s0 (startMove x.1 x.2 f s) := by
  subst noted
  exact does_of_done rfl (by simp [runs, ready, works, free, noMeta, first, room])

@[simp] theorem touchMeta_md (key : Nat) (s : State) : (touchMeta key s).tier.md = s.tier.md := by
  dsimp only [touchMeta]
  split <;> rfl

theorem tile_updTile_of_ne {s : State} {g t : Nat} {f : Tile → Tile} (other : f (tile s g t) ≠ {}) :
    tile (updTile g t f s) g t = f (tile s g t) := by
  simp only [tile, updTile, setTile, touchMeta_md]
  exact get_set_of_ne other ..

/-- A tile that is given a frame has it. -/
theorem tile_updTile_frame (s : State) (g t f : Nat) :
    (tile (updTile g t (fun e => { e with frame := some f }) s) g t).frame = some f := by
  have other : ({ tile s g t with frame := some f } : Tile) ≠ {} :=
    fun same => absurd (congrArg Tile.frame same) (Option.some_ne_none f)
  rw [tile_updTile_of_ne other]

/-- A move that completes ends in the state in which the tile has its new frame. -/
theorem does_frameMoveComplete {s0 s : State} {errs : List LineRead} {g t : Nat} {m : Move}
    (noted : noteReads errs s0 = s) (runs : s.tier.moves.find? (fun x => x.grove = g && x.tile = t) = some m)
    (works : working s = true) (free : metaHeld s = false) (passes : portOpen s (regFor s 1) 2048 = true) :
    ∃ u, Does (.frameMoveComplete g t errs) s0 (finishEvac (runQueue (moved 3 288 g (t * 1024) 1024
      (chargeLines (regFor s 1) 2048 { u with tier := { u.tier with moves := u.tier.moves.erase m } }))))
      ∧ (tile u g t).frame = some m.dst := by
  subst noted
  have does : Does (.frameMoveComplete g t errs) s0 _ :=
    does_of_done rfl (by simp only [runs]; exact if_neg (by simp [works, free, passes]))
  exact ⟨_, does, tile_updTile_frame ..⟩

/-! ## RETURN and the training of a set (R206, R228; log 39) -/

theorem does_returnSet {s : State} {p : Path} {n : Nat} (mgr : Manager s p) (there : n < 16)
    (valid : (setOf s n).valid = true) (offline : (setOf s n).state = 2) (free : s.dram.evBusy = false) :
    Does (.returnSet p n) s (setChannels n (powerUp .training) (updSet n (fun x => { x with state := 3 })
      { s with dram := { s.dram with
        evBusy := true, evSafe := s.dram.evSafe.filter (· ≠ n), evSet := n, evResult := 0 } })) :=
  does_of_done rfl ((ctlWrite_of_manager mgr ..).trans
    (by simp only [Nat.mod_eq_of_lt there]; exact if_neg (by simp [valid, offline, free])))

/-- The channel at place `k` of its set matches the image and trained. -/
def trainOk (dram : List DramTrain) (k : Nat) : Bool :=
  ((dram[k]?).map (fun t => t.matchesImage && t.trained)).getD false

theorem trainOk_iff {dram : List DramTrain} {k : Nat} :
    trainOk dram k = true ↔ ∃ t, dram[k]? = some t ∧ t.matchesImage = true ∧ t.trained = true := by
  cases h : dram[k]? with
  | none => simp [trainOk, h]
  | some t => simp [trainOk, h]

theorem trainOk_eq_false {dram : List DramTrain} {k : Nat}
    (bad : ∀ t, dram[k]? = some t → t.matchesImage = false ∨ t.trained = false) : trainOk dram k = false := by
  refine Bool.eq_false_iff.2 fun ok => ?_
  obtain ⟨t, given, matched, trained⟩ := trainOk_iff.1 ok
  rcases bad t given with h | h
  · exact Bool.false_ne_true (h.symm.trans matched)
  · exact Bool.false_ne_true (h.symm.trans trained)

/-- The training of a set as its channels give it: their times are kept, and no command runs any more. -/
def trainTaken (n : Nat) (dram : List DramTrain) (s : State) : State :=
  forEach (List.range (2 ^ (setOf s n).log2)) (fun k u => match dram[k]? with
    | some t => updCh ((setOf s n).first + k) (fun c => { c with trainMs := t.msTaken, trained := 0 }) u
    | none => u) { s with dram := { s.dram with evBusy := false } }

/-- The trained values of the channels of a set that starts at channel `first`, saved (R206). -/
def trainSaved (first count : Nat) (dram : List DramTrain) (s : State) : State :=
  forEach (List.range count) (fun k u => match dram[k]? with
    | some t => saveTrain (first + k) t u
    | none => u) s

section
variable {s : State} {n : Nat} {dram : List DramTrain} (valid : (setOf s n).valid = true)
  (returning : (setOf s n).state = 3)
include valid returning

theorem does_returnTraining_online (ok : ∀ k < 2 ^ (setOf s n).log2, trainOk dram k = true) :
    Does (.returnTrainingComplete n dram) s (runQueue (setChannels n (fun c => { powerUp .online c with
        patrol := 0, lapStart := now s, lateLap := false })
      (updSet n (fun x => { x with state := 0 })
        (trainSaved (setOf s n).first (2 ^ (setOf s n).log2) dram (trainTaken n dram s))))) :=
  have all : (List.range (2 ^ (setOf s n).log2)).all (trainOk dram) = true :=
    List.all_eq_true.2 fun k h => ok k (List.mem_range.1 h)
  does_of_done rfl ((if_neg (by simp [valid, returning])).trans (if_pos all))

theorem does_returnTraining_offline {k : Nat} (there : k < 2 ^ (setOf s n).log2) (bad : trainOk dram k = false) :
    Does (.returnTrainingComplete n dram) s (setChannels n powerDown (updSet n (fun x => { x with state := 2 })
      { trainTaken n dram s with dram := { (trainTaken n dram s).dram with
        evSafe := insertNat n (trainTaken n dram s).dram.evSafe, evSet := n, evResult := 4 } })) :=
  have notAll : ¬ (List.range (2 ^ (setOf s n).log2)).all (trainOk dram) = true := fun all =>
    Bool.false_ne_true (bad.symm.trans (List.all_eq_true.1 all k (List.mem_range.2 there)))
  does_of_done rfl ((if_neg (by simp [valid, returning])).trans (if_neg notAll))

end

/-- Settles O17: each command of a set in the state that its conditions describe, a training by whether every channel
gives a good result. -/
theorem dramSets : Obligations.DramSets :=
  ⟨fun _ _ _ mgr there => ⟨does_evacuate_starts mgr there, does_evacuate_refused mgr there⟩,
    fun _ _ _ _ _ => does_frameMove_first rfl, fun _ _ _ _ _ => does_frameMoveComplete rfl,
    fun _ _ _ => does_returnSet,
    fun _ _ _ valid returning =>
      ⟨fun good => does_returnTraining_online valid returning fun k h => trainOk_iff.2 (good k h),
        fun ⟨_, there, bad⟩ => does_returnTraining_offline valid returning there (trainOk_eq_false bad)⟩,
    fun _ _ _ _ mgr runs there => does_abortEvac mgr there runs⟩

end Sys2Proof.Machine
end

section
/-!
PROOFS. Reads, programs, erases, read disturb, stripes and the background scan of the NAND tier (R238, R240, R241, R243,
R247, R250, R255; logs 44, 96).
-/

namespace Sys2Proof.Machine

open Sys2Proof

/-! ## Reads (R240, R241; log 44) -/

/-- The page read of a promotion's slot, counted at its first codeword unless the die is gone. -/
def pageCounted (p : Promo) (n : Nat) (s : State) : State :=
  if p.read = 0 && !dieGone s n then countReads n 1 s else s

theorem does_nandReadComplete {s : State} {g t sec n : Nat} {o : Ladder} {p : Promo} (runs : promoOf s g t = some p)
    (works : working s = true) (there : sec < 16) (unread : p.read.getLsbD sec = false)
    (inT2 : fromCellar s g t sec = false) (slot : slotRead s g t = some n) (due : codewordDue p sec o = true) :
    Does (.nandReadComplete g t sec o) s
      (cwRead g t sec (readSlot g t n sec (if p.kind = 1 then 2 else 0) o (pageCounted p n s))) := by
  refine does_of_done rfl ?_
  simp only [runs, slot]
  exact (if_neg (by simp only [works, Nat.not_le.2 there, unread]; decide)).trans
    ((if_neg (by simp [inT2])).trans (if_neg (by simp [due])))

/-! ## Programs (R243; log 96) -/

/-- A wordline that runs on its die, or begins now, takes effect as it reports. -/
theorem does_nandProgramDone {s s1 t : State} {id w : Nat} {p : Prog} {ok : Bool}
    (found : s.tier.progs.find? (fun x => x.id = id) = some p) (works : working s = true) (wordline : wlOf s p.t2 = w)
    (begun : wlBegin w s = s1) (running : (dieAt s1 (p.t2 / 2 ^ 22)).cur.map (·.job) = some (.wordline w))
    (ends : (if ok then wlOk w s1 else wlFailed w s1) = t) :
    Does (.nandProgramDone id ok) s (inVault (endCur (p.t2 / 2 ^ 22) t)) := by
  subst wordline begun ends
  refine does_of_done rfl ?_
  simp only [found]
  exact if_neg (by simp [works, running, -Nat.reducePow])

/-! ## Erases (R243, R247, R250) -/

/-- The block is no longer being erased. -/
def eraseTaken (b : Nat) (s : State) : State :=
  { s with nand := { s.nand with erasing := s.nand.erasing.filter (· ≠ b) } }

/-- An erase that succeeded: the block is blank and its record is cleared. -/
def blockFreed (b : Nat) (s : State) : State :=
  touchMeta (tkey 1023 8192) (modMeta (fun m => { m with erasePending := m.erasePending.filter (· ≠ physBlk s b) })
    (erased b (eraseTaken b s)))

/-- An erase that failed: the block is retired, the fault counts against its die, and the record stays. -/
def blockLost (ch k b : Nat) (s : State) : State :=
  dieFail k (retireBlock b (mediaFault ch 1 (eraseTaken b s)))

/-- What follows an erase, however it ended: the die goes on, the superblock closes, and T2 is seen again. -/
def eraseSettled (k b : Nat) (s : State) : State :=
  t2Pressure (noteCrit (dropUnprotected b (closeSuper b (endCur k s))))

/-- The erase that a die runs takes effect as it reports. -/
theorem does_nandEraseDone {s t : State} {ch die block k b : Nat} {ok : Bool} (there : hasDie s ch die = true)
    (works : working s = true) (dieKey : ch * 32 + die = k) (blockKey : k * 4096 + block = b)
    (running : (dieAt s k).cur.map (·.job) = some (.erase b))
    (ends : (if ok then blockFreed b s else blockLost ch k b s) = t) :
    Does (.nandEraseDone ch die block ok) s (eraseSettled k b t) := by
  subst dieKey blockKey ends
  exact does_of_onUnit rfl there (if_neg (by simp [running, works]))

/-! ## Read disturb and stripes (R238, R247) -/

theorem does_readDisturbLimit {s : State} {ch die block : Nat} (there : hasDie s ch die = true)
    (works : working s = true) (limit : fld s .nandRdLimit 13 0 * 100
      ≤ SMap.get s.nand.reads 0 (physBlk s ((ch * 32 + die) * 4096 + block))) :
    Does (.readDisturbLimit ch die block) s
      (forEach (liveSlots s (fun n => decide (t2Blk n = (ch * 32 + die) * 4096 + block))) queueReloc s) :=
  does_of_onUnit rfl there (if_neg (by simp [works, Nat.not_lt.2 limit]))

theorem does_stripeParityTimeout {s : State} {grp die vb slot key : Nat} {x : Stripe} (group : grp * 16 < nNand s)
    (die32 : die < 32) (works : working s = true) (place : grp * 2 ^ 27 + die * 2 ^ 22 + vb * 2 ^ 10 + slot = key)
    (opened : SMap.find s.nand.stripes key = some x) (idle : stripeBusy s key = false) :
    Does (.stripeParityTimeout grp die vb slot) s (closeStripe key s) := by
  subst place
  exact does_of_onUnit rfl (by simp [group, die32])
    (by simp only [opened]; exact (if_neg (by simp [works])).trans (if_neg (ne_true_of_eq_false idle)))

/-! ## The background scan (R255) -/

theorem does_backgroundScan {s s1 : State} {t2 sec : Nat} {o : Ladder} (scanned : scanAt t2 sec o s = s1)
    (ready : isReady s = true) (works : working s = true) (there : sec < 16) (idle : dieIdle s (t2 / 2 ^ 22) = true)
    (inTime : now s - s1.nand.scanStart ≤ fld s .nandScanCfg 15 8 * 86400000000000)
    (more : s1.nand.scanPos + 1 < scanTotal s) : Does (.backgroundScan t2 sec o) s
      { s1 with nand := { s1.nand with scanLate := false, scanPos := s1.nand.scanPos + 1 } } := by
  subst scanned
  have onTime := decide_eq_false (Nat.not_lt.2 inTime)
  exact does_of_done rfl ((if_neg (by simp [ready, works, there, idle, -Nat.reducePow])).trans
    ((if_neg (Nat.not_le.2 more)).trans (by simp only [onTime, onlyIf, Bool.false_and, Bool.false_eq_true, if_false])))

/-- Settles O18: each report in the state that its conditions describe, a program and an erase by how they ended. -/
theorem nandMedia : Obligations.NandMedia :=
  ⟨fun _ _ _ _ _ _ _ => does_nandReadComplete,
    fun _ _ _ found works running =>
      ⟨does_nandProgramDone found works rfl rfl running (if_pos rfl),
        does_nandProgramDone found works rfl rfl running (if_neg Bool.false_ne_true)⟩,
    fun _ _ _ _ there works running =>
      ⟨does_nandEraseDone there works rfl rfl running (if_pos rfl),
        does_nandEraseDone there works rfl rfl running (if_neg Bool.false_ne_true)⟩,
    fun _ _ _ _ => does_readDisturbLimit,
    fun _ _ _ _ _ group die32 works opened =>
      have ⟨_, found⟩ := Option.isSome_iff_exists.1 opened
      does_stripeParityTimeout group die32 works rfl found,
    fun _ _ _ _ => does_backgroundScan rfl⟩

end Sys2Proof.Machine
end

section
/-!
PROOFS. Relocation, reclaim, wear levelling, dead dies and the Cellar region (R244 to R246, R251, R253, R254; logs 42,
43, 46).
-/

namespace Sys2Proof.Machine

open Sys2Proof

/-! ## Relocation (R241, R245) -/

/-- The slot no longer waits for its relocation. -/
def relocDropped (n : Nat) (s : State) : State :=
  { s with nand := { s.nand with relocs := s.nand.relocs.filter (· ≠ n) } }

/-- The T2 write that gives a live slot's content another place. -/
def relocProg (n g t : Nat) (s : State) : Prog :=
  { id := s.ids, kind := .relocation, grove := g, tile := t, t2 := 0
    lines := SMap.readRun s.tier.t2 0 (n * 1024) 1024, written := 0, buf := true }

section
variable {s : State} {n g t : Nat} {reads : List (Nat × Ladder)} (works : working s = true)
include works

theorem exec_relocation_of_working : exec (.relocation n reads) s = done (relocate n reads s) :=
  congrArg done (if_neg (by simp [works]))

theorem does_relocation_dead (gone : liveSlot s n = none) : Does (.relocation n reads) s (relocDropped n s) :=
  does_of_done (exec_relocation_of_working works) (by simp only [relocate, gone]; rfl)

variable (live : liveSlot s n = some (g, t)) (free : metaHeld s = false)
  (unwritten : s.tier.progs.any (fun p => p.grove = g && p.tile = t) = false) (there : dieGone s n = false)
  (noRead : (dieAt s (n / 2 ^ 22)).rd = none) (idle : (dieAt s (n / 2 ^ 22)).cur = none)
include live free unwritten there noRead idle

theorem does_relocation_bad (bad : badSectors reads ≠ 0) : Does (.relocation n reads) s
    (relocDropped n (startRepair g t (badSectors reads) 0 (readWhole n reads s))) := by
  refine does_of_done (exec_relocation_of_working works) ?_
  simp only [relocate, live]
  exact (if_neg (by simp only [free, unwritten, there, noRead, idle]; decide)).trans (if_pos (bne_iff_ne.2 bad))

theorem does_relocation_placed {u : State} (good : badSectors reads = 0)
    (placed : (takeBuf true s).bind (placeProg (relocProg n g t s) none) = some u) :
    Does (.relocation n reads) s (relocDropped n (readWhole n reads (rollReloc g n (bumpId u)))) := by
  refine does_of_done (exec_relocation_of_working works) ?_
  unfold relocProg at placed
  simp only [relocate, live]
  refine (if_neg (by simp only [free, unwritten, there, noRead, idle]; decide)).trans
    ((if_neg (by simp [good])).trans ?_)
  simp only [placed]
  rfl

end

/-! ## Reclaim and wear levelling (R244, R246; log 42) -/

theorem does_reclaim {s : State} {k : Nat} (works : working s = true) (ready : isReady s = true)
    (short : supersBelow s (fld s .nandReclaimCfg 7 0) = true) (picks : pickSuper s = some k)
    (spare : (noteCrit s).nand.crit = false)
    (holds : liveSlots (noteCrit s) (fun n => decide (superOf n = k)) ≠ []) : Does .reclaim s
      (forEach (liveSlots (noteCrit s) (fun n => decide (superOf n = k))) queueReloc (noteCrit s)) := by
  refine does_of_done rfl ((if_neg (by simp [works, ready])).trans ((if_neg (by simp [short])).trans ?_))
  simp only [picks, spare, Bool.false_eq_true, if_false]
  exact if_neg (by simp [holds])

theorem does_staticWearLevel {s : State} {ch die b : Nat} (there : hasDie s ch die = true) (works : working s = true)
    (spread : fld s .nandWlDelta 15 0 < dieTop s (ch * 32 + die) - dieLow s (ch * 32 + die))
    (least : leastWorn s (ch * 32 + die) = some b) (closed : superOpen s (superOf (b * 1024)) = false) :
    Does (.staticWearLevel ch die) s
      (forEach (liveSlots s (fun n => decide (superOf n = superOf (b * 1024)))) queueReloc s) :=
  does_of_onUnit rfl there ((if_neg (by simp only [works, Nat.not_le.2 spread]; decide)).trans
    (by simp only [least]; exact if_neg (by simp [closed])))

/-! ## Dead dies (R253, R254; log 46) -/

/-- A die that is lost: DEAD with its channel's media fault, its work and its erases gone. -/
def dieLost (k : Nat) (s : State) : State :=
  let s1 := mediaFault (k / 32) 3 (updDieAt k (fun y => { y with
    state := .dead, queue := [], rd := none, cur := none, held := false, susp := 0 }) s)
  { s1 with nand := { s1.nand with erasing := s1.nand.erasing.filter (fun b => decide (b / 2 ^ 12 ≠ k)) } }

theorem killDie_of_serving {s : State} {k : Nat}
    (serves : (dieAt s k).state = .online ∨ (dieAt s k).state = .retiring) :
    killDie k s = startRebuild
      (forEach ((dieLost k s).tier.progs.filter (fun p => p.t2 / 2 ^ 22 = k)) (rewrite k) (dieLost k s)) :=
  if_pos (by simpa using serves)

/-- The walk of a rebuild has come to the slot before `rest`. -/
def rebuildTaken (rest : List Nat) (s : State) : State :=
  { s with nand := { s.nand with rbLeft := rest, rbDone := s.nand.rbDone + 1 } }

/-- The T2 write of a slot that its stripe gives. -/
def rebuildProg (n g t : Nat) (s : State) : Prog :=
  { id := s.ids, kind := .repair, grove := g, tile := t, t2 := 0
    lines := SMap.readRun s.tier.t2 0 (n * 1024) 1024, written := 0, prio := 5, buf := true }

theorem forEach_nil {α : Type} (f : α → State → State) (s : State) : forEach [] f s = s := rfl

section
variable {s : State} {n : Nat} {rest : List Nat} {reads : List (Nat × Ladder)} (works : working s = true)
  (busy : s.nand.rbBusy = true) (free : metaHeld s = false) (may : rebuildMay s = true)
  (left : s.nand.rbLeft = n :: rest)
include works busy free may left

theorem does_dieRebuild_dead (gone : liveSlot s n = none) :
    Does (.dieRebuild reads) s (endRebuild (rebuildTaken rest s)) :=
  does_of_done rfl ((if_neg (by simp [works, busy, free, may])).trans (by simp only [left, gone]; rfl))

variable {g t : Nat} (live : liveSlot s n = some (g, t))
include live

theorem does_dieRebuild_repair (lost : stripeGives s n = false) : Does (.dieRebuild reads) s
    (endRebuild (startRepair g t (BitVec.allOnes 16) 0 { rebuildTaken rest s with
      nand := { (rebuildTaken rest s).nand with rbResult := 1 } })) := by
  refine does_of_done rfl ((if_neg (by simp [works, busy, free, may])).trans ?_)
  simp only [left, live, lost]
  rfl

theorem does_dieRebuild_placed {u : State} (gives : stripeGives s n = true)
    (placed : (takeBuf true (dropReloc g t (rebuildTaken rest s))).bind
      (placeProg (rebuildProg n g t (rebuildTaken rest s)) none) = some u) :
    Does (.dieRebuild []) s (endRebuild (readStripe n (spend .repair false (bumpId u)))) := by
  refine does_of_done rfl ((if_neg (by simp [works, busy, free, may])).trans ?_)
  unfold rebuildProg rebuildTaken at placed
  simp only [left, live]
  refine (if_neg (by simp [gives])).trans ?_
  simp only [placed]
  exact congrArg endRebuild (forEach_nil ..)

end

/-! ## The Cellar region (R251; log 43) -/

/-- The records that no vault needs are gone. -/
def cellarTrimmed (s : State) : State :=
  { s with tier := { s.tier with
    celRecs := celLive s
    cel := SMap.filterKeys s.tier.cel (fun a => (celLive s).contains (a / 1024 * 16 + a % 1024 / 64)) } }

/-- The Cellar blocks without a live record. -/
def cellarDead (s : State) : List Nat :=
  ((SMap.present s.nand.cellar).filter (fun p => !(p.2.recs.any (fun k => match k with
    | some x => (celLive s).contains x
    | none => false)))).map (·.1)

/-- The end of the command: compaction where a vault has no room, and CELLAR_LOW while that is not enough. -/
def cellarChecked (s : State) : State :=
  let s2 := if celFree s < celNeeded s then celCompact s else s
  let low := decide (celFree s2 < celNeeded s2)
  onlyIf (low && !s2.nand.celLow) (ftlCause 0) { s2 with nand := { s2.nand with celLow := low } }

theorem cellarChecked_of_room {s : State} (room : celNeeded s ≤ celFree s) :
    cellarChecked s = { s with nand := { s.nand with celLow := false } } := by
  simp [cellarChecked, Nat.not_lt.2 room, onlyIf]

theorem does_cellarBlockErase {s s1 : State} (cleared : forEach (cellarDead s) celErase (cellarTrimmed s) = s1)
    (ready : isReady s = true) (works : working s = true) (region : s.tier.celBlocks ≠ 0) (served : turn 8 s = true)
    (room : celNeeded s1 ≤ celFree s1) :
    Does .cellarBlockErase s { s1 with nand := { s1.nand with celLow := false } } := by
  subst cleared
  exact does_of_done rfl ((if_neg (by simp [ready, works, region, served])).trans (cellarChecked_of_room room))

/-- Settles O19: each command in the state that its conditions describe, a relocation and a rebuild by what becomes of
the slot. -/
theorem nandManagement : Obligations.NandManagement :=
  ⟨fun _ _ _ _ _ works live free unwritten there noRead idle =>
      ⟨does_relocation_bad works live free unwritten there noRead idle,
        fun _ => does_relocation_placed works live free unwritten there noRead idle⟩,
    fun _ _ _ => does_relocation_dead, fun _ _ => does_reclaim, fun _ _ _ _ => does_staticWearLevel,
    fun _ _ _ there serves => does_of_onUnit rfl there (killDie_of_serving serves),
    fun _ _ _ _ works busy free may left =>
      ⟨does_dieRebuild_dead works busy free may left, fun _ _ => does_dieRebuild_repair works busy free may left,
        fun _ _ _ live => does_dieRebuild_placed works busy free may left live⟩,
    fun _ => does_cellarBlockErase rfl⟩

end Sys2Proof.Machine
end

section
/-!
PROOFS. The HDM decoders of a logical device (R265).
-/

namespace Sys2Proof.Machine

open Sys2Proof

/-! ## Where an address stands among stripes of `g` bytes over `w` ways -/

/-- An offset is found again from the row of its stripe, its way and its place in the stripe. -/
theorem eq_of_row_way_place {g w m n : Nat} (row : m / (g * w) = n / (g * w)) (way : m / g % w = n / g % w)
    (place : m % g = n % g) : m = n := by
  have stripe : m / g = n / g := by
    rw [← Nat.div_add_mod (m / g) w, ← Nat.div_add_mod (n / g) w, Nat.div_div_eq_div_mul, Nat.div_div_eq_div_mul, row, way]
  rw [← Nat.div_add_mod m g, ← Nat.div_add_mod n g, stripe, place]

/-- A row and a place below `g` are found again from the address they make on one way. -/
theorem row_place_of_eq {g q r q' r' : Nat} (hr : r < g) (hr' : r' < g) (h : q * g + r = q' * g + r') :
    q = q' ∧ r = r' := by
  have row (a b : Nat) (hb : b < g) : (a * g + b) / g = a := Nat.div_eq_of_lt_le (by omega) (by rw [Nat.succ_mul]; omega)
  have rows : q = q' := by rw [← row q r hr, h, row q' r' hr']
  subst rows
  exact ⟨rfl, Nat.add_left_cancel h⟩

/-- An offset in a range of whole rows has its place on one way within that way's share. -/
theorem row_place_lt_share {g w n size : Nat} (hg : 0 < g) (hw : 0 < w) (whole : size % (g * w) = 0) (lt : n < size) :
    n / (g * w) * g + n % g < size / w := by
  obtain ⟨rows, rfl⟩ := Nat.dvd_of_mod_eq_zero whole
  have share : g * w * rows / w = rows * g := by
    rw [Nat.mul_right_comm, Nat.mul_div_cancel _ hw, Nat.mul_comm]
  calc n / (g * w) * g + n % g
      < n / (g * w) * g + g := Nat.add_lt_add_left (Nat.mod_lt n hg) _
    _ = (n / (g * w) + 1) * g := (Nat.succ_mul ..).symm
    _ ≤ rows * g := Nat.mul_le_mul_right g (Nat.div_lt_of_lt_mul lt)
    _ = g * w * rows / w := share.symm

/-! ## The decoder -/

theorem decodeHpa_eq_some_iff {d : Decoder} {a x : Nat} : decodeHpa d a = some x ↔
    (d.hpaBase ≤ a ∧ a - d.hpaBase < d.size) ∧ (a - d.hpaBase) / d.gran % d.ways = d.pos
      ∧ d.dpaBase + ((a - d.hpaBase) / (d.gran * d.ways) * d.gran + (a - d.hpaBase) % d.gran) = x := by
  simp [decodeHpa, and_assoc, Nat.add_assoc]

/-- A decoder matches an address of its range exactly at its interleave position. -/
theorem decodeHpa_isSome_iff {d : Decoder} {a : Nat} : (decodeHpa d a).isSome = true ↔
    (d.hpaBase ≤ a ∧ a - d.hpaBase < d.size) ∧ (a - d.hpaBase) / d.gran % d.ways = d.pos := by
  simp [Option.isSome_iff_exists, decodeHpa_eq_some_iff]

theorem decodeHpa_injective {d : Decoder} {a b x : Nat} (gran : 0 < d.gran) (ha : decodeHpa d a = some x)
    (hb : decodeHpa d b = some x) : a = b := by
  obtain ⟨⟨fromA, -⟩, wayA, dpaA⟩ := decodeHpa_eq_some_iff.1 ha
  obtain ⟨⟨fromB, -⟩, wayB, dpaB⟩ := decodeHpa_eq_some_iff.1 hb
  obtain ⟨row, place⟩ := row_place_of_eq (Nat.mod_lt _ gran) (Nat.mod_lt _ gran)
    (Nat.add_left_cancel (dpaA.trans dpaB.symm))
  have offset : a - d.hpaBase = b - d.hpaBase := eq_of_row_way_place row (wayA.trans wayB.symm) place
  omega

theorem decodeHpa_in_share {d : Decoder} {a x : Nat} (gran : 0 < d.gran) (ways : 0 < d.ways)
    (whole : d.size % (d.gran * d.ways) = 0) (h : decodeHpa d a = some x) :
    d.dpaBase ≤ x ∧ x < d.dpaBase + d.size / d.ways := by
  obtain ⟨⟨-, inRange⟩, -, dpa⟩ := decodeHpa_eq_some_iff.1 h
  have := row_place_lt_share gran ways whole inRange
  omega

/-- Of the ways of a set, the one at the address's stripe matches it, and no other. -/
theorem exists_way_decodeHpa {d : Decoder} {a : Nat} (ways : 0 < d.ways) (above : d.hpaBase ≤ a)
    (below : a < d.hpaBase + d.size) :
    ∃ k, k < d.ways ∧ ∀ p, (decodeHpa { d with pos := p } a).isSome = true ↔ p = k := by
  refine ⟨(a - d.hpaBase) / d.gran % d.ways, Nat.mod_lt _ ways, fun p => ?_⟩
  have inRange : d.hpaBase ≤ a ∧ a - d.hpaBase < d.size := ⟨above, by omega⟩
  exact decodeHpa_isSome_iff.trans ((and_iff_right inRange).trans eq_comm)

/-- Settles O54: a DPA gives back the row and the place of its address, and the decoder's position gives the way. -/
theorem hdmDecode : Obligations.HdmDecode :=
  ⟨fun _ _ _ _ gran _ => decodeHpa_injective gran, fun _ _ _ => decodeHpa_in_share,
    fun _ _ _ ways => exists_way_decodeHpa ways,
    fun _ base size ways gran pos dpa => decodeHpa_eq_some_iff.2 (by
      rw [base, ways, gran, pos, dpa]
      exact ⟨⟨by decide, size⟩, by decide, by decide⟩)⟩

end Sys2Proof.Machine
end

section
/-!
PROOFS. The links of the host ports and the port commands of management (R259, R261, R262, R278, R280 to R284).
-/

namespace Sys2Proof.Machine

open Sys2Proof

/-! ## A host port after an operation -/

/-- A port that is UP after a change reads as the change left it. -/
theorem portOf_updPort_of_up {s : State} {p : Nat} {f : HostPort → HostPort} (up : (f (portOf s p)).link = .up) :
    portOf (updPort p f s) p = f (portOf s p) := by
  have listed : f (portOf s p) ≠ ({} : HostPort) := fun h => by simp [h] at up
  exact (congrArg (fun m => SMap.get m ({} : HostPort) p) (if_neg listed)).trans (SMap.get_put_same ..)

@[simp] theorem portOf_portEvent (q off : Nat) (s : State) (p : Nat) : portOf (portEvent q off s) p = portOf s p := rfl

@[simp] theorem portOf_setBit (id : RegId) (i n : Nat) (s : State) (p : Nat) :
    portOf (setBit id i n s) p = portOf s p := rfl

@[simp] theorem portOf_useFree (s : State) (p : Nat) : portOf (useFree s) p = portOf s p := rfl

theorem portOf_onlyIf (b : Bool) (f : State → State) (s : State) (p : Nat) :
    portOf (onlyIf b f s) p = if b = true then portOf (f s) p else portOf s p := apply_ite (portOf · p) ..

@[simp] theorem maxRate_useFree (s : State) (p : Nat) : maxRate (useFree s) p = maxRate s p := rfl

@[simp] theorem maxRate_updPort (q : Nat) (f : HostPort → HostPort) (s : State) (p : Nat) :
    maxRate (updPort q f s) p = maxRate s p := rfl

/-! ## Training (R261, R262) -/

/-- A port trained to a width and a rate: the widest and fastest so far stay known, and below them it is DEGRADED. -/
def trainedTo (w r : Nat) (x : HostPort) : HostPort :=
  { x with
    width := w, rate := r, topWidth := max x.topWidth w, topRate := max x.topRate r
    degraded := decide (w < max x.topWidth w) || decide (r < max x.topRate r) }

theorem portOf_retrainTo {s : State} {p : Nat} (up : (portOf s p).link = .up) (w r : Nat) :
    portOf (retrainTo p w r s) p = trainedTo w r (portOf s p) := by
  simp only [retrainTo, portOf_onlyIf, portOf_portEvent, portOf_setBit, ite_self]
  rw [portOf_updPort_of_up up]
  rfl

theorem portOf_retrainBoth {s : State} {p : Nat} (up : (portOf s p).link = .up) (w r : Nat) :
    portOf (retrainBoth p w r s) p = trainedTo (min w (portOf s p).maxWidth) (min r (maxRate s p)) (portOf s p) :=
  portOf_retrainTo up ..

/-- A port that has just come UP, before it is trained. -/
def linkedUp (flit : Nat) (x : HostPort) : HostPort :=
  { x with link := .up, width := 0, rate := 0, flit := flit, ide := 0 }

theorem portOf_linkUp (s : State) (p w r : Nat) : portOf (linkUp p w r s) p =
    trainedTo (min w (portOf s p).maxWidth) (min r (maxRate s p))
      (linkedUp (flitOf s (min r (maxRate s p))) (portOf s p)) := by
  have linked : portOf (updPort p (linkedUp (flitOf s (min r (maxRate s p)))) s) p =
      linkedUp (flitOf s (min r (maxRate s p))) (portOf s p) := portOf_updPort_of_up rfl
  have up : (portOf (useFree (updPort p (linkedUp (flitOf s (min r (maxRate s p)))) s)) p).link = .up := by
    rw [portOf_useFree, linked]
    rfl
  change portOf (retrainBoth p w r (useFree (updPort p (linkedUp (flitOf s (min r (maxRate s p)))) s))) p = _
  rw [portOf_retrainBoth up, portOf_useFree, linked, maxRate_useFree, maxRate_updPort]
  rfl

theorem does_hostLinkUp {s : State} {port width rate : Nat} (there : port < 16) (formed : (portOf s port).formed = true)
    (link : (portOf s port).link = .down) (trains : 7 ≤ s.pwr.stage) (last : s.pwr.stage ≤ 10)
    (runs : s.pwr.stopped = false) (wide : width ≠ 0) (fast : rate ≠ 0) :
    Does (.hostLinkUp port width rate) s (linkUp port width rate s) :=
  does_of_onUnit rfl (decide_eq_true there) (by simp [formed, link, trains, last, runs, wide, fast])

/-! ## Failures and resets of a link (R259, R262, R280) -/

theorem does_hostLaneFailure_narrower {s : State} {port width rate : Nat} (there : port < 16)
    (up : (portOf s port).link = .up) (wide : 0 < width) (fast : 0 < rate) (narrower : width < (portOf s port).width)
    (slower : rate < (portOf s port).rate) :
    Does (.hostLaneFailure port width rate) s
      (portEvent port 2 (setBit .hostCause port 1 (setBit .hostCause port 2
        (updPort port (fun y => { y with
          width := width, rate := rate, topWidth := max (portOf s port).topWidth width
          topRate := max (portOf s port).topRate rate
          degraded := decide (width < max (portOf s port).topWidth width)
            || decide (rate < max (portOf s port).topRate rate) }) s)))) :=
  does_of_onUnit rfl (decide_eq_true there) (by
    simp [up, Nat.ne_of_gt wide, Nat.ne_of_gt fast, Nat.min_eq_left (Nat.le_of_lt narrower),
      Nat.min_eq_left (Nat.le_of_lt slower), retrainTo, onlyIf, narrower, slower])

theorem does_hostLaneFailure_dead {s : State} {port : Nat} (there : port < 16) (up : (portOf s port).link = .up)
    (rate : Nat) : Does (.hostLaneFailure port 0 rate) s (hostDown port s) :=
  does_of_onUnit rfl (decide_eq_true there) (by simp [up])

theorem hostDown_of_linked {s : State} {port : Nat} (linked : (portOf s port).link ≠ .down) :
    hostDown port s = portReset port (portEvent port 2 (setBit .hostCause port 0
      (updPort port (fun x => { x with link := .down, rate := 0, width := 0, spdm := false }) s))) :=
  if_neg linked

/-- A command of management on a formed port has the effect that follows its check (R284). -/
theorem does_portCmd {c : Instr} {s t : State} {p : Path} {port : Nat} {f : State → State}
    (h : exec c s = onUnit (decide (port < 16)) s (portCmd p port f s)) (mgr : PortMgr s p port) (e : f s = t) :
    Does c s t :=
  does_of_onUnit h (decide_eq_true mgr.1) ((portCmd_of_mgr mgr f).trans e)

theorem does_retrain {s : State} {p : Path} {port width rate : Nat} (mgr : PortMgr s p port)
    (up : (portOf s port).link = .up) (wide : width ≠ 0) (fast : rate ≠ 0) :
    Does (.retrain p port width rate) s (retrainBoth port width rate s) :=
  does_portCmd rfl mgr (by simp [up, wide, fast])

/-- Settles O6: each event by the state of the link, and what a training leaves by `trainedTo`. -/
theorem hostLinks : Obligations.HostLinks := by
  refine ⟨fun s port width rate there formed link trains last runs wide fast => ?_,
    fun _ _ _ _ there up wide fast => does_hostLaneFailure_narrower there up wide fast,
    fun _ _ rate there up => does_hostLaneFailure_dead there up rate,
    fun _ _ there linked => does_of_onUnit rfl (decide_eq_true there) (hostDown_of_linked linked),
    fun _ _ there up => does_of_onUnit rfl (decide_eq_true there) (if_pos up),
    fun _ _ there up => does_of_onUnit rfl (decide_eq_true there) (if_pos up),
    fun _ _ _ mgr => ⟨does_portCmd rfl mgr rfl, does_portCmd rfl mgr rfl, does_portCmd rfl mgr rfl⟩,
    fun s p port width rate mgr up wide fast => ⟨_, does_retrain mgr up wide fast, ?_⟩⟩
  · refine ⟨_, does_hostLinkUp there formed link trains last runs wide fast, ?_⟩
    rw [portOf_linkUp]
    exact ⟨rfl, rfl, rfl, rfl⟩
  · rw [portOf_retrainBoth up]
    exact ⟨rfl, rfl⟩

end Sys2Proof.Machine
end

section
/-!
PROOFS. The fabric manager's commands and the mailbox of a logical device (R259, R264, R266, R267, R276, R484).
-/

namespace Sys2Proof.Machine

open Sys2Proof

/-! ## Fabric manager (R264, R267, R484) -/

/-- At READY a fabric-manager command runs (R403). -/
theorem onFm_of_ready {s : State} (ready : isReady s = true) (f : State → State) : onFm f s = f s := if_pos ready

/-- At READY a fabric-manager command on a port of the part has the effect that follows. -/
theorem does_fm {c : Instr} {s t : State} {port : Nat} {f : State → State}
    (h : exec c s = onUnit (decide (port < 16)) s (onFm f s)) (ready : isReady s = true) (there : port < 16)
    (e : f s = t) : Does c s t :=
  does_of_onUnit h (decide_eq_true there) ((onFm_of_ready ready f).trans e)

/-- A logical device that the port has, in the form in which the binding commands test it. -/
theorem ld_test {s : State} {port ld : Nat} (there : (ldOf s port ld).present = true) (num : ld < 16) :
    ((ldOf s port ld).present && decide (ld < 16)) = true := by
  simp [there, num]

/-- The test of a release lets it through at a serving node that lists its extents. -/
theorem release_test {s : State} {port ld : Nat} {es : List DcExtent} (serves : serving s = true)
    (lists : listed s port ld es = true) : ¬ (!serving s || !listed s port ld es) = true := by
  simp [serves, lists]

/-- Settles O8: each command at READY, an add by its checks and a release by the list. -/
theorem fabricManager : Obligations.FabricManager :=
  ⟨fun _ _ ready =>
      ⟨does_of_done rfl (onFm_of_ready ready _), does_of_done rfl (onFm_of_ready ready _)⟩,
    fun _ _ _ ready there => ⟨does_fm rfl ready there rfl, does_fm rfl ready there rfl⟩,
    fun _ _ _ _ ready there num present =>
      ⟨does_fm rfl ready there (if_pos (ld_test present num)), does_fm rfl ready there (if_pos (ld_test present num))⟩,
    fun _ _ _ _ _ _ ready there passes => does_fm rfl ready there (if_neg (by simp [passes])),
    fun _ _ _ _ _ ready there serves lists => does_fm rfl ready there (if_neg (release_test serves lists))⟩

/-! ## The mailbox of a logical device (R259, R266, R267, R276) -/

/-- A command of a ready mailbox has the effect that follows. -/
theorem does_mailbox {c : Instr} {s t : State} {port ld : Nat} {f : State → State}
    (h : exec c s = onUnit (decide (port < 16)) s (onMailbox port ld f s)) (up : MailboxUp s port ld) (e : f s = t) :
    Does c s t :=
  does_of_onUnit h (decide_eq_true up.1) ((onMailbox_of_up up f).trans e)

/-- The code of a refusal whose code is open is not that of success. -/
theorem fmOpen_ne_zero (s : State) : fmOpen s ≠ 0 := Nat.ne_of_gt (Nat.lt_add_right _ Nat.one_pos)

theorem does_setLsa {s : State} {port ld off : Nat} {data : List Byte} (up : MailboxUp s port ld)
    (serves : serving s = true) (fits : off + data.length ≤ 131072) (tag : Nat) :
    Does (.setLsa tag port ld off data) s (stampMgmt (.log (.lsa (16 * port + ld) off data)) (.dcd tag port ld)
      (16 * port + ld) (awaitDcd tag port ld 1 s)) :=
  does_mailbox rfl up (if_neg (by simp [serves, fits]))

/-! ### The poison list (R276) -/

/-- The DPAs at which an entry of a grove map reaches a line named as poisoned. -/
def entryPoison (s : State) (k : Nat) : Option MapEntry → List Nat
  | some x =>
    if x.valid then
      ((namedPoison s).filter (fun l => l.1 = x.grove && l.2 / 2 ^ 18 = x.extent)).map
        (fun l => k % 2 ^ 22 * 2 ^ 24 + l.2 % 2 ^ 18 * 64)
    else []
  | none => []

/-- The DPAs of a range at which a logical device reaches a line named as poisoned. -/
def poisonedDpas (s : State) (src dpa len : Nat) : List Nat :=
  ((s.tier.md.map.filter (fun p => p.1 / 2 ^ 22 = src)).flatMap (fun p => entryPoison s p.1 p.2)).filter
    (fun a => decide (dpa ≤ a) && decide (a < dpa + len))

theorem mem_entryPoison_iff {s : State} {k a : Nat} {e : Option MapEntry} : a ∈ entryPoison s k e ↔
    ∃ x, e = some x ∧ x.valid = true ∧ ∃ y ∈ namedPoison s, y.1 = x.grove ∧ y.2 / 2 ^ 18 = x.extent
      ∧ a = k % 2 ^ 22 * 2 ^ 24 + y.2 % 2 ^ 18 * 64 := by
  cases e with
  | none => simp [entryPoison]
  | some x => cases valid : x.valid <;> simp [entryPoison, valid, and_assoc, eq_comm (a := a)]

theorem mem_poisonedDpas_iff {s : State} {src dpa len a : Nat} : a ∈ poisonedDpas s src dpa len ↔
    (∃ k e, (k, e) ∈ s.tier.md.map ∧ k / 2 ^ 22 = src ∧ a ∈ entryPoison s k e) ∧ dpa ≤ a ∧ a < dpa + len := by
  simp [poisonedDpas, and_assoc]

theorem does_getPoisonList {s : State} {port ld : Nat} (up : MailboxUp s port ld) (tag dpa len : Nat) :
    Does (.getPoisonList tag port ld dpa len) s
      (mboxDone port ld tag 0 (0 :: poisonedDpas s (16 * port + ld) dpa len) s) :=
  does_mailbox rfl up rfl

theorem does_clearPoison {s : State} {port ld dpa : Nat} {x : MapEntry} (up : MailboxUp s port ld)
    (serves : serving s = true)
    (entry : SMap.find s.tier.md.map (mapKey (16 * port + ld) (dpa / 2 ^ 24)) = some x) (valid : x.valid = true)
    (writes : x.wr = true) (keyed : groveKeyed s x.grove = true)
    (unsealed : tileReadOnly s x.grove (tileOf (x.extent * 2 ^ 18 + dpa % 2 ^ 24 / 64)) = false)
    (writable : groveReadOnly s x.grove = false) (tag : Nat) (data : LineData) :
    Does (.clearPoison tag port ld dpa data) s
      (stampMgmt (.log (.write x.grove [⟨x.extent * 2 ^ 18 + dpa % 2 ^ 24 / 64, data, fullMask⟩])) (.dcd tag port ld)
        (16 * port + ld) (awaitDcd tag port ld 1 s)) :=
  does_mailbox rfl up (by simp only [entry, valid, writes, keyed, serves, unsealed, writable]; rfl)

/-! ### Dynamic Capacity (R267) -/

@[simp] theorem blocksOf_singleton (e : DcExtent) : blocksOf [e] = e.blocks := Nat.zero_add _

/-- The host takes the one extent that it is offered. -/
theorem does_addDynamicCapacityResponse {s : State} {port ld region : Nat} {e : DcExtent} (up : MailboxUp s port ld)
    (serves : serving s = true) (offer : (ldOf s port ld).offered = [(region, e)]) (tag : Nat) :
    Does (.addDynamicCapacityResponse tag port ld [e]) s
      (stampMaps (16 * port + ld) [(e, dcEntry region e)] (.dcd tag port ld) (awaitDcd tag port ld e.blocks
        (updLd port ld (fun d => { d with
          offered := d.offered.filter (fun x => !([e].contains x.2)), extents := d.extents ++ [e] }) s))) :=
  does_mailbox rfl up (by simp [serves, offer])

/-- Settles O9: each command of a ready mailbox, the poison list by which DPAs `poisonedDpas` holds. -/
theorem mailbox : Obligations.Mailbox := by
  refine ⟨fun _ _ _ _ up => does_mailbox rfl up rfl,
    fun s _ _ _ up => ⟨fmOpen s, fmOpen_ne_zero s, does_mailbox rfl up rfl⟩,
    fun _ tag _ _ _ _ up serves fits => does_setLsa up serves fits tag,
    fun s tag port ld dpa len up => ⟨poisonedDpas s (16 * port + ld) dpa len,
      fun a listed => (mem_poisonedDpas_iff.1 listed).2, ?_, does_getPoisonList up tag dpa len⟩,
    fun _ tag _ _ _ data _ up serves entry valid writes keyed unsealed writable =>
      does_clearPoison up serves entry valid writes keyed unsealed writable tag data,
    fun _ _ _ _ _ up => does_mailbox rfl up rfl,
    fun _ tag _ _ _ _ up serves offer => does_addDynamicCapacityResponse up serves offer tag,
    fun _ _ _ _ _ up serves lists => does_mailbox rfl up (if_neg (release_test serves lists))⟩
  intro k a x y entry own valid named grove extent reached above below
  have poisoned : a ∈ entryPoison s k (some x) :=
    mem_entryPoison_iff.2 ⟨x, rfl, valid, y, named, grove, extent, reached⟩
  exact mem_poisonedDpas_iff.2 ⟨⟨k, some x, entry, own, poisoned⟩, above, below⟩

end Sys2Proof.Machine
end

section
/-!
PROOFS. Notify deliveries and reserved opcodes (R299, R304, R307, R318), keys and closing by command (R303, R312, R319,
R325), and the network ports (R287, R288, R323, R324).
-/

namespace Sys2Proof.Machine

open Sys2Proof

/-! ## Notify deliveries and reserved opcodes (R299, R304, R307, R318) -/

/-- The test by which a delivery finds its key revoked fails where the key stands and none of its revocations came
before the NOTIFY (R319). -/
theorem revoked_test {s : State} {n : Note} (key : (keyOf s n.key).isSome = true)
    (later : ∀ r ∈ s.net.revokes, r.key = n.key → n.gtc ≤ r.gtc) :
    ((keyOf s n.key).isNone || s.net.revokes.any (fun r => r.key = n.key && decide (r.gtc < n.gtc))) = false := by
  obtain ⟨k, hk⟩ := Option.isSome_iff_exists.1 key
  simpa [hk] using later

theorem does_notifyDelivery {s : State} {id : Nat} {n : Note} {x : Qp}
    (note : s.net.notes.find? (fun n => n.id = id) = some n) (key : (keyOf s n.key).isSome = true)
    (later : ∀ r ∈ s.net.revokes, r.key = n.key → n.gtc ≤ r.gtc) (emitted : writesPending s n = false)
    (there : qpOf s n.target = some x) (credit : x.hostUsed + 256 ≤ x.hostLimit) (answers : canAnswer s = true) :
    Does (.notifyDelivery id) s (sendQp n.target (.notifyDeliver n.target x.notSeq n.qpn n.value)
      (updQp n.target (fun y => { y with
        hostUsed := y.hostUsed + 256
        notSeq := (y.notSeq + 1) % 2 ^ 32
        notifs := y.notifs ++ [⟨x.notSeq, n.qpn, n.value, 0, now s⟩] }) (dropNote id s))) := by
  have mayGo : ¬ (decide (x.hostLimit < x.hostUsed + 256) || !canAnswer s) = true := by
    simp [Nat.not_lt.2 credit, answers]
  exact does_of_done rfl (by
    simp only [note, revoked_test key later, emitted, there, if_neg mayGo, Bool.false_eq_true, if_false])

theorem does_notifyRetransmit_again {s : State} {q : Nat} {x : Qp} {n : NotDel} (there : qpOf s q = some x)
    (waits : oldest x.notifs = some n) (left : n.tries < fld s .netRto 19 16) (answers : canAnswer s = true) :
    Does (.notifyRetransmit q) s (sendQp q (.notifyDeliver q n.seq n.sender n.value) (updQp q (fun y => { y with
      notifs := mapIf (fun z => z.seq = n.seq)
        (fun z => { z with tries := z.tries + 1, at_ := now s }) y.notifs }) s)) :=
  does_of_done rfl (by
    simp only [there, waits, if_neg (Nat.not_le.2 left), answers, Bool.not_true, Bool.false_eq_true, if_false])

theorem does_notifyRetransmit_closes {s : State} {q : Nat} {x : Qp} {n : NotDel} (there : qpOf s q = some x)
    (waits : oldest x.notifs = some n) (spent : fld s .netRto 19 16 ≤ n.tries) :
    Does (.notifyRetransmit q) s (raise 393 (closeQpWith 3 q s)) :=
  does_of_done rfl (by simp only [there, waits, if_pos spent])

theorem does_notifyUndelivered {s : State} {id : Nat} {n : Note}
    (note : s.net.notes.find? (fun n => n.id = id) = some n) :
    Does (.notifyUndelivered id) s (sendNak n.qpn n.psn 0x0D n.target (dropNote id s)) :=
  does_of_done rfl (by simp only [note])

/-- Steps 5 to 7 of R300, on a request that is in order and within its grants, and whose opcode is refused. -/
theorem serveReq_of_refused {s : State} {h : Pkt} {b : ReqBody} {x : Qp} {code : Nat}
    (there : qpOf (touchKey h.key s) h.qpn = some x) (next : x.expPsn = h.psn) (psn : h.psn < 2 ^ 32)
    (grant : inGrant (touchKey h.key s) h b = true) (refused : opRefusal (touchKey h.key s) h b = some code) :
    serveReq h b s = refuseReq h b code 0 (touchKey h.key s) := by
  simp only [serveReq, there, next, Nat.mod_eq_of_lt psn, Nat.add_sub_cancel_left, Nat.mod_self, if_true, grant,
    refused, Bool.not_true, Bool.false_eq_true, if_false]

theorem does_reservedOpcode {s : State} {h : Pkt} {code : Nat} {x : Qp} (arrives : QpPacket s h none)
    (cached : mustFetch (noteLimit h s) h.qpn = false) (sound : protOk (noteLimit h s) 2 h.qpn = true)
    (there : qpOf (taken h s) h.qpn = some x) (next : x.expPsn = h.psn) (psn : h.psn < 2 ^ 32)
    (grant : inGrant (taken h s) h (.badOpcode code) = true) :
    Does (.reservedOpcode h code) s (refuseReq h (.badOpcode code) 0x0B 0 (taken h s)) := by
  have served : serveReq h (.badOpcode code) (touchCtx h.qpn (noteLimit h s))
      = refuseReq h (.badOpcode code) 0x0B 0 (taken h s) := serveReq_of_refused there next psn grant rfl
  have agreed : agreedOk (noteLimit h s) h (.badOpcode code) = true := rfl
  exact does_of_onUnit rfl (decide_eq_true (port_of_qp arrives)) ((gate_of_qp arrives _).trans (by
    simp only [agreed, cached, sound, served, Bool.not_true, Bool.false_eq_true, if_false]))

/-- Settles O22: each delivery by the note or the queue pair that it finds, a reserved opcode by R300. -/
theorem vrmpNotify : Obligations.VrmpNotify :=
  ⟨fun _ _ _ _ => does_notifyDelivery, fun _ _ _ _ => does_notifyRetransmit_again,
    fun _ _ _ _ => does_notifyRetransmit_closes, fun _ _ _ => does_notifyUndelivered,
    fun _ _ _ _ => does_reservedOpcode⟩

/-! ## Keys, and closing by NET_CMD (R303, R312, R319, R325) -/

theorem does_revocationComplete {s : State} {key : BitVec 64} {r : Revoke}
    (waits : s.net.revokes.find? (fun r => r.key = key) = some r) (placed : revokeDone s r = true) :
    Does (.revocationComplete key) s (forEach
      (((SMap.present s.net.qps).filter (fun q => q.2.key = key)).map (·.1)) (closeQpWith 1)
      (answerAck r.ack .loc r.gtc 311 (freeKey key s))) :=
  does_of_done rfl (by simp only [waits, placed, Bool.not_true, Bool.false_eq_true, if_false])

/-- A peer that has no queue pair left is freed at once, and told so. -/
theorem does_closePeer {s : State} {p : Path} {n : Nat} {x : Peer} (mgr : Manager s p) (there : peerOf s n = some x)
    (idle : qpsOfPeer s n = []) (answers : canAnswer s = true) :
    Does (.closePeer p n) s (freePeer n (sendPeer n (freeEngine s) (.peerClose x.ip 4) (useFree s))) := by
  have noQueue : forEach (qpsOfPeer s n) (closeQpWith 4) s = s := by rw [idle]; rfl
  exact does_of_done rfl ((ctlWrite_of_manager mgr ..).trans (by simp only [there, noQueue, answers, if_true]))

/-- Settles O23: the two stamped commands alike, a revocation by what it waits for, NET_CMD on a management path. -/
theorem spaceKeys : Obligations.SpaceKeys :=
  ⟨fun _ _ _ _ _ _ mgr serves admits => does_of_done rfl (stampCmd_of_mgr mgr serves admits ..),
    fun _ _ _ _ mgr serves admits => does_of_done rfl (stampCmd_of_mgr mgr serves admits ..),
    fun _ _ _ => does_revocationComplete, fun _ _ _ mgr => does_of_done rfl (ctlWrite_of_manager mgr ..),
    fun _ _ _ _ => does_closePeer⟩

/-! ## Network ports (R286 to R288, R323, R324) -/

/-- A command of a network port of the part has the effect that follows. -/
theorem does_netPort {c : Instr} {s u t : State} {port : Nat} (h : exec c s = onUnit (decide (port < 8)) s u)
    (there : port < 8) (e : u = t) : Does c s t :=
  does_of_onUnit h (decide_eq_true there) e

/-- The port carries frames and the address is one of its own, in the form in which ARP and neighbour discovery test
it. -/
theorem ownAddr_test {s : State} {port : Nat} {ip : BitVec 128} (live : netLive s port = true)
    (own : (netOf s port).addrs.contains ip = true) : (netLive s port && (netOf s port).addrs.contains ip) = true := by
  rw [live, own, Bool.and_self]

theorem does_icmpEcho {s : State} {port : Nat} {ip : BitVec 128} (there : port < 8) (live : netLive s port = true)
    (own : (netOf s port).addrs.contains ip = true) (v6 : Bool) :
    Does (.icmpEcho port ip v6) s (send (.echoReply port ip v6) s) :=
  does_netPort rfl there (by simp only [live, Bool.not_true, Bool.false_eq_true, if_false, if_pos own])

theorem does_ptpEventMessage_queued {s : State} {port mtype seqId : Nat} {tx : Bool} (there : port < 8)
    (up : (netOf s port).up = true) (room : (netOf s port).ptp.length < 64) :
    Does (.ptpEventMessage port tx mtype seqId) s
      (updNet port (fun x => { x with ptp := x.ptp ++ [⟨now s, tx, mtype % 16, seqId % 65536⟩] }) s) :=
  does_netPort rfl there (by simp only [up, Bool.not_true, Bool.false_eq_true, if_false, if_pos room])

theorem does_ptpEventMessage_lost {s : State} {port mtype seqId : Nat} {tx : Bool} (there : port < 8)
    (up : (netOf s port).up = true) (full : 64 ≤ (netOf s port).ptp.length) :
    Does (.ptpEventMessage port tx mtype seqId) s (bumpRc .netPtpLost port 31 0 1 s) :=
  does_netPort rfl there (by
    simp only [up, Bool.not_true, Bool.false_eq_true, if_false, if_neg (Nat.not_lt.2 full)])

/-- A port whose link is up goes DOWN with its link event and its cause bit (R323). -/
theorem netDown_of_up {s : State} {port : Nat} (up : (netOf s port).up = true) :
    netDown port s = raiseAt (384 + port) port (setBit .netCause port 0
      (updNet port (fun x => { x with up := false, speed := 0, lanes := 0 }) s)) := if_pos up

theorem does_netLinkChange_down {s : State} {port : Nat} (there : port < 8) (up : (netOf s port).up = true) :
    Does (.netLinkChange port false) s (raiseAt (384 + port) port (setBit .netCause port 0
      (updNet port (fun x => { x with up := false, speed := 0, lanes := 0 }) s))) :=
  does_netPort rfl there (netDown_of_up up)

theorem does_netLinkChange_up {s : State} {port : Nat} (there : port < 8) (formed : (netOf s port).formed = true)
    (free : (netOf s port).held = false) (down : (netOf s port).up = false) (trained : 7 ≤ s.pwr.stage)
    (ready : s.pwr.stage ≤ 10) (runs : s.pwr.stopped = false) :
    let v := netSpeed (fld s .netCfg 15 12)
    Does (.netLinkChange port true) s (raiseAt (384 + port) port
      (updNet port (fun y => { y with up := true, speed := v.1, lanes := v.2 }) s)) :=
  have comesUp : ((netOf s port).formed && !(netOf s port).held && !(netOf s port).up && decide (7 ≤ s.pwr.stage)
      && decide (s.pwr.stage ≤ 10) && !s.pwr.stopped) = true := by
    simp [formed, free, down, trained, ready, runs]
  does_netPort rfl there ((if_neg Bool.false_ne_true).trans (if_pos comesUp))

/-- Settles O24: the three answers at a live port, each event of a port by its link, its FIFO and the power stage. -/
theorem networkPorts : Obligations.NetworkPorts :=
  ⟨fun _ _ _ v6 there live own =>
      ⟨does_netPort rfl there (if_pos (ownAddr_test live own)), does_netPort rfl there (if_pos (ownAddr_test live own)),
        does_icmpEcho there live own v6⟩,
    fun _ _ there up => does_netPort rfl there (if_pos up), fun _ _ _ _ _ => does_ptpEventMessage_queued,
    fun _ _ _ _ _ => does_ptpEventMessage_lost, fun _ _ _ up => does_of_done rfl (load_of_up up _),
    fun _ _ => does_netLinkChange_down, fun _ _ => does_netLinkChange_up⟩

end Sys2Proof.Machine
end

section
/-!
PROOFS. Key slots and rolls of the Cipher engine (R333, R335, R340, R341).
-/

namespace Sys2Proof.Machine

open Sys2Proof

/-! ## CIPH_CMD (R333, R340) -/

section
variable {s : State} {p : Path} {n : Nat} (mgr : Manager s p) (there : n < nKeySlots s)
include mgr there

/-- A slot that is not bound to a grove is no live grove's, so ZEROISE takes it. -/
theorem does_zeroise_of_not_grove (bound : (slotOf s n).bind ≠ 1) :
    Does (.zeroise p n) s (cipherResult 0 (zeroSlot n (dropSessions n s))) :=
  does_of_done rfl ((ctlWrite_of_manager mgr ..).trans
    ((if_neg (Nat.not_le.2 there)).trans (if_neg (by simp [bound]))))

theorem does_roll (bound : (slotOf s n).bind = 1) (loaded : (slotOf s n).state = .loaded)
    (unblocked : s.cipher.dukBlocked = false) : Does (.roll p n) s (cipherResult 0 (startRoll n s)) :=
  have grove : ¬ (decide (nKeySlots s ≤ n) || decide ((slotOf s n).bind ≠ 1)) = true := by simp [bound, there]
  have idle : (slotOf s n).state ≠ .rolling := by simp [loaded]
  have usable : ¬ ((slotOf s n).state != .loaded || s.cipher.dukBlocked) = true := by simp [loaded, unblocked]
  does_of_done rfl ((ctlWrite_of_manager mgr ..).trans
    ((if_neg grove).trans ((if_neg idle).trans (if_neg usable))))

end

/-! ## The walk of a roll and its end (R341) -/

/-- The walk on the state `s` with the channels' answers, in the slot's grove `g`. -/
theorem does_rollWalk {s0 s : State} {n g t : Nat} {errs : List LineRead} (reads : noteReads errs s0 = s)
    (grove : (slotOf s n).target = g) (works : working s = true) (rolls : (slotOf s n).state = .rolling)
    (next : nextRollTile s n = some t) (still : moving s g t = false) (settled : promoting s g t = false)
    (passes : portOpen s (regFor s 1) 2048 = true) :
    let u := moved 3 288 g (t * 1024) 1024 (chargeLines (regFor s 1) 2048 (useSlot n 1024
      (useGrove g t 1024 (recrypt g t (wakeTile g t s)))))
    Does (.rollWalk n errs) s0 { u with tier := { u.tier with rollTile := SMap.set u.tier.rollTile 0 n (t + 1) } } := by
  subst grove reads
  exact does_of_done rfl ((if_neg (by simp [works, rolls])).trans (by
    simp only [next]
    exact if_neg (by simp [still, settled, passes])))

theorem does_rollComplete {s : State} {n : Nat} (works : working s = true) (rolls : (slotOf s n).state = .rolling)
    (walked : nextRollTile s n = none) (passed : rollEnd s n ≤ SMap.get s.tier.rollTile 0 n)
    (relocated : oldCopies s n = [])
    (warm : (tiles s).any (fun p => p.1 = (slotOf s n).target && p.2.2.cellar) = false) :
    Does (.rollComplete n) s (raise 477 (storeSlot n (setSlot n { slotOf s n with
      state := .loaded, oldKey := 0, oldCtr := 0, rollWseq := 0 } s))) :=
  does_of_done rfl (if_neg (by simp only [works, rolls, walked, relocated, warm, Nat.not_lt.2 passed]; decide))

/-! ## Keys that enter a slot (R335) -/

/-- A command of version 2 that needs management, asked for by management at READY, runs (R485). -/
theorem belvorV2_of_mgr {s : State} {p : Path} (mgr : BelvorMgr s p) (tag code : Nat) (f : State → State) :
    belvor p tag code (fromV2 false p tag code (mgmtOnly p tag code f)) s = f s := by
  obtain ⟨up, ready, mgmt⟩ := mgr
  exact (belvor_of_up ⟨up, ready⟩ ..).trans (if_pos mgmt)

section
variable {s : State} {p : Path} {n : Nat} (mgr : BelvorMgr s p) (takes : keyTakes s n = true)
include mgr takes

theorem does_keyGenerate (tag : Nat) :
    Does (.keyGenerate p tag false n) s (complete p tag 0x32 0 [] (keyEntered n (generateKey n s))) :=
  does_of_done rfl ((belvorV2_of_mgr mgr ..).trans (if_neg (by simp [takes])))

theorem does_keyImport (tag : Nat) (k : BitVec 512) :
    Does (.keyImport p tag false n true k) s (complete p tag 0x33 0 [] (keyEntered n (storeSlot n (setSlot n
      { slotOf s n with state := .loaded, key := k, ctr := 0, floor := 0, warn := false, usedEmpty := false } s)))) :=
  does_of_done rfl ((belvorV2_of_mgr mgr ..).trans (if_neg (by simp [takes])))

end

/-- Settles O31: the two commands by the slot's binding, the walk and the end of a roll by what they wait for, and
the two ways a key enters a slot alike. -/
theorem cipherCommands : Obligations.CipherCommands :=
  ⟨fun _ _ _ mgr there binding => does_zeroise_of_not_grove mgr there (by simp [binding]),
    fun _ _ _ => does_roll, fun _ _ _ _ => does_rollWalk rfl rfl, fun _ _ => does_rollComplete,
    fun _ _ tag _ mgr takes => does_keyGenerate mgr takes tag,
    fun _ _ tag _ k mgr takes => does_keyImport mgr takes tag k⟩

end Sys2Proof.Machine
end

section
/-!
PROOFS. The Cipher engine's request ring, its lanes and its saturation (R344, R345, R347, R349, R352).
-/

namespace Sys2Proof.Machine

open Sys2Proof

/-! ## The ring (R345, R347) -/

theorem does_rqTailWrite {s : State} {p : Path} {tail : Nat} (mgr : Manager s p) (fits : tail < 4096)
    (inRing : tail < ringSize s) : Does (.rqTailWrite p tail) s (setFld .ciphRqTail 0 11 0 tail s) :=
  does_of_done rfl ((ctlWrite_of_manager mgr ..).trans (by
    simp only [Nat.mod_eq_of_lt fits, if_neg (Nat.not_le.2 inRing)]))

/-- The descriptor at the head of a running ring in memory, of the engine's mode, sound and passing its check, is
carried out on its slot's key and completed. -/
theorem runDesc_of_sound {s : State} {mode : Nat} (ready : isReady s = true) (runs : fld s .ciphRqStatus 31 31 = 0)
    (waits : s.cipher.head ≠ fld s .ciphRqTail 11 0) (fits : ringBase s + ringSize s * 64 ≤ s.cipher.spSize) :
    let at_ := ringBase s + s.cipher.head * 64
    let d := descOf (spBytes s at_ 64)
    let r := cipherOp d (slotOf s d.slot).key (spBytes s d.src (readLen d)) (spBytes s d.aad d.aadLen)
    d.mode = mode → descCode s d = 0 → r.2 = true →
      runDesc mode s = finishDesc at_ r.1.length 0 d.irq (spPut d.dst r.1 (useSlot d.slot 1 s)) := by
  intro at_ d r ofMode sound passes
  have processed : ¬ (!isReady s || decide (fld s .ciphRqStatus 31 31 = 1)
      || decide (s.cipher.head = fld s .ciphRqTail 11 0)) = true := by simp [ready, runs, waits]
  have taken : ¬ (decide (d.mode ≠ mode) && decide (1 ≤ d.mode) && decide (d.mode ≤ 4)) = true := by simp [ofMode]
  exact (if_neg processed).trans ((if_neg (Nat.not_lt.2 fits)).trans
    ((if_neg taken).trans ((if_neg (not_not.2 sound)).trans (if_pos passes))))

/-- Each of the four commands runs the descriptors of its mode. -/
theorem exec_descriptor {c : Instr} {mode : Nat}
    (engine : (c, mode) = (.descriptorXts, 1) ∨ (c, mode) = (.descriptorGcm, 2) ∨ (c, mode) = (.descriptorCmac, 3)
      ∨ (c, mode) = (.descriptorKwp, 4)) (s : State) : exec c s = done (runDesc mode s) := by
  rcases engine with h | h | h | h <;> cases h <;> rfl

/-! ## Lanes and saturation (R344, R349) -/

theorem does_laneSelfTest_fails {s : State} {lane : Nat} (there : lane < nLanes s) (ready : isReady s = true)
    (sound : s.cipher.badLanes.contains lane = false) : Does (.laneSelfTest lane false) s
      (raise 480 { s with cipher := { s.cipher with badLanes := s.cipher.badLanes ++ [lane] } }) :=
  does_of_onUnit rfl (decide_eq_true there) (if_neg (by simp only [ready, sound]; decide))

/-- The wait counter stands in a register (`bumpRc_cipher`), so the effect's `cipher` is the one before it. That step
is a `rw`: by `simp` the kernel would compare the two whole states by evaluation. -/
theorem does_cipherSaturation_first {s : State} {cls us : Nat} (there : cls < 9) (up : s.cipher.lanesUp = true)
    (long : 10 < us) (first : s.cipher.sat = []) : Does (.cipherSaturation cls us) s (raise 478
      { bumpRc .ciphClassWait cls 31 0 us s with cipher := { s.cipher with sat := [cls] } }) :=
  does_of_onUnit rfl (decide_eq_true there) ((if_neg (by simp [up])).trans (by
    simp only [if_pos long, first, insertNat]
    rw [bumpRc_cipher]
    exact if_pos rfl))

/-- Settles O32: the ring's registers on a management path, a descriptor by `runDesc_of_sound` in each mode, a lane
and a class by their thresholds. -/
theorem cipherRing : Obligations.CipherRing :=
  ⟨fun _ _ _ mgr fits inRing _ => does_rqTailWrite mgr fits inRing,
    fun _ _ mgr => does_of_done rfl (ctlWrite_of_manager mgr ..),
    fun s _ _ engine ready runs waits fits ofMode sound passes => does_of_done (exec_descriptor engine s)
      (runDesc_of_sound ready runs waits fits ofMode sound passes),
    fun _ _ => does_laneSelfTest_fails, fun _ _ _ => does_cipherSaturation_first⟩

end Sys2Proof.Machine
end

section
/-!
PROOFS. The collector takes what every command raises (R433, R434, R437): `settle` ends every command, and it
leaves no occurrence waiting.
-/

namespace Sys2Proof.Machine

open Sys2Proof

/-! ## The collector (R437) -/

/-- Whether a round of the collector acts or defers (R393), and whether its rounds suffice, none waits after it. -/
theorem inv_drainRaised : ∀ (fuel : Nat) (s : State), Inv (drainRaised fuel s)
  | 0, _ => rfl
  | k + 1, s => by
    unfold drainRaised
    split
    · rename_i empty
      exact List.isEmpty_iff.mp empty
    · dsimp only
      split
      · exact inv_drainRaised k _
      · rfl

theorem drainRaised_of_inv {s : State} (h : Inv s) : ∀ fuel, drainRaised (fuel + 1) s = s := fun fuel => by
  simp [drainRaised, show s.flt.raised = [] from h]

theorem inv_settle (s : State) : Inv (settle s) := inv_drainRaised 5 _

theorem ceilChange_of_same {s : State} (h : s.tier.throttle = atCeiling s) : ceilChange s = s := if_pos h

theorem condChange_of_same {s : State} (h : s.tier.lastCond = nodeCond s) : condChange s = s := if_pos h.symm

/-- At rest each part of `settle` finds nothing to do (R437). -/
theorem settle_of_resting {s : State} (h : Resting s) : settle s = s := by
  obtain ⟨raised, cond, throttle, nand, bufs⟩ := h
  rw [settle, nand, bufs, ceilChange_of_same throttle, condChange_of_same cond, drainRaised_of_inv raised]

/-! ## Commands -/

theorem inv_done {s t : State} (h : done s = .next t) : Inv t := Host.Outcome.next.inj h ▸ inv_settle s

/-- Whether or not the part has the unit, a physical event ends its effect or changes nothing. -/
theorem onUnit_ends (ok : Bool) (s t : State) : (∃ u, onUnit ok s t = done u) ∨ onUnit ok s t = .next s := by
  cases ok with
  | false => exact .inr rfl
  | true => exact .inl ⟨t, rfl⟩

/-- A unit that the part has takes the effect. -/
theorem onUnit_present {ok : Bool} (h : ok = true) (s t : State) : onUnit ok s t = done t := if_pos h

/-- A well-formed command of a unit that the part has ends in `done`: the bound that `onUnit` asks for is one of its
operand's field (`wellFormed`) or of the part (`unitThere`). -/
theorem exec_of_unit_there (c : Instr) (s : State) (wf : wellFormed c = true) (there : unitThere c s = true) :
    ∃ u, exec c s = done u := by
  cases c with
  | zqCalibration | dqsDriftCompensation | refreshDue | mr4Poll | selfRefreshEntry | caParityAlert
  | caRecoveryComplete | patrolRead | nandEraseDone | staticWearLevel | readDisturbLimit | dieDead
  | stripeParityTimeout | laneSelfTest | scrubRead | crossingFault | leakTick | graceExpiry | clearing =>
    exact ⟨_, onUnit_present there _ _⟩
  | thermalTrip sensor analog temp => exact ⟨_, onUnit_present (Bool.and_eq_true_iff.mpr ⟨wf, there⟩) _ _⟩
  | gpfPhase1 | gpfPhase2 | gpfPhase2Complete | gpfPhase2Overtime | hostLinkDown | hotReset | pmeTurnOff
  | ideKmKeyProg | keyGo | ideFail | arpRequest | neighborSolicitation | icmpEcho | pauseFrame | netLinkChange
  | cipherSaturation | pgGood | pgTimeout | rstoStretchExpiry | pgLoss | pgFall | pgLowTimeout | pllLockLoss
  | refclkLoss | allocationGrant | spdmMessage =>
    exact ⟨_, onUnit_present wf _ _⟩
  | memRd | memSpecRd | memInv | memWr | memWrPtl | unsupportedM2sOpcode =>
    exact ⟨_, onUnit_present (by simp_all [wellFormed, wfReq]) _ _⟩
  | hello | write | readReq | flush | atomicFadd | atomicCas | ack | credit | notify | close | peerClose
  | reservedOpcode =>
    exact ⟨_, onUnit_present (by simp_all [wellFormed, wfPkt]) _ _⟩
  | sourceHeartbeat | mergeStall =>
    exact ⟨_, onUnit_present (by simp [wellFormed] at wf; simp; omega) _ _⟩
  | hostLaneFailure | decoderCommit | initiateDynamicCapacityAdd | addDynamicCapacityResponse
  | releaseDynamicCapacity | forcedDynamicCapacityRelease | identifyMemoryDevice | setPartitionInfo | setLsa
  | getPoisonList | clearPoison | injectPoison | isolate | hostPortRelease | retrain | logClear | ptpEventMessage
  | getLdAllocations | bindLd | unbindLd | setLdAllocations | hostLinkUp | configurationRequest =>
    exact ⟨_, onUnit_present (by simp_all [wellFormed]) _ _⟩
  | _ => exact ⟨_, rfl⟩

theorem inv_exec_of_unit_there {c : Instr} {s t : State} (wf : wellFormed c = true) (there : unitThere c s = true)
    (h : exec c s = .next t) : Inv t := by
  obtain ⟨u, hu⟩ := exec_of_unit_there c s wf there
  exact inv_done (hu.symm.trans h)

/-- With any operands: a command either ends in `done` or changes nothing. -/
theorem exec_ends (c : Instr) (s : State) : (∃ u, exec c s = done u) ∨ exec c s = .next s := by
  cases c with
  | memRd | memSpecRd | memInv | memWr | memWrPtl | unsupportedM2sOpcode | gpfPhase1 | gpfPhase2
  | gpfPhase2Complete | gpfPhase2Overtime | sourceHeartbeat | mergeStall | zqCalibration | dqsDriftCompensation
  | refreshDue | mr4Poll | selfRefreshEntry | caParityAlert | patrolRead | nandEraseDone | staticWearLevel
  | readDisturbLimit | stripeParityTimeout | dieDead | hostLaneFailure | hostLinkDown | hotReset | pmeTurnOff
  | decoderCommit | initiateDynamicCapacityAdd | addDynamicCapacityResponse | releaseDynamicCapacity
  | forcedDynamicCapacityRelease | identifyMemoryDevice | setPartitionInfo | setLsa | getPoisonList
  | clearPoison | injectPoison | ideKmKeyProg | keyGo | ideFail | isolate | hostPortRelease | retrain
  | logClear | hello | write | readReq | flush | atomicFadd | atomicCas | ack | credit | notify | close
  | peerClose | reservedOpcode | arpRequest | neighborSolicitation | icmpEcho | pauseFrame | ptpEventMessage
  | netLinkChange | laneSelfTest | cipherSaturation | clearing | pgGood | pgTimeout | rstoStretchExpiry
  | pgLoss | pgFall | pgLowTimeout | thermalTrip | pllLockLoss | refclkLoss | crossingFault | leakTick
  | graceExpiry | scrubRead | allocationGrant | getLdAllocations | bindLd | unbindLd | setLdAllocations
  | caRecoveryComplete | hostLinkUp | configurationRequest | spdmMessage =>
    exact onUnit_ends _ _ _
  | _ => exact .inl ⟨_, rfl⟩

theorem inv_exec {c : Instr} {s t : State} (hs : Inv s) (h : exec c s = .next t) : Inv t := by
  obtain ⟨u, hu⟩ | hu := exec_ends c s
  · exact inv_done (hu.symm.trans h)
  · exact Host.Outcome.next.inj (hu.symm.trans h) ▸ hs

/-- A step takes the command at the front, and an empty queue's nanosecond ends in `settle` too. -/
theorem inv_step {s t : State} (hs : Inv s) (h : step s = .next t) : Inv t := by
  unfold step at h
  split at h
  · exact Host.Outcome.next.inj h ▸ inv_settle _
  · refine inv_exec ?_ h
    exact hs

/-- Settles O47: `settle` drains the collector, and every command of a unit of the part ends in it. -/
theorem occurrencesTaken : Obligations.OccurrencesTaken :=
  ⟨fun _ _ _ => inv_exec_of_unit_there, fun _ _ _ => inv_exec, fun _ _ => inv_step, fun _ => settle_of_resting⟩

/-- Settles O3: at reset the collector's list is empty. -/
theorem resetInv : Obligations.ResetInv := rfl

end Sys2Proof.Machine
end

section
/-!
PROOFS. The register map (R491, R508, R509): no address is one of two registers', and an address of a register
decodes to it.
-/

namespace Sys2Proof.Machine

open Sys2Proof

/-! ## The addresses of one register -/

/-- The address of an entry, by the register's own row of the map. -/
def RegSpec.addr (r : RegSpec) (i j : Nat) : Nat := r.base + r.s1 * i + r.s2 * j

/-- The address of a register's last entry. -/
def RegSpec.top (r : RegSpec) : Nat := r.addr (r.n1 - 1) (r.n2 - 1)

/-- The strides are not 0, and the inner entries of an outer one lie within its stride. -/
def RegSpec.strided (r : RegSpec) : Bool :=
  decide (0 < r.s1) && decide (0 < r.s2) && (decide (r.n1 = 1) || decide (r.s2 * (r.n2 - 1) < r.s1))

theorem strided_iff {r : RegSpec} :
    r.strided = true ↔ 0 < r.s1 ∧ 0 < r.s2 ∧ (r.n1 = 1 ∨ r.s2 * (r.n2 - 1) < r.s1) := by
  simp [RegSpec.strided, and_assoc]

theorem addr_le_top (r : RegSpec) {i j : Nat} (hi : i < r.n1) (hj : j < r.n2) : r.addr i j ≤ r.top := by
  have outer : r.s1 * i ≤ r.s1 * (r.n1 - 1) := Nat.mul_le_mul_left _ (by omega)
  have inner : r.s2 * j ≤ r.s2 * (r.n2 - 1) := Nat.mul_le_mul_left _ (by omega)
  unfold RegSpec.top RegSpec.addr
  omega

theorem base_le_addr (r : RegSpec) (i j : Nat) : r.base ≤ r.addr i j := by
  unfold RegSpec.addr
  omega

/-- The inner offset of an entry lies within the outer stride. -/
theorem inner_lt_stride {r : RegSpec} (h : r.s2 * (r.n2 - 1) < r.s1) {j : Nat} (hj : j < r.n2) : r.s2 * j < r.s1 :=
  lt_of_le_of_lt (Nat.mul_le_mul_left _ (by omega)) h

/-- A register finds the entry that its address names. -/
theorem hit_addr {r : RegSpec} (h : r.strided = true) {i j : Nat} (hi : i < r.n1) (hj : j < r.n2) :
    r.hit (r.addr i j) = some (i, j) := by
  obtain ⟨h1, h2, within⟩ := strided_iff.mp h
  have off : r.addr i j - r.base = r.s1 * i + r.s2 * j := by
    unfold RegSpec.addr
    omega
  have outer : (if r.n1 = 1 then 0 else (r.s1 * i + r.s2 * j) / r.s1) = i := by
    split
    next single => omega
    next several =>
      rw [Nat.mul_add_div h1, Nat.div_eq_of_lt (inner_lt_stride (within.resolve_left several) hj), Nat.add_zero]
  have rest : (if r.n1 = 1 then r.s1 * i + r.s2 * j else (r.s1 * i + r.s2 * j) % r.s1) = r.s2 * j := by
    split
    next single =>
      obtain rfl : i = 0 := by omega
      simp
    next several =>
      rw [Nat.mul_add_mod, Nat.mod_eq_of_lt (inner_lt_stride (within.resolve_left several) hj)]
  have inner : (if r.n2 = 1 then 0 else r.s2 * j / r.s2) = j := by
    split
    next single => omega
    next several => exact Nat.mul_div_cancel_left j h2
  have last : (if r.n2 = 1 then r.s2 * j else r.s2 * j % r.s2) = 0 := by
    split
    next single =>
      obtain rfl : j = 0 := by omega
      rfl
    next several => exact Nat.mul_mod_right _ _
  rw [RegSpec.hit, if_neg (Nat.not_lt.mpr (base_le_addr r i j)), off]
  dsimp only
  rw [outer, rest, inner, last, if_pos ⟨hi, hj, rfl⟩]

/-- An address at which a register finds an entry is the address of that entry. -/
theorem addr_of_hit {r : RegSpec} {a i j : Nat} (h : r.hit a = some (i, j)) :
    a = r.addr i j ∧ i < r.n1 ∧ j < r.n2 := by
  have above : ¬ a < r.base := fun below => by simp [RegSpec.hit, below] at h
  rw [RegSpec.hit, if_neg above] at h
  obtain ⟨⟨hi, hj, last⟩, e⟩ := Option.ite_none_right_eq_some.mp h
  obtain ⟨ei, ej⟩ := Prod.mk.inj (Option.some.inj e)
  rw [ei] at hi
  rw [ej] at hj
  have outer : r.s1 * i + (if r.n1 = 1 then a - r.base else (a - r.base) % r.s1) = a - r.base := by
    rw [← ei]
    split
    · simp
    · exact Nat.div_add_mod _ _
  have inner : r.s2 * j = if r.n1 = 1 then a - r.base else (a - r.base) % r.s1 := by
    rw [← ej]
    by_cases single : r.n2 = 1
    · rw [if_pos single] at last ⊢
      rw [last, Nat.mul_zero]
    · rw [if_neg single] at last ⊢
      exact Nat.mul_div_cancel' (Nat.dvd_of_mod_eq_zero last)
  refine ⟨?_, hi, hj⟩
  unfold RegSpec.addr
  omega

/-! ## Two registers -/

/-- No address is one of both registers': one ends before the other begins, or they repeat at the same stride and
their inner entries have no residue of it in common. -/
def RegSpec.apart (r q : RegSpec) : Bool :=
  decide (r.top < q.base) || decide (q.top < r.base)
    || (r.s1 == q.s1 && (List.range r.n2).all (fun j => (List.range q.n2).all (fun l =>
      (r.base + r.s2 * j) % r.s1 != (q.base + q.s2 * l) % r.s1)))

theorem addr_ne_of_apart {r q : RegSpec} (h : r.apart q = true) {i j k l : Nat} (hi : i < r.n1) (hj : j < r.n2)
    (hk : k < q.n1) (hl : l < q.n2) : r.addr i j ≠ q.addr k l := by
  intro same
  have le_r := addr_le_top r hi hj
  have le_q := addr_le_top q hk hl
  have ge_r := base_le_addr r i j
  have ge_q := base_le_addr q k l
  simp only [RegSpec.apart, Bool.or_eq_true, decide_eq_true_eq, Bool.and_eq_true, beq_iff_eq, List.all_eq_true,
    List.mem_range, bne_iff_ne] at h
  obtain (below | above) | ⟨stride, residues⟩ := h
  · omega
  · omega
  · refine residues j hj l hl ?_
    have residue (x y : RegSpec) (n m : Nat) (e : y.s1 = x.s1) : (y.base + y.s2 * m) % x.s1 = y.addr n m % x.s1 := by
      rw [RegSpec.addr, e, Nat.add_right_comm, Nat.add_mul_mod_self_left]
    rw [residue r r i j rfl, residue r q k l stride.symm, same]

/-! ## The table (R508) -/

theorem regTable_strided : ∀ r ∈ regTable, r.strided = true := by decide +kernel

theorem regTable_apart : regTable.Pairwise (fun r q => r.apart q = true) := by decide +kernel

theorem regOf_of_mem : ∀ r ∈ regTable, regOf r.id = some r := by decide +kernel

theorem regAddr_of_mem {r : RegSpec} (h : r ∈ regTable) (i j : Nat) : regAddr r.id i j = r.addr i j := by
  rw [regAddr, regOf_of_mem r h]
  rfl

/-- The address of an entry decodes to it: no register before it in the table finds the address. -/
theorem regAt_addr {r : RegSpec} (h : r ∈ regTable) {i j : Nat} (hi : i < r.n1) (hj : j < r.n2) :
    regAt (r.addr i j) = some (r, i, j) := by
  obtain ⟨before, after, split⟩ := List.append_of_mem h
  have apart := regTable_apart
  rw [split, List.pairwise_append] at apart
  refine List.findSome?_eq_some_iff.mpr ⟨before, r, after, split, ?_, fun q hq => ?_⟩
  · rw [hit_addr (regTable_strided r h) hi hj]
    rfl
  · cases found : q.hit (r.addr i j) with
    | none => rfl
    | some p =>
      obtain ⟨same, hk, hl⟩ := addr_of_hit found
      exact absurd same.symm (addr_ne_of_apart (apart.2.2 q hq r List.mem_cons_self) hk hl hi hj)

/-- No address names two entries. -/
theorem addr_inj {r q : RegSpec} (hr : r ∈ regTable) (hq : q ∈ regTable) {i j k l : Nat} (hi : i < r.n1)
    (hj : j < r.n2) (hk : k < q.n1) (hl : l < q.n2) (same : r.addr i j = q.addr k l) : r = q ∧ i = k ∧ j = l := by
  have decoded := regAt_addr hr hi hj
  rw [same, regAt_addr hq hk hl] at decoded
  simpa [eq_comm] using decoded

/-! ## TWIN_CMD and TWIN_DIV_DATA3 (R128, R129, R509) -/

/-- The row of TWIN_DIV_DATA3, whose address TWIN_CMD shares. -/
def twinDivData3Row : RegSpec :=
  { id := .twinDivData3, name := "TWIN_DIV_DATA3 on a read, TWIN_CMD on a write", base := 0x0A000040, clear := .reset
    mgmt := true, cmd := true }

theorem regAt_twinCmd : regAt 0x0A000040 = some (twinDivData3Row, 0, 0) := by decide +kernel

theorem wordAddr_of_aligned {a : Nat} (h : a % 4 = 0) (p : Path) : wordAddr p a = a := by
  unfold wordAddr
  split <;> omega

/-- A path of MGMT privilege reads every register (R486, R504). -/
theorem mayRead_of_mgmt {p : Path} (h : isMgmt p = true) (s : State) (r : RegSpec) (i : Nat) :
    mayRead s p r i = true := by
  cases p with
  | mailbox => cases h
  | sp | mgmt | glade => rfl

/-- A path of MGMT privilege writes every register (R486, R504). -/
theorem mayWrite_of_mgmt {p : Path} (h : isMgmt p = true) (r : RegSpec) : mayWrite p r = true := by
  simp [mayWrite, h]

/-- TWIN_DIV_DATA3 has no RC field and latches nothing: its read changes nothing. -/
theorem readEffect_twinDivData3 (p : Path) (s : State) : readEffect p twinDivData3Row 0 0 s = s := rfl

theorem hwReg_twinDivData3 (s : State) : hwReg s twinDivData3Row 0 0 = divWord s 3 := by
  show divWord s 3 % 2 ^ 32 = divWord s 3
  unfold divWord
  split
  · exact Nat.mod_mod _ _
  · rfl

theorem readWord_twinCmd {s : State} {p : Path} (mgmt : isMgmt p = true)
    (unlatched : SMap.get s.latch none (latchKey p 0x0A000040) = none) :
    readWord p 0x0A000040 s = (s, divWord s 3, false) := by
  have there : absentReg s twinDivData3Row 0 = false := rfl
  have other : twinDivData3Row.id ≠ .flashData := by decide
  simp only [readWord, wordAddr_of_aligned, regAt_twinCmd, mayRead_of_mgmt mgmt, there, other, Bool.not_true,
    Bool.false_eq_true, if_false, readEffect_twinDivData3, pathValue, unlatched, hwReg_twinDivData3]

theorem writeWord_twinCmd {p : Path} (mgmt : isMgmt p = true) (v : Word) (s : State) :
    writeWord p 0x0A000040 v s = writeTwinCmd p v.toNat s := by
  have there : absentReg s twinDivData3Row 0 = false := rfl
  simp only [writeWord, wordAddr_of_aligned, regAt_twinCmd, mayWrite_of_mgmt mgmt, there, Bool.not_true,
    Bool.false_eq_true, if_false]
  rfl

/-- A value of TWIN_CMD's field outside 1 to 6 names no command (R128). -/
theorem writeTwinCmd_of_unnamed (s : State) (p : Path) {v : Nat} (unnamed : v % 16 = 0 ∨ 6 < v % 16) :
    writeTwinCmd p v s = s := by
  unfold writeTwinCmd
  split
  case h_7 => rfl
  all_goals omega

/-- Settles O51: the table's registers lie apart (`regTable_apart`), so the first to find an address is its own. -/
theorem registerMap : Obligations.RegisterMap := by
  refine ⟨fun r i j h hi hj => ?_, fun r q i j k l hr hq hi hj hk hl same => ?_,
    fun _ _ mgmt unlatched => readWord_twinCmd mgmt unlatched, fun s p v ⟨up, mgmt⟩ => ?_,
    fun s p _ unnamed => writeTwinCmd_of_unnamed s p unnamed⟩
  · rw [regAddr_of_mem h, regAt_addr h hi hj]
  · rw [regAddr_of_mem hr, regAddr_of_mem hq] at same
    exact addr_inj hr hq hi hj hk hl same
  · rw [← writeWord_twinCmd mgmt]
    exact does_registerWrite up _ v

end Sys2Proof.Machine
end

section
/-!
PROOFS. The store of registers (R498, R501), accesses of addresses that no register has (R492), and what a step runs
(log 1).
-/

namespace Sys2Proof

/-- A read after a write of the same key, in a map whose keys rise. -/
theorem SMap.get_set_same_of_rising {V : Type} [DecidableEq V] {d : V} {m : SMap V} {lo : Nat}
    (h : SMap.rising lo m = true) (k : Nat) (x : V) : SMap.get (SMap.set m d k x) d k = x := by
  unfold SMap.set
  split
  next default => rw [SMap.get_del_same d h, default]
  next other => exact SMap.get_put_same d k x m

/-- A write leaves every other key alone, whatever the default that a read of it supposes. -/
theorem SMap.get_set_other_of_rising {V : Type} [DecidableEq V] {d e : V} {m : SMap V} {lo k j : Nat}
    (h : SMap.rising lo m = true) (x : V) (n : j ≠ k) : SMap.get (SMap.set m d k x) e j = SMap.get m e j := by
  unfold SMap.set
  split
  · exact SMap.get_del_other e n h
  · exact SMap.get_put_other e x n m

theorem SMap.rising_set {V : Type} [DecidableEq V] {d : V} {m : SMap V} {lo k : Nat} (h : SMap.rising lo m = true)
    (hk : lo ≤ k) (x : V) : SMap.rising lo (SMap.set m d k x) = true := by
  unfold SMap.set
  split
  · exact SMap.rising_del k h
  · exact SMap.rising_put x hk h

namespace Machine

/-! ## The register store (R498, R501) -/

theorem regWord_setRegWord_same {s : State} (h : SMap.rising 0 s.regs = true) (id : RegId) (i j v : Nat) :
    regWord (setRegWord id i j v s) id i j = v % 2 ^ 32 := by
  rw [regWord, setRegWord, SMap.get_set_same_of_rising h]
  exact BitVec.toNat_ofNat v 32

theorem get_setRegWord_other {s : State} (h : SMap.rising 0 s.regs = true) {id : RegId} {i j a : Nat}
    (n : a ≠ regAddr id i j) (v : Nat) (d : Word) :
    SMap.get (setRegWord id i j v s).regs d a = SMap.get s.regs d a :=
  SMap.get_set_other_of_rising h _ n

theorem rising_setRegWord {s : State} (h : SMap.rising 0 s.regs = true) (id : RegId) (i j v : Nat) :
    SMap.rising 0 (setRegWord id i j v s).regs = true :=
  SMap.rising_set h (Nat.zero_le _) _

/-- Settles O52: the laws of the sparse map under `setRegWord`, which writes no other field. -/
theorem registerStore : Obligations.RegisterStore :=
  ⟨fun _ id i j v h => regWord_setRegWord_same h id i j v, fun _ _ _ _ v _ d h n => get_setRegWord_other h n v d,
    fun _ id i j v h => rising_setRegWord h id i j v, fun _ _ _ _ _ => rfl⟩

/-! ## Unassigned addresses (R492, R500) -/

theorem writeWord_of_unassigned {p : Path} {a : Nat} (h : regAt (wordAddr p a) = none) (v : Word) (s : State) :
    writeWord p a v s = accessEvent true 0 p (wordAddr p a) s := by
  simp only [writeWord, h]

theorem readWord_of_unassigned {p : Path} {a : Nat} (h : regAt (wordAddr p a) = none) (s : State) :
    readWord p a s = (accessEvent false 0 p (wordAddr p a) s, 0, true) := by
  simp only [readWord, h]

/-- A REG_READ of one word that no register has (R492, R495). -/
theorem readWords_of_unassigned {p : Path} {a : Nat} (h : regAt (wordAddr p a) = none) (s : State) :
    readWords p (wordRun a 1) s = (accessEvent false 0 p (wordAddr p a) s, [0], true) := by
  show readWords p [a + 4 * 0] s = _
  simp only [Nat.mul_zero, Nat.add_zero, readWords, readWord_of_unassigned h, Bool.or_false]

/-- `t` is `s` but for the register store. -/
def RegsOnly (s t : State) : Prop := ∃ r, t = { s with regs := r }

theorem regsOnly_setRegWord {s t : State} (h : RegsOnly s t) (id : RegId) (i j v : Nat) :
    RegsOnly s (setRegWord id i j v t) := by
  obtain ⟨r, rfl⟩ := h
  exact ⟨_, rfl⟩

theorem regsOnly_bumpRc {s t : State} (h : RegsOnly s t) (id : RegId) (i hi lo n : Nat) :
    RegsOnly s (bumpRc id i hi lo n t) := regsOnly_setRegWord h ..

/-- The access event writes its record in the register store and raises 604 (R500). -/
theorem accessEvent_collected {s : State} (collected : 3 ≤ s.pwr.stage) (w : Bool) (c : Nat) (p : Path) (a : Nat) :
    ∃ t, RegsOnly s t ∧ accessEvent w c p a s = raise 604 t := by
  rw [accessEvent, if_neg (Nat.not_lt.mpr collected)]
  refine ⟨_, regsOnly_bumpRc ?_ .., rfl⟩
  have unchanged : RegsOnly s s := ⟨s.regs, rfl⟩
  split
  · exact unchanged
  · exact regsOnly_setRegWord (regsOnly_setRegWord unchanged ..) ..

theorem accessEvent_frame (s : State) (w : Bool) (c : Nat) (p : Path) (a : Nat) (collected : 3 ≤ s.pwr.stage) :
    (accessEvent w c p a s).flt.raised = s.flt.raised ++ [⟨604, 0, 0, none⟩]
      ∧ { accessEvent w c p a s with regs := s.regs, flt := s.flt } = s := by
  obtain ⟨t, ⟨r, rfl⟩, e⟩ := accessEvent_collected collected w c p a
  rw [e]
  exact ⟨rfl, rfl⟩

/-- Settles O59: where `regAt` finds none, a read or write is the access event alone. -/
theorem unassignedAddress : Obligations.UnassignedAddress := by
  refine ⟨fun s p a v up unassigned => ?_, fun s p a unassigned => readWord_of_unassigned unassigned s,
    fun s p tag a up range unassigned => ?_, accessEvent_frame⟩
  · rw [← writeWord_of_unassigned unassigned v]
    exact does_registerWrite up a v
  · have read := does_regRead up range tag
    rw [readWords_of_unassigned unassigned] at read
    exact read

/-- Settles O1: both forms of a step with a command in front unfold to `exec`. -/
theorem stepRunsFront : Obligations.StepRunsFront :=
  ⟨step_cons, fun c s => step_cons c s.pending s, fun _ => step_of_empty⟩

end Machine

end Sys2Proof
end

section
/-!
PROOFS. The product code of the protected arrays (R415, R416): a wrong bit sets an odd number of syndrome bits, the
syndrome of two wrong bits is the sum of theirs, and the decoder locates a bit only where the number is odd.
-/

namespace Sys2Proof.Machine

open Sys2Proof

/-! ## Counting selected elements -/

/-- An element is selected by the sum of two selections where just one of them selects it, so the counts agree but
for an even number. -/
theorem length_filter_xor (f g : Nat → Bool) (l : List Nat) :
    (l.filter (fun i => f i ^^ g i)).length % 2 = ((l.filter f).length + (l.filter g).length) % 2 := by
  induction l with
  | nil => rfl
  | cons i l ih =>
    simp only [List.filter_cons]
    cases f i <;> cases g i <;> simp only [Bool.xor_self, Bool.xor_false, Bool.xor_true, Bool.not_false,
      Bool.false_eq_true, if_true, if_false, List.length_cons] <;> omega

/-- The number of bits set of a sum, up to an even number. -/
theorem length_bitsSet_xor {w : Nat} (x y : BitVec w) :
    (bitsSet (x ^^^ y)).length % 2 = ((bitsSet x).length + (bitsSet y).length) % 2 := by
  unfold bitsSet
  simp only [BitVec.getLsbD_xor]
  exact length_filter_xor _ _ _

/-! ## Parity and the syndromes (R416) -/

theorem foldl_parity (l : List Bool) (b : Bool) : l.foldl (fun a c => a != c) b = (b ^^ parityOf l) := by
  unfold parityOf
  induction l generalizing b with
  | nil => simp
  | cons c l ih =>
    rw [List.foldl_cons, List.foldl_cons, ih, ih (false != c)]
    cases b <;> cases c <;> simp

theorem parityOf_cons (b : Bool) (l : List Bool) : parityOf (b :: l) = (b ^^ parityOf l) := by
  show l.foldl _ (false != b) = _
  rw [foldl_parity]
  simp

/-- The parity of bits that a sum of two words shows at given places. -/
theorem parityOf_map_xor (f g : Nat → Bool) (l : List Nat) :
    parityOf (l.map (fun i => f i ^^ g i)) = (parityOf (l.map f) ^^ parityOf (l.map g)) := by
  induction l with
  | nil => rfl
  | cons i l ih =>
    simp only [List.map_cons, parityOf_cons, ih, Bool.xor_assoc, Bool.xor_left_comm]

theorem parityOf_getLsbD_xor (x y : BitVec 80) (l : List Nat) :
    parityOf (l.map (x ^^^ y).getLsbD) = (parityOf (l.map x.getLsbD) ^^ parityOf (l.map y.getLsbD)) := by
  have sum : (x ^^^ y).getLsbD = fun i => x.getLsbD i ^^ y.getLsbD i := funext fun _ => BitVec.getLsbD_xor
  rw [sum, parityOf_map_xor]

/-- The bits of a word that the parity of row `r` covers: its parity bit and its eight data bits (R415). -/
def rowPlaces (r : Nat) : List Nat := (64 + r) :: (List.range 8).map (fun c => 8 * r + c)

/-- The bits of a word that the parity of column `c` covers: its parity bit and two data bits of each row (R415). -/
def colPlaces (c : Nat) : List Nat :=
  (72 + c) :: (List.range 8).flatMap (fun r => [8 * r + c, 8 * r + (c + 8 - skew r) % 8])

theorem getLsbD_foldl_ofBits {w : Nat} (l : List Nat) (a : BitVec w) (k : Nat) :
    (l.foldl (fun acc i => acc ||| BitVec.ofNat w (2 ^ i)) a).getLsbD k
      = (a.getLsbD k || decide (k < w) && decide (k ∈ l)) := by
  induction l generalizing a with
  | nil => simp
  | cons i l ih =>
    rw [List.foldl_cons, ih, BitVec.getLsbD_or, BitVec.getLsbD_ofNat, Nat.testBit_two_pow]
    by_cases inside : k < w <;> by_cases same : i = k <;> simp [inside, same, eq_comm (a := k)]

/-- A vector with the selected bits set. -/
theorem getLsbD_ofBits_filter (p : Nat → Bool) {i : Nat} (hi : i < 8) :
    (ofBits 8 ((List.range 8).filter p)).getLsbD i = p i := by
  rw [ofBits, getLsbD_foldl_ofBits]
  simp [hi, List.mem_filter]

theorem getLsbD_synRow (e : BitVec 80) {r : Nat} (hr : r < 8) :
    (synRow e).getLsbD r = parityOf ((rowPlaces r).map e.getLsbD) := by
  rw [synRow, getLsbD_ofBits_filter _ hr, rowPlaces, List.map_cons, List.map_map]
  rfl

theorem getLsbD_synCol (e : BitVec 80) {c : Nat} (hc : c < 8) :
    (synCol e).getLsbD c = parityOf ((colPlaces c).map e.getLsbD) := by
  rw [synCol, getLsbD_ofBits_filter _ hc, colPlaces, List.map_cons, List.map_flatMap]
  rfl

/-- The syndromes of a sum are the sums of the syndromes. -/
theorem synRow_xor (x y : BitVec 80) : synRow (x ^^^ y) = synRow x ^^^ synRow y := by
  refine BitVec.eq_of_getLsbD_eq fun r hr => ?_
  rw [BitVec.getLsbD_xor, getLsbD_synRow _ hr, getLsbD_synRow _ hr, getLsbD_synRow _ hr, parityOf_getLsbD_xor]

theorem synCol_xor (x y : BitVec 80) : synCol (x ^^^ y) = synCol x ^^^ synCol y := by
  refine BitVec.eq_of_getLsbD_eq fun c hc => ?_
  rw [BitVec.getLsbD_xor, getLsbD_synCol _ hc, getLsbD_synCol _ hc, getLsbD_synCol _ hc, parityOf_getLsbD_xor]

/-- The number of syndrome bits that the wrong bits of a word set. -/
def synWeight (e : BitVec 80) : Nat := (bitsSet (synRow e)).length + (bitsSet (synCol e)).length

theorem synWeight_xor (x y : BitVec 80) : synWeight (x ^^^ y) % 2 = (synWeight x + synWeight y) % 2 := by
  have rows := length_bitsSet_xor (synRow x) (synRow y)
  have cols := length_bitsSet_xor (synCol x) (synCol y)
  rw [← synRow_xor] at rows
  rw [← synCol_xor] at cols
  unfold synWeight
  omega

/-! ## Decoding (R416) -/

/-- A word is clean, uncorrectable, or a bit is located in it, and then its syndromes have one bit set (a parity bit)
or three (a data bit). -/
theorem decodeWord_cases (e : BitVec 80) :
    decodeWord e = none ∧ synRow e = 0 ∧ synCol e = 0 ∨ decodeWord e = some 80 ∨ synWeight e % 2 = 1 := by
  unfold decodeWord synWeight
  dsimp only
  split
  next clean =>
    simp only [Bool.and_eq_true, decide_eq_true_eq] at clean
    exact .inl ⟨rfl, clean⟩
  next wrong =>
    right
    split
    next row noCols => exact .inr (by simp [row, noCols])
    next noRows col => exact .inr (by simp [noRows, col])
    next row cols => exact .inr (by simp [row, cols])
    next => exact .inl rfl

theorem decodeWord_congr {x y : BitVec 80} (rows : synRow x = synRow y) (cols : synCol x = synCol y) :
    decodeWord x = decodeWord y := by
  unfold decodeWord
  rw [rows, cols]

/-- A single wrong bit is located: one of 64 data bits, or one of 16 parity bits. -/
theorem decodeWord_single : ∀ b < 80, decodeWord (BitVec.ofNat 80 (2 ^ b)) = some b := by decide +kernel

theorem synWeight_single {b : Nat} (hb : b < 80) : synWeight (BitVec.ofNat 80 (2 ^ b)) % 2 = 1 := by
  have located := decodeWord_single b hb
  rcases decodeWord_cases (BitVec.ofNat 80 (2 ^ b)) with ⟨clean, -⟩ | bad | odd
  · rw [located] at clean
    cases clean
  · rw [located] at bad
    cases bad
    omega
  · exact odd

/-- Two wrong bits of a word, as a sum of words with one. -/
theorem two_bits_eq_xor {a b : Nat} (h : a < b) :
    BitVec.ofNat 80 (2 ^ a + 2 ^ b) = BitVec.ofNat 80 (2 ^ a) ^^^ BitVec.ofNat 80 (2 ^ b) := by
  have sum : 2 ^ a + 2 ^ b = 2 ^ a ^^^ 2 ^ b := by
    refine Nat.eq_of_testBit_eq fun i => ?_
    have high := Nat.testBit_two_pow_mul_add 1 (Nat.pow_lt_pow_right (by decide : 1 < 2) h) i
    rw [Nat.mul_one, Nat.add_comm] at high
    have one : Nat.testBit 1 (i - b) = decide (0 = i - b) := Nat.testBit_two_pow (n := 0)
    rw [high, one, Nat.testBit_xor, Nat.testBit_two_pow, Nat.testBit_two_pow]
    by_cases below : i < b
    · simp [below, below.ne']
    · have ne : a ≠ i := by omega
      have same : 0 = i - b ↔ b = i := by omega
      simp [below, ne, same]
  rw [sum, BitVec.ofNat_xor]

/-- Two wrong bits set an even number of syndrome bits, so none is located; and not 0, since no two single bits have
the same syndromes. -/
theorem decodeWord_two {a b : Nat} (ha : a < 80) (hb : b < 80) (h : a < b) :
    decodeWord (BitVec.ofNat 80 (2 ^ a + 2 ^ b)) = some 80 := by
  rw [two_bits_eq_xor h]
  rcases decodeWord_cases (BitVec.ofNat 80 (2 ^ a) ^^^ BitVec.ofNat 80 (2 ^ b)) with ⟨-, rows, cols⟩ | bad | odd
  · rw [synRow_xor] at rows
    rw [synCol_xor] at cols
    have same := decodeWord_congr (BitVec.xor_eq_zero_iff.mp rows) (BitVec.xor_eq_zero_iff.mp cols)
    rw [decodeWord_single a ha, decodeWord_single b hb] at same
    exact absurd (Option.some.inj same) h.ne
  · exact bad
  · have weight := synWeight_xor (BitVec.ofNat 80 (2 ^ a)) (BitVec.ofNat 80 (2 ^ b))
    have one := synWeight_single ha
    have other := synWeight_single hb
    omega

/-- Settles O57: a located bit has an odd syndrome, which two wrong bits never have. -/
theorem productCode : Obligations.ProductCode :=
  ⟨rfl, decodeWord_single, fun _ _ lt hb => decodeWord_two (lt.trans hb) hb lt⟩

end Sys2Proof.Machine
end

section
/-!
PROOFS. What HOST privilege cannot do (R440, R485, R500): the access event with its record, and the codes that Belvor
completes a refused command with.
-/

namespace Sys2Proof.Machine

open Sys2Proof

/-! ## Registers of management (R500) -/

/-- A command of management that a HOST path writes has no effect but the access event at its register. -/
theorem does_accessEvent {s : State} {p : Path} (host : HostPath s p) {c : Instr} {a : Nat} {f : State → State}
    (meaning : exec c s = done (ctlWrite p a f s)) : Does c s (accessEvent true 1 p a s) :=
  does_of_done meaning (ctlWrite_of_host host a f)

/-! ## The record of an access event (R500) -/

/-- The word that GLB_ACC_ERR0 takes. -/
def accWord (w : Bool) (cause : Nat) (p : Path) : Nat := 2 ^ 31 + b2n w * 2 ^ 30 + cause * 2 ^ 27 + srcOf p

theorem regWord_setRegWord_other {s : State} (h : SMap.rising 0 s.regs = true) {id id' : RegId} {i j i' j' : Nat}
    (n : regAddr id' i' j' ≠ regAddr id i j) (v : Nat) :
    regWord (setRegWord id i j v s) id' i' j' = regWord s id' i' j' := by
  rw [regWord, get_setRegWord_other h n, regWord]

theorem regWord_bumpRc_other {s : State} (h : SMap.rising 0 s.regs = true) {id id' : RegId} {i i' j' : Nat}
    (n : regAddr id' i' j' ≠ regAddr id i 0) (hi lo k : Nat) :
    regWord (bumpRc id i hi lo k s) id' i' j' = regWord s id' i' j' := regWord_setRegWord_other h n _

theorem regWord_raise (e : Nat) (s : State) (id : RegId) (i j : Nat) : regWord (raise e s) id i j = regWord s id i j :=
  rfl

/-- The registers of the record stand at addresses of their own. -/
theorem accErr_apart : regAddr .glbAccErr0 ≠ regAddr .glbAccErr1 ∧ regAddr .glbAccErr0 ≠ regAddr .glbAccCount
    ∧ regAddr .glbAccErr1 ≠ regAddr .glbAccCount := by decide +kernel

section
variable {s : State} (collected : 3 ≤ s.pwr.stage) (free : fld s .glbAccErr0 31 31 = 0)
include collected free

/-- While GLB_ACC_ERR0 is free, an access event fills it and GLB_ACC_ERR1. -/
theorem accessEvent_of_free (w : Bool) (cause : Nat) (p : Path) (addr : Nat) :
    accessEvent w cause p addr s = raise 604 (bumpRc .glbAccCount 0 31 0 1
      (setRegWord .glbAccErr1 0 0 addr (setRegWord .glbAccErr0 0 0 (accWord w cause p) s))) := by
  rw [accessEvent, if_neg (Nat.not_lt.mpr collected), if_neg (by omega)]
  rfl

variable (rising : SMap.rising 0 s.regs = true)
include rising

theorem accErr0_accessEvent (w : Bool) (cause : Nat) (p : Path) (addr : Nat) :
    regWord (accessEvent w cause p addr s) .glbAccErr0 = accWord w cause p % 2 ^ 32 := by
  have rising1 := rising_setRegWord rising .glbAccErr0 0 0 (accWord w cause p)
  obtain ⟨apart1, apart2, -⟩ := accErr_apart
  rw [accessEvent_of_free collected free, regWord_raise, regWord_bumpRc_other (rising_setRegWord rising1 ..) apart2,
    regWord_setRegWord_other rising1 apart1, regWord_setRegWord_same rising]

theorem accErr1_accessEvent (w : Bool) (cause : Nat) (p : Path) (addr : Nat) :
    regWord (accessEvent w cause p addr s) .glbAccErr1 = addr % 2 ^ 32 := by
  have rising1 := rising_setRegWord rising .glbAccErr0 0 0 (accWord w cause p)
  obtain ⟨-, -, apart3⟩ := accErr_apart
  rw [accessEvent_of_free collected free, regWord_raise, regWord_bumpRc_other (rising_setRegWord rising1 ..) apart3,
    regWord_setRegWord_same rising1]

end

/-- The fields of the record's word: VALID, WRITE, CAUSE and SOURCE. -/
theorem accWord_fields (w : Bool) {cause : Nat} {p : Path} (fits : cause < 8) (src : srcOf p < 4096) :
    bitsOf (accWord w cause p % 2 ^ 32) 31 31 = 1 ∧ bitsOf (accWord w cause p % 2 ^ 32) 30 30 = b2n w
      ∧ bitsOf (accWord w cause p % 2 ^ 32) 29 27 = cause ∧ bitsOf (accWord w cause p % 2 ^ 32) 11 0 = srcOf p := by
  have flag : b2n w < 2 := by cases w <;> decide
  unfold accWord bitsOf
  omega

/-! ## Belvor (R485) -/

theorem ne_sp_of_host {p : Path} (host : isMgmt p = false) : p ≠ .sp := by
  rintro rfl
  cases host

section
variable {s : State} {p : Path} (up : BelvorUp s p) (host : isMgmt p = false)
include up host

/-- A stamped command of management from a HOST path completes with PRIVILEGE. -/
theorem stampCmd_of_host (tag code : Nat) (op : RecOp) :
    stampCmd p tag code op s = raise 602 (complete p tag code 0x81 [] s) :=
  belvorMgmt_of_host up host ..

theorem does_keyGenerate_host (tag a : Nat) :
    Does (.keyGenerate p tag false a) s (raise 602 (complete p tag 0x32 0x81 [] s)) :=
  does_of_done rfl (belvorMgmt_of_host up host ..)

theorem does_storeErase_host (tag a : Nat) :
    Does (.storeErase p tag false a) s (raise 602 (complete p tag 0x41 0x81 [] s)) :=
  does_of_done rfl ((if_neg (by simp [ne_sp_of_host host])).trans (belvorMgmt_of_host up host ..))

theorem does_powerOff_host (tag : Nat) : Does (.powerOff p tag) s (raise 602 (complete p tag 0x61 0x81 [] s)) :=
  does_of_done rfl (by simp [belvorPower, mgmtOnly, up.1, host])

end

section
variable {s : State} {p : Path} (up : pathUp s p = true) (early : isReady s = false)
include up early

theorem does_notReady {c : Instr} {tag code : Nat} {f : State → State}
    (meaning : exec c s = done (belvor p tag code f s)) : Does c s (complete p tag code 0x84 [] s) :=
  does_of_done meaning (belvor_of_not_ready up early ..)

theorem does_storeErase_notReady (noUart : uartUp s = false) (tag a : Nat) :
    Does (.storeErase p tag false a) s (complete p tag 0x41 0x84 [] s) :=
  does_of_done rfl ((if_neg (by simp [noUart])).trans (belvor_of_not_ready up early ..))

end

/-- Settles O58: each command by the gate in front of it, which a HOST path or an early command does not pass. -/
theorem hostPrivilege : Obligations.HostPrivilege := by
  refine ⟨fun s p n m e host => ?_, fun s w cause p addr collected rising fits src small free => ?_,
    fun s p tag a b k ws any cls up host => ?_, fun s p tag a b up early => ?_⟩
  · repeat' refine And.intro ?_ ?_
    all_goals exact does_accessEvent host rfl
  · obtain ⟨valid, write, causeField, source⟩ := accWord_fields w fits src
    have err0 := accErr0_accessEvent collected free rising w cause p addr
    refine ⟨(accessEvent_frame s w cause p addr collected).1, ?_, ?_, ?_, ?_, ?_⟩
    · rw [accErr1_accessEvent collected free rising, Nat.mod_eq_of_lt small]
    · rw [fld, err0, valid]
    · rw [fld, err0, write]
    · rw [fld, err0, causeField]
    · rw [fld, err0, source]
  · exact ⟨does_of_done rfl (stampCmd_of_host up host ..), does_of_done rfl (stampCmd_of_host up host ..),
      does_of_done rfl (stampCmd_of_host up host ..), does_of_done rfl (stampCmd_of_host up host ..),
      does_of_done rfl (stampCmd_of_host up host ..), does_keyGenerate_host up host tag a,
      does_storeErase_host up host tag a, does_powerOff_host up host tag⟩
  · exact ⟨does_notReady up early rfl, does_notReady up early rfl, does_notReady up early rfl,
      does_notReady up early rfl, fun noUart => does_storeErase_notReady up early noUart tag a⟩

end Sys2Proof.Machine
end

section
/-!
PROOFS. The configuration store and its images (R381, R468, R469, R473, R485, R487), read-out protection, Glade and I3C
(R477 to R484), and JTAG (R479, R502).
-/

namespace Sys2Proof.Machine

open Sys2Proof

/-! ## The configuration store (R468 to R473, R485) -/

/-- A register of the store's engine takes a write outside a sequence, or from the path that opened it (R468). -/
theorem flashWrite_of_own {s : State} {p : Path} (mgr : Manager s p)
    (own : s.cfg.eng.unlock = 0 ∨ s.cfg.eng.who = srcOf p) (id : RegId) (f : State → State) :
    flashWrite p id f s = f s := by
  rw [flashWrite, ctlWrite_of_manager mgr]
  exact if_neg (by rcases own with h | h <;> simp [h])

section
variable {s : State} {p : Path} (mgr : Manager s p)
include mgr

section
variable (locked : s.cfg.eng.unlock = 0)
include locked

theorem does_flashUnlock : Does (.flashUnlock p 0x4E6B21D3#32 0xB0A57C19#32) s
    (modEng (fun e => { e with unlock := 2, who := srcOf p, words := 0, cmd := 0 }) s) :=
  does_of_done rfl ((flashWrite_of_own mgr (.inl locked) ..).trans (if_pos (by simp [locked])))

theorem does_flashUnlock_wrong {k1 : Word} (wrong : k1 ≠ 0x4E6B21D3#32) (k2 : Word) :
    Does (.flashUnlock p k1 k2) s (raise 587 (modEng (fun e => { e with unlock := 0, result := 2 }) s)) :=
  does_of_done rfl ((flashWrite_of_own mgr (.inl locked) ..).trans (if_neg (by simp [wrong])))

end

/-- A command right after the keys, by the path that opened the sequence (R468, log 52). -/
theorem flashOp_of_open (opened : s.cfg.eng.unlock = 2) (own : s.cfg.eng.who = srcOf p) (cmd : Nat) (v : Word) :
    flashOp p cmd v s = dataWrite cmd v (modEng (fun x => { x with words := 0 }) s) := by
  rw [flashOp, flashWrite_of_own mgr (.inr own)]
  exact if_pos opened

theorem does_flashDataRead (free : (flashWord p (fld s .flashAddr 26 0) s).2 = false) :
    Does (.flashDataRead p) s (useFree (setRegWord .flashAddr 0 0 ((fld s .flashAddr 26 0 + 4) % 2 ^ 27)
      (send (.readVal p (regAddr .flashData) (flashWord p (fld s .flashAddr 26 0) s).1) s))) := by
  have read : readFlashData p s = useFree (setRegWord .flashAddr 0 0 ((fld s .flashAddr 26 0 + 4) % 2 ^ 27)
      (send (.readVal p (regAddr .flashData) (flashWord p (fld s .flashAddr 26 0) s).1) s)) := by
    rw [readFlashData, free]
    rfl
  exact does_of_done rfl (by rw [mgr.1, mgr.2, read]; rfl)

end

theorem does_flashCommandDone {s : State} (runs : s.cfg.eng.busy = true) (unowed : s.cfg.eng.owed = none) (ok : Bool) :
    Does (.flashCommandDone ok) s (modEng (fun e => { e with
      busy := false, todo := [], owed := none, result := (finishStore ok s).2 }) (finishStore ok s).1) :=
  does_of_done rfl (by simp only [runs, unowed, Bool.not_true, Bool.false_eq_true, if_false])

/-- A command that starts owes its completion (R485). -/
theorem storeCmd_of_starts {s : State} {p : Path} {tag code cmd a : Nat} {w : List Word} (idle : s.cfg.eng.busy = false)
    (may : uartMay s a = true) (starts : (startStore cmd a w (some (p, tag)) s).2 = true) :
    storeCmd p tag code cmd a w s = (startStore cmd a w (some (p, tag)) s).1 := by
  simp only [storeCmd, idle, may, starts, Bool.not_true, Bool.false_eq_true, if_false, if_true]

section
variable {s : State} (mgr : BelvorMgr s .mgmt) (tag : Nat)
include mgr

/-- A store command of version 2 from management at READY is served (R485). -/
theorem belvorStore_of_mgr (code : Nat) (f : State → State) : belvorStore false .mgmt tag code f s = f s := by
  obtain ⟨up, ready, -⟩ := mgr
  rw [belvorStore, if_neg (by simp), belvor_of_up ⟨up, ready⟩]
  rfl

variable {a : Nat} (idle : s.cfg.eng.busy = false) (may : uartMay s a = true)
include idle may

theorem does_storeWrite {w : List Word} (aligned : a % 4 = 0) (words : w ≠ []) (fits : w.length ≤ 256)
    (page : a / 1024 = (a + 4 * w.length - 1) / 1024) (starts : (startStore 1 a w (some (.mgmt, tag)) s).2 = true) :
    Does (.storeWrite .mgmt tag false a w) s (startStore 1 a w (some (.mgmt, tag)) s).1 := by
  refine does_of_done rfl ((belvorStore_of_mgr mgr tag ..).trans ?_)
  rw [if_neg (by simp [aligned, words, fits, page])]
  exact storeCmd_of_starts idle may starts

theorem does_storeErase (starts : (startStore 2 a [] (some (.mgmt, tag)) s).2 = true) :
    Does (.storeErase .mgmt tag false a) s (startStore 2 a [] (some (.mgmt, tag)) s).1 :=
  does_of_done rfl ((belvorStore_of_mgr mgr tag ..).trans (storeCmd_of_starts idle may starts))

end

theorem does_provision {s : State} (uart : uartUp s = true) (tag : Nat) : Does (.provision tag) s (useFree
    (complete .sp tag (Config.choose s.free 256) 0 [] (putNode (fun n => { n with provMark := true }) s))) :=
  does_of_done rfl (if_neg (by simp [uart]))

/-- Settles O36: each access to the store's engine in the state that its conditions describe. -/
theorem storeCommands : Obligations.StoreCommands :=
  ⟨fun _ _ => does_flashUnlock, fun _ _ _ k2 mgr locked wrong => does_flashUnlock_wrong mgr locked wrong k2,
    fun _ _ v mgr opened own => ⟨does_of_done rfl (flashOp_of_open mgr opened own 1 v),
      does_of_done rfl (flashOp_of_open mgr opened own 2 0), does_of_done rfl (flashOp_of_open mgr opened own 3 0)⟩,
    fun _ ok runs unowed => does_flashCommandDone runs unowed ok, fun _ _ => does_flashDataRead,
    fun _ tag _ _ mgr idle may aligned words fits page => does_storeWrite mgr tag idle may aligned words fits page,
    fun _ tag _ mgr idle may => does_storeErase mgr tag idle may, fun _ tag uart => does_provision uart tag⟩

/-! ## Images (R381, R487) -/

/-- Storing the node record leaves the image registers alone. -/
theorem putNode_cmdReason (f : NodeRec → NodeRec) (s : State) :
    (putNode f s).cfg.cmdReason = s.cfg.cmdReason := by
  unfold putNode
  dsimp only
  split
  · rfl
  · unfold writeCopy eraseSector onlyIf
    dsimp only
    split <;> rfl

/-- VERIFY notes the first failure in its registers and applies nothing (R381). -/
theorem imageCmd_verify (s : State) (b : Nat) (v : BankVerdict) :
    imageCmd b v false s = { s with cfg := { s.cfg with
      cmdStage := ((bankFail s b v).map (·.stage)).getD 0
      cmdReason := ((bankFail s b v).map (·.reason)).getD 0 } } := rfl

/-- A bank that passes is marked active by SELECT (R381). -/
theorem imageCmd_select {s : State} {b : Nat} {v : BankVerdict} (passes : bankFail s b v = none) :
    imageCmd b v true s = putNode (fun n => { n with active := b })
      { s with cfg := { s.cfg with cmdStage := 0, cmdReason := 0 } } := by
  simp only [imageCmd, passes]
  rfl

section
variable {s : State} {p : Path} {b : Nat} (mgr : Manager s p) (bank : b = 1 ∨ b = 2)
include mgr bank

theorem imageWrite_of_bank (v : BankVerdict) (sel : Bool) : imageWrite p b v sel s = imageCmd b v sel s :=
  (ctlWrite_of_manager mgr ..).trans (if_pos (by simpa using bank))

theorem does_verifyBank (v : BankVerdict) : Does (.verifyBank p b v) s { s with cfg := { s.cfg with
    cmdStage := ((bankFail s b v).map (·.stage)).getD 0, cmdReason := ((bankFail s b v).map (·.reason)).getD 0 } } :=
  does_of_done rfl ((imageWrite_of_bank mgr bank v false).trans (imageCmd_verify s b v))

theorem does_selectBank {v : BankVerdict} (passes : bankFail s b v = none) :
    Does (.selectBank p b v) s (putNode (fun n => { n with active := b })
      { s with cfg := { s.cfg with cmdStage := 0, cmdReason := 0 } }) :=
  does_of_done rfl ((imageWrite_of_bank mgr bank v true).trans (imageCmd_select passes))

end

section
variable {s : State} (ready : isReady s = true)
include ready

theorem does_pldmFirmwareUpdate {b off : Nat} {w : List Word} (bank : b = 1 ∨ b = 2) (idle : b ≠ s.cfg.running)
    (inactive : b ≠ s.cfg.node.active) (aligned : off % 4 = 0) (fits : off + 4 * w.length ≤ 0x800000) (im : Bool) :
    let a := (b - 1) * 0x2000000 + (if im then 0x800000 else 0) + off
    let u := forEach w.zipIdx (fun x t => putStore (a + 4 * x.2) (storeWord t (a + 4 * x.2) &&& x.1.toNat) t)
      (eraseStarts a (4 * w.length) s)
    Does (.pldmFirmwareUpdate b off w im) s { u with cfg := { u.cfg with pldmBank := b } } := by
  refine does_of_done rfl ?_
  rw [ready, if_neg (by decide)]
  exact if_neg (by rcases bank with rfl | rfl <;> simp [idle, inactive, aligned, fits])

theorem does_pldmFirmwareUpdate_running {b : Nat} (running : b = s.cfg.running) (off : Nat) (w : List Word)
    (im : Bool) : Does (.pldmFirmwareUpdate b off w im) s (raise 603 s) :=
  does_of_done rfl (by simp [ready, running])

theorem does_pldmActivate {v : BankVerdict} (updated : s.cfg.pldmBank ≠ 0)
    (passes : bankFail s s.cfg.pldmBank v = none) :
    Does (.pldmActivate v) s (putNode (fun n => { n with active := s.cfg.pldmBank })
      { s with cfg := { s.cfg with cmdStage := 0, cmdReason := 0 } }) := by
  refine does_of_done rfl ?_
  rw [ready, if_neg (by decide), if_neg updated]
  dsimp only
  rw [imageCmd_select passes, putNode_cmdReason]
  rfl

end

/-- Settles O33: each command on a bank that its conditions describe. -/
theorem imageCommands : Obligations.ImageCommands :=
  ⟨fun _ _ _ v mgr bank => does_verifyBank mgr bank v, fun _ _ _ _ mgr bank => does_selectBank mgr bank,
    fun _ _ _ _ im ready bank idle inactive aligned fits =>
      does_pldmFirmwareUpdate ready bank idle inactive aligned fits im,
    fun _ _ off w im ready running => does_pldmFirmwareUpdate_running ready running off w im,
    fun _ _ ready => does_pldmActivate ready⟩

end Sys2Proof.Machine
end

section
/-!
PROOFS. Read-out protection (R477, R478), the authorization engine and Glade (R479 to R481), the I3C target (R484),
and the JTAG instructions (R479, R502).
-/

namespace Sys2Proof.Machine

open Sys2Proof

/-! ## Read-out protection (R477, R478) -/

/-- The key of a write of CFG_RDP stands in its high half (R477). -/
theorem does_rdpRaise {s : State} {p : Path} (mgr : Manager s p) {v : Word} (higher : s.cfg.rdp < v.toNat % 4)
    (level : v.toNat % 4 ≠ 3) (keyed : v.toNat / 65536 = 0x5244) (opened : s.cfg.eng.unlock = 2)
    (own : s.cfg.eng.who = srcOf p) :
    Does (.rdpRaise p v) s (raise 590 (modEng (fun e => { e with unlock := 0 })
      { s with cfg := { s.cfg with rdp := v.toNat % 4 } })) := by
  have notTop : ¬ 2 ≤ s.cfg.rdp := by omega
  exact does_of_done rfl ((ctlWrite_of_manager mgr ..).trans
    (by simp [notTop, higher.not_gt, higher.not_ge, level, keyed, opened, own]))

theorem does_rdpLower {s : State} {p : Path} (mgr : Manager s p) {v : Word} (keyed : v.toNat / 65536 = 0x5244)
    (raised : s.cfg.rdp = 1) (zero : v.toNat % 4 = 0) (authorized : s.cfg.lowerAuth = true) :
    ∃ u, u = zeroAllSlots (abandonStore s) ∧ Does (.rdpLower p v) s
      { u with cfg := { u.cfg with lowering := true, lowerAuth := false, spRun := false } } :=
  ⟨_, rfl, does_of_done rfl ((ctlWrite_of_manager mgr ..).trans (by simp [keyed, raised, zero, authorized]))⟩

theorem does_rdpLowerEraseDone {s : State} (lowers : s.cfg.lowering = true) (on : s.pwr.state = .on) :
    ∃ t, Does .rdpLowerEraseDone s (stopNode t) ∧ t.pwr.stage = 5 ∧ t.pwr.ready = false ∧ t.twin.role = .unset
      ∧ t.cfg.img = none :=
  ⟨_, does_of_done rfl (if_neg (by simp [lowers, on])), rfl, rfl, rfl, rfl⟩

/-! ## The authorization engine and Glade (R479 to R481) -/

/-- A purpose of 1 or 2 is one that the engine knows (R480). -/
theorem purpose_known {n : Nat} (purpose : n = 1 ∨ n = 2) : (n != 1 && n != 2) = false := by
  rcases purpose with rfl | rfl <;> rfl

theorem does_challenge {s : State} {p : Path} (mgr : Manager s p) {n : Nat} (purpose : n = 1 ∨ n = 2)
    (free : noChallenge s n = false) : Does (.challenge p n) s (newChallenge n s) :=
  does_of_done rfl ((ctlWrite_of_manager mgr ..).trans
    (by simp only [purpose_known purpose, free, Bool.false_eq_true, if_false]))

theorem does_gladeAuth {s : State} {n : Nat} (purpose : n = 1 ∨ n = 2) (free : noChallenge (loadIr 0x40 s) n = false)
    (runs : gtcRuns s = true) :
    Does (.gladeAuth n) s (send (.jtag 0x40 (newChallenge n (loadIr 0x40 s)).cfg.challenge.toNat)
      (newChallenge n (loadIr 0x40 s))) := by
  have runs' : gtcRuns (loadIr 0x40 s) = true := runs
  exact does_of_done rfl (if_neg (by simp only [purpose_known purpose, free, runs']; decide))

/-- The state in which a SUBMIT is judged: its challenge is used up (R480). -/
def challengeUsed (s : State) : State :=
  { s with cfg := { s.cfg with pendPurpose := 0, dbg := if s.cfg.dbg = .challenged then .closed else s.cfg.dbg } }

section
variable {s : State} {p : Path} (mgr : Manager s p) (regs : p ≠ .glade) (unlocked : s.cfg.locked = false)
  (level : s.cfg.rdp ≠ 2)
include mgr regs unlocked level

/-- A response within 60 s of a challenge, by the DBG registers, is judged (R480). -/
theorem exec_submit_of_pending (pending : s.cfg.pendPurpose ≠ 0) (inTime : now s - s.cfg.challengeAt ≤ 60000000000)
    (good : Bool) : exec (.submit p good) s = done (if good then acceptSubmit s.cfg.pendPurpose (challengeUsed s)
      else failSubmit (challengeUsed s)) := by
  simp only [exec_submit, execSubmit, regs, if_false, ctlWrite_of_manager mgr]
  cases good <;> simp [unlocked, level, pending, inTime, challengeUsed]

end

theorem does_gladeOpenEraseDone {s : State} (opens : s.cfg.dbg = .opening) :
    Does .gladeOpenEraseDone s (raise 593 (raise 481 { s with
      cipher := { s.cipher with wrapped := [], logUsed := [], dukBlocked := true }
      cfg := { (forEach (keySectors 0 ++ keySectors 1) eraseSector s).cfg with dbg := .opened } })) :=
  does_of_done rfl (if_neg (by simp [opens]))

/-! ## The I3C target (R484) -/

section
variable {s : State} (up : i3cUp s = true) (free : s.cfg.i3c = none) {a : Nat} (fits : a < 128)
include up free fits

theorem does_entdaa : Does (.entdaa a) s { s with cfg := { s.cfg with i3c := some a } } :=
  does_of_done rfl (if_neg (by simp [up, free, fits]))

theorem does_setdasa : Does (.setdasa a) s { s with cfg := { s.cfg with i3c := some a } } :=
  does_of_done rfl (if_neg (by simp [up, free, fits]))

end

/-- Settles O37: each command in the state that its conditions describe. -/
theorem security : Obligations.Security :=
  ⟨fun _ _ _ mgr => does_rdpRaise mgr, fun _ _ _ mgr => does_rdpLower mgr, fun _ => does_rdpLowerEraseDone,
    fun _ _ _ mgr => does_challenge mgr, fun _ _ => does_gladeAuth,
    fun _ _ mgr regs unlocked level pending inTime =>
      ⟨does_of_done (exec_submit_of_pending mgr regs unlocked level pending inTime true) (if_pos rfl),
        does_of_done (exec_submit_of_pending mgr regs unlocked level pending inTime false)
          (if_neg Bool.false_ne_true)⟩,
    fun _ => does_gladeOpenEraseDone,
    fun _ _ up free fits => ⟨does_entdaa up free fits, does_setdasa up free fits⟩⟩

/-! ## JTAG (R479, R502) -/

/-- An instruction that takes the pins of a node that can be cleared holds the warm bring-up for them (R410, R479). -/
theorem takePins_of_clearable {s : State} (clears : clearable s = true) (n : Nat) :
    takePins n s = raiseClearing 594 (modPwr (fun p => { p with jtagHold := true })
      { s with cfg := { s.cfg with jtagIr := n } }) := by
  simp only [takePins, clears, Bool.true_or]

theorem does_takePins {s : State} {c : Instr} {n : Nat}
    (takes : (c, n) = (.extest, 0) ∨ (c, n) = (.clamp, 3) ∨ (c, n) = (.highz, 4)) (clears : clearable s = true) :
    Does c s (raiseClearing 594 (modPwr (fun p => { p with jtagHold := true })
      { s with cfg := { s.cfg with jtagIr := n } })) := by
  rcases takes with e | e | e <;> cases e <;> exact does_of_done rfl (takePins_of_clearable clears _)

/-- Settles O38: IDCODE, BYPASS and SAMPLE/PRELOAD by their meaning, the others by `takePins`. -/
theorem jtag : Obligations.Jtag :=
  ⟨fun _ => ⟨rfl, rfl, rfl⟩, fun _ _ _ => does_takePins, fun _ _ => ⟨rfl, rfl⟩⟩

end Sys2Proof.Machine
end

section
/-!
PROOFS. The power supervisor: the rails of stage 2, the supply inputs, the restart policy and the power log (R382,
R387 to R395, R399).
-/

namespace Sys2Proof.Machine

open Sys2Proof

/-! ## VDD_AON (R382, R388) -/

theorem does_vddAonValid {s : State} (off : s.pwr.aon = false) :
    ∃ t, Does .vddAonValid s (startStage1 0 t) ∧ t.pwr.aon = true ∧ t.regs = [] :=
  ⟨_, does_of_done rfl (if_neg (by simp [off])), rfl, rfl⟩

theorem does_vddAonLoss {s : State} (on : s.pwr.aon = true) :
    ∃ t, Does .vddAonLoss s t ∧ t.pwr.aon = false ∧ t.regs = [] ∧ t.clk.gtc = 0 :=
  ⟨_, does_of_done rfl (if_pos on), rfl, rfl, rfl⟩

/-! ## The rails of stage 2 (R387 to R389) -/

/-- The rail that stage 2 waits for becomes good: the settle time begins (R387). -/
theorem does_pgGood {s : State} {n : Nat} (rail : n < 12) (on : s.pwr.aon = true) (rails : s.pwr.stage = 2)
    (waits : s.pwr.sub = 0) (first : s.pwr.retrying = false) (awaited : stepRail s = some n) :
    Does (.pgGood n) s (modPwr (fun p => { p with sub := 1 }) (setPg n true s)) :=
  does_of_onUnit rfl (decide_eq_true rail) (by simp [on, rails, waits, first, awaited])

theorem does_pgTimeout {s : State} {n : Nat} (rail : n < 12) (rails : s.pwr.stage = 2) (waits : s.pwr.sub = 0)
    (first : s.pwr.retrying = false) (awaited : stepRail s = some n) (low : s.pwr.pg.getLsbD n = false) :
    Does (.pgTimeout n) s (stepFails n s) :=
  does_of_onUnit rfl (decide_eq_true rail) (if_pos (by simp [rails, waits, first, awaited, low]))

theorem does_settleExpiry {s : State} (rails : s.pwr.stage = 2) (settles : s.pwr.sub = 1)
    (first : s.pwr.retrying = false) : Does .settleExpiry s (beginStep (s.pwr.step + 1) s) :=
  does_of_done rfl (if_pos (by simp [rails, settles, first]))

theorem does_railRetryExpiry {s : State} (rails : s.pwr.stage = 2) (down : s.pwr.sub = 2)
    (again : s.pwr.retrying = true) : Does .railRetryExpiry s
      (beginStep 0 (modPwr (fun p => { p with attempt := p.attempt + 1, retrying := false, sub := 0 }) s)) :=
  does_of_done rfl (if_pos (by simp [rails, down, again]))

/-- The rails that RSTO_N[i] depends on (R389). -/
def rstoRails (s : State) (i : Nat) : BitVec 12 := ((tableOf s).depends[i]?).getD 0xFFF

theorem does_rstoStretchExpiry {s : State} {i : Nat} (pin : i < 4) (on : s.pwr.state = .on)
    (steady : s.pwr.retrying = false) (railsOn : 2 ≤ s.pwr.stage)
    (good : s.pwr.pg &&& rstoRails s i = rstoRails s i) :
    Does (.rstoStretchExpiry i) s (modPwr (fun p => { p with rsto := p.rsto ||| BitVec.ofNat 4 (2 ^ i) }) s) := by
  unfold rstoRails at good
  exact does_of_onUnit rfl (decide_eq_true pin) (if_pos (by simpa [on, steady, railsOn] using good))

/-! ## Rails that fail or fall (R390, R391) -/

/-- A rail that is lost while the node is on: no Cellar action runs, so none is cut, and the power-down begins
(R391). -/
theorem does_pgLoss {s : State} {n : Nat} (rail : n < 12) (enabled : s.pwr.en.getLsbD n = true)
    (good : s.pwr.pg.getLsbD n = true) (on : s.pwr.state = .on) (steady : s.pwr.retrying = false) (c : VaultCut) :
    Does (.pgLoss n c) s (startDown false (sendLeaving (raisePwr 2 (logPwr 0x08 1026 (setPg n false s))))) :=
  does_of_onUnit rfl (decide_eq_true rail)
    (by simp [enabled, good, on, steady, show (PwrState.on == .cellar) = false from rfl])

section
variable {s : State} {n : Nat} (rail : n < 12) (awaited : s.pwr.downSteps.head? = some n)
  (released : s.pwr.flushWait = false) (disabled : s.pwr.en.getLsbD n = false) (high : s.pwr.pg.getLsbD n = true)
include rail awaited released disabled high

theorem does_pgFall : Does (.pgFall n) s (nextRails (setPg n false s)) :=
  does_of_onUnit rfl (decide_eq_true rail) (by simp [awaited, released, disabled, high])

theorem does_pgLowTimeout : Does (.pgLowTimeout n) s (nextRails (raisePwr 3 (logPwr 0x07 1027 (railFail n s)))) :=
  does_of_onUnit rfl (decide_eq_true rail) (if_pos (by simp [awaited, released, disabled, high]))

end

/-- Settles O40: each event of the rails in the state that its conditions describe. -/
theorem powerSequence : Obligations.PowerSequence :=
  ⟨fun _ => does_vddAonValid, fun _ => does_vddAonLoss, fun _ _ => does_pgGood, fun _ _ => does_pgTimeout,
    fun _ => does_settleExpiry, fun _ => does_railRetryExpiry, fun _ _ => does_rstoStretchExpiry,
    fun _ _ c rail enabled good => does_pgLoss rail enabled good (c := c),
    fun _ _ rail awaited released disabled high =>
      ⟨does_pgFall rail awaited released disabled high, does_pgLowTimeout rail awaited released disabled high⟩⟩

/-! ## The supply inputs (R392 to R395) -/

/-- The state that has taken an assertion of INFAIL_N (R393, R397). -/
def infailSeen (s : State) : State :=
  raisePwr 4 (logPwr 0x04 1028 (modPwr (fun p => { p with infail := true, infailUps := p.infailUps + 1 }) s))

/-- A READY node that cannot vault powers down with event 5 (R393). -/
theorem does_infailNAssert {s : State} (on : s.pwr.aon = true) (fresh : s.pwr.infail = false) (ready : isReady s = true)
    (firstUp : s.pwr.infailUps = 0) (noVault : canVault s = false) :
    Does .infailNAssert s (startDown false (raisePwr 5 (sendLeaving (infailSeen s)))) := by
  have stage : s.pwr.stage = 10 := by simp_all [isReady]
  exact does_of_done rfl (by simp [on, fresh, ready, firstUp, noVault, stage, onlyIf, infailSeen])

theorem does_infailNDeassert {s : State} (asserted : s.pwr.infail = true) (down : s.pwr.stage = 0) :
    Does .infailNDeassert s (tryAuto (modPwr (fun p => { p with infail := false }) s)) :=
  does_of_done rfl (by simp [asserted, down])

theorem does_estoreOkAssert {s : State} (on : s.pwr.aon = true) (low : s.pwr.estore = false) :
    Does .estoreOkAssert s (tryAuto (logPwr 0x11 0 (modPwr (fun p => { p with estore := true }) s))) :=
  does_of_done rfl (if_neg (by simp [on, low]))

theorem does_estoreOkDeassert {s : State} (high : s.pwr.estore = true) (ready : isReady s = true)
    (serves : serving s = true) :
    Does .estoreOkDeassert s (raise 7 (logPwr 0x11 1031 (modPwr (fun p => { p with estore := false }) s))) :=
  does_of_done rfl (by simp [high, ready, serves, onlyIf])

/-! ## The off time and the power log (R390, R392, R399) -/

theorem does_minOffTimeExpiry {s : State} (off : s.pwr.state = .offWait) (early : s.pwr.offPast = false)
    (hold : s.pwr.toHold = true) :
    Does .minOffTimeExpiry s (raisePwr 10 (modPwr (fun p => { p with state := .hold }) s)) :=
  does_of_done rfl (by simp [off, early, hold])

theorem does_powerLogProgram {s : State} (up : storeUp s = true) : Does (.powerLogProgram false) s (flushLog s) :=
  does_of_done rfl (by simp [up])

theorem does_logFlushDone {s : State} (held : s.pwr.flushWait = true) : Does .logFlushDone s
    (dropRails 13 (modPwr (fun p => { p with flushWait := false }) (flushLog s)).pwr.downSteps
      (modPwr (fun p => { p with flushWait := false }) (flushLog s))) :=
  does_of_done rfl (if_pos held)

/-- Settles O41: each edge of an input and each end of a wait in the state that its conditions describe. -/
theorem powerInputs : Obligations.PowerInputs :=
  ⟨fun _ => does_infailNAssert, fun _ => does_infailNDeassert, fun _ => does_estoreOkAssert,
    fun _ => does_estoreOkDeassert, fun _ => does_minOffTimeExpiry, fun _ => does_powerLogProgram,
    fun _ => does_logFlushDone⟩

end Sys2Proof.Machine
end

section
/-!
PROOFS. The stages of bring-up (R354, R382, R385, R401, R405, R406), each on a node that is in it.
-/

namespace Sys2Proof.Machine

open Sys2Proof

/-! ## Stages 1 to 5 -/

/-- The straps that stage 1 latches (R406). -/
def strapped (i : Stage1In) (s : State) : State :=
  modPwr (fun p => { p with nodeB := i.nodeB, boot := i.boot % 4, i3cAddr := i.i3cAddr % 8, unstable := i.unstable }) s

/-- The copies that stage 1 reads, once the half-erased sectors among theirs are erased again (R466, R474). -/
def copiesRead (s : State) : State :=
  readCopies 2 (readCopies 0 (reErase [0x100, 0x103, 0x300, 0x303] (markCopies 2 (markCopies 0 s))))

theorem does_stage1 {s s2 : State} {i : Stage1In} {t : PTable} (powers : s.pwr.state = .powerUp)
    (first : s.pwr.stage = 1) (supplied : s.pwr.waitSupply = false) (runs : s.pwr.stopped = false)
    (crystal : i.crystalOk = true) (stable : i.unstable = false) (keeps : s.cfg.lowering = false)
    (read : s2 = copiesRead (strapped i s)) (table : s2.pwr.sector = some t) :
    Does (.stage1 i) s (beginStep 0 (modPwr (fun p => { p with table := some t, dflt := false }) s2)) := by
  have quiet (u : State) : onlyIf i.unstable (raisePwr 628) u = u := by rw [stable]; rfl
  have read' : copiesRead (onlyIf i.unstable (raisePwr 628) (strapped i s)) = s2 := by rw [quiet, read]
  unfold copiesRead strapped at read'
  refine does_of_done rfl ?_
  simp only [powers, first, supplied, runs, crystal, keeps, bne_self_eq_false, Bool.or_self, Bool.false_eq_true,
    Bool.not_true, if_false, read', table]

theorem does_stage3_warm {s : State} (runs : inStage s 3 = true) (cal : s.fuse.calOk = true)
    (warm : s.pwr.warm = true) : Does (.stage3 true true []) s (toStage 4 (applyRepairs (flushLog (tornFound (takeDeferred s))))) :=
  does_of_done rfl (by simp [runs, cal, warm])

theorem does_stage4 {s : State} (runs : inStage s 4 = true) :
    Does (.stage4 true) s (toStage 5 { s with clk := { s.clk with
      running := clocksOn s, gtc := if s.pwr.warm then s.clk.gtc else s.pwr.aonTime } }) :=
  does_of_done rfl (by simp [runs])

section
variable {s : State} (runs : inStage s 5 = true)
include runs

theorem does_stage5_uart (uart : s.pwr.boot = 3) (va vb : BankVerdict) (w : Word) : Does (.stage5 va vb w) s
    (stopNode { clearImageRegs s with cfg := { (clearImageRegs s).cfg with spRun := true } }) :=
  does_of_done rfl (by simp [runs, uart])

/-- The state in which stage 5 tries the banks: the registers clear, and each bank's verdict noted (R380, R474). -/
def banksJudged (va vb : BankVerdict) (s : State) : State :=
  let s1 := clearImageRegs s
  { s1 with cfg := { s1.cfg with verdictA := noteWhole 1 va s1, verdictB := noteWhole 2 vb s1 } }

theorem does_stage5 (banks : s.pwr.boot ≠ 3) (fresh : s.cfg.cand = none) (va vb : BankVerdict) (w : Word) :
    let s2 := banksJudged va vb s
    let s3 := tryBanks w (bankOrder s2) (checkSectors s2)
    Does (.stage5 va vb w) s { s3 with cfg := { s3.cfg with
      fallback := s3.cfg.running != 0 && some s3.cfg.running != (bankOrder s2).head? } } :=
  does_of_done rfl (by
    rw [runs, if_neg (by decide), if_neg banks, if_neg (by simp [fresh])]
    rfl)

end

/-! ## Stages 6 and 7 -/

theorem does_stage6 {s : State} {im : Image} (runs : inStage s 6 = true) (cand : s.cfg.cand = some im)
    (passes : stage6Fail s (readRaw s s.cfg.running) im = none)
    (keyed : (slotOf (applyImage im { s with cfg := { s.cfg with cand := none } }) im.tiers.metaSlot).state
      ≠ .empty) :
    Does .stage6 s (toStage 7 (applyImage im { s with cfg := { s.cfg with cand := none } })) :=
  does_of_done rfl (by simp only [runs, cand, passes, keyed, Bool.not_true, Bool.false_eq_true, if_false])

/-- The formed host ports train from the end of stage 7 on (R401). -/
def hostsTrain (s : State) : State :=
  forEach (List.range 16) (fun p t => if (portOf t p).formed then
    updPort p (fun x => { x with link := .training, topWidth := 0, topRate := 0 }) t else t) s

theorem does_stage7 {s : State} (runs : inStage s 7 = true) (d : List DramTrain) (n : List NandTrain) :
    let s1 := trainDram (img s) d (mclkOn s)
    (List.range 16).any (fun k => (setOf s1 k).valid && (setOf s1 k).state != 2) = true →
      Does (.stage7 d n) s (toStage 8 (hostsTrain (trainNand (img s) n s1))) := by
  intro s1 trained
  refine does_of_done rfl ?_
  rw [runs, if_neg (by decide)]
  exact if_neg (by rw [trained]; decide)

/-! ## Stage 8 -/

/-- The layout, the tables and the regions as stage 8 leaves them after a replay (R166, R250, R376, R377). -/
def laidOut (bad : List Nat) (im : Image) (s : State) : State :=
  sizeCellar (eraseAgain bad (restartSeals (sizeNeed (nameSlots (listExtents (layoutStep im s))))))

/-- The end of stage 8: the groves' flags, the missing dies, and stage 9 (R73, R253). -/
def flagsSet (r : Replay) (intact : Bool) (s : State) : State :=
  syncCond (toStage 9 (missingDies (flagGroves r { s with twin := { s.twin with t1Intact := intact } })))

section
variable {s : State} (runs : inStage s 8 = true) (a : Bool) (x y : List (Nat × Nat)) (z : List Nat)
include runs

theorem does_stage8_warm (warm : s.pwr.warm = true) :
    let r := warmReplay x y s
    let s2 := laidOut z (img s) r.st
    Does (.stage8 a x y z) s (flagsSet r (!s2.twin.needBulk) s2) :=
  does_of_done rfl (by simp only [runs, warm, Bool.not_true, Bool.false_eq_true, if_false, if_true, Bool.true_and]; rfl)

theorem does_stage8_cold (cold : s.pwr.warm = false) :
    let r := coldReplay a s
    let s2 := laidOut z (img s) (findVault r.st)
    Does (.stage8 a x y z) s (flagsSet r false s2) :=
  does_of_done rfl (by simp only [runs, cold, Bool.not_true, Bool.false_eq_true, if_false, Bool.false_and]; rfl)

end

/-! ## Stage 9 and READY -/

theorem does_stage9 {s : State} (runs : inStage s 9 = true) (roleless : s.twin.role = .unset)
    (down : s.twin.link = .down) (twin : hasTwin s = true) :
    let last := s.cfg.node.lastRole
    Does .stage9 s (modTwin (fun t => { t with link := .train }) (modTwin (fun t => { t with
      epoch := s.cfg.node.epoch
      applied := if last = .solo || last = .leader then s.seqr.nextSeq - 1 else t.applied }) s)) := by
  refine does_of_done rfl ?_
  have stays (f : Twin → Twin) : hasTwin (modTwin f s) = true := twin
  rw [runs, roleless, down, if_neg (by decide)]
  exact if_neg (by rw [stays]; decide)

/-- READY with its session begun, before the anchors and the copies are written (R161, R320, R369, R405). -/
def readyBegun (s : State) : State :=
  let s1 := modPwr (fun p => { p with
    stage := 10, ready := true, wasReady := true, warm := false
    upMs := min 65535 (ceilDiv (p.aonTime - p.upAt) 1000000) }) s
  { s1 with
    tier := { s1.tier with
      session := true, fingerprint := some (fingerprintOf (img s))
      lifeStart := some (s1.tier.lifeStart.getD s1.clk.gtc)
      draining := s1.tier.md.tiles.any (fun p => p.2.cellar) }
    can := { s1.can with enabled := (img s).canopy.enable }
    seqr := { s1.seqr with mergeSet := enabledSources s1 }
    integ := { s1.integ with scrubbing := true, scrubAt := now s1 }
    net := { s1.net with
      ports := SMap.mapVals s1.net.ports {} (fun x => if x.formed then { x with held := false } else x) } }

theorem does_ready {s : State} (runs : inStage s 9 = true) (role : joined s = true) (own : s.cfg.fallback = false)
    (protected_ : s.tier.unprotected = []) :
    let t := anchorWrite (.fingerprint (fingerprintOf (img s))) (anchorWrite (.session s.clk.gtc) (readyBegun s))
    Does .ready s (forEach t.cfg.toRewrite writeCopy { t with cfg := { t.cfg with toRewrite := [] } }) := by
  refine does_of_done rfl ?_
  rw [runs, role, own, protected_, if_neg (by decide)]
  rfl

/-- Settles O42: each stage, on a node that is in it and passes. -/
theorem bringUp : Obligations.BringUp :=
  ⟨fun _ _ _ powers first supplied runs crystal stable keeps table =>
      does_stage1 powers first supplied runs crystal stable keeps rfl table,
    fun _ => does_stage3_warm, fun _ => does_stage4,
    fun _ va vb w runs uart => does_stage5_uart runs uart va vb w,
    fun _ va vb w runs banks fresh => does_stage5 runs banks fresh va vb w, fun _ _ => does_stage6,
    fun _ d n runs => does_stage7 runs d n, fun _ a x y z runs => does_stage8_warm runs a x y z,
    fun _ a x y z runs => does_stage8_cold runs a x y z, fun _ => does_stage9, fun _ => does_ready⟩

end Sys2Proof.Machine
end

section
/-!
PROOFS. The commands of the fault collector (R432 to R436, R441), scrubbing and the flip hook (R424, R426), the
monitors (R455, R463) and the recorder (R457, R460).
-/

namespace Sys2Proof.Machine

open Sys2Proof

/-! ## The fault collector (R432, R433, R435, R436, R441) -/

section
variable {s : State} {e : Nat} (listed : eventListed s e = true) (runs : collecting s = true)
include listed runs

theorem does_leakTick (mild : (fltOf s e).severe = false) (counted : (fltOf s e).count ≠ 0) :
    Does (.leakTick e) s (setFlt e { fltOf s e with count := (fltOf s e).count - 1 } s) :=
  does_of_onUnit rfl listed (if_neg (by simp [runs, mild, counted]))

/-- The level that the source reaches is the one above its own, whether or not a timer runs there (R435). -/
theorem does_graceExpiry (severe : (fltOf s e).severe = true) (timed : (fltOf s e).timer.isSome = true) :
    Does (.graceExpiry e) s (actLevel ((fltOf s e).lvl + 1) e (fltOf s e).tgt
      (driveAlert (setFlt e (armed { fltOf s e with lvl := (fltOf s e).lvl + 1 } (now s)) s))) :=
  does_of_onUnit rfl listed (if_neg (by simpa [runs, severe, Option.isSome_iff_ne_none] using timed))

end

section
variable {s : State} {p : Path} (mgr : Manager s p)
include mgr

theorem does_severeAcknowledge {k : Nat} (word : k < 20) (b : Word) : Does (.severeAcknowledge p k b) s
    (forEach (bitsSet b) (fun i u => acknowledge (32 * k + i) u) s) :=
  does_of_done rfl ((ctlWrite_of_manager mgr ..).trans (if_neg (Nat.not_le.mpr word)))

theorem does_ackAll : Does (.ackAll p) s (forEach (SMap.keys s.flt.src) acknowledge s) :=
  does_of_done rfl (ctlWrite_of_manager mgr ..)

theorem does_releaseGrove (g : Nat) :
    Does (.releaseGrove p g) s { s with tier := { s.tier with readOnly := s.tier.readOnly.filter (· ≠ g) } } :=
  does_of_done rfl (ctlWrite_of_manager mgr ..)

theorem does_releasePort {n : Nat} (ready : isReady s = true) (port : n < 8) (formed : (netOf s n).formed = true) :
    Does (.releasePort p n) s (updNet n (fun x => { x with held := false }) s) :=
  does_of_done rfl ((ctlWrite_of_manager mgr ..).trans (by simp [ready, formed, Nat.mod_eq_of_lt port]))

end

/-- Settles O44: each command in the state that its conditions describe. -/
theorem faultCollector : Obligations.FaultCollector :=
  ⟨fun _ _ => does_leakTick, fun _ _ => does_graceExpiry, fun _ _ _ b mgr word => does_severeAcknowledge mgr word b,
    fun _ _ => does_ackAll, fun _ _ g mgr => does_releaseGrove mgr g,
    fun _ _ _ mgr => does_releasePort mgr⟩

/-! ## Scrubbing and the flip hook (R424, R426) -/

/-- A scrub read before the last word of its array moves the pointer on (R424, R425). -/
theorem does_scrubRead {s : State} {n : Nat} (there : macPresent s n = true) (scrubs : s.integ.scrubbing = true)
    (ready : isReady s = true) (inside : SMap.get s.integ.ptr 0 n ≠ 2047) (err stuck : BitVec 80) :
    let w := SMap.get s.integ.ptr 0 n
    let u := perfAdd ⟨305, 5, none⟩ 0x01 1 (protRead n w true stuck (setBad n w (badOf s n w ^^^ err) s)).1
    Does (.scrubRead n err stuck) s
      { u with integ := { u.integ with ptr := SMap.set u.integ.ptr 0 n ((w + 1) % 2048) } } := by
  refine does_of_onUnit rfl there ?_
  rw [scrubs, ready, if_neg (by decide)]
  exact if_neg inside

section
variable {s : State} {p : Path} (mgr : Manager s p)
include mgr

theorem does_flipArm (idle : fld s .intFlipSel 31 31 = 0) (v : Word) :
    let x := v.toNat &&& 0xC0FFFFFF
    let arm := bitOf x 31 && macPresent s (bitsOf x 23 11)
    Does (.flipArm p v) s (setRegWord .intFlipSel 0 0 (if arm then x else x &&& 0x7FFFFFFF) s) :=
  does_of_done rfl ((ctlWrite_of_manager mgr ..).trans (if_neg (by simp [idle])))

/-! ## The monitors (R455, R463) -/

theorem does_perfStart : Does (.perfStart p) s (globalUnits (fun u => setFld .perfCtl u 31 31 1) s) :=
  does_of_done rfl (ctlWrite_of_manager mgr ..)

theorem does_perfStop : Does (.perfStop p) s (globalUnits (fun u => setFld .perfCtl u 31 31 0) s) :=
  does_of_done rfl (ctlWrite_of_manager mgr ..)

theorem does_perfGlobalClear : Does (.perfGlobalClear p) s (globalUnits clearUnit s) :=
  does_of_done rfl (ctlWrite_of_manager mgr ..)

theorem does_perfUnitClear {u : Nat} (unit : u < 24) :
    Does (.perfUnitClear p u) s (setFld .perfCtl u 7 0 0 { s with perf := SMap.del s.perf u }) :=
  does_of_done rfl ((ctlWrite_of_manager mgr ..).trans (if_pos unit))

end

/-! ## The recorder (R457, R459, R460) -/

section
variable {s : State} (ready : isReady s = true)
include ready

theorem does_epochBoundary_first (idle : s.recd.started = false) : Does .epochBoundary s
    { s with recd := { s.recd with started := true, spanAt := boundary s, acc := [] } } :=
  does_of_done rfl (by simp [ready, idle])

/-- The state in which every recorded path's span has been written (R459). -/
def spansWritten (s : State) : State := forEach (bitsSet (BitVec.ofNat 16 (fld s .recPaths 15 0))) writeRec s

theorem does_epochBoundary (started : s.recd.started = true) (thawed : s.recd.frozen = false) : Does .epochBoundary s
    { spansWritten s with recd := { (spansWritten s).recd with acc := [], spanAt := boundary s, thawed := false } } :=
  does_of_done rfl (by simp [ready, started, thawed, spansWritten])

end

section
variable {s : State} {p : Path} (mgr : Manager s p)
include mgr

theorem does_freeze : Does (.freeze p) s { s with recd := { s.recd with frozen := true } } :=
  does_of_done rfl (ctlWrite_of_manager mgr ..)

theorem does_thaw (frozen : s.recd.frozen = true) :
    Does (.thaw p) s { s with recd := { s.recd with frozen := false, thawed := true } } :=
  does_of_done rfl ((ctlWrite_of_manager mgr ..).trans (if_pos frozen))

theorem does_recClear (frozen : s.recd.frozen = true) : Does (.recClear p) s
    (setRegWord .recLost 0 0 0 { s with recd := { s.recd with store := [], full := false } }) :=
  does_of_done rfl ((ctlWrite_of_manager mgr ..).trans (if_pos frozen))

end

/-- Settles O45: each command and event in the state that its conditions describe. -/
theorem integrityAndMonitors : Obligations.IntegrityAndMonitors :=
  ⟨fun _ _ err stuck there scrubs ready inside => does_scrubRead there scrubs ready inside err stuck,
    fun _ _ v mgr idle => does_flipArm mgr idle v,
    fun _ _ mgr => ⟨does_perfStart mgr, does_perfStop mgr, does_perfGlobalClear mgr⟩,
    fun _ _ _ mgr => does_perfUnitClear mgr, fun _ => does_epochBoundary_first,
    fun s ready started thawed => ⟨spansWritten s, does_epochBoundary ready started thawed, rfl⟩,
    fun _ _ mgr => ⟨does_freeze mgr, fun frozen => ⟨does_thaw mgr frozen, does_recClear mgr frozen⟩⟩⟩

end Sys2Proof.Machine
end
